-- ==== Sys2Proof/Word.lean ====
section
/-! DEFINITION. The word types: the widths the spec gives bytes, engine registers and pairs (R6, R60). -/
namespace Sys2Proof

abbrev Byte := BitVec 8
abbrev Half := BitVec 16
abbrev Word := BitVec 32
abbrev DWord := BitVec 64

/-- A sequence of bytes: a packet, a frame, a record, an image. -/
abbrev Bytes := List (BitVec 8)

/-- The number of a lane, L0 to L3. -/
abbrev LaneId := Fin 4

/-- The number of a LOGICAL clause engine of a lane, 0 to 7 (R19: logical engine 8 is the spare position). -/
abbrev EngineId := Fin 8

end Sys2Proof
end

