-- ==== Sys2Proof/Machine/Bytes.lean ====
section
/-! DEFINITION. Byte order (R6: little-endian inside the module, big-endian on its own wires), bit fields and small
list and vector operations. -/
namespace Sys2Proof.Machine

/-- `n` bytes, most significant first (R6, the module's own wire formats). -/
def beBytes : Nat → Nat → Bytes
  | 0, _ => []
  | n + 1, v => BitVec.ofNat 8 (v / 256 ^ n) :: beBytes n v

/-- `n` bytes, least significant first (R6, internal memories and hub window blocks). -/
def leBytes : Nat → Nat → Bytes
  | 0, _ => []
  | n + 1, v => BitVec.ofNat 8 v :: leBytes n (v / 256)

/-- A signed value as an unsigned one of `w` bits. -/
def ofSigned (w : Nat) (i : Int) : Nat := (i % (2 ^ w : Nat)).toNat

/-- The signed value of the low `w` bits of a number. -/
def toSigned (w : Nat) (n : Nat) : Int := (BitVec.ofNat w n).toInt

def beSigned (n : Nat) (i : Int) : Bytes := beBytes n (ofSigned (8 * n) i)

def beVal (b : Bytes) : Nat := b.foldl (fun a x => a * 256 + x.toNat) 0

def leVal : Bytes → Nat
  | [] => 0
  | x :: xs => x.toNat + 256 * leVal xs

def slice (b : Bytes) (off n : Nat) : Bytes := (b.drop off).take n

/-- Byte `off`, 0 beyond the end. -/
def u8 (b : Bytes) (off : Nat) : Nat := (b.getD off 0#8).toNat

def be16 (b : Bytes) (off : Nat) : Nat := beVal (slice b off 2)
def be32 (b : Bytes) (off : Nat) : Nat := beVal (slice b off 4)
def be48 (b : Bytes) (off : Nat) : Nat := beVal (slice b off 6)
def be64 (b : Bytes) (off : Nat) : Nat := beVal (slice b off 8)
def le16 (b : Bytes) (off : Nat) : Nat := leVal (slice b off 2)
def le32 (b : Bytes) (off : Nat) : Nat := leVal (slice b off 4)
def le64 (b : Bytes) (off : Nat) : Nat := leVal (slice b off 8)

def zeros (n : Nat) : Bytes := List.replicate n 0#8

/-- Exactly `n` bytes: cut or filled with zeros. -/
def fitBytes (n : Nat) (b : Bytes) : Bytes := (b ++ zeros n).take n

def allZero (b : Bytes) : Bool := b.all (· == 0#8)

/-- Bits `lo` to `lo + w − 1` of a number. -/
def bits (v lo w : Nat) : Nat := v / 2 ^ lo % 2 ^ w

def bit (v i : Nat) : Bool := v.testBit i

def b2n (b : Bool) : Nat := if b then 1 else 0

/-- A number from its bits, bit 0 first. -/
def ofBits : List Bool → Nat
  | [] => 0
  | b :: bs => b2n b + 2 * ofBits bs

/-- The numbers below `n` whose bit is set in `v`, rising. -/
def bitsSet (n v : Nat) : List Nat := (List.range n).filter (fun i => bit v i)

def popcount (n v : Nat) : Nat := (bitsSet n v).length

def setBit (v i : Nat) : Nat := v ||| 2 ^ i

def clearBits (v m : Nat) : Nat := v - (v &&& m)

def clearBit (v i : Nat) : Nat := clearBits v (2 ^ i)

def putBit (v i : Nat) (b : Bool) : Nat := if b then setBit v i else clearBit v i

/-- An increment that stays at the largest value of `w` bits. -/
def satAdd (w a n : Nat) : Nat := min (a + n) (2 ^ w - 1)

/-- An increment modulo 2^w. -/
def wrapAdd (w a n : Nat) : Nat := (a + n) % 2 ^ w

def clampInt (lo hi x : Int) : Int := max lo (min hi x)

/-- Division of integers that truncates toward zero, as the pseudocode of R35 and R39 divides. -/
def tdiv (a b : Int) : Int := a.tdiv b

/-- The element at an index, replaced by `f` of it; nothing beyond the end. -/
def modifyAt {α : Type} (f : α → α) : List α → Nat → List α
  | [], _ => []
  | x :: xs, 0 => f x :: xs
  | x :: xs, i + 1 => x :: modifyAt f xs i

/-- Map with the index. -/
def mapIdxFrom {α β : Type} (f : Nat → α → β) : Nat → List α → List β
  | _, [] => []
  | i, x :: xs => f i x :: mapIdxFrom f (i + 1) xs

def vmap {α β : Type} {n : Nat} (f : α → β) (v : Vector α n) : Vector β n :=
  ⟨⟨v.toList.map f⟩, by simp⟩

def vmapIdx {α β : Type} {n : Nat} (f : Nat → α → β) (v : Vector α n) : Vector β n :=
  ⟨⟨mapIdxFrom f 0 v.toList⟩, by
    have h : ∀ (l : List α) (i : Nat), (mapIdxFrom f i l).length = l.length := by
      intro l; induction l with
      | nil => intro i; rfl
      | cons x xs ih => intro i; simp [mapIdxFrom, ih]
    simp [h]⟩

def vmod {α : Type} {n : Nat} (v : Vector α n) (i : Fin n) (f : α → α) : Vector α n :=
  v.set i (f v[i])

/-- Update at a number that may lie outside the range: nothing happens then. -/
def vmodN {α : Type} {n : Nat} (v : Vector α n) (i : Nat) (f : α → α) : Vector α n :=
  if h : i < n then v.set i (f v[i]) else v

def vgetN {α : Type} {n : Nat} (v : Vector α n) (i : Nat) (d : α) : α :=
  if h : i < n then v[i] else d

/-- A number as a member of `Fin n`, if it is one. -/
def fin? (n i : Nat) : Option (Fin n) := if h : i < n then some ⟨i, h⟩ else none

/-- Insert into a list sorted by a key; equal keys stay behind. -/
def insertBy {α : Type} (le : α → α → Bool) (x : α) : List α → List α
  | [] => [x]
  | y :: ys => if le x y then x :: y :: ys else y :: insertBy le x ys

def sortBy {α : Type} (le : α → α → Bool) (l : List α) : List α := l.foldr (insertBy le) []

def sortInts (l : List Int) : List Int := sortBy (fun a b => decide (a ≤ b)) l
def sortNats (l : List Nat) : List Nat := sortBy (fun a b => decide (a ≤ b)) l

/-- The median of an odd number of values, by the pseudocode of R35 the midpoint (toward zero) of an even number. -/
def median (l : List Int) : Int :=
  let v := sortInts l
  let k := v.length
  if k = 0 then 0
  else if k % 2 = 1 then v.getD (k / 2) 0
  else tdiv (v.getD (k / 2 - 1) 0 + v.getD (k / 2) 0) 2

def sumNat (l : List Nat) : Nat := l.foldl (· + ·) 0
def sumInt (l : List Int) : Int := l.foldl (· + ·) 0
def maxNat (l : List Nat) : Nat := l.foldl max 0

/-- Association list: the value at a key. -/
def lookupD {β : Type} (l : List (Nat × β)) (k : Nat) (d : β) : β :=
  match l with
  | [] => d
  | (a, b) :: r => if a == k then b else lookupD r k d

/-- Association list kept with rising keys. -/
def insertKey {β : Type} (k : Nat) (v : β) : List (Nat × β) → List (Nat × β)
  | [] => [(k, v)]
  | (a, b) :: r => if k < a then (k, v) :: (a, b) :: r
                   else if k = a then (k, v) :: r else (a, b) :: insertKey k v r

def eraseKey {β : Type} (k : Nat) (l : List (Nat × β)) : List (Nat × β) := l.filter (fun e => e.1 != k)

/-- Keep the last `n` entries of a list. -/
def keepLast {α : Type} (n : Nat) (l : List α) : List α := l.drop (l.length - n)

/-- A register map read one byte at a time: entries (offset, width in bytes, value), little-endian (R6); an offset that no
entry covers reads 0 (R20). -/
def regByte (fields : List (Nat × Nat × Nat)) (off : Nat) : Byte :=
  match fields with
  | [] => 0#8
  | (o, w, v) :: r => if o ≤ off ∧ off < o + w then BitVec.ofNat 8 (v / 256 ^ (off - o)) else regByte r off

end Sys2Proof.Machine
end

