-- ==== Sys2Proof/Machine/Codes.lean ====
section
/-! DEFINITION. The fault catalogue (group tables of chapters 02, 04 to 20), status codes (Table 17.7) and opcodes
(Table 17.6). -/
namespace Sys2Proof.Machine

/-- Severities (Table 0.2, bits 5:0 of the severity byte of R497). -/
inductive Severity where
  | info | warning | degrade | safe | fatal
deriving DecidableEq, Repr

/-- The faults of the catalogue, by name. -/
inductive FaultName where
  | supplyWarning | supplyReset | tempHigh | tempCritical | hubLockstepMismatch | hubComparatorSelftest
  | watchdogIoStage | tamper | appSafeRequest | safeCommanded | liveDivergence | latentDivergence | latentLimit
  | voteResultMismatch | comparatorSelftest | tickAlignment | clauseBudget | illegalAccess | duplexMismatch
  | inputDisagreement | linkFault | noMajority | taskOverrun | overrunLimit | forceActive | retainCopyFailed
  | sdClockLoss | sdDataStuck | channelSpread | calExtrapolation | prpPathLoss | portLinkDown | ptpDomainLoss
  | pdTimeout | outputOverload | outputExternalVoltage | wireBreak | fieldSupplyLow | readbackMismatch
  | partnerLost | stateCopyLate | dualActive | dramCorrected | dramUncorrectable | postedWriteFailed
  | sramCorrected | sramUncorrectable | wearThreshold | imageVerifyFailed | signatureReserveLow | configConverted
  | commandKeyChanged | traceOverflow | injectionArmed | errorPassive | busOff | idCollisionSuspect | retryLimit
  | slotBoundaryViolation | guardianBlock | syncLost | startupCollision | claimConflict | nodePassive
  | stationLost | lockUnsupported | prefetchDiscarded | tagTimeout | tripCoarse | tripExternal | pwmReadback
  | crossShortInput | channelDiscrepancy | resetStuck | startupTestPending | offPulseFail | mbWriteFull
  | mbNoProgress | authFailureBurst
deriving DecidableEq, Repr

/-- Severity values of a fault record (R497, Table 19.14). -/
def Severity.code : Severity → Nat
  | .info => 0 | .warning => 1 | .degrade => 2 | .safe => 3 | .fatal => 4

/-- Fault codes (the high byte is the owning chapter's group, Table 0.2). -/
def FaultName.code : FaultName → Nat
  | .supplyWarning => 0x0110
  | .supplyReset => 0x0111
  | .tempHigh => 0x0112
  | .tempCritical => 0x0113
  | .hubLockstepMismatch => 0x0114
  | .hubComparatorSelftest => 0x0115
  | .watchdogIoStage => 0x0116
  | .tamper => 0x0117
  | .appSafeRequest => 0x0120
  | .safeCommanded => 0x0121
  | .liveDivergence => 0x0210
  | .latentDivergence => 0x0211
  | .latentLimit => 0x0212
  | .voteResultMismatch => 0x0213
  | .comparatorSelftest => 0x0214
  | .tickAlignment => 0x0215
  | .clauseBudget => 0x0216
  | .illegalAccess => 0x0217
  | .duplexMismatch => 0x0218
  | .inputDisagreement => 0x0219
  | .linkFault => 0x021A
  | .noMajority => 0x0220
  | .taskOverrun => 0x0310
  | .overrunLimit => 0x0311
  | .forceActive => 0x0312
  | .retainCopyFailed => 0x0320
  | .sdClockLoss => 0x0410
  | .sdDataStuck => 0x0411
  | .channelSpread => 0x0412
  | .calExtrapolation => 0x0413
  | .prpPathLoss => 0x0510
  | .portLinkDown => 0x0511
  | .ptpDomainLoss => 0x0512
  | .pdTimeout => 0x0513
  | .outputOverload => 0x0610
  | .outputExternalVoltage => 0x0611
  | .wireBreak => 0x0612
  | .fieldSupplyLow => 0x0613
  | .readbackMismatch => 0x0614
  | .partnerLost => 0x0710
  | .stateCopyLate => 0x0711
  | .dualActive => 0x0712
  | .dramCorrected => 0x0810
  | .dramUncorrectable => 0x0811
  | .postedWriteFailed => 0x0812
  | .sramCorrected => 0x0813
  | .sramUncorrectable => 0x0814
  | .wearThreshold => 0x0815
  | .imageVerifyFailed => 0x0910
  | .signatureReserveLow => 0x0911
  | .configConverted => 0x0920
  | .commandKeyChanged => 0x0921
  | .traceOverflow => 0x0A10
  | .injectionArmed => 0x0B20
  | .errorPassive => 0x0C10
  | .busOff => 0x0C11
  | .idCollisionSuspect => 0x0C12
  | .retryLimit => 0x0C13
  | .slotBoundaryViolation => 0x0D10
  | .guardianBlock => 0x0D11
  | .syncLost => 0x0D12
  | .startupCollision => 0x0D13
  | .claimConflict => 0x0D14
  | .nodePassive => 0x0D20
  | .stationLost => 0x0E10
  | .lockUnsupported => 0x0E11
  | .prefetchDiscarded => 0x0E12
  | .tagTimeout => 0x0E13
  | .tripCoarse => 0x0F10
  | .tripExternal => 0x0F11
  | .pwmReadback => 0x0F12
  | .crossShortInput => 0x1010
  | .channelDiscrepancy => 0x1011
  | .resetStuck => 0x1012
  | .startupTestPending => 0x1013
  | .offPulseFail => 0x1014
  | .mbWriteFull => 0x1110
  | .mbNoProgress => 0x1111
  | .authFailureBurst => 0x1120

/-- Severities of the catalogue tables. -/
def FaultName.severity : FaultName → Severity
  | .supplyWarning | .tempHigh | .tamper | .clauseBudget | .inputDisagreement | .taskOverrun | .retainCopyFailed
  | .channelSpread | .prpPathLoss | .portLinkDown | .ptpDomainLoss | .pdTimeout | .wireBreak | .fieldSupplyLow
  | .partnerLost | .stateCopyLate | .dualActive | .signatureReserveLow | .errorPassive | .idCollisionSuspect
  | .retryLimit | .slotBoundaryViolation | .guardianBlock | .nodePassive | .stationLost | .tagTimeout
  | .resetStuck | .mbWriteFull | .mbNoProgress | .authFailureBurst => .warning
  | .tempCritical | .hubLockstepMismatch | .hubComparatorSelftest | .watchdogIoStage | .appSafeRequest
  | .safeCommanded | .duplexMismatch | .noMajority | .overrunLimit | .pwmReadback | .crossShortInput
  | .channelDiscrepancy | .offPulseFail => .safe
  | .liveDivergence | .latentLimit | .voteResultMismatch | .comparatorSelftest | .tickAlignment | .illegalAccess
  | .linkFault | .sdClockLoss | .sdDataStuck | .outputOverload | .outputExternalVoltage | .readbackMismatch
  | .dramUncorrectable | .postedWriteFailed | .sramUncorrectable | .wearThreshold | .busOff | .syncLost
  | .tripCoarse | .tripExternal => .degrade
  | .latentDivergence | .forceActive | .calExtrapolation | .dramCorrected | .sramCorrected | .configConverted
  | .commandKeyChanged | .traceOverflow | .injectionArmed | .startupCollision | .claimConflict
  | .lockUnsupported | .prefetchDiscarded | .startupTestPending => .info
  | .supplyReset | .imageVerifyFailed => .fatal

/-- Whether the fault has an active state (its "Clears" column is not "Event", R497). -/
def FaultName.hasActive : FaultName → Bool
  | .supplyReset | .tamper | .liveDivergence | .latentDivergence | .voteResultMismatch | .comparatorSelftest
  | .tickAlignment | .clauseBudget | .illegalAccess | .linkFault | .taskOverrun | .retainCopyFailed
  | .stateCopyLate | .dualActive | .dramCorrected | .dramUncorrectable | .postedWriteFailed | .sramCorrected
  | .sramUncorrectable | .imageVerifyFailed | .configConverted | .commandKeyChanged | .injectionArmed
  | .idCollisionSuspect | .retryLimit | .slotBoundaryViolation | .guardianBlock | .startupCollision
  | .claimConflict | .lockUnsupported | .prefetchDiscarded | .tagTimeout | .mbWriteFull | .authFailureBurst => false
  | _ => true

/-- Every fault of the catalogue, by rising code (R517, LIST_DETECTORS). -/
def FaultName.all : List FaultName :=
  [.supplyWarning, .supplyReset, .tempHigh, .tempCritical, .hubLockstepMismatch, .hubComparatorSelftest,
   .watchdogIoStage, .tamper, .appSafeRequest, .safeCommanded, .liveDivergence, .latentDivergence,
   .latentLimit, .voteResultMismatch, .comparatorSelftest, .tickAlignment, .clauseBudget, .illegalAccess,
   .duplexMismatch, .inputDisagreement, .linkFault, .noMajority, .taskOverrun, .overrunLimit, .forceActive,
   .retainCopyFailed, .sdClockLoss, .sdDataStuck, .channelSpread, .calExtrapolation, .prpPathLoss,
   .portLinkDown, .ptpDomainLoss, .pdTimeout, .outputOverload, .outputExternalVoltage, .wireBreak,
   .fieldSupplyLow, .readbackMismatch, .partnerLost, .stateCopyLate, .dualActive, .dramCorrected,
   .dramUncorrectable, .postedWriteFailed, .sramCorrected, .sramUncorrectable, .wearThreshold,
   .imageVerifyFailed, .signatureReserveLow, .configConverted, .commandKeyChanged, .traceOverflow,
   .injectionArmed, .errorPassive, .busOff, .idCollisionSuspect, .retryLimit, .slotBoundaryViolation,
   .guardianBlock, .syncLost, .startupCollision, .claimConflict, .nodePassive, .stationLost, .lockUnsupported,
   .prefetchDiscarded, .tagTimeout, .tripCoarse, .tripExternal, .pwmReadback, .crossShortInput,
   .channelDiscrepancy, .resetStuck, .startupTestPending, .offPulseFail, .mbWriteFull, .mbNoProgress,
   .authFailureBurst]

/-- The fault with a code, if the catalogue has it. -/
def FaultName.ofCode (c : Nat) : Option FaultName := FaultName.all.find? (fun f => f.code == c)

/-- R508: every code from 0xNN10 to 0xNN1F is a detector. -/
def FaultName.isDetector (f : FaultName) : Bool := f.code % 256 / 16 == 1

/-- Faults of severity SAFE that clear by leaving SAFE (their "Clears" columns). -/
def FaultName.clearsByLeavingSafe : FaultName → Bool
  | .hubLockstepMismatch | .hubComparatorSelftest | .watchdogIoStage | .appSafeRequest | .safeCommanded
  | .duplexMismatch | .noMajority | .overrunLimit | .pwmReadback | .crossShortInput | .channelDiscrepancy
  | .offPulseFail => true
  | _ => false

/-- Status codes of replies (R437, Table 17.7). -/
inductive Status where
  | ok | pending | confirmRequired | okShadowedByForce | badMagic | badVersion | badLength | unknownOpcode | badParameter
  | authFailed | replay | authorityTooLow | confirmMismatch | confirmExpired | wrongMode | busy | supplyWarning
  | roleStandby | resourceFault | noSpare | notFound | lockUnsupported | imageRejected | signaturesExhausted
deriving DecidableEq, Repr

/-- Table 17.7. -/
def Status.code : Status → Nat
  | .ok => 0x0000 | .pending => 0x0001 | .confirmRequired => 0x0002 | .okShadowedByForce => 0x0003
  | .badMagic => 0x0100 | .badVersion => 0x0101 | .badLength => 0x0102 | .unknownOpcode => 0x0103 | .badParameter => 0x0104
  | .authFailed => 0x0200 | .replay => 0x0201 | .authorityTooLow => 0x0202 | .confirmMismatch => 0x0203
  | .confirmExpired => 0x0204
  | .wrongMode => 0x0300 | .busy => 0x0301 | .supplyWarning => 0x0302 | .roleStandby => 0x0303
  | .resourceFault => 0x0400 | .noSpare => 0x0401 | .notFound => 0x0402 | .lockUnsupported => 0x0403
  | .imageRejected => 0x0500 | .signaturesExhausted => 0x0501

/-- The opcodes of Table 17.6. -/
inductive Opcode where
  | getStatus | setMode | setPower | resetModule | getFaults | clearFaults | getScheduleInfo | selectSchedule
  | laneBringIn | split | join | laneSelfTest | readVariable | writeVariable | changeConstant | commitChanges
  | force | unforce | listForces | getChannel | setPreset | calibratePoint | storeCalibration | getPortStatus
  | setIpConfig | substitutePort | getPtpStatus | selectTimeDomain | getIoStatus | testOutput
  | getPartnerStatus | switchover | setRolePolicy | getWear | substitute | beginImage | imageData | endImage
  | confirmImage | getImages | attest | getIdentity | setCommandKey | readTrace | setTraceFilter | readCounters
  | setCounterEvent | inject | listDetectors | getCanStatus | canRecover | canSetListen | getYbStatus
  | ybRestart | getStationStatus | rackRead | rackWrite | rescan | getTripStatus | tripClear | getSafetyStatus
  | mbStatus
deriving DecidableEq, Repr

/-- Opcode values (Table 17.6). -/
def Opcode.code : Opcode → Nat
  | .getStatus => 0x0101
  | .setMode => 0x0102
  | .setPower => 0x0103
  | .resetModule => 0x0104
  | .getFaults => 0x0105
  | .clearFaults => 0x0106
  | .getScheduleInfo => 0x0201
  | .selectSchedule => 0x0202
  | .laneBringIn => 0x0203
  | .split => 0x0204
  | .join => 0x0205
  | .laneSelfTest => 0x0206
  | .readVariable => 0x0301
  | .writeVariable => 0x0302
  | .changeConstant => 0x0303
  | .commitChanges => 0x0304
  | .force => 0x0305
  | .unforce => 0x0306
  | .listForces => 0x0307
  | .getChannel => 0x0401
  | .setPreset => 0x0402
  | .calibratePoint => 0x0403
  | .storeCalibration => 0x0404
  | .getPortStatus => 0x0501
  | .setIpConfig => 0x0502
  | .substitutePort => 0x0503
  | .getPtpStatus => 0x0504
  | .selectTimeDomain => 0x0505
  | .getIoStatus => 0x0601
  | .testOutput => 0x0602
  | .getPartnerStatus => 0x0701
  | .switchover => 0x0702
  | .setRolePolicy => 0x0703
  | .getWear => 0x0801
  | .substitute => 0x0802
  | .beginImage => 0x0901
  | .imageData => 0x0902
  | .endImage => 0x0903
  | .confirmImage => 0x0904
  | .getImages => 0x0905
  | .attest => 0x0906
  | .getIdentity => 0x0907
  | .setCommandKey => 0x0908
  | .readTrace => 0x0A01
  | .setTraceFilter => 0x0A02
  | .readCounters => 0x0A03
  | .setCounterEvent => 0x0A04
  | .inject => 0x0B01
  | .listDetectors => 0x0B02
  | .getCanStatus => 0x0C01
  | .canRecover => 0x0C02
  | .canSetListen => 0x0C03
  | .getYbStatus => 0x0D01
  | .ybRestart => 0x0D02
  | .getStationStatus => 0x0E01
  | .rackRead => 0x0E02
  | .rackWrite => 0x0E03
  | .rescan => 0x0E04
  | .getTripStatus => 0x0F01
  | .tripClear => 0x0F02
  | .getSafetyStatus => 0x1001
  | .mbStatus => 0x1101

def Opcode.all : List Opcode :=
  [.getStatus, .setMode, .setPower, .resetModule, .getFaults, .clearFaults, .getScheduleInfo, .selectSchedule,
   .laneBringIn, .split, .join, .laneSelfTest, .readVariable, .writeVariable, .changeConstant, .commitChanges,
   .force, .unforce, .listForces, .getChannel, .setPreset, .calibratePoint, .storeCalibration, .getPortStatus,
   .setIpConfig, .substitutePort, .getPtpStatus, .selectTimeDomain, .getIoStatus, .testOutput,
   .getPartnerStatus, .switchover, .setRolePolicy, .getWear, .substitute, .beginImage, .imageData, .endImage,
   .confirmImage, .getImages, .attest, .getIdentity, .setCommandKey, .readTrace, .setTraceFilter,
   .readCounters, .setCounterEvent, .inject, .listDetectors, .getCanStatus, .canRecover, .canSetListen,
   .getYbStatus, .ybRestart, .getStationStatus, .rackRead, .rackWrite, .rescan, .getTripStatus, .tripClear,
   .getSafetyStatus, .mbStatus]

/-- The opcode with a value (step 7 of R424). -/
def Opcode.ofCode (c : Nat) : Option Opcode := Opcode.all.find? (fun o => o.code == c)

/-- The authority Table 17.6 gives an opcode: 1 OBSERVE, 2 OPERATE, 3 MAINTAIN, 4 SAFETY. INJECT, TEST_OUTPUT and MB_STATUS
have a level that depends on the mode or the parameters; their rows' meanings raise or lower this base. -/
def Opcode.level : Opcode → Nat
  | .getStatus | .getFaults | .getScheduleInfo | .readVariable | .listForces | .getChannel | .getPortStatus
  | .getPtpStatus | .getIoStatus | .getPartnerStatus | .getWear | .getImages | .attest | .getIdentity
  | .readTrace | .readCounters | .listDetectors | .getCanStatus | .getYbStatus | .getStationStatus
  | .getTripStatus | .getSafetyStatus | .mbStatus => 1
  | .clearFaults | .writeVariable | .canRecover => 2
  | .setCommandKey | .inject => 4
  | _ => 3

end Sys2Proof.Machine
end

