-- ==== Sys2Proof/Machine/Types.lean ====
section
/-! DEFINITION. The types of the commands' operands: what the outside world, or the instant a command stands for, brings with
it. No operand type holds a function. -/
namespace Sys2Proof.Machine

/-- The operating modes (Table 1.7). -/
inductive Mode where
  | off | dormant | load | service | voted | duplex | split | safe
deriving DecidableEq, Repr

/-- Table 1.7. -/
def Mode.code : Mode → Nat
  | .off => 0 | .dormant => 1 | .load => 2 | .service => 3 | .voted => 4 | .duplex => 5 | .split => 6 | .safe => 7

/-- Where a fault occurrence comes from (R539). -/
inductive Origin where
  | real | injected | reportOnly
deriving DecidableEq, Repr

/-- A command packet's header as the interpreter holds it after its checks (Tables 17.2 and 17.3). `source` is the IPv4 address
and UDP port, the station number, or 0 (R427); `headerOk` says that STATUS and the reserved header bytes were zero. -/
structure Req where
  transport : Nat
  source : Nat
  port : Nat := 0
  slot : Nat
  session : Nat
  seq : Nat
  authority : Nat
  confirm : Bool := false
  forward : Bool := false
  headerOk : Bool := true
deriving DecidableEq, Repr

/-! ### Clause engines (chapter 03) -/

/-- A logical engine of a lane. -/
structure Site where
  lane : LaneId
  eng : EngineId
deriving DecidableEq, Repr

/-- The two A slots of a bundle (R70). -/
inductive ASlot where
  | a0 | a1
deriving DecidableEq, Repr

/-- What the SEC-DED code found in the SRAM word read (R400, R401): nothing, a corrected bit, or an uncorrectable word, whose data
bits are delivered as read (`flips` are the bits that differ from those stored). -/
inductive Ecc where
  | clean
  | corrected (bit : Nat)
  | uncorrectable (flips : DWord)
deriving DecidableEq, Repr

/-- A REG syllable (Table 3.5). -/
structure RegSyl where
  d : Bool := false
  n : Bool := false
  p : BitVec 3 := 0
  dst : BitVec 6
  sa : BitVec 6
  sb : BitVec 6 := 0
  x : BitVec 3 := 0
deriving DecidableEq, Repr

/-- An IMM syllable (Table 3.5); `long` is its carrier's 32 bits, used when `imm` is 0x100 (R74). -/
structure ImmSyl where
  d : Bool := false
  n : Bool := false
  p : BitVec 3 := 0
  dst : BitVec 6
  sa : BitVec 6
  imm : BitVec 9
  long : Word := 0
deriving DecidableEq, Repr

/-- A TGT syllable (Table 3.5); `d` (bit 25) and `rest` (bits 20:13) are fixed as zero. -/
structure TgtSyl where
  d : Bool := false
  n : Bool := false
  p : BitVec 3 := 0
  rest : BitVec 8 := 0
  target : BitVec 13
deriving DecidableEq, Repr

/-- An LP syllable (Table 3.5); `rest` is bits 25:21, fixed as zero. -/
structure LpSyl where
  rest : BitVec 5 := 0
  cnt : BitVec 7
  lc : Bool
  last : BitVec 13
deriving DecidableEq, Repr

/-- The slot of a NOP or undefined syllable. -/
inductive Slot where
  | a0 | a1 | m | l
deriving DecidableEq, Repr

/-- What the Reed-Solomon code found in one codeword of DRAM (R393, R395, R397): the codeword's address, how many of its 40 bytes are
wrong, and the wrong bits of its 32 data bytes. -/
structure DramErr where
  addr : Nat
  bytes : Nat
  flips : Bytes := []
deriving DecidableEq, Repr

/-! ### Frames between lanes and the hub (R13, R115, R133) -/

/-- What became of a frame that one unit sent another: it arrived whole in time, failed its CRC, or did not arrive in time. -/
inductive Rx where
  | whole | crcError | missing
deriving DecidableEq, Repr

/-- A receiver of vote-result vectors or output frames: a lane, or a half of the hub. -/
inductive Rcv where
  | lane (l : LaneId) | sa | sb
deriving DecidableEq, Repr

/-! ### Queue fabric (chapter 11) -/

/-- A descriptor that the Parser hands to the fabric (Table 11.6), with the frame that its buffer holds (transmit). -/
structure Desc where
  buffer : Nat
  length : Nat
  flags : Nat
  frame : Bytes := []
  /-- The address of a codeword of hub DRAM that could not be corrected, met in the descriptor or its frame (R399). -/
  bad : Option Nat := none
deriving DecidableEq, Repr

/-! ### CAN (chapter 12) -/

/-- A bus error (R318, LAST_ERROR): type (1 bit, 2 stuff, 3 form, 4 acknowledgement, 5 CRC), field (0 arbitration, 1 control, 2 data,
3 CRC or later), data phase; whether an exception of ISO 11898-1 spares the first increase, and how many further increases by 8 follow
it (dominant bits after an error flag). -/
structure CanErr where
  type : Nat
  field : Nat
  dataPhase : Bool
  exempt : Bool
  more : Nat
deriving DecidableEq, Repr

/-- How an attempt ends: sent (with the stamp of R322), arbitration lost, or an error. -/
inductive CanEnd where
  | sent (stamp : Nat)
  | lost
  | error (e : CanErr)
deriving DecidableEq, Repr

end Sys2Proof.Machine
end

