-- ==== Sys2Proof/Syntax.lean ====
section
/-! DEFINITION. The commands of the block: one constructor per row of spec/opcode_table.json, in the table's order. The operands
are what the sender, or the instant the row stands for, brings with it. -/
namespace Sys2Proof

open Sys2Proof.Machine in
/-- The commands. Each constructor's docstring names its row and its rule. -/
inductive Instr where
  /-- POWER_ON (R483). -/
  | powerOn (now : Nat)
  /-- BOOT (R462). -/
  | boot (now : Nat)
  /-- PARTNER_HANDSHAKE_END (R381). -/
  | partnerHandshakeEnd (now : Nat)
  /-- WAKE_N_LOW (R483). -/
  | wakeNLow (now : Nat)
  /-- WAKE_FRAME (R487). -/
  | wakeFrame (port : Fin 2) (frame : Bytes) (now : Nat)
  /-- DORMANT_WAKE (R487). -/
  | dormantWake (now : Nat)
  /-- RST_N_LOW (R264). -/
  | rstNLow (durationNs : Nat) (now : Nat)
  /-- HOLDUP_COLLAPSE (R490). -/
  | holdupCollapse (now : Nat) (rstLow : Bool)
  /-- VIN_SAMPLE (R488). -/
  | vinSample (mv : Nat) (holdup : Nat) (now : Nat)
  /-- SUPPLY_DEFERRAL_END (R489). -/
  | supplyDeferralEnd (now : Nat)
  /-- TEMPERATURE_MEASUREMENT (R491). -/
  | temperatureMeasurement (t : Int) (now : Nat)
  /-- TAMPER_OPEN (R493). -/
  | tamperOpen (now : Nat)
  /-- VBAT_LOSS (R492). -/
  | vbatLoss (now : Nat)
  /-- HUB_COMPARATOR_SELFTEST (R12). -/
  | hubComparatorSelftest (parserMissed : Bool) (sasbMissed : Bool) (now : Nat)
  /-- TICK_START_MARKER (R32). -/
  | tickStartMarker (now : Nat)
  /-- TICK_START (R29). -/
  | tickStart (lane : LaneId) (now : Nat) (fines : List Int)
  /-- HUB_TICK_START (R16). -/
  | hubTickStart (now : Nat)
  /-- TICK_MARKER_RECEIVED (R34). -/
  | tickMarkerReceived (lane : LaneId) (sender : LaneId) (offset : Int)
  /-- GUARD_ALIGNMENT (R35). -/
  | guardAlignment (lane : LaneId)
  /-- STEER_RATE_UPDATE (R49). -/
  | steerRateUpdate (f : Int)
  /-- RTC_UPDATE (R51). -/
  | rtcUpdate (now : Nat)
  /-- PTP_ANNOUNCE_RECEIVED (R44). -/
  | ptpAnnounceReceived (tracker : Fin 2) (now : Nat) (port : Nat) (master : Nat) (clockClass : Nat) (utcOffset : Int) (utcValid : Bool)
  /-- PTP_SYNC_RECEIVED (R44). -/
  | ptpSyncReceived (tracker : Fin 2) (now : Nat) (port : Nat) (origin : Nat)
  /-- PTP_DELAY_REQ_SEND (R42). -/
  | ptpDelayReqSend (tracker : Fin 2) (now : Nat)
  /-- PTP_DELAY_RESP_RECEIVED (R42). -/
  | ptpDelayRespReceived (tracker : Fin 2) (now : Nat) (seq : Nat) (delay : Nat)
  /-- PTP_PDELAY_REQ_RECEIVED (R42). -/
  | ptpPdelayReqReceived (now : Nat) (port : Nat) (domain : Nat) (seq : Nat)
  /-- PTP_TIMEOUT (R44). -/
  | ptpTimeout (tracker : Fin 2) (now : Nat) (other : Nat)
  /-- TB3_SELECT (R48). -/
  | tb3Select (v : Nat)
  /-- STEER_ENABLE (R50). -/
  | steerEnable (on : Bool)
  /-- SELECT_TIME_DOMAIN (R58). -/
  | selectTimeDomain (r : Req) (p : Bytes)
  /-- GET_PTP_STATUS (R59). -/
  | getPtpStatus (r : Req) (p : Bytes)
  /-- CLAUSE_START (R88). -/
  | clauseStart (lane : LaneId) (clause : Nat) (ecc : Ecc)
  /-- OPERATION_WRITEBACK (R63). -/
  | operationWriteback (site : Site)
  /-- CLAUSE_BUDGET (R88). -/
  | clauseBudget (site : Site)
  /-- CLAUSE_COMPLETE (R87). -/
  | clauseComplete (site : Site)
  /-- NOP (R70). -/
  | nop (site : Site) (slot : Slot) (raw : Word) (ecc : Ecc)
  /-- ADD (R77). -/
  | add (site : Site) (slot : ASlot) (f : RegSyl)
  /-- SUB (R77). -/
  | sub (site : Site) (slot : ASlot) (f : RegSyl)
  /-- AND (R77). -/
  | andOp (site : Site) (slot : ASlot) (f : RegSyl)
  /-- OR (R77). -/
  | orOp (site : Site) (slot : ASlot) (f : RegSyl)
  /-- XOR (R77). -/
  | xorOp (site : Site) (slot : ASlot) (f : RegSyl)
  /-- ANDN (R77). -/
  | andn (site : Site) (slot : ASlot) (f : RegSyl)
  /-- SHL (R77). -/
  | shl (site : Site) (slot : ASlot) (f : RegSyl)
  /-- SHR (R77). -/
  | shr (site : Site) (slot : ASlot) (f : RegSyl)
  /-- SAR (R77). -/
  | sar (site : Site) (slot : ASlot) (f : RegSyl)
  /-- ROR (R77). -/
  | ror (site : Site) (slot : ASlot) (f : RegSyl)
  /-- MIN (R77). -/
  | min (site : Site) (slot : ASlot) (f : RegSyl)
  /-- MAX (R77). -/
  | max (site : Site) (slot : ASlot) (f : RegSyl)
  /-- MINU (R77). -/
  | minu (site : Site) (slot : ASlot) (f : RegSyl)
  /-- MAXU (R77). -/
  | maxu (site : Site) (slot : ASlot) (f : RegSyl)
  /-- SEL (R77). -/
  | sel (site : Site) (slot : ASlot) (f : RegSyl)
  /-- ADDI (R77). -/
  | addi (site : Site) (slot : ASlot) (f : ImmSyl)
  /-- ANDI (R77). -/
  | andi (site : Site) (slot : ASlot) (f : ImmSyl)
  /-- ORI (R77). -/
  | ori (site : Site) (slot : ASlot) (f : ImmSyl)
  /-- XORI (R77). -/
  | xori (site : Site) (slot : ASlot) (f : ImmSyl)
  /-- SHLI (R77). -/
  | shli (site : Site) (slot : ASlot) (f : ImmSyl)
  /-- SHRI (R77). -/
  | shri (site : Site) (slot : ASlot) (f : ImmSyl)
  /-- SARI (R77). -/
  | sari (site : Site) (slot : ASlot) (f : ImmSyl)
  /-- RORI (R77). -/
  | rori (site : Site) (slot : ASlot) (f : ImmSyl)
  /-- CMPEQ (R77). -/
  | cmpeq (site : Site) (slot : ASlot) (f : RegSyl)
  /-- CMPNE (R77). -/
  | cmpne (site : Site) (slot : ASlot) (f : RegSyl)
  /-- CMPLT (R77). -/
  | cmplt (site : Site) (slot : ASlot) (f : RegSyl)
  /-- CMPLTU (R77). -/
  | cmpltu (site : Site) (slot : ASlot) (f : RegSyl)
  /-- CMPLE (R77). -/
  | cmple (site : Site) (slot : ASlot) (f : RegSyl)
  /-- CMPLEU (R77). -/
  | cmpleu (site : Site) (slot : ASlot) (f : RegSyl)
  /-- CMPEQI (R77). -/
  | cmpeqi (site : Site) (slot : ASlot) (f : ImmSyl)
  /-- CMPLTI (R77). -/
  | cmplti (site : Site) (slot : ASlot) (f : ImmSyl)
  /-- PAND (R77). -/
  | pand (site : Site) (slot : ASlot) (f : RegSyl)
  /-- POR (R77). -/
  | por (site : Site) (slot : ASlot) (f : RegSyl)
  /-- PXOR (R77). -/
  | pxor (site : Site) (slot : ASlot) (f : RegSyl)
  /-- PANDN (R77). -/
  | pandn (site : Site) (slot : ASlot) (f : RegSyl)
  /-- MFS (R65). -/
  | mfs (site : Site) (slot : ASlot) (f : RegSyl)
  /-- MFSD (R65). -/
  | mfsd (site : Site) (slot : ASlot) (f : RegSyl)
  /-- MTS (R65). -/
  | mts (site : Site) (slot : ASlot) (f : RegSyl)
  /-- MOVD (R77). -/
  | movd (site : Site) (slot : ASlot) (f : RegSyl)
  /-- CLZ (R77). -/
  | clz (site : Site) (slot : ASlot) (f : RegSyl)
  /-- POPC (R77). -/
  | popc (site : Site) (slot : ASlot) (f : RegSyl)
  /-- ADDD (R77). -/
  | addd (site : Site) (slot : ASlot) (f : RegSyl)
  /-- SUBD (R77). -/
  | subd (site : Site) (slot : ASlot) (f : RegSyl)
  /-- FNEG (R77). -/
  | fneg (site : Site) (slot : ASlot) (f : RegSyl)
  /-- FABS (R77). -/
  | fabs (site : Site) (slot : ASlot) (f : RegSyl)
  /-- MUL (R78). -/
  | mul (site : Site) (f : RegSyl)
  /-- MULHS (R78). -/
  | mulhs (site : Site) (f : RegSyl)
  /-- MULHU (R78). -/
  | mulhu (site : Site) (f : RegSyl)
  /-- MULWS (R78). -/
  | mulws (site : Site) (f : RegSyl)
  /-- MULWU (R78). -/
  | mulwu (site : Site) (f : RegSyl)
  /-- DIVS (R81). -/
  | divs (site : Site) (f : RegSyl)
  /-- DIVU (R81). -/
  | divu (site : Site) (f : RegSyl)
  /-- REMS (R81). -/
  | rems (site : Site) (f : RegSyl)
  /-- REMU (R81). -/
  | remu (site : Site) (f : RegSyl)
  /-- FADD_S (R78). -/
  | faddS (site : Site) (f : RegSyl)
  /-- FSUB_S (R78). -/
  | fsubS (site : Site) (f : RegSyl)
  /-- FMUL_S (R78). -/
  | fmulS (site : Site) (f : RegSyl)
  /-- FMA_S (R78). -/
  | fmaS (site : Site) (f : RegSyl)
  /-- FNMA_S (R78). -/
  | fnmaS (site : Site) (f : RegSyl)
  /-- FMIN_S (R82). -/
  | fminS (site : Site) (f : RegSyl)
  /-- FMAX_S (R82). -/
  | fmaxS (site : Site) (f : RegSyl)
  /-- FDIV_S (R78). -/
  | fdivS (site : Site) (f : RegSyl)
  /-- FSQRT_S (R78). -/
  | fsqrtS (site : Site) (f : RegSyl)
  /-- FCMPEQ_S (R78). -/
  | fcmpeqS (site : Site) (f : RegSyl)
  /-- FCMPLT_S (R78). -/
  | fcmpltS (site : Site) (f : RegSyl)
  /-- FCMPLE_S (R78). -/
  | fcmpleS (site : Site) (f : RegSyl)
  /-- FCMPUN_S (R78). -/
  | fcmpunS (site : Site) (f : RegSyl)
  /-- FCVT_S_W (R78). -/
  | fcvtSW (site : Site) (f : RegSyl)
  /-- FCVTN_W_S (R78). -/
  | fcvtnWS (site : Site) (f : RegSyl)
  /-- FCVTZ_W_S (R78). -/
  | fcvtzWS (site : Site) (f : RegSyl)
  /-- FADD_D (R78). -/
  | faddD (site : Site) (f : RegSyl)
  /-- FSUB_D (R78). -/
  | fsubD (site : Site) (f : RegSyl)
  /-- FMUL_D (R78). -/
  | fmulD (site : Site) (f : RegSyl)
  /-- FMA_D (R78). -/
  | fmaD (site : Site) (f : RegSyl)
  /-- FNMA_D (R78). -/
  | fnmaD (site : Site) (f : RegSyl)
  /-- FMIN_D (R82). -/
  | fminD (site : Site) (f : RegSyl)
  /-- FMAX_D (R82). -/
  | fmaxD (site : Site) (f : RegSyl)
  /-- FDIV_D (R78). -/
  | fdivD (site : Site) (f : RegSyl)
  /-- FSQRT_D (R78). -/
  | fsqrtD (site : Site) (f : RegSyl)
  /-- FCMPEQ_D (R78). -/
  | fcmpeqD (site : Site) (f : RegSyl)
  /-- FCMPLT_D (R78). -/
  | fcmpltD (site : Site) (f : RegSyl)
  /-- FCMPLE_D (R78). -/
  | fcmpleD (site : Site) (f : RegSyl)
  /-- FCMPUN_D (R78). -/
  | fcmpunD (site : Site) (f : RegSyl)
  /-- FCVT_D_W (R78). -/
  | fcvtDW (site : Site) (f : RegSyl)
  /-- FCVTN_W_D (R78). -/
  | fcvtnWD (site : Site) (f : RegSyl)
  /-- FCVTZ_W_D (R78). -/
  | fcvtzWD (site : Site) (f : RegSyl)
  /-- FCVT_D_S (R78). -/
  | fcvtDS (site : Site) (f : RegSyl)
  /-- FCVT_S_D (R78). -/
  | fcvtSD (site : Site) (f : RegSyl)
  /-- LDW (R79). -/
  | ldw (site : Site) (f : ImmSyl) (ecc : Ecc)
  /-- LDH (R79). -/
  | ldh (site : Site) (f : ImmSyl) (ecc : Ecc)
  /-- LDHU (R79). -/
  | ldhu (site : Site) (f : ImmSyl) (ecc : Ecc)
  /-- LDB (R79). -/
  | ldb (site : Site) (f : ImmSyl) (ecc : Ecc)
  /-- LDBU (R79). -/
  | ldbu (site : Site) (f : ImmSyl) (ecc : Ecc)
  /-- LDD (R79). -/
  | ldd (site : Site) (f : ImmSyl) (ecc : Ecc)
  /-- STW (R79). -/
  | stw (site : Site) (f : ImmSyl) (ecc : Ecc)
  /-- STH (R79). -/
  | sth (site : Site) (f : ImmSyl) (ecc : Ecc)
  /-- STB (R79). -/
  | stb (site : Site) (f : ImmSyl) (ecc : Ecc)
  /-- STD (R79). -/
  | std (site : Site) (f : ImmSyl) (ecc : Ecc)
  /-- LDWX (R79). -/
  | ldwx (site : Site) (f : RegSyl) (ecc : Ecc)
  /-- LDDX (R79). -/
  | lddx (site : Site) (f : RegSyl) (ecc : Ecc)
  /-- STWX (R79). -/
  | stwx (site : Site) (f : RegSyl) (ecc : Ecc)
  /-- STDX (R79). -/
  | stdx (site : Site) (f : RegSyl) (ecc : Ecc)
  /-- BR (R83). -/
  | br (site : Site) (f : TgtSyl)
  /-- BRI (R83). -/
  | bri (site : Site) (f : RegSyl)
  /-- LOOPI (R84). -/
  | loopi (site : Site) (f : LpSyl)
  /-- LOOPR (R84). -/
  | loopr (site : Site) (f : LpSyl)
  /-- END (R87). -/
  | endOp (site : Site) (rest : BitVec 26)
  /-- XSET (R80). -/
  | xset (site : Site) (f : RegSyl)
  /-- TRANSFER_START (R97). -/
  | transferStart (lane : LaneId) (index : Nat)
  /-- TRANSFER_COMPLETE (R96). -/
  | transferComplete (lane : LaneId) (index : Nat) (sram : List (Nat × Ecc)) (dram : List DramErr)
  /-- TRANSFER_PACKET_RETRY (R133). -/
  | transferPacketRetry (lane : LaneId) (index : Nat) (delay : Nat) (failed : Bool)
  /-- GATE_ENTRY (R284). -/
  | gateEntry (index : Nat)
  /-- GET_SCHEDULE_INFO (R111). -/
  | getScheduleInfo (r : Req) (p : Bytes)
  /-- SELECT_SCHEDULE (R112). -/
  | selectSchedule (r : Req) (p : Bytes)
  /-- AGREEMENT_FRAME_RECEIVED (R115). -/
  | agreementFrameReceived (lane : LaneId) (sender : LaneId) (rx : Rx)
  /-- RECEIPT_VECTOR_SEND (R115). -/
  | receiptVectorSend (lane : LaneId)
  /-- RECEIPT_VECTOR_RECEIVED (R115). -/
  | receiptVectorReceived (lane : LaneId) (sender : LaneId) (rx : Rx)
  /-- AGREEMENT_SELECTION (R118). -/
  | agreementSelection (lane : LaneId)
  /-- SIGNATURE_CAPTURE (R124). -/
  | signatureCapture (lane : LaneId)
  /-- SIGNATURE_FRAME_SEND (R125). -/
  | signatureFrameSend (lane : LaneId)
  /-- SIGNATURE_FRAME_RECEIVED (R125). -/
  | signatureFrameReceived (lane : LaneId) (sender : LaneId) (rx : Rx)
  /-- VERDICT_FORMATION (R126). -/
  | verdictFormation (lane : LaneId)
  /-- VOTE_VECTOR_RECEIVED (R127). -/
  | voteVectorReceived (dest : Rcv) (sender : LaneId) (rx : Rx)
  /-- VECTOR_CONSENSUS (R127). -/
  | vectorConsensus
  /-- LATENT_LIMIT_ACTION (R537). -/
  | latentLimitAction
  /-- OUTPUT_FRAME_RECEIVED (R13). -/
  | outputFrameReceived (half : Rcv) (sender : LaneId) (rx : Rx)
  /-- OUTPUT_VOTE_RELEASE (R245). -/
  | outputVoteRelease
  /-- LANE_LOAD_COMPLETE (R134). -/
  | laneLoadComplete (lane : LaneId)
  /-- STATE_COPY_PASS_COMPLETE (R134). -/
  | stateCopyPassComplete (last : Bool)
  /-- STATE_COPY_TAKEOVER (R134). -/
  | stateCopyTakeover
  /-- STATE_COPY_FAILED (R135). -/
  | stateCopyFailed
  /-- LANE_SELF_TEST_END (R114). -/
  | laneSelfTestEnd (lane : LaneId) (passed : Bool)
  /-- ENGINE_SUBSTITUTION (R136). -/
  | engineSubstitution (lane : LaneId) (eng : EngineId)
  /-- SPLIT_BOUNDARY (R137). -/
  | splitBoundary
  /-- GROUP_B_START (R137). -/
  | groupBStart
  /-- JOIN_BOUNDARY (R138). -/
  | joinBoundary
  /-- DI_DISAGREE_COUNT_CLEAR (R140). -/
  | diDisagreeCountClear
  /-- LINK_ERRORS_CLEAR (R140). -/
  | linkErrorsClear
  /-- LIVE_COUNT_CLEAR (R140). -/
  | liveCountClear
  /-- LANE_BRING_IN (R143). -/
  | laneBringIn (r : Req) (p : Bytes)
  /-- SPLIT (R137). -/
  | splitCmd (r : Req) (p : Bytes)
  /-- JOIN (R138). -/
  | joinCmd (r : Req) (p : Bytes)
  /-- LANE_SELF_TEST (R143). -/
  | laneSelfTest (r : Req) (p : Bytes)
  /-- APPLICATION_START (R145). -/
  | applicationStart
  /-- APPLY_STEP (R159). -/
  | applyStep (lane : LaneId) (task : Fin 8)
  /-- INPUT_STEP (R146). -/
  | inputStep (lane : LaneId) (task : Fin 8) (moves : List (Nat × Nat × Nat))
  /-- MONITOR_STEP (R252). -/
  | monitorStep (lane : LaneId) (func : Fin 8)
  /-- RELEASE_STEP (R146). -/
  | releaseStep (lane : LaneId) (task : Fin 8) (moves : List (Nat × Nat × Nat)) (frame : List (Nat × Nat × Nat))
  /-- RETAINED_COPY_COMPLETE (R165). -/
  | retainedCopyComplete
  /-- READ_VARIABLE (R170). -/
  | readVariable (r : Req) (p : Bytes)
  /-- WRITE_VARIABLE (R158). -/
  | writeVariable (r : Req) (p : Bytes)
  /-- CHANGE_CONSTANT (R158). -/
  | changeConstant (r : Req) (p : Bytes)
  /-- COMMIT_CHANGES (R160). -/
  | commitChanges (r : Req) (p : Bytes)
  /-- FORCE (R161). -/
  | forceCmd (r : Req) (p : Bytes)
  /-- UNFORCE (R162). -/
  | unforce (r : Req) (p : Bytes)
  /-- LIST_FORCES (R170). -/
  | listForces (r : Req) (p : Bytes)
  /-- DI_LEVEL_ACCEPTED (R217). -/
  | diLevelAccepted (lane : LaneId) (channel : Fin 24) (level : Bool) (ns : Nat)
  /-- WIRE_BREAK_DETECTION (R220). -/
  | wireBreakDetection (lane : LaneId) (channel : Fin 24) (broken : Bool)
  /-- MODULATOR_RESTART (R172). -/
  | modulatorRestart (lane : LaneId) (group : Fin 2) (now : Nat)
  /-- COARSE_DECIMATION (R205). -/
  | coarseDecimation (lane : LaneId) (channel : Fin 16) (sum : Nat) (now : Nat)
  /-- SD_CLOCK_LOSS (R185). -/
  | sdClockLoss (lane : LaneId) (group : Fin 2) (now : Nat)
  /-- SD_DATA_STUCK (R185). -/
  | sdDataStuck (lane : LaneId) (channel : Fin 16) (level : Bool) (now : Nat)
  /-- PRESET_SELECT (R182). -/
  | presetSelect (channel : Fin 16) (v : Fin 4)
  /-- SKEW_REMOVE_SELECT (R182). -/
  | skewRemoveSelect (channel : Fin 16) (on : Bool)
  /-- PRESET_SWITCH (R182). -/
  | presetSwitch (lane : LaneId)
  /-- AUTOZERO_REQUEST (R191). -/
  | autozeroRequest (channel : Fin 16)
  /-- AUTOZERO_END (R191). -/
  | autozeroEnd (lane : LaneId) (channel : Fin 16)
  /-- GET_CHANNEL (R195). -/
  | getChannel (r : Req) (p : Bytes)
  /-- SET_PRESET (R195). -/
  | setPreset (r : Req) (p : Bytes)
  /-- CALIBRATE_POINT (R196). -/
  | calibratePoint (r : Req) (p : Bytes)
  /-- CALIBRATION_AVERAGING_END (R196). -/
  | calibrationAveragingEnd
  /-- STORE_CALIBRATION (R197). -/
  | storeCalibration (r : Req) (p : Bytes)
  /-- CARRIER_UPDATE_POINT (R201). -/
  | carrierUpdatePoint (pair : Fin 6) (mid : Bool) (at_ : Nat)
  /-- PWM_EDGE (R202). -/
  | pwmEdge (pair : Fin 6) (at_ : Nat)
  /-- PAIR_ENABLE (R204). -/
  | pairEnable (v : Nat)
  /-- TRIP_IN_EDGE (R206). -/
  | tripInEdge (input : Fin 4) (high : Bool) (now : Nat)
  /-- TRIP_CLEAR_REQUEST (R209). -/
  | tripClearRequest (mask : Nat)
  /-- PULSE_ADJUST_CLEAR (R212). -/
  | pulseAdjustClear
  /-- PWM_READBACK (R210). -/
  | pwmReadback (output : Fin 12) (read : Nat) (durationNs : Nat) (now : Nat)
  /-- GET_TRIP_STATUS (R215). -/
  | getTripStatus (r : Req) (p : Bytes)
  /-- TRIP_CLEAR (R215). -/
  | tripClear (r : Req) (p : Bytes)
  /-- STAGE_FRAME_RECEIVED (R231). -/
  | stageFrameReceived (rxA : Rx) (rxB : Rx) (equal : Bool) (now : Nat)
  /-- STAGE_READBACK_SAMPLE (R224). -/
  | stageReadbackSample (readback : List Nat) (current : List Nat) (fsA : Nat) (fsB : Nat) (tpHigh : Nat) (now : Nat)
  /-- STAGE_WATCHDOG_TRIP (R231). -/
  | stageWatchdogTrip (now : Nat)
  /-- FIELD_SUPPLY_LOW (R229). -/
  | fieldSupplyLow (group : Fin 2) (v : Nat) (now : Nat)
  /-- FIELD_SUPPLY_RECOVERED (R229). -/
  | fieldSupplyRecovered (group : Fin 2) (now : Nat)
  /-- OUTPUT_OVERLOAD (R232). -/
  | outputOverload (channel : Fin 24) (thermal : Bool) (mA : Nat) (now : Nat)
  /-- READBACK_MISMATCH (R233). -/
  | readbackMismatch (channel : Fin 24) (now : Nat)
  /-- EXTERNAL_VOLTAGE_DETECTION (R234). -/
  | externalVoltageDetection (channel : Fin 24) (now : Nat)
  /-- SOURCE_EVALUATION (R235). -/
  | sourceEvaluation (channel : Fin 24) (high : Bool) (now : Nat)
  /-- SOURCE_SEARCH_END (R236). -/
  | sourceSearchEnd (channel : Fin 24) (partner : Option (Fin 24)) (now : Nat)
  /-- CHANNEL_CLEAR (R238). -/
  | channelClear (mask : Nat)
  /-- GET_IO_STATUS (R243). -/
  | getIoStatus (r : Req) (p : Bytes)
  /-- TEST_OUTPUT (R244). -/
  | testOutput (r : Req) (p : Bytes)
  /-- TEST_OUTPUT_END (R244). -/
  | testOutputEnd (now : Nat)
  /-- TEST_PULSE_START (R254). -/
  | testPulseStart (tp : Fin 4)
  /-- TEST_WINDOW_EVALUATION (R255). -/
  | testWindowEvaluation (tp : Fin 4) (before : List Nat) (during : List Nat) (after : List Nat)
  /-- TP_ABSENT_DETECTION (R254). -/
  | tpAbsentDetection (tp : Fin 4)
  /-- TP_RETRY (R254). -/
  | tpRetry (tp : Fin 4) (now : Nat)
  /-- OFF_PULSE_START (R258). -/
  | offPulseStart (channel : Fin 24) (now : Nat)
  /-- OFF_PULSE_END (R260). -/
  | offPulseEnd (channel : Fin 24) (left : Bool) (fallUs : Nat) (now : Nat)
  /-- GET_SAFETY_STATUS (R272). -/
  | getSafetyStatus (r : Req) (p : Bytes)
  /-- LINK_STATE_POLL (R275). -/
  | linkStatePoll (up : Nat) (now : Nat)
  /-- FRAME_RECEIVED (R296). -/
  | frameReceived (port : Fin 4) (frame : Bytes) (fcsOk : Bool) (now : Nat)
  /-- PD_TIMEOUT (R290). -/
  | pdTimeout (index : Nat) (now : Nat)
  /-- PD_PULL_REQUEST (R286). -/
  | pdPullRequest (index : Nat) (now : Nat)
  /-- PD_PUBLICATION (R287). -/
  | pdPublication (index : Nat) (now : Nat)
  /-- FRAME_TRANSMIT (R284). -/
  | frameTransmit (port : Fin 4) (now : Nat)
  /-- FRAME_TRANSMIT_COMPLETE (R297). -/
  | frameTransmitComplete (port : Fin 4) (now : Nat)
  /-- PRP_SUPERVISION_SEND (R278). -/
  | prpSupervisionSend (now : Nat)
  /-- PRP_NODE_FORGET (R278). -/
  | prpNodeForget (mac : Nat) (now : Nat)
  /-- PRP_PATH_LOSS (R279). -/
  | prpPathLoss (lan : Fin 2) (now : Nat)
  /-- ARP_RETRY (R281). -/
  | arpRetry (iface : Fin 2) (ip : Nat) (now : Nat)
  /-- ARP_CACHE_AGING (R281). -/
  | arpCacheAging (iface : Fin 2) (ip : Nat) (now : Nat)
  /-- IP_CONFIG_APPLY (R282). -/
  | ipConfigApply (now : Nat)
  /-- GRATUITOUS_ARP_REPEAT (R282). -/
  | gratuitousArpRepeat (now : Nat)
  /-- PORT_SUBSTITUTION (R280). -/
  | portSubstitution (now : Nat)
  /-- PARSER_DOORBELL (R294). -/
  | parserDoorbell (queue : Fin 64) (value : Nat) (descs : List Desc) (consumed : Nat) (now : Nat)
  /-- LANE_DOORBELL (R299). -/
  | laneDoorbell (lane : LaneId) (offset : Nat) (data : Bytes)
  /-- GET_PORT_STATUS (R305). -/
  | getPortStatus (r : Req) (p : Bytes)
  /-- SET_IP_CONFIG (R282). -/
  | setIpConfig (r : Req) (p : Bytes)
  /-- SUBSTITUTE_PORT (R280). -/
  | substitutePort (r : Req) (p : Bytes)
  /-- CAN_INTEGRATION_END (R308). -/
  | canIntegrationEnd (controller : Fin 4) (now : Nat)
  /-- CAN_FRAME_RECEIVED (R316). -/
  | canFrameReceived (controller : Fin 4) (id : Nat) (flags : Nat) (dlc : Nat) (data : Bytes) (stamp : Nat) (now : Nat)
  /-- CAN_TRANSMIT_ATTEMPT (R313). -/
  | canTransmitAttempt (controller : Fin 4) (now : Nat)
  /-- CAN_ATTEMPT_END (R314). -/
  | canAttemptEnd (controller : Fin 4) (result : CanEnd) (tdc : Option Nat) (now : Nat)
  /-- CAN_RECOVERY_COMPLETE (R318). -/
  | canRecoveryComplete (controller : Fin 4) (now : Nat)
  /-- RECOVER_REQUEST (R318). -/
  | recoverRequest (controller : Fin 4)
  /-- ABORT_BUF (R315). -/
  | abortBuf (controller : Fin 4) (mask : Nat)
  /-- ABORT_FIFO (R315). -/
  | abortFifo (controller : Fin 4)
  /-- GET_CAN_STATUS (R327). -/
  | getCanStatus (r : Req) (p : Bytes)
  /-- CAN_RECOVER (R318). -/
  | canRecover (r : Req) (p : Bytes)
  /-- CAN_SET_LISTEN (R319). -/
  | canSetListen (r : Req) (p : Bytes)
  /-- YB_CYCLE_START (R331). -/
  | ybCycleStart (diff : Int) (now : Nat)
  /-- YB_TRANSMIT_LATCH (R332). -/
  | ybTransmitLatch (slot : Nat)
  /-- YB_STATIC_SLOT_SEND (R335). -/
  | ybStaticSlotSend (slot : Nat) (mismatch : Option (Nat × Nat)) (now : Nat)
  /-- YB_FRAME_RECEIVED (R334). -/
  | ybFrameReceived (channel : Fin 2) (slot : Nat) (frame : Bytes) (coding : Bool) (inSlot : Bool) (deviation : Int) (stamp : Nat) (now : Nat)
  /-- YB_SLOT_END (R336). -/
  | ybSlotEnd (slot : Nat) (activity : Bool) (now : Nat)
  /-- YB_MINISLOT (R337). -/
  | ybMinislot (k : Nat) (j : Nat) (mismatch : Bool) (now : Nat)
  /-- YB_NETWORK_IDLE_TIME (R339). -/
  | ybNetworkIdleTime (tableOk : Bool) (now : Nat)
  /-- YB_LISTEN_TIMEOUT (R343). -/
  | ybListenTimeout (now : Nat)
  /-- CLAIM_RELEASE (R348). -/
  | claimRelease (slot : Nat)
  /-- GUARDIAN_BLOCK (R344). -/
  | guardianBlock (channels : Nat) (slot : Nat) (ns : Int) (now : Nat)
  /-- GET_YB_STATUS (R354). -/
  | getYbStatus (r : Req) (p : Bytes)
  /-- YB_RESTART (R354). -/
  | ybRestart (r : Req) (p : Bytes)
  /-- RACK_ENUMERATION (R357). -/
  | rackEnumeration (answers : List (Nat × Bytes)) (now : Nat)
  /-- RACK_IDENTIFY_RETRY (R357). -/
  | rackIdentifyRetry (station : Nat) (now : Nat)
  /-- RACK_EXCHANGE (R365). -/
  | rackExchange (station : Nat) (now : Nat)
  /-- RACK_REPLY_RECEIVED (R367). -/
  | rackReplyReceived (packet : Bytes) (now : Nat)
  /-- RACK_WINDOW_CLOSED_EMPTY (R368). -/
  | rackWindowClosedEmpty (now : Nat)
  /-- RACK_HOLD_EXPIRY (R368). -/
  | rackHoldExpiry (station : Nat) (now : Nat)
  /-- RACK_REQUEST_SEND (R359). -/
  | rackRequestSend (now : Nat)
  /-- RACK_POLL (R359). -/
  | rackPoll (station : Nat) (now : Nat)
  /-- TAG_TIMEOUT (R361). -/
  | tagTimeout (tag : Fin 64) (now : Nat)
  /-- TAG_QUARANTINE_END (R361). -/
  | tagQuarantineEnd (tag : Fin 64) (now : Nat)
  /-- PREFETCH_AGE_DISCARD (R364). -/
  | prefetchAgeDiscard (station : Nat) (now : Nat)
  /-- HOST_POLL (R371). -/
  | hostPoll (station : Nat) (now : Nat)
  /-- RACK_COMMAND_TIMEOUT (R421). -/
  | rackCommandTimeout (station : Nat) (now : Nat)
  /-- ENABLE_REQ (R369). -/
  | enableReq (mask : Nat)
  /-- GET_STATION_STATUS (R377). -/
  | getStationStatus (r : Req) (p : Bytes)
  /-- RACK_READ (R377). -/
  | rackRead (r : Req) (p : Bytes)
  /-- RACK_WRITE (R377). -/
  | rackWrite (r : Req) (p : Bytes)
  /-- RESCAN (R357). -/
  | rescan (r : Req) (p : Bytes)
  /-- PARTNER_LANE_STATE (R378). -/
  | partnerLaneState (lane : Fin 2) (up : Bool) (now : Nat)
  /-- HELLO_SEND (R381). -/
  | helloSend (now : Nat)
  /-- PARTNER_FRAME_RECEIVED (R379). -/
  | partnerFrameReceived (lane : Fin 2) (frame : Bytes) (now : Nat)
  /-- COPY_HEADER_SEND (R382). -/
  | copyHeaderSend (now : Nat)
  /-- COPY_DATA_SENT (R382). -/
  | copyDataSent (now : Nat)
  /-- COPY_HEADER_RECEIVED (R383). -/
  | copyHeaderReceived (lane : Fin 2) (frame : Bytes) (now : Nat)
  /-- COPY_END_RECEIVED (R383). -/
  | copyEndReceived (lane : Fin 2) (frame : Bytes) (now : Nat)
  /-- COPY_APPLY (R383). -/
  | copyApply
  /-- ACK_RECEIVED (R385). -/
  | ackReceived (lane : Fin 2) (frame : Bytes) (now : Nat)
  /-- COPY_MISS (R385). -/
  | copyMiss (now : Nat)
  /-- ACK_MISS (R385). -/
  | ackMiss (now : Nat)
  /-- ROLE_CHANGE (R381). -/
  | roleChange
  /-- GET_PARTNER_STATUS (R392). -/
  | getPartnerStatus (r : Req) (p : Bytes)
  /-- SWITCHOVER (R387). -/
  | switchover (r : Req) (p : Bytes)
  /-- SET_ROLE_POLICY (R392). -/
  | setRolePolicy (r : Req) (p : Bytes)
  /-- DRAM_WRITE_BACK (R395). -/
  | dramWriteBack (unit : Fin 5) (stripe : Nat)
  /-- PATROL_SCRUB (R402). -/
  | patrolScrub (unit : Fin 5) (stripe : Nat) (errs : List DramErr)
  /-- SRAM_SCRUB (R403). -/
  | sramScrub (unit : Fin 5) (found : List (Nat × Nat × Nat × Ecc))
  /-- NAND_PROGRAM (R405). -/
  | nandProgram (cut : Bool) (failed : Nat)
  /-- SPARE_COPY_COMPLETE (R409). -/
  | spareCopyComplete (cls : Nat) (unit : Nat) (index : Nat)
  /-- SUBSTITUTION_BOUNDARY (R409). -/
  | substitutionBoundary
  /-- LOCK_READ (R411). -/
  | lockRead (n : Fin 32) (master : Fin 4) (station : Nat) (lanes : Nat)
  /-- LOCK_RELEASE (R412). -/
  | lockRelease (n : Fin 32) (master : Fin 4)
  /-- GET_WEAR (R418). -/
  | getWear (r : Req) (p : Bytes)
  /-- SUBSTITUTE (R408). -/
  | substitute (r : Req) (p : Bytes)
  /-- COMMAND_PACKET_RECEIVED (R424). -/
  | commandPacketReceived (transport : Nat) (source : Nat) (port : Nat) (packet : Bytes) (now : Nat)
  /-- SESSION_EXPIRY (R427). -/
  | sessionExpiry (now : Nat)
  /-- MB_PUSH (R440). -/
  | mbPush (lane : LaneId) (n : Fin 16) (words : List Word) (eng : EngineId)
  /-- B2A_CONSUMED (R442). -/
  | b2aConsumed (n : Fin 16) (v : Nat)
  /-- MAILBOX_TAKE (R442). -/
  | mailboxTake (n : Fin 16) (count : Nat) (now : Nat)
  /-- MAILBOX_FRAME_RECEIVED (R446). -/
  | mailboxFrameReceived (station : Option (Fin 32)) (payload : Bytes) (now : Nat)
  /-- MAILBOX_RESEND (R446). -/
  | mailboxResend (n : Fin 16) (now : Nat)
  /-- MAILBOX_WAKE (R447). -/
  | mailboxWake (frame : Bytes) (now : Nat)
  /-- MB_NO_PROGRESS (R448). -/
  | mbNoProgress (n : Fin 16) (now : Nat)
  /-- MB_STATUS (R454). -/
  | mbStatus (r : Req) (p : Bytes)
  /-- BEGIN_IMAGE (R465). -/
  | beginImage (r : Req) (p : Bytes)
  /-- IMAGE_DATA (R465). -/
  | imageData (r : Req) (p : Bytes)
  /-- END_IMAGE (R465). -/
  | endImage (r : Req) (p : Bytes)
  /-- IMAGE_TRANSFER_ABANDON (R466). -/
  | imageTransferAbandon (now : Nat)
  /-- CONFIRM_IMAGE (R469). -/
  | confirmImage (r : Req) (p : Bytes)
  /-- GET_IMAGES (R482). -/
  | getImages (r : Req) (p : Bytes)
  /-- ATTEST (R479). -/
  | attest (r : Req) (p : Bytes)
  /-- GET_IDENTITY (R482). -/
  | getIdentity (r : Req) (p : Bytes)
  /-- SET_COMMAND_KEY (R473). -/
  | setCommandKey (r : Req) (p : Bytes)
  /-- GET_STATUS (R498). -/
  | getStatus (r : Req) (p : Bytes)
  /-- SET_MODE (R498). -/
  | setMode (r : Req) (p : Bytes)
  /-- SET_POWER (R486). -/
  | setPower (r : Req) (p : Bytes)
  /-- RESET_MODULE (R498). -/
  | resetModule (r : Req) (p : Bytes)
  /-- GET_FAULTS (R498). -/
  | getFaults (r : Req) (p : Bytes)
  /-- CLEAR_FAULTS (R498). -/
  | clearFaults (r : Req) (p : Bytes)
  /-- SAFE_REQ (R494). -/
  | safeReq (v : Nat)
  /-- TRACE_STREAM_SEND (R505). -/
  | traceStreamSend (sent : Nat) (now : Nat)
  /-- TRACE_OVERFLOW (R506). -/
  | traceOverflow
  /-- READ_TRACE (R517). -/
  | readTrace (r : Req) (p : Bytes)
  /-- SET_TRACE_FILTER (R517). -/
  | setTraceFilter (r : Req) (p : Bytes)
  /-- READ_COUNTERS (R517). -/
  | readCounters (r : Req) (p : Bytes)
  /-- SET_COUNTER_EVENT (R507). -/
  | setCounterEvent (r : Req) (p : Bytes)
  /-- INJECT (R509). -/
  | injectCmd (r : Req) (p : Bytes)
  /-- INJECTION_APPLICATION (R510). -/
  | injectionApplication (id : Nat) (now : Nat)
  /-- LIST_DETECTORS (R517). -/
  | listDetectors (r : Req) (p : Bytes)
  /-- REGISTER_WRITE (R21). -/
  | registerWrite (parser : Bool) (block : Fin 25) (off : Nat) (w : Nat)
  /-- PARSER_COMPARATOR_MISMATCH (R496). -/
  | parserComparatorMismatch (parity : Option Nat) (now : Nat)
  /-- DO_INPUT_SAMPLE (R222). -/
  | doInputSample (channel : Fin 16) (high : Bool)
  /-- TP_CURRENT_LIMIT (R254). -/
  | tpCurrentLimit (tp : Fin 4) (now : Nat)
  /-- CAN_RECEIVE_ERROR (R318). -/
  | canReceiveError (controller : Fin 4) (error : CanErr) (now : Nat)
  /-- PARSER_DATA_UNCORRECTABLE (R401). -/
  | parserDataUncorrectable (row : Nat) (word : Nat) (now : Nat)
  /-- PARSER_CODE_UNCORRECTABLE (R466). -/
  | parserCodeUncorrectable (addr : Nat) (now : Nat)
deriving DecidableEq, Repr

end Sys2Proof
end

