-- ==== Sys2Proof/Decode.lean ====
section
/-! DEFINITION. The words the spec gives the commands. No row of the opcode table gives bits; the one encoding that the spec gives
commands is that of the clause engine syllables (Tables 3.5 to 3.9), decoded and encoded here. -/
namespace Sys2Proof
open Sys2Proof.Machine

/-- The command that a word spells by the table's bits: no row of spec/opcode_table.json has any. -/
def decodeTableWord (_nbits _w : Nat) : Option Instr := none

/-! ### Formats (Table 3.5) -/

def encodeReg (op : BitVec 6) (f : RegSyl) : Word :=
  op ++ BitVec.ofBool f.d ++ BitVec.ofBool f.n ++ f.p ++ f.dst ++ f.sa ++ f.sb ++ f.x

def encodeImm (op : BitVec 6) (f : ImmSyl) : Word :=
  op ++ BitVec.ofBool f.d ++ BitVec.ofBool f.n ++ f.p ++ f.dst ++ f.sa ++ f.imm

def encodeTgt (op : BitVec 6) (f : TgtSyl) : Word :=
  op ++ BitVec.ofBool f.d ++ BitVec.ofBool f.n ++ f.p ++ f.rest ++ f.target

def encodeLp (op : BitVec 6) (f : LpSyl) : Word := op ++ f.rest ++ f.cnt ++ BitVec.ofBool f.lc ++ f.last

/-- Bits 31:26. -/
def opField (w : Word) : BitVec 6 := w.extractLsb' 26 6

def regFields (w : Word) : RegSyl :=
  ⟨w.getLsbD 25, w.getLsbD 24, w.extractLsb' 21 3, w.extractLsb' 15 6, w.extractLsb' 9 6, w.extractLsb' 3 6, w.extractLsb' 0 3⟩

/-- The carrier counts only when the field is 0x100 (R74). -/
def immFields (w carrier : Word) : ImmSyl :=
  let i := w.extractLsb' 0 9
  ⟨w.getLsbD 25, w.getLsbD 24, w.extractLsb' 21 3, w.extractLsb' 15 6, w.extractLsb' 9 6, i, if i = 0x100#9 then carrier else 0⟩

def tgtFields (w : Word) : TgtSyl :=
  ⟨w.getLsbD 25, w.getLsbD 24, w.extractLsb' 21 3, w.extractLsb' 13 8, w.extractLsb' 0 13⟩

def lpFields (w : Word) : LpSyl := ⟨w.extractLsb' 21 5, w.extractLsb' 14 7, w.getLsbD 13, w.extractLsb' 0 13⟩

/-! ### Syllables (Tables 3.7 to 3.9) -/

/-- An A-slot syllable; an opcode that Table 3.7 does not list is the NOP row with its word. -/
def decodeA (site : Site) (slot : ASlot) (w carrier : Word) : Instr :=
  match (opField w).toNat with
  | 0x01 => .add site slot (regFields w)
  | 0x02 => .sub site slot (regFields w)
  | 0x03 => .andOp site slot (regFields w)
  | 0x04 => .orOp site slot (regFields w)
  | 0x05 => .xorOp site slot (regFields w)
  | 0x06 => .andn site slot (regFields w)
  | 0x07 => .shl site slot (regFields w)
  | 0x08 => .shr site slot (regFields w)
  | 0x09 => .sar site slot (regFields w)
  | 0x0A => .ror site slot (regFields w)
  | 0x0B => .min site slot (regFields w)
  | 0x0C => .max site slot (regFields w)
  | 0x0D => .minu site slot (regFields w)
  | 0x0E => .maxu site slot (regFields w)
  | 0x0F => .sel site slot (regFields w)
  | 0x10 => .addi site slot (immFields w carrier)
  | 0x11 => .andi site slot (immFields w carrier)
  | 0x12 => .ori site slot (immFields w carrier)
  | 0x13 => .xori site slot (immFields w carrier)
  | 0x14 => .shli site slot (immFields w carrier)
  | 0x15 => .shri site slot (immFields w carrier)
  | 0x16 => .sari site slot (immFields w carrier)
  | 0x17 => .rori site slot (immFields w carrier)
  | 0x18 => .cmpeq site slot (regFields w)
  | 0x19 => .cmpne site slot (regFields w)
  | 0x1A => .cmplt site slot (regFields w)
  | 0x1B => .cmpltu site slot (regFields w)
  | 0x1C => .cmple site slot (regFields w)
  | 0x1D => .cmpleu site slot (regFields w)
  | 0x1E => .cmpeqi site slot (immFields w carrier)
  | 0x1F => .cmplti site slot (immFields w carrier)
  | 0x20 => .pand site slot (regFields w)
  | 0x21 => .por site slot (regFields w)
  | 0x22 => .pxor site slot (regFields w)
  | 0x23 => .pandn site slot (regFields w)
  | 0x24 => .mfs site slot (regFields w)
  | 0x25 => .mfsd site slot (regFields w)
  | 0x26 => .mts site slot (regFields w)
  | 0x27 => .movd site slot (regFields w)
  | 0x28 => .clz site slot (regFields w)
  | 0x29 => .popc site slot (regFields w)
  | 0x2A => .addd site slot (regFields w)
  | 0x2B => .subd site slot (regFields w)
  | 0x2C => .fneg site slot (regFields w)
  | 0x2D => .fabs site slot (regFields w)
  | _ => .nop site (match slot with | .a0 => .a0 | .a1 => .a1) w .clean

/-- An M-slot syllable (Table 3.8). -/
def decodeM (site : Site) (w : Word) : Instr :=
  match (opField w).toNat with
  | 0x01 => .mul site (regFields w)
  | 0x02 => .mulhs site (regFields w)
  | 0x03 => .mulhu site (regFields w)
  | 0x04 => .mulws site (regFields w)
  | 0x05 => .mulwu site (regFields w)
  | 0x06 => .divs site (regFields w)
  | 0x07 => .divu site (regFields w)
  | 0x08 => .rems site (regFields w)
  | 0x09 => .remu site (regFields w)
  | 0x10 => .faddS site (regFields w)
  | 0x11 => .fsubS site (regFields w)
  | 0x12 => .fmulS site (regFields w)
  | 0x13 => .fmaS site (regFields w)
  | 0x14 => .fnmaS site (regFields w)
  | 0x15 => .fminS site (regFields w)
  | 0x16 => .fmaxS site (regFields w)
  | 0x17 => .fdivS site (regFields w)
  | 0x18 => .fsqrtS site (regFields w)
  | 0x19 => .fcmpeqS site (regFields w)
  | 0x1A => .fcmpltS site (regFields w)
  | 0x1B => .fcmpleS site (regFields w)
  | 0x1C => .fcmpunS site (regFields w)
  | 0x1D => .fcvtSW site (regFields w)
  | 0x1E => .fcvtnWS site (regFields w)
  | 0x1F => .fcvtzWS site (regFields w)
  | 0x20 => .faddD site (regFields w)
  | 0x21 => .fsubD site (regFields w)
  | 0x22 => .fmulD site (regFields w)
  | 0x23 => .fmaD site (regFields w)
  | 0x24 => .fnmaD site (regFields w)
  | 0x25 => .fminD site (regFields w)
  | 0x26 => .fmaxD site (regFields w)
  | 0x27 => .fdivD site (regFields w)
  | 0x28 => .fsqrtD site (regFields w)
  | 0x29 => .fcmpeqD site (regFields w)
  | 0x2A => .fcmpltD site (regFields w)
  | 0x2B => .fcmpleD site (regFields w)
  | 0x2C => .fcmpunD site (regFields w)
  | 0x2D => .fcvtDW site (regFields w)
  | 0x2E => .fcvtnWD site (regFields w)
  | 0x2F => .fcvtzWD site (regFields w)
  | 0x30 => .fcvtDS site (regFields w)
  | 0x31 => .fcvtSD site (regFields w)
  | _ => .nop site .m w .clean

/-- An L-slot syllable (Table 3.9). -/
def decodeL (site : Site) (w carrier : Word) : Instr :=
  match (opField w).toNat with
  | 0x01 => .ldw site (immFields w carrier) .clean
  | 0x02 => .ldh site (immFields w carrier) .clean
  | 0x03 => .ldhu site (immFields w carrier) .clean
  | 0x04 => .ldb site (immFields w carrier) .clean
  | 0x05 => .ldbu site (immFields w carrier) .clean
  | 0x06 => .ldd site (immFields w carrier) .clean
  | 0x08 => .stw site (immFields w carrier) .clean
  | 0x09 => .sth site (immFields w carrier) .clean
  | 0x0A => .stb site (immFields w carrier) .clean
  | 0x0B => .std site (immFields w carrier) .clean
  | 0x0C => .ldwx site (regFields w) .clean
  | 0x0D => .lddx site (regFields w) .clean
  | 0x0E => .stwx site (regFields w) .clean
  | 0x0F => .stdx site (regFields w) .clean
  | 0x10 => .br site (tgtFields w)
  | 0x11 => .bri site (regFields w)
  | 0x12 => .loopi site (lpFields w)
  | 0x13 => .loopr site (lpFields w)
  | 0x14 => .endOp site (w.extractLsb' 0 26)
  | 0x15 => .xset site (regFields w)
  | _ => .nop site .l w .clean

/-- The syllable of a command that a slot issues; none for the other commands. -/
def Instr.syllable : Instr → Option Word
  | .nop _ _ w _ => some w
  | .add _ _ f => some (encodeReg 0x01#6 f)
  | .sub _ _ f => some (encodeReg 0x02#6 f)
  | .andOp _ _ f => some (encodeReg 0x03#6 f)
  | .orOp _ _ f => some (encodeReg 0x04#6 f)
  | .xorOp _ _ f => some (encodeReg 0x05#6 f)
  | .andn _ _ f => some (encodeReg 0x06#6 f)
  | .shl _ _ f => some (encodeReg 0x07#6 f)
  | .shr _ _ f => some (encodeReg 0x08#6 f)
  | .sar _ _ f => some (encodeReg 0x09#6 f)
  | .ror _ _ f => some (encodeReg 0x0A#6 f)
  | .min _ _ f => some (encodeReg 0x0B#6 f)
  | .max _ _ f => some (encodeReg 0x0C#6 f)
  | .minu _ _ f => some (encodeReg 0x0D#6 f)
  | .maxu _ _ f => some (encodeReg 0x0E#6 f)
  | .sel _ _ f => some (encodeReg 0x0F#6 f)
  | .addi _ _ f => some (encodeImm 0x10#6 f)
  | .andi _ _ f => some (encodeImm 0x11#6 f)
  | .ori _ _ f => some (encodeImm 0x12#6 f)
  | .xori _ _ f => some (encodeImm 0x13#6 f)
  | .shli _ _ f => some (encodeImm 0x14#6 f)
  | .shri _ _ f => some (encodeImm 0x15#6 f)
  | .sari _ _ f => some (encodeImm 0x16#6 f)
  | .rori _ _ f => some (encodeImm 0x17#6 f)
  | .cmpeq _ _ f => some (encodeReg 0x18#6 f)
  | .cmpne _ _ f => some (encodeReg 0x19#6 f)
  | .cmplt _ _ f => some (encodeReg 0x1A#6 f)
  | .cmpltu _ _ f => some (encodeReg 0x1B#6 f)
  | .cmple _ _ f => some (encodeReg 0x1C#6 f)
  | .cmpleu _ _ f => some (encodeReg 0x1D#6 f)
  | .cmpeqi _ _ f => some (encodeImm 0x1E#6 f)
  | .cmplti _ _ f => some (encodeImm 0x1F#6 f)
  | .pand _ _ f => some (encodeReg 0x20#6 f)
  | .por _ _ f => some (encodeReg 0x21#6 f)
  | .pxor _ _ f => some (encodeReg 0x22#6 f)
  | .pandn _ _ f => some (encodeReg 0x23#6 f)
  | .mfs _ _ f => some (encodeReg 0x24#6 f)
  | .mfsd _ _ f => some (encodeReg 0x25#6 f)
  | .mts _ _ f => some (encodeReg 0x26#6 f)
  | .movd _ _ f => some (encodeReg 0x27#6 f)
  | .clz _ _ f => some (encodeReg 0x28#6 f)
  | .popc _ _ f => some (encodeReg 0x29#6 f)
  | .addd _ _ f => some (encodeReg 0x2A#6 f)
  | .subd _ _ f => some (encodeReg 0x2B#6 f)
  | .fneg _ _ f => some (encodeReg 0x2C#6 f)
  | .fabs _ _ f => some (encodeReg 0x2D#6 f)
  | .mul _ f => some (encodeReg 0x01#6 f)
  | .mulhs _ f => some (encodeReg 0x02#6 f)
  | .mulhu _ f => some (encodeReg 0x03#6 f)
  | .mulws _ f => some (encodeReg 0x04#6 f)
  | .mulwu _ f => some (encodeReg 0x05#6 f)
  | .divs _ f => some (encodeReg 0x06#6 f)
  | .divu _ f => some (encodeReg 0x07#6 f)
  | .rems _ f => some (encodeReg 0x08#6 f)
  | .remu _ f => some (encodeReg 0x09#6 f)
  | .faddS _ f => some (encodeReg 0x10#6 f)
  | .fsubS _ f => some (encodeReg 0x11#6 f)
  | .fmulS _ f => some (encodeReg 0x12#6 f)
  | .fmaS _ f => some (encodeReg 0x13#6 f)
  | .fnmaS _ f => some (encodeReg 0x14#6 f)
  | .fminS _ f => some (encodeReg 0x15#6 f)
  | .fmaxS _ f => some (encodeReg 0x16#6 f)
  | .fdivS _ f => some (encodeReg 0x17#6 f)
  | .fsqrtS _ f => some (encodeReg 0x18#6 f)
  | .fcmpeqS _ f => some (encodeReg 0x19#6 f)
  | .fcmpltS _ f => some (encodeReg 0x1A#6 f)
  | .fcmpleS _ f => some (encodeReg 0x1B#6 f)
  | .fcmpunS _ f => some (encodeReg 0x1C#6 f)
  | .fcvtSW _ f => some (encodeReg 0x1D#6 f)
  | .fcvtnWS _ f => some (encodeReg 0x1E#6 f)
  | .fcvtzWS _ f => some (encodeReg 0x1F#6 f)
  | .faddD _ f => some (encodeReg 0x20#6 f)
  | .fsubD _ f => some (encodeReg 0x21#6 f)
  | .fmulD _ f => some (encodeReg 0x22#6 f)
  | .fmaD _ f => some (encodeReg 0x23#6 f)
  | .fnmaD _ f => some (encodeReg 0x24#6 f)
  | .fminD _ f => some (encodeReg 0x25#6 f)
  | .fmaxD _ f => some (encodeReg 0x26#6 f)
  | .fdivD _ f => some (encodeReg 0x27#6 f)
  | .fsqrtD _ f => some (encodeReg 0x28#6 f)
  | .fcmpeqD _ f => some (encodeReg 0x29#6 f)
  | .fcmpltD _ f => some (encodeReg 0x2A#6 f)
  | .fcmpleD _ f => some (encodeReg 0x2B#6 f)
  | .fcmpunD _ f => some (encodeReg 0x2C#6 f)
  | .fcvtDW _ f => some (encodeReg 0x2D#6 f)
  | .fcvtnWD _ f => some (encodeReg 0x2E#6 f)
  | .fcvtzWD _ f => some (encodeReg 0x2F#6 f)
  | .fcvtDS _ f => some (encodeReg 0x30#6 f)
  | .fcvtSD _ f => some (encodeReg 0x31#6 f)
  | .ldw _ f _ => some (encodeImm 0x01#6 f)
  | .ldh _ f _ => some (encodeImm 0x02#6 f)
  | .ldhu _ f _ => some (encodeImm 0x03#6 f)
  | .ldb _ f _ => some (encodeImm 0x04#6 f)
  | .ldbu _ f _ => some (encodeImm 0x05#6 f)
  | .ldd _ f _ => some (encodeImm 0x06#6 f)
  | .stw _ f _ => some (encodeImm 0x08#6 f)
  | .sth _ f _ => some (encodeImm 0x09#6 f)
  | .stb _ f _ => some (encodeImm 0x0A#6 f)
  | .std _ f _ => some (encodeImm 0x0B#6 f)
  | .ldwx _ f _ => some (encodeReg 0x0C#6 f)
  | .lddx _ f _ => some (encodeReg 0x0D#6 f)
  | .stwx _ f _ => some (encodeReg 0x0E#6 f)
  | .stdx _ f _ => some (encodeReg 0x0F#6 f)
  | .br _ f => some (encodeTgt 0x10#6 f)
  | .bri _ f => some (encodeReg 0x11#6 f)
  | .loopi _ f => some (encodeLp 0x12#6 f)
  | .loopr _ f => some (encodeLp 0x13#6 f)
  | .endOp _ r => some (0x14#6 ++ r)
  | .xset _ f => some (encodeReg 0x15#6 f)
  | _ => none

/-- An IMM syllable with the long form: A0's long immediate stands in A1, L's in M, and a carrier is issued as NOP (R74). -/
def takesLong (imm : List Nat) (w : Word) : Bool := imm.contains (opField w).toNat && w.extractLsb' 0 9 == 0x100#9

def immOpsA : List Nat := [16, 17, 18, 19, 20, 21, 22, 23, 30, 31]
def immOpsL : List Nat := [1, 2, 3, 4, 5, 6, 8, 9, 10, 11]

/-- A bundle's 128 bits as the commands of its four slots, in the order A0, A1, M, L (R70). -/
def decodeBundle (site : Site) (b : BitVec 128) : List Instr :=
  let w := fun i => b.extractLsb' (32 * i) 32
  let useA := takesLong immOpsA (w 0)
  let useM := takesLong immOpsL (w 3)
  [decodeA site .a0 (w 0) (w 1), decodeA site .a1 (if useA then 0#32 else w 1) 0#32,
   decodeM site (if useM then 0#32 else w 2), decodeL site (w 3) (w 2)]

end Sys2Proof
end

