-- ==== Sys2Proof/Machine/Float.lean ====
section
/-! DEFINITION. Binary floating point for the M slot (R82): IEEE 754 binary32 and binary64 in exact integer arithmetic, rounded
once to nearest, ties to even, with the module's own cases of Table 3.11. -/
namespace Sys2Proof.Machine

/-- A binary format: precision (24 or 53) and width. -/
structure FFmt where
  prec : Nat
  width : Nat
deriving DecidableEq, Repr

def f32 : FFmt := ⟨24, 32⟩
def f64 : FFmt := ⟨53, 64⟩

/-- Bits of the exponent field. -/
def FFmt.ebits (f : FFmt) : Nat := f.width - f.prec

/-- The all-ones exponent field. -/
def FFmt.emax (f : FFmt) : Nat := 2 ^ f.ebits - 1

/-- The exponent of the smallest subnormal's unit: −149 or −1074. -/
def FFmt.qmin (f : FFmt) : Int := 3 - (2 : Int) ^ (f.ebits - 1) - f.prec

/-- The flags an operation raises, as FLAGS bits (Table 3.3). -/
def flagIDZ : Nat := 1
def flagNV : Nat := 2
def flagDZ : Nat := 4
def flagOF : Nat := 8
def flagUF : Nat := 16
def flagNX : Nat := 32

/-- An unpacked operand. -/
inductive FVal where
  | nan (signalling : Bool)
  | inf (neg : Bool)
  /-- (−1)^neg × m × 2^e; m = 0 is a zero. -/
  | fin (neg : Bool) (m : Nat) (e : Int)
deriving DecidableEq, Repr

def FFmt.inf (f : FFmt) (neg : Bool) : Nat := b2n neg * 2 ^ (f.width - 1) + f.emax * 2 ^ (f.prec - 1)

/-- The canonical quiet NaN (R82): 0x7FC0_0000 and 0x7FF8_0000_0000_0000. -/
def FFmt.qnan (f : FFmt) : Nat := f.emax * 2 ^ (f.prec - 1) + 2 ^ (f.prec - 2)

def FFmt.zero (f : FFmt) (neg : Bool) : Nat := b2n neg * 2 ^ (f.width - 1)

def FFmt.unpack (f : FFmt) (v : Nat) : FVal :=
  let neg := v.testBit (f.width - 1)
  let ex := bits v (f.prec - 1) f.ebits
  let fr := v % 2 ^ (f.prec - 1)
  if ex = f.emax then
    if fr = 0 then .inf neg else .nan (!fr.testBit (f.prec - 2))
  else if ex = 0 then .fin neg fr f.qmin
  else .fin neg (fr + 2 ^ (f.prec - 1)) (f.qmin + (ex - 1 : Nat))

/-- Number of bits of a mantissa. -/
def bitLen (m : Nat) : Nat := if m = 0 then 0 else Nat.log2 m + 1

/-- m × 2^(−sh), rounded to nearest even; `sticky` says that a positive amount below the last bit of m was cut off. The second
component says whether the result is inexact. -/
def rshiftEven (m sh : Nat) (sticky : Bool) : Nat × Bool :=
  let q := m / 2 ^ sh
  let r := m % 2 ^ sh
  let half := 2 ^ sh / 2
  let up := if sh = 0 then false else
    decide (half < r) || (decide (r = half) && (sticky || q % 2 == 1))
  (if up then q + 1 else q, decide (r ≠ 0) || sticky)

/-- Round (−1)^neg × (m, and a sticky tail) × 2^e into the format: the result's bits and its flags. Tininess is detected after
rounding, and UF is set only when the result is also inexact (Table 3.3). -/
def FFmt.round (f : FFmt) (neg : Bool) (m : Nat) (e : Int) (sticky : Bool) : Nat × Nat :=
  if m = 0 ∧ !sticky then (f.zero neg, 0) else
  let eU : Int := e + bitLen m - f.prec
  let eL : Int := max eU f.qmin
  let sh : Int := eL - e
  let qi : Nat × Bool := if sh ≤ 0 then (m * 2 ^ (-sh).toNat, sticky) else rshiftEven m sh.toNat sticky
  let body := (eL - f.qmin).toNat * 2 ^ (f.prec - 1) + qi.1
  let unbounded : Nat := if eU - e ≤ 0 then m * 2 ^ (e - eU).toNat else (rshiftEven m (eU - e).toNat sticky).1
  let tiny := decide (eU < f.qmin) && !(decide (eU + 1 = f.qmin) && decide (unbounded = 2 ^ f.prec))
  if f.emax * 2 ^ (f.prec - 1) ≤ body then (f.inf neg, flagOF ||| flagNX)
  else (b2n neg * 2 ^ (f.width - 1) + body,
        if qi.2 then (if tiny then flagUF ||| flagNX else flagNX) else 0)

def FVal.isNan : FVal → Bool
  | .nan _ => true | _ => false

def FVal.isSnan : FVal → Bool
  | .nan s => s | _ => false

/-- The flags of NaN operands of an arithmetic operation: NV for a signalling one. -/
def nanFlags (l : List FVal) : Nat := if l.any FVal.isSnan then flagNV else 0

def signed (neg : Bool) (m : Nat) : Int := if neg then -(m : Int) else m

/-- The exact sum of two finite values, rounded. A zero sum is +0 unless both addends are −0. -/
def FFmt.addFin (f : FFmt) (n1 : Bool) (m1 : Nat) (e1 : Int) (n2 : Bool) (m2 : Nat) (e2 : Int) : Nat × Nat :=
  let e := min e1 e2
  let s := signed n1 (m1 * 2 ^ (e1 - e).toNat) + signed n2 (m2 * 2 ^ (e2 - e).toNat)
  if s = 0 then (f.zero (n1 && n2), 0) else f.round (decide (s < 0)) s.natAbs e false

def FFmt.addV (f : FFmt) (a b : FVal) : Nat × Nat :=
  match a, b with
  | .nan s, y => (f.qnan, nanFlags [.nan s, y])
  | x, .nan s => (f.qnan, nanFlags [x, .nan s])
  | .inf s, .inf t => if s = t then (f.inf s, 0) else (f.qnan, flagNV)
  | .inf s, _ => (f.inf s, 0)
  | _, .inf t => (f.inf t, 0)
  | .fin n1 m1 e1, .fin n2 m2 e2 => f.addFin n1 m1 e1 n2 m2 e2

def FVal.negate : FVal → FVal
  | .nan s => .nan s
  | .inf s => .inf (!s)
  | .fin n m e => .fin (!n) m e

def FFmt.add (f : FFmt) (a b : Nat) : Nat × Nat := f.addV (f.unpack a) (f.unpack b)

/-- a − b; the sign of a NaN operand does not matter (R82). -/
def FFmt.sub (f : FFmt) (a b : Nat) : Nat × Nat := f.addV (f.unpack a) (f.unpack b).negate

def FFmt.mul (f : FFmt) (a b : Nat) : Nat × Nat :=
  match f.unpack a, f.unpack b with
  | .nan s, y => (f.qnan, nanFlags [.nan s, y])
  | x, .nan s => (f.qnan, nanFlags [x, .nan s])
  | .inf s, .inf t => (f.inf (s != t), 0)
  | .inf s, .fin t m _ => if m = 0 then (f.qnan, flagNV) else (f.inf (s != t), 0)
  | .fin s m _, .inf t => if m = 0 then (f.qnan, flagNV) else (f.inf (s != t), 0)
  | .fin s m e, .fin t n g => f.round (s != t) (m * n) (e + g) false

/-- a × b + d with one rounding; `negProd` negates the product (FNMA). Infinity × 0 sets NV whatever d is (Table 3.11). -/
def FFmt.fma (f : FFmt) (negProd : Bool) (a b d : Nat) : Nat × Nat :=
  let x := f.unpack a
  let y := f.unpack b
  let z := f.unpack d
  let zeroTimesInf := match x, y with
    | .inf _, .fin _ m _ => decide (m = 0)
    | .fin _ m _, .inf _ => decide (m = 0)
    | _, _ => false
  if zeroTimesInf then (f.qnan, flagNV)
  else if x.isNan || y.isNan || z.isNan then (f.qnan, nanFlags [x, y, z])
  else match x, y with
    | .fin s m e, .fin t n g => f.addV (.fin ((s != t) != negProd) (m * n) (e + g)) z
    | .inf s, .fin t _ _ => f.addV (.inf ((s != t) != negProd)) z
    | .inf s, .inf t => f.addV (.inf ((s != t) != negProd)) z
    | .fin s _ _, .inf t => f.addV (.inf ((s != t) != negProd)) z
    | _, _ => (f.qnan, 0)

def FFmt.div (f : FFmt) (a b : Nat) : Nat × Nat :=
  match f.unpack a, f.unpack b with
  | .nan s, y => (f.qnan, nanFlags [.nan s, y])
  | x, .nan s => (f.qnan, nanFlags [x, .nan s])
  | .inf _, .inf _ => (f.qnan, flagNV)
  | .inf s, .fin t _ _ => (f.inf (s != t), 0)
  | .fin s _ _, .inf t => (f.zero (s != t), 0)
  | .fin s m e, .fin t n g =>
    if n = 0 then (if m = 0 then (f.qnan, flagNV) else (f.inf (s != t), flagDZ))
    else
      let k := 2 * f.prec + 4
      let num := m * 2 ^ k
      f.round (s != t) (num / n) (e - g - k) (decide (num % n ≠ 0))

/-- The integer square root by binary digits: `fuel` digits from the highest down. -/
def isqrtAux (n : Nat) : Nat → Nat → Nat
  | 0, r => r
  | k + 1, r => let c := r + 2 ^ k; isqrtAux n k (if c * c ≤ n then c else r)

def isqrt (n : Nat) : Nat := isqrtAux n (bitLen n / 2 + 1) 0

def FFmt.sqrt (f : FFmt) (a : Nat) : Nat × Nat :=
  match f.unpack a with
  | .nan s => (f.qnan, if s then flagNV else 0)
  | .inf s => if s then (f.qnan, flagNV) else (f.inf false, 0)
  | .fin s m e =>
    if m = 0 then (f.zero s, 0)
    else if s then (f.qnan, flagNV)
    else
      let k : Nat := 2 * f.prec + 4 + (if (e % 2) = 0 then 0 else 1)
      let n := m * 2 ^ k
      let r := isqrt n
      f.round false r ((e - k) / 2) (decide (r * r ≠ n))

/-- Order of two finite or infinite values: −1, 0, 1; the zeros are equal. -/
def FVal.cmp : FVal → FVal → Int
  | .inf s, .inf t => if s = t then 0 else if s then -1 else 1
  | .inf s, _ => if s then -1 else 1
  | _, .inf t => if t then 1 else -1
  | .fin s m e, .fin t n g =>
    let lo := min e g
    let x := signed s (m * 2 ^ (e - lo).toNat)
    let y := signed t (n * 2 ^ (g - lo).toNat)
    if x < y then -1 else if x = y then 0 else 1
  | _, _ => 0

/-- FCMPEQ (Table 3.11): quiet. -/
def FFmt.cmpEq (f : FFmt) (a b : Nat) : Bool × Nat :=
  let x := f.unpack a
  let y := f.unpack b
  if x.isNan || y.isNan then (false, nanFlags [x, y]) else (decide (x.cmp y = 0), 0)

/-- FCMPUN (Table 3.11): quiet. -/
def FFmt.cmpUn (f : FFmt) (a b : Nat) : Bool × Nat :=
  let x := f.unpack a
  let y := f.unpack b
  (x.isNan || y.isNan, nanFlags [x, y])

/-- FCMPLT (Table 3.11): signalling, NV for any NaN. -/
def FFmt.cmpLt (f : FFmt) (a b : Nat) : Bool × Nat :=
  let x := f.unpack a
  let y := f.unpack b
  if x.isNan || y.isNan then (false, flagNV) else (decide (x.cmp y < 0), 0)

/-- FCMPLE (Table 3.11): signalling. -/
def FFmt.cmpLe (f : FFmt) (a b : Nat) : Bool × Nat :=
  let x := f.unpack a
  let y := f.unpack b
  if x.isNan || y.isNan then (false, flagNV) else (decide (x.cmp y ≤ 0), 0)

/-- FMIN and FMAX (Table 3.11): NaN operands give the canonical NaN; −0 lies below +0. -/
def FFmt.minMax (f : FFmt) (wantMax : Bool) (a b : Nat) : Nat × Nat :=
  let x := f.unpack a
  let y := f.unpack b
  if x.isNan || y.isNan then (f.qnan, nanFlags [x, y])
  else
    let c := x.cmp y
    let aNeg := a.testBit (f.width - 1)
    let pickA := if c = 0 then (if wantMax then !aNeg else aNeg) else if wantMax then decide (0 < c) else decide (c < 0)
    (if pickA then a else b, 0)

/-- Signed 32-bit integer to the format. -/
def FFmt.ofInt (f : FFmt) (i : Int) : Nat × Nat :=
  if i = 0 then (f.zero false, 0) else f.round (decide (i < 0)) i.natAbs 0 false

/-- Conversion to a signed 32-bit integer (Table 3.11), `even` to nearest even, else toward zero; the result's 32 bits. -/
def FFmt.toInt (f : FFmt) (even : Bool) (a : Nat) : Nat × Nat :=
  match f.unpack a with
  | .nan _ => (0, flagNV)
  | .inf s => (if s then 0x80000000 else 0x7FFFFFFF, flagNV)
  | .fin s m e =>
    let qi : Nat × Bool :=
      if 0 ≤ e then (m * 2 ^ e.toNat, false)
      else if even then rshiftEven m (-e).toNat false
      else (m / 2 ^ (-e).toNat, decide (m % 2 ^ (-e).toNat ≠ 0))
    let v := signed s qi.1
    if v > 2147483647 then (0x7FFFFFFF, flagNV)
    else if v < -2147483648 then (0x80000000, flagNV)
    else (ofSigned 32 v, if qi.2 then flagNX else 0)

/-- Conversion between the formats (FCVT.D.S is exact, FCVT.S.D rounds). -/
def FFmt.convert (src dst : FFmt) (a : Nat) : Nat × Nat :=
  match src.unpack a with
  | .nan s => (dst.qnan, if s then flagNV else 0)
  | .inf s => (dst.inf s, 0)
  | .fin s m e => dst.round s m e false

end Sys2Proof.Machine
end

