-- ==== Sys2Proof/Machine/State/Base.lean ====
section
/-! DEFINITION. Structures of the state: time bases (chapter 02), faults, power and backup domain (chapter 19), trace,
counters and injections (chapter 20), command packets and mailboxes (chapter 17). The default of a field is its value at
`State.reset`; `FREE RESET` marks a value the spec does not give (assumption log 2). -/
namespace Sys2Proof.Machine

/-! ### Time (chapter 02) -/

/-- Tracker states (Table 2.5); codes of TB1_STATE (Table 2.9). -/
inductive TrackerState where
  | notAcquired | acquiring | locked | holdover
deriving DecidableEq, Repr

/-- Table 2.9. -/
def TrackerState.code : TrackerState → Nat
  | .notAcquired => 0 | .acquiring => 1 | .locked => 2 | .holdover => 3

/-- One PTP tracker (R42 to R45, Table 2.11). -/
structure Tracker where
  state : TrackerState := .notAcquired
  /-- A step has been used in this acquisition epoch. -/
  stepUsed : Bool := false
  /-- Port of the master: 0 none, 1 E0, 2 E1, 3 E2. -/
  port : Nat := 0
  /-- The tracker's value now, ns, and its fraction in 10^-9 ns. -/
  value : Nat := 0
  frac : Nat := 0
  clockClass : Nat := 0
  lossCount : Nat := 0
  masterId : Nat := 0
  masterOffset : Int := 0
  ratePpb : Int := 0
  meanPathDelay : Nat := 0
  stepNs : Int := 0
  lastSyncTb0 : Nat := 0
  /-- Consecutive offset measurements of ACQUIRING, newest last, at most 8. -/
  offsets : List Int := []
  /-- LOSS_A or LOSS_B: PTP_DOMAIN_LOSS is active. -/
  loss : Bool := false
  /-- Hub time (ns) at which LOCKED was entered, while LOCKED. -/
  lockedAt : Nat := 0
  utcOffset : Int := 0
  utcValid : Bool := false
  /-- Sequence number of the last delay request sent. -/
  delaySeq : Nat := 0
deriving DecidableEq, Repr

/-- TB3's reference (TB3_REF, Table 2.9). -/
inductive Tb3Ref where
  | seeded | tb1 | tb2 | holdover
deriving DecidableEq, Repr

def Tb3Ref.code : Tb3Ref → Nat
  | .seeded => 0 | .tb1 => 1 | .tb2 => 2 | .holdover => 3

/-- The time-base unit. -/
structure Time where
  /-- The hub reference clock in ns: the model's own measure of elapsed time, which the commands' instants advance. -/
  now : Nat := 0
  /-- The tick runs (R27). -/
  running : Bool := false
  tick : Nat := 0
  /-- The number of the next tick to start (R30). -/
  nextTick : Nat := 0
  /-- The next tick start is the first since the tick was started (R32). -/
  first : Bool := true
  /-- Hub time of the present tick's start. -/
  tickAt : Nat := 0
  /-- TB0 at the start of the present tick (R40). -/
  tb0 : Nat := 0
  /-- What TB0 had counted of the last tick when the tick stopped (R41). -/
  tb0Run : Nat := 0
  /-- STEER_PPB in force in this sentence, and the value set for the next one (R39, R49). -/
  steerPpb : Int := 0
  steerNext : Int := 0
  /-- The steering accumulator of R39 (identical in every lane). -/
  steerAcc : Int := 0
  tb3 : Nat := 0
  tb3Frac : Nat := 0
  tb3Ref : Tb3Ref := .seeded
  tb3Stepped : Bool := false
  /-- Slew offset of R47, and the part of the next ns already run off, in 10^-6 ns. -/
  slew : Int := 0
  slewFrac : Nat := 0
  /-- Rate of the last reference, ppb (R46 holdover). -/
  tb3Rate : Int := 0
  /-- Hub time at which the slew was last reduced. -/
  slewAt : Nat := 0
  select : Nat := 1
  steerEn : Bool := false
  /-- Tick steering in force in this sentence (R49, R50). -/
  steerActive : Bool := false
  utcOffset : Int := 0
  utcValid : Bool := false
  tb4 : Nat := 0
  tb4Valid : Bool := false
  /-- Trackers 1 and 2. -/
  trackers : Vector Tracker 2 := Vector.replicate 2 {}
  /-- The last write of the RTC (R51). -/
  rtcWrittenAt : Nat := 0
  /-- RTC_VALID: the RTC held time through OFF, as found at boot (R52). -/
  rtcHeld : Bool := false
  /-- A start marker is out: the start instant it names, hub ns (R32). -/
  startAt : Option Nat := none
  /-- ALIGN_L0_L1, ALIGN_L2_L3: signed offsets of the previous tick; none for a lane not powered. -/
  align : Vector (Option Int) 4 := Vector.replicate 4 none
deriving DecidableEq, Repr

/-- Record 0x0540 TIME_BASE (Table 2.12). -/
structure TimeBaseCfg where
  steer : Bool := false
  select : Nat := 1
  returnS : Nat := 10
  rtcUpdateS : Nat := 64
  /-- Receive then transmit latency of E0 to E3. -/
  phy : List Nat := List.replicate 8 0
deriving DecidableEq, Repr

/-- Record 0x0541 PTP_DOMAIN (Table 2.13). -/
structure PtpCfg where
  domain : Nat
  p2p : Bool
  udp : Bool
  announceTimeout : Nat
  syncTimeout : Nat
  logDelayReq : Int
  ports : Nat
deriving DecidableEq, Repr

/-! ### Faults (chapter 19) -/

/-- A fault record (R497, Table 19.14); `key` names the resource and decides what repeats it (R539). -/
structure FaultRec where
  seq : Nat
  name : FaultName
  origin : Origin
  lanes : Nat
  active : Bool
  tick : Nat
  tb3 : Nat
  /-- Detail bytes 0 to 11 as fields (bytes, value), in order; the rest is zero. -/
  detail : List (Nat × Nat)
  repeats : Nat
  key : List Nat
  /-- Tick and lanes of the last occurrence: the model's own, for the owning chapters' repeat rules. -/
  lastTick : Nat
  lastLanes : Nat
deriving DecidableEq, Repr

structure Faults where
  /-- The ring of 8,192 records in MRAM, newest first (R496). FREE RESET: empty. -/
  log : List FaultRec := []
  /-- Sequence of the newest record. FREE RESET: 0, no record since manufacture. -/
  seq : Nat := 0
  faultNew : Bool := false
  warningSet : Bool := false
deriving DecidableEq, Repr

/-! ### Power (chapter 19) -/

/-- What a confirmed SET_MODE into VOTED or DUPLEX is waiting for (R484, R163). -/
structure ModePending where
  target : Mode
  warm : Bool
  /-- ACTIVE lane mask. -/
  mask : Nat
deriving DecidableEq, Repr

/-- A mode change that takes effect at the next tick start: its target and the tick of effect. -/
structure ModeAt where
  target : Mode
  tick : Nat
deriving DecidableEq, Repr

structure Power where
  mode : Mode := .off
  /-- The module is held in reset (R490, RST_N of R264, or no supply). FREE RESET: true, before the first power-on. -/
  held : Bool := true
  /-- A boot runs (Table 18.5). -/
  booting : Bool := false
  /-- Hub time of the last release of reset (R523). -/
  resetAt : Nat := 0
  pending : Option ModePending := none
  modeAt : Option ModeAt := none
  restartWarm : Bool := false
  safeCause : Nat := 0
  safeTick : Nat := 0
  /-- The SAFE decision was taken and its frames are not yet released (R485, R246). -/
  safeFrames : Bool := false
  tA : Nat := 0
  vinMv : Nat := 0
  /-- Holdup rail, in units of 10 mV. -/
  holdup : Nat := 0
  hubTemp : Int := 0
  hubTempMax : Int := 0
  supplyWarn : Bool := false
  deferred : Bool := false
  dipStart : Nat := 0
  /-- The dip has ended at this hub time: VIN was at or above 16.8 V (R489). -/
  dipEnd : Option Nat := none
  lowestVin : Nat := 0
  /-- Since when VIN has been at or above 16.8 V without a sample below 16.0 V (R488). -/
  goodSince : Option Nat := none
  dipCount : Nat := 0
  lastDipUs : Nat := 0
  /-- DORMANT's watching port: 0 E3, 1 E0. -/
  watchPort : Nat := 0
  /-- R134, R543: a lane's power action waiting for the sentence boundary: 2 off, 3 cold spare. -/
  laneOff : Vector Nat 4 := Vector.replicate 4 0
deriving DecidableEq, Repr

/-- The backup domain (R492, R493). Its content at the first power-on is FREE RESET. -/
structure Backup where
  rtcSeconds : Nat := 0
  /-- Fraction in 1/32,768 s, and the rest of the running fraction. -/
  rtcFraction : Nat := 0
  rtcRest : Nat := 0
  rtcValid : Bool := false
  powerCycles : Nat := 0
  rstHoldMs : Nat := 0
  tamperCount : Nat := 0
  tamperTime : Nat := 0
  tamperOpen : Bool := false
  /-- Openings while the hub was off, not yet raised (R493). -/
  tamperUnraised : Bool := false
  vbatOk : Bool := false
  /-- The domain has lost its content since the last boot (R492). -/
  vbatLost : Bool := true
  extCell : Bool := false
  /-- VBAT in units of 10 mV. -/
  vbat : Nat := 0
  retention : Bytes := List.replicate 256 0#8
deriving DecidableEq, Repr

/-! ### Trace, counters, injections (chapter 20) -/

/-- A trace record (R503): `fields` are the payload's fields from byte 8, (bytes, value), in order. -/
structure TraceRec where
  typ : Nat
  unit : Nat
  tb0 : Nat
  units : Nat
  fields : List (Nat × Nat)
deriving DecidableEq, Repr

/-- The filter of Table 20.4; the defaults are R515's. -/
structure TraceFilter where
  typeMask : Nat := 0x1C0A
  laneMask : Nat := 0x0F
  engineMask : Nat := 0xFF
  clauseMode : Nat := 0
  portMask : Nat := 0x07
  canMask : Nat := 0x0F
  ringMode : Nat := 0
  queueMask : Nat := 2 ^ 64 - 1
  ybFirst : Nat := 1
  ybLast : Nat := 1023
  streamIp : Nat := 0
  streamPort : Nat := 47801
deriving DecidableEq, Repr

structure Trace where
  /-- Records held in the ring with their positions, oldest first (R502). -/
  ring : List (Nat × TraceRec) := []
  position : Nat := 0
  readPos : Nat := 0
  dropped : Nat := 0
  /-- The trace is running (stopped by SET_TRACE_FILTER action 1). -/
  running : Bool := true
  stopped : Bool := false
  filter : TraceFilter := {}
  /-- Filters and actions set for the next tick start, in order (Table 20.8). -/
  next : List (Nat × TraceFilter) := []
  /-- Drops since the last LOSS record, with their source and lanes. -/
  lossPending : Nat := 0
  lossSource : Nat := 0
  lossLanes : Nat := 0
  /-- Drops in this sentence (R506). -/
  sentenceDrops : Nat := 0
  /-- TRACE_OVERFLOW has been raised for this sentence's drops; where they come from; a report-only application is to be reported
  (R506, R511). -/
  overflow : Bool := false
  dropOrigin : Origin := .real
  reportDue : Bool := false
  /-- The stream's datagram being filled: records and the position of the first, and when it started (hub ns). -/
  stream : List TraceRec := []
  streamFirst : Nat := 0
  streamStart : Nat := 0
  streamSeq : Nat := 0
  streamGap : Bool := false
  /-- Descriptors of Q52 in use, of 256 (R505). -/
  streamUsed : Nat := 0
  /-- Lane trace buffers of 8 KiB (R501). -/
  laneBuf : Vector (List TraceRec) 4 := Vector.replicate 4 []
  /-- Cycle counts of each clause's previous execution: (lane, clause), count (R504). -/
  lastCount : List ((Nat × Nat) × Nat) := []
deriving DecidableEq, Repr

/-- One event counter (R507). -/
structure EventCounter where
  event : Nat := 0
  qualifier : Nat := 0
  value : Nat := 0
  /-- A selection taking effect at the next tick start. -/
  next : Option (Nat × Nat) := none
deriving DecidableEq, Repr

/-- A pending injection (R509, R510). -/
structure Injection where
  id : Nat
  detector : FaultName
  laneMask : Nat
  reportOnly : Bool
  resource : Nat
  left : Nat
  interval : Nat
  start : Nat
  /-- Applications already made, and the tick of the last one. -/
  done : Nat := 0
  lastTick : Option Nat := none
  /-- Accepted in VOTED, DUPLEX or SPLIT. -/
  live : Bool
deriving DecidableEq, Repr

/-- An application under way: it acts at the next evaluation of its detector (R508, R510). -/
structure Armed where
  id : Nat
  detector : FaultName
  lanes : Nat
  resource : Nat
  reportOnly : Bool
deriving DecidableEq, Repr

structure Inject where
  armed : List Armed := []
  list : List Injection := []
  /-- INJECT_LAST (Table 20.5). -/
  lastDetector : Nat := 0
  lastId : Nat := 0
  lastLeft : Nat := 0
deriving DecidableEq, Repr

/-! ### Command packets and mailboxes (chapter 17) -/

/-- A pending confirmation (R433). -/
structure Confirm where
  opcode : Nat
  params : Bytes
  code : Nat
  at_ : Nat
deriving DecidableEq, Repr

/-- A session (R427 to R429). -/
structure Session where
  transport : Nat
  source : Nat
  port : Nat
  slot : Nat
  session : Nat
  high : Nat
  /-- Accepted SEQUENCE values from high − 63 to high. -/
  seen : List Nat
  /-- The last reply: SEQUENCE and TAG of its request, and the packets sent. -/
  last : Option (Nat × Bytes × List Bytes) := none
  confirm : Option Confirm := none
  lastUse : Nat
deriving DecidableEq, Repr

/-- A key slot (R426). -/
structure KeySlot where
  level : Nat := 0
  key : Bytes := []
  highestSession : Nat := 0
deriving DecidableEq, Repr

/-- A request in execution (R431, R435): its opcode, parameters and the event its reply waits for (`key` as the owning
meaning says). -/
structure Exec where
  req : Req
  op : Opcode
  params : Bytes
  key : List Nat
deriving DecidableEq, Repr

/-- Authentication failures of one source (R425). -/
structure AuthSource where
  transport : Nat
  source : Nat
  port : Nat
  /-- Hub times (ns) of failures at step 4 or 5 within the last second, oldest first. -/
  failures : List Nat := []
  /-- The start of a burst in progress (its record repeats). -/
  burst : Option Nat := none
  /-- Hub times of untagged replies sent within the last second. -/
  replies : List Nat := []
deriving DecidableEq, Repr

structure Cmd where
  sessions : List Session := []
  keys : Vector KeySlot 32 := Vector.replicate 32 {}
  exec : List Exec := []
  auth : List AuthSource := []
  /-- TAGs of the packets whose requests are in execution, for the kept reply (R429). -/
  tags : List (Req × Bytes) := []
  /-- FORWARD requests sent to the partner: where the reply goes (R422). -/
  forwarded : List (Nat × Nat × Nat × Bytes) := []
  /-- Bytes of MB0 read and not yet a whole packet, and a discarded run in progress (R449). -/
  mb0 : Bytes := []
  mb0Bad : Bool := false
  /-- Reply words for MB0 that wait for room in B→A (R449). -/
  mb0Out : List Word := []
  /-- SEQUENCE of the last MB0 request (R428). -/
  mb0Seq : Option Nat := none
deriving DecidableEq, Repr

/-- One mailbox (R438 to R451). -/
structure Mailbox where
  /-- Side codes of Table 17.12. -/
  sideA : Nat := 0
  sideB : Nat := 0
  station : Nat := 0
  noProgressLimit : Nat := 1000
  a2b : List Word := []
  b2a : List Word := []
  a2bAccepted : Nat := 0
  a2bTaken : Nat := 0
  a2bEmptied : Nat := 0
  b2aAccepted : Nat := 0
  b2aConsumed : Nat := 0
  rejectedA : Nat := 0
  ignored : Nat := 0
  /-- Hub time at which the no-progress timer started: the last take, or the first word of an empty mailbox (R448). -/
  timerAt : Nat := 0
  noProgress : Bool := false
  /-- Words each lane's MB_PUSH transfers had accepted in this tick (R440). -/
  pushed : Vector (List Word) 4 := Vector.replicate 4 []
  /-- Words of A→B sent to a RACK or PARTNER side B and not yet accepted, and the hub time of the last sending (R446). -/
  sent : Nat := 0
  sentAt : Nat := 0
  /-- Number of the next word accepted from side B (modulo 256), R446. -/
  nextIn : Nat := 0
  /-- What waits for the station's next host poll: op, number and words (Table 17.9). -/
  outgoing : List (Nat × Nat × List Word) := []
deriving DecidableEq, Repr

/-- Table 17.8: MB0 to MB3 APPLICATION–PARSER, MB4 to MB7 PARSER–RACK, MB8 to MB11 APPLICATION–PARTNER. -/
def Mailbox.default (n : Nat) : Mailbox :=
  if n < 4 then { sideA := 1, sideB := 2 }
  else if n < 8 then { sideA := 2, sideB := 3 }
  else if n < 12 then { sideA := 1, sideB := 4 }
  else {}

structure Mailboxes where
  box : Vector Mailbox 16 := vmapIdx (fun i _ => Mailbox.default i) (Vector.replicate 16 ())
  fullEvents : Nat := 0
  appAuthority : Nat := 2
deriving DecidableEq, Repr

end Sys2Proof.Machine
end

