-- ==== Sys2Proof/Machine/State/Boot.lean ====
section
/-! DEFINITION. OTP, images, keys and boot (chapter 18). The default of a field is its value at `State.reset`; `FREE RESET` marks a
value the spec does not give (assumption log 2). -/
namespace Sys2Proof.Machine

/-- OTP fuses (Table 18.1); an unwritten field reads as zero. FREE RESET: unwritten. -/
structure Otp where
  serial : Nat := 0
  baseMac : Nat := 0
  vendorRoot : Bytes := List.replicate 32 0#8
  identitySeed : Bytes := List.replicate 32 0#8
  identityI : Bytes := List.replicate 16 0#8
  identityRoot : Bytes := List.replicate 32 0#8
  factoryKey : Bytes := List.replicate 32 0#8
  factoryRetired : Bool := false
  operatorRoot : Bytes := List.replicate 32 0#8
  rootProgrammed : Bool := false
deriving DecidableEq, Repr

/-- Record 0x0140 SYSTEM (Table 19.9). -/
structure SystemCfg where
  bootLanes : List Nat := [1, 1, 1, 3]
  wakeEthertype : Nat := 0x0842
  wakePattern : Bytes := List.replicate 8 0xFF#8
deriving DecidableEq, Repr

/-- An entry of record 0x0940 COMMAND_KEYS (R472). -/
structure CommandKey where
  slot : Nat
  level : Nat
  key : Bytes
deriving DecidableEq, Repr

/-- A key slot's entry in MRAM (Table 18.7) apart from highest_session: set by command (flag bit 0), its level and key, and whether its
CRC-32 holds. FREE RESET (MRAM): none, valid. -/
structure KeyEntry where
  byCommand : Bool := false
  level : Nat := 0
  key : Bytes := List.replicate 32 0#8
  crcOk : Bool := true
deriving DecidableEq, Repr

/-- An open image transfer (R465): bytes received, offset and CRC of the last chunk, and the hub time of the last IMAGE_DATA. -/
structure ImageTransfer where
  id : Nat
  type : Nat
  total : Nat
  crc : Nat
  data : Bytes := []
  last : Option (Nat × Nat) := none
  at_ : Nat
deriving DecidableEq, Repr

/-- Images (R458 to R466), identified by type 1 to 4 at index type − 1. -/
structure Images where
  /-- The complete image that each NAND device holds in each slot. FREE RESET (NAND): every slot empty. -/
  dev : Vector (Vector (Option Bytes) 4) 2 := Vector.replicate 2 (Vector.replicate 4 none)
  /-- The slot was completed since the last boot. -/
  written : Vector Bool 4 := Vector.replicate 4 false
  /-- The images verified at this boot, kept in hub DRAM (R464). -/
  running : Vector (Option Bytes) 4 := Vector.replicate 4 none
  /-- Type that failed its check at this boot, 0 none. -/
  failed : Nat := 0
  transfer : Option ImageTransfer := none
deriving DecidableEq, Repr

/-- The signature state (R475 to R479). -/
structure Signing where
  /-- Leaf counter copies A and B in MRAM; none when the complement does not hold. FREE RESET (MRAM): 0. -/
  copyA : Option Nat := some 0
  copyB : Option Nat := some 0
  next : Nat := 0
  /-- The key engine has ended all signing (R477). -/
  ended : Bool := false
  /-- SIGNATURE_RESERVE_LOW was raised at this boot. -/
  low : Bool := false
  /-- The vendor's certificate of the identity key. FREE RESET (NAND): empty. -/
  certKey : Bytes := []
  certSig : Bytes := []
deriving DecidableEq, Repr

structure Boot where
  images : Images := {}
  sign : Signing := {}
  keys : Vector KeyEntry 32 := Vector.replicate 32 {}
  /-- The provisioning buffer of 32 KiB (R474) and the bytes staged. -/
  staged : Bytes := []
  /-- Boot state in MRAM: boot count, last boot end (0 SERVICE, 1 LOAD), failed type, cause. FREE RESET: 0. -/
  count : Nat := 0
  lastEnd : Nat := 0
  failedType : Nat := 0
  cause : Nat := 0
  /-- The boot waits for the end of the partner handshake (phase 5). -/
  handshake : Bool := false
  /-- The boot under way is a wake (R487). -/
  wake : Bool := false
  /-- The Parser pair has stopped (R466). -/
  parserStopped : Bool := false
deriving DecidableEq, Repr

end Sys2Proof.Machine
end

