-- ==== Sys2Proof/Machine/Mem.lean ====
section
/-! DEFINITION. A lane's memory: a list of (transfer address, byte) cells in one canonical form: addresses strictly rising, no
cell that holds what an unlisted address reads as. The addresses are those of Table 1.5. -/
namespace Sys2Proof.Machine

abbrev Mem := List Host.Cell

/-- What an address that nothing has written reads as. DESIGN CHOICE (assumption log 3): the spec gives scratchpad, lane store
and DRAM no contents after power-on. -/
def unlistedByte : BitVec 8 := 0#8

/-- The canonical form, from a least address on. -/
def Mem.wfFrom : Nat → Mem → Bool
  | _, [] => true
  | lo, (a, b) :: r => decide (lo ≤ a) && (b != unlistedByte) && Mem.wfFrom (a + 1) r

def Mem.wf (m : Mem) : Bool := Mem.wfFrom 0 m

def Mem.read : Mem → Nat → BitVec 8
  | [], _ => unlistedByte
  | (a, b) :: r, x => if x = a then b else if x < a then unlistedByte else Mem.read r x

/-- Write one byte; writing what an unlisted address reads as removes the cell. -/
def Mem.write : Mem → Nat → BitVec 8 → Mem
  | [], x, v => if v = unlistedByte then [] else [(x, v)]
  | (a, b) :: r, x, v =>
    if x < a then (if v = unlistedByte then (a, b) :: r else (x, v) :: (a, b) :: r)
    else if x = a then (if v = unlistedByte then r else (x, v) :: r)
    else (a, b) :: Mem.write r x v

/-- `n` bytes from an address. -/
def Mem.readN (m : Mem) : Nat → Nat → Bytes
  | _, 0 => []
  | x, n + 1 => Mem.read m x :: Mem.readN m (x + 1) n

/-- Bytes at an address and the following ones, in ascending order. -/
def Mem.writeN : Mem → Nat → Bytes → Mem
  | m, _, [] => m
  | m, x, v :: vs => Mem.writeN (Mem.write m x v) (x + 1) vs

/-- A little-endian word of `n` bytes (R6). -/
def Mem.readLe (m : Mem) (x n : Nat) : Nat := leVal (m.readN x n)

def Mem.writeLe (m : Mem) (x n v : Nat) : Mem := m.writeN x (leBytes n v)

/-- Keep the cells outside `len` bytes from `x`. -/
def Mem.clear (m : Mem) (x len : Nat) : Mem := m.filter (fun c => decide (c.1 < x ∨ x + len ≤ c.1))

/-- Keep the cells inside `len` bytes from `x`. -/
def Mem.keep (m : Mem) (x len : Nat) : Mem := m.filter (fun c => decide (x ≤ c.1 ∧ c.1 < x + len))

/-- The cells of `src` in a region, in place of those of `m` there. -/
def Mem.copyFrom (src : Mem) (x len : Nat) (m : Mem) : Mem :=
  m.filter (fun c => decide (c.1 < x)) ++ src.keep x len ++ m.filter (fun c => decide (x + len ≤ c.1))

/-! Regions of Table 1.5. -/

def scratchBase (k : Nat) : Nat := 0x01000000 + k * 0x00100000
def imemBase (k : Nat) : Nat := 0x01080000 + k * 0x00100000
def scratchSize : Nat := 0x40000
def imemSize : Nat := 0x20000
def storeBase : Nat := 0x10000000
def storeSize : Nat := 0x800000
def windowBase : Nat := 0x20000000
def windowSize : Nat := 0x190000
def dramBase : Nat := 0x40000000
def dramSize : Nat := 0x60000000

/-- The ports of Table 4.1. -/
inductive Port where
  | scratch (k : Nat)
  | imem (k : Nat)
  | store (bank : Nat)
  | dram
  | hubLink
  | hubFrame
deriving DecidableEq, Repr

/-- Table 4.1. -/
def Port.ofCode (c : Nat) : Option Port :=
  if c < 9 then some (.scratch c)
  else if 0x10 ≤ c ∧ c < 0x19 then some (.imem (c - 0x10))
  else if 0x20 ≤ c ∧ c < 0x24 then some (.store (c - 0x20))
  else if c = 0x30 then some .dram
  else if c = 0x40 then some .hubLink
  else if c = 0x41 then some .hubFrame
  else none

def Port.code : Port → Nat
  | .scratch k => k | .imem k => 0x10 + k | .store b => 0x20 + b | .dram => 0x30 | .hubLink => 0x40 | .hubFrame => 0x41

/-- The first address and the size of a port's region (Table 1.5; R94: a bank is 2 MiB of lane store). -/
def Port.region : Port → Nat × Nat
  | .scratch k => (scratchBase k, scratchSize)
  | .imem k => (imemBase k, imemSize)
  | .store b => (storeBase + b * 0x200000, 0x200000)
  | .dram => (dramBase, dramSize)
  | .hubLink => (windowBase, windowSize)
  | .hubFrame => (windowBase, windowSize)

/-- Whether `len` bytes from `addr` lie wholly inside the port's region. -/
def Port.holds (p : Port) (addr len : Nat) : Bool :=
  decide (p.region.1 ≤ addr ∧ addr + len ≤ p.region.1 + p.region.2)

/-- Bytes a port moves, as a rate (bytes, cycles) (Table 4.1). -/
def Port.rate : Port → Nat
  | .scratch _ | .imem _ | .hubFrame => 16
  | .store _ => 32
  | .dram | .hubLink => 0

end Sys2Proof.Machine
end

