-- ==== Sys2Proof/Machine/State/Can.lean ====
section
/-! DEFINITION. The state of the CAN controllers (chapter 12). The default of a field is its value at `State.reset`; `FREE RESET` marks a
value the spec does not give (assumption log 2). -/
namespace Sys2Proof.Machine

/-- One controller of record 0x0C40 CAN_CONTROLLER (Table 12.8). -/
structure CanCfg where
  enabled : Bool := false
  fd : Bool := false
  /-- 0 FIFO, 1 BUFFER_ID, 2 BUFFER_NUMBER. -/
  txMode : Nat := 0
  retryLimit : Nat := 15
  listenOnly : Bool := false
  txOwner : Nat := 2
  rxOwner : Nat := 2
  ringLog2 : Nat := 0
  /-- Bit timing (R307): prescaler, segments 1 and 2 and jump width of the nominal and of the data phase. -/
  nominal : List Nat := [0, 0, 0, 0]
  data : List Nat := [0, 0, 0, 0]
  tdcOffset : Nat := 0
deriving DecidableEq, Repr

/-- An acceptance filter of record 0x0C41 CAN_FILTER (Table 12.9). -/
structure CanFilter where
  controller : Nat
  accept : Bool
  flags : Nat
  id : Nat
  mask : Nat
deriving DecidableEq, Repr

/-- An entry of Table 12.2 without its stamp; `data` holds the bytes of the DLC's length. -/
structure CanEntry where
  id : Nat
  flags : Nat
  dlc : Nat
  index : Nat
  data : Bytes
deriving DecidableEq, Repr

/-- Where a transmit entry came from. -/
inductive CanSrc where
  | slot (i : Nat)
  | desc (index : Nat)
deriving DecidableEq, Repr

/-- A frame a controller holds: its counted attempts, and an abort requested after its start of frame. -/
structure CanFrame where
  entry : CanEntry
  src : CanSrc
  tries : Nat := 0
  abort : Bool := false
deriving DecidableEq, Repr

/-- One controller. -/
structure CanCtl where
  /-- Running: enabled, and SERVICE entered since the module reset (R308). -/
  on : Bool := false
  /-- Integration has ended once since then; the controller waits for 11 recessive bits. -/
  joined : Bool := false
  integrating : Bool := false
  passive : Bool := false
  busOff : Bool := false
  recovering : Bool := false
  listen : Bool := false
  listenReq : Bool := false
  fifo : List CanFrame := []
  bufs : Vector (Option CanFrame) 3 := Vector.replicate 3 none
  /-- The attempt in progress: 0 the FIFO's head, else the buffer. -/
  attempt : Option Nat := none
  tec : Nat := 0
  rec_ : Nat := 0
  slotStatus : Vector Nat 8 := Vector.replicate 8 0
  bufStatus : Vector Nat 3 := Vector.replicate 3 0
  sent : Nat := 0
  received : Nat := 0
  dropFilter : Nat := 0
  dropFull : Nat := 0
  bitErrors : Nat := 0
  stuffErrors : Nat := 0
  formErrors : Nat := 0
  crcErrors : Nat := 0
  ackErrors : Nat := 0
  arbLosses : Nat := 0
  lastError : Nat := 0
  lastErrorId : Nat := 0
  busOffCount : Nat := 0
  tdc : Nat := 0
  lastTxSof : Nat := 0
  /-- Bit errors after arbitration of each identifier sent (identifier, IDE), hub ns within the last second (R321). -/
  collisions : List ((Nat × Bool) × List Nat) := []
  /-- Frames written to the receive queue, and TX_SLOTS and RX_SLOTS, by offset. -/
  tx : Mem := []
  rx : Mem := []
deriving DecidableEq, Repr

structure Can where
  ctl : Vector CanCtl 4 := Vector.replicate 4 {}
deriving DecidableEq, Repr

/-- The records of chapter 12. -/
structure CanCfgs where
  ctl : List CanCfg := List.replicate 4 {}
  filters : List CanFilter := []
deriving DecidableEq, Repr

end Sys2Proof.Machine
end

