-- ==== Sys2Proof/Machine/State/Engine.lean ====
section
/-! DEFINITION. The state of one clause engine (chapter 03) and of the transfers in progress (chapter 04). The default of a
field is its value at `State.reset`. -/
namespace Sys2Proof.Machine

/-- Where an operation writes (Table 3.1). -/
inductive Dest where
  | reg (n : BitVec 6)
  | pair (n : BitVec 6)
  | pred (n : BitVec 3)
  | none
deriving DecidableEq, Repr

/-- An operation in flight (R63): issued in clause cycle `issued` from slot 0 to 3 (A0, A1, M, L), written at the end of cycle
`due`. -/
structure Op where
  issued : Nat
  slot : Nat
  due : Nat
  dst : Dest
  value : DWord
  /-- Flags it sets when it writes (R66). -/
  flags : Nat
  dead : Bool
deriving DecidableEq, Repr

/-- An active hardware loop (R84): its counter (false lc0, true lc1), first body bundle and END bundle. -/
structure Loop where
  lc : Bool
  first : Nat
  last : Nat
deriving DecidableEq, Repr

/-- What the bundle of the present cycle has issued, taking effect at the end of the cycle. -/
structure Bundle where
  ops : List Op := []
  /-- A store: effective address, bytes, the data class of R122. -/
  store : Option (Nat × Bytes × Nat) := none
  xset : Option (BitVec 6 × Word × Word) := none
  branch : Option Nat := none
  loop : Option (Loop × Word) := none
  ends : Bool := false
  /-- FLAGS bits cleared by an MTS. -/
  clearFlags : Nat := 0
  clearMbFull : Bool := false
  /-- The cycle from which the M slot is free again, set by a blocking operation (R78). -/
  mFree : Option Nat := none
deriving DecidableEq, Repr

/-- A clause that runs, or that was aborted and still drains (R87 to R89). -/
structure Running where
  clause : Nat
  budget : Nat
  /-- Cycle c of the tick in which the clause's cycle 1 lies. -/
  start : Nat
  /-- Number of the present cycle, from 1. -/
  cyc : Nat := 1
  /-- The bundle that issues in this cycle, when no bubble is left. -/
  pc : Nat
  bubbles : Nat := 0
  ended : Bool := false
  /-- Abort cause and the cycle of the abort. -/
  aborted : Option (Nat × Nat) := none
  /-- Task field of the clause (0 to 7, 255 outside a task) and flags of Table 4.9. -/
  task : Nat
  flags : Nat
deriving DecidableEq, Repr

/-- One logical clause engine (Table 3.1). Registers, predicates and loop counters are 0 after reset, p0 is 1 (R61). -/
structure Engine where
  regs : Vector Word 64 := Vector.replicate 64 0#32
  /-- p0 to p7, bit i for p_i. -/
  preds : BitVec 8 := 1#8
  lc0 : Word := 0#32
  lc1 : Word := 0#32
  /-- Active loops, innermost first. -/
  loops : List Loop := []
  flags : Nat := 0
  prevAbort : Bool := false
  mbFull : Bool := false
  prevCause : Nat := 0
  run : Option Running := none
  flight : List Op := []
  bundle : Bundle := {}
  /-- The M slot is busy in clause cycles before this one (R78). -/
  mFree : Nat := 0
  /-- Transfer parameter slots: source, destination (R80). FREE RESET: 0. -/
  slots : Vector (Word × Word) 64 := Vector.replicate 64 (0#32, 0#32)
  /-- Live and dead signatures and their captures (R121, R124). Before the first tick: all ones. -/
  live : DWord := BitVec.allOnes 64
  dead : DWord := BitVec.allOnes 64
  capLive : DWord := BitVec.allOnes 64
  capDead : DWord := BitVec.allOnes 64
  /-- CLAUSE_ID of the clause that completed last, for POSTED_WRITE_FAILED (R398). -/
  lastClause : Nat := 0xFFFF
deriving DecidableEq, Repr

/-- A transfer in progress in a lane's transfer engine (R96 to R101). -/
structure Xfer where
  /-- Index of its entry in the transfer table. -/
  index : Nat
  ctx : Nat
  srcPort : Port
  dstPort : Port
  src : Nat
  dst : Nat
  len : Nat
  start : Nat
  /-- First cycle in which data moves: start + setup. -/
  dataAt : Nat
  completion : Nat
  /-- Beats moved so far on a path of R100's first sentence. -/
  beats : Nat := 0
  /-- The source bytes, once read, on a path with DRAM or the hub link. -/
  held : Option Bytes := none
  /-- A hub link read delivers the snapshot of its tick (R100). -/
  snapshot : Bytes := []
  failed : Bool := false
  param : Option Nat := none
  /-- The clause that completed last on the source scratchpad's engine before the start (R398). -/
  clause : Nat := 0xFFFF
deriving DecidableEq, Repr

end Sys2Proof.Machine
end

