-- ==== Sys2Proof/Machine/State/Measure.lean ====
section
/-! DEFINITION. The state of the measurement chain (chapter 07), of the PWM units and the trip path (chapter 08), and their
configuration records. The default of a field is its value at `State.reset`; `FREE RESET` marks a value the spec does not give
(assumption log 2). -/
namespace Sys2Proof.Machine

/-! ### Calibration (R186 to R191) -/

/-- A calibration point (Table 7.7); `physical` holds binary32 bits. -/
structure CalPoint where
  raw : Int
  physical : Nat
  temperature : Int
  load : Nat
  spread : Nat
deriving DecidableEq, Repr

/-- A calibration set: points by index 0 to 3 (R190). -/
abbrev CalSet := List (Option CalPoint)

def CalSet.empty : CalSet := [none, none, none, none]

/-- The part of a lane's auto-zero measurement that Table 7.6 does not show. -/
structure AzRun where
  sum : Int := 0
  left : Nat := 0
  /-- All named pairs were blocked in a tick of az_state 1: averaging begins in the next tick. -/
  go : Bool := false
  /-- In mode 2 a measurement may begin: at entry to SERVICE, at T_a, and after a named pair was unblocked. -/
  due : Bool := false
deriving DecidableEq, Repr

/-- One channel of record 0x0440 SD_CHANNEL (Table 7.12). -/
structure SdCfg where
  enabled : Bool := false
  preset : Nat := 0
  skew : Bool := true
  azMode : Nat := 0
  azPairs : Nat := 0
  azTicks : Nat := 400
  azLimit : Nat := 2 ^ 19
  step : Nat := 0
  gain : Nat := 0x3F800000
  offset : Nat := 0
deriving DecidableEq, Repr

/-- A released CH_CTRL setting that waits for its switching tick (R182). -/
structure Switch where
  channel : Nat
  tick : Nat
  preset : Nat
  skew : Bool
deriving DecidableEq, Repr

/-- A CALIBRATE_POINT average (R196). -/
structure Averaging where
  channel : Nat
  index : Nat
  ticks : Nat
  left : Nat
  physical : Nat
  load : Nat
  /-- Averaging starts after this tick. -/
  after : Nat
  sum : Int := 0
  low : Int := 0
  high : Int := 0
  /-- Auto-zero offset of the first tick of the window. -/
  az : Option Int := none
  bad : Bool := false
deriving DecidableEq, Repr

structure Measure where
  /-- CH_CTRL: preset and skew removal most recently released. -/
  preset : Vector Nat 16 := Vector.replicate 16 0
  skew : Vector Bool 16 := Vector.replicate 16 true
  switches : List Switch := []
  /-- ACTIVE_PRESET and SKEW_ACTIVE. -/
  activePreset : Vector Nat 16 := Vector.replicate 16 0
  activeSkew : Vector Bool 16 := Vector.replicate 16 true
  /-- CLOCK_LOSS_LANES of group A and B, and STUCK_LANES by channel, of the previous tick. -/
  lossLanes : Vector Nat 2 := Vector.replicate 2 0
  stuckLanes : Vector Nat 16 := Vector.replicate 16 0
  /-- The set in use of each channel and whether it is the stored one. -/
  set : Vector CalSet 16 := Vector.replicate 16 CalSet.empty
  stored : Nat := 0
  /-- Pending points (R196). -/
  pending : Vector CalSet 16 := Vector.replicate 16 CalSet.empty
  avg : Option Averaging := none
  /-- STORE_CALIBRATION in SERVICE loads these channels at the next tick start (R190). -/
  loadNext : Bool := false
deriving DecidableEq, Repr

/-! ### PWM and trip (chapter 08) -/

/-- A pair of record 0x0F40 PWM_PAIR (Table 8.6): mode 0 COMPLEMENTARY, 1 INDEPENDENT, 2 UNUSED. -/
structure PairCfg where
  mode : Nat := 2
  triangle : Bool := true
  twice : Bool := false
  tripLevel : Nat := 0
  half : Nat := 2
  dead : Nat := 0
  phase : Nat := 0
  minPulse : Nat := 0
deriving DecidableEq, Repr

/-- A channel of record 0x0F41 TRIP (Table 8.7). -/
structure TripChan where
  lo : Int := -32768
  hi : Int := 32767
  loPairs : Nat := 0
  hiPairs : Nat := 0
  loOn : Bool := false
  hiOn : Bool := false
  onLoss : Bool := true
deriving DecidableEq, Repr

structure TripCfg where
  chan : List TripChan := List.replicate 16 {}
  /-- TRIP_INm: pair mask (0 disables) and active level. -/
  ins : List (Nat × Bool) := List.replicate 4 (0, false)
  twoOfThree : Bool := false
  window : Nat := 5
deriving DecidableEq, Repr

/-- One PWM output. Instants are in steps of 250 ps of SA's time. -/
structure PwmOut where
  high : Bool := false
  /-- The reference side of the output is active, and since when (R200, R202). -/
  side : Bool := false
  since : Nat := 0
  riseAt : Nat := 0
  /-- The last actual falling edge. -/
  fellAt : Nat := 0
  /-- The pulse's rising edge was suppressed (R203). -/
  suppressed : Bool := false
  /-- The pulse is being extended to min_pulse (R203). -/
  extended : Bool := false
deriving DecidableEq, Repr

structure Pwm where
  /-- PAIR_CTRL ENABLE as released. -/
  enable : Nat := 0
  /-- COMPARE as last released, the pending registers, and the active values. -/
  compare : Vector Nat 12 := Vector.replicate 12 0
  pending : Vector Nat 12 := Vector.replicate 12 0
  active : Vector Nat 12 := Vector.replicate 12 0
  /-- SA time at which the released values enter the pending registers (R201). -/
  pendAt : Nat := 0
  /-- p_n of each pair. -/
  phase : Vector Nat 6 := Vector.replicate 6 0
  /-- Pairs that switch: resumed at a carrier start and neither blocked nor tripped since (R204). -/
  running : Nat := 0
  /-- Pairs that switched at any time in the present tick, and BLOCKED of the last one. -/
  moved : Nat := 0
  blocked : Nat := 0x3F
  outs : Vector PwmOut 12 := Vector.replicate 12 {}
  tripLatch : Nat := 0
  tripActive : Nat := 0
  clearRefused : Nat := 0
  lastTrip : Nat := 0
  lastTripTb0 : Nat := 0
  readbackOutputs : Nat := 0
  /-- SB has disabled the output buffers (R210). -/
  buffersOff : Bool := false
  pulseAdjust : Vector Nat 12 := Vector.replicate 12 0
  /-- Sources 0 to 31 that each lane reports on its trip line, and TRIP_IN0 to TRIP_IN3 active after their filters. -/
  reports : Vector Nat 4 := Vector.replicate 4 0
  ins : Nat := 0
  /-- The contributing lanes since the hub's tick start (R207). -/
  contrib : Nat := 0
deriving DecidableEq, Repr

end Sys2Proof.Machine
end

