-- ==== Sys2Proof/Machine/State/Runtime.lean ====
section
/-! DEFINITION. The state of the cyclic control runtime (chapter 06) and of the configuration slots (R467 to R469). The default of
a field is its value at `State.reset`; `FREE RESET` marks a value the spec does not give (assumption log 2). -/
namespace Sys2Proof.Machine

/-- One task of record 0x0340 TASK (Table 6.8); period 0 is a task not enabled. -/
structure TaskCfg where
  period : Nat := 0
  limit : Nat := 3
deriving DecidableEq, Repr

/-- A region of record 0x0341 VARIABLE_REGIONS (Table 6.9): kind 1 INPUT_IMAGE, 2 OUTPUT_IMAGE, 3 VARIABLE, 4 CONSTANT. -/
structure Region where
  address : Nat
  length : Nat
  kind : Nat
  task : Nat
deriving DecidableEq, Repr

/-- A counter of record 0x0342 DI_COUNTERS (Table 6.12). -/
structure DiCounterCfg where
  di : Nat := 0xFF
  edge : Nat := 1
deriving DecidableEq, Repr

/-- A committed change entry (Table 6.6); `crc` is its stored CRC-32. -/
structure Change where
  address : Nat
  kind : Nat
  task : Nat
  crc : Nat
  value : Bytes
deriving DecidableEq, Repr

/-- A runtime request (Table 6.10) and the tick whose apply step takes it (R159). Kinds: 1 WRITE_VARIABLE, 2 CHANGE_CONSTANT,
3 FORCE, 4 UNFORCE, 5 UNFORCE_ALL. -/
structure RtReq where
  seq : Nat
  kind : Nat
  task : Nat
  index : Nat
  cycle : Nat
  address : Nat := 0
  mask : Bytes := []
  value : Bytes := []
  applyTick : Nat
deriving DecidableEq, Repr

/-- An entry of the force table as the Parser knows it (Table 6.5). -/
structure ForceEnt where
  index : Nat
  address : Nat
  length : Nat
  kind : Nat
  task : Nat
deriving DecidableEq, Repr

/-- A retained copy in MRAM (R164). FREE RESET: absent. -/
structure Retained where
  total : Nat
  sequence : Nat
  cycle : Nat
  tick : Nat
  image : Bytes
  crc : Nat
  data : Bytes
deriving DecidableEq, Repr

/-- A report of an overrun in this tick (R157): task, lane, cause, first aborted clause, cycle, consecutive. -/
structure Overrun where
  task : Nat
  lane : LaneId
  cause : Nat
  clause : Nat
  cycle : Nat
  consecutive : Nat
deriving DecidableEq, Repr

structure Runtime where
  /-- Sequence of the last runtime request accepted, the queue (R159), and the request presented in block 0. -/
  seq : Nat := 0
  queue : List RtReq := []
  present : Option RtReq := none
  /-- The Parser's copy of the force table's addresses, and the change log (R160). -/
  forces : List ForceEnt := []
  log : List Change := []
  applied : Nat := 0
  result : Nat := 0
  status : Nat := 0
  /-- TASK_STATUS, 16 bytes a task. -/
  taskStatus : Vector Nat 8 := Vector.replicate 8 0
  overruns : List Overrun := []
  /-- Retained copies A and B, a copy in progress (task-0 cycle and tick of its end) and RETAIN_STATUS bit 3. -/
  copyA : Option Retained := none
  copyB : Option Retained := none
  copying : Option (Nat × Nat) := none
  notTaken : Bool := false
  /-- The last restart was warm. -/
  warm : Bool := false
deriving DecidableEq, Repr

/-- What the runtime steps of a lane keep besides lane store. -/
structure LaneRt where
  /-- Overruns of each task since the restart. -/
  overruns : Vector Nat 8 := Vector.replicate 8 0
  /-- Force entries whose removal waits for the input step of a cycle: (entry, cycle) (R162). -/
  unforce : List (Nat × Nat) := []
deriving DecidableEq, Repr

/-- A configuration generation (Table 18.6) with valid CRCs. -/
structure ConfigGen where
  format : Nat
  sequence : Nat
  appMeasurement : Bytes
  changes : List Change
  cal : List (Option CalSet)
deriving DecidableEq, Repr

/-- The two configuration slots of two generations each (R467), the active and the confirmed one. FREE RESET (NAND, MRAM): empty,
none confirmed. -/
structure ConfigSlots where
  gens : Vector (Option ConfigGen) 4 := Vector.replicate 4 none
  active : Option Nat := none
  confirmed : Option Nat := none
  /-- config_format and converts_from of the running PARSER_FW (Table 18.3). -/
  format : Nat := 0
  convertsFrom : Nat := 0
deriving DecidableEq, Repr

end Sys2Proof.Machine
end

