-- ==== Sys2Proof/Machine/State/Sched.lean ====
section
/-! DEFINITION. A loaded schedule image (chapter 04): the entries of Tables 4.8 to 4.12 as the loader hands them to the lanes
and the hub. -/
namespace Sys2Proof.Machine

/-- A clause table entry (Table 4.9). -/
structure ClauseEntry where
  tick : Nat
  engine : Nat
  flags : Nat
  start : Nat
  budget : Nat
  first : Nat
  count : Nat
  task : Nat
  loopBound : Nat
  reserved : Bool
deriving DecidableEq, Repr

/-- A transfer table entry (Table 4.10). -/
structure TransferEntry where
  tick : Nat
  ctx : Nat
  flags : Nat
  start : Nat
  src : Nat
  dst : Nat
  len : Nat
  consumer : Nat
  paramEngine : Nat
  paramSlot : Nat
  srcPort : Nat
  dstPort : Nat
  task : Nat
  completion : Nat
  reserved : Bool
deriving DecidableEq, Repr

def TransferEntry.param (t : TransferEntry) : Bool := t.flags.testBit 0

/-- A gate table entry (Table 4.12). -/
structure GateEntry where
  tick : Nat
  gates : Nat
  ports : Nat
  cycle : Nat
deriving DecidableEq, Repr

/-- A LIVENESS entry (R108). -/
structure LiveEntry where
  engine : Nat
  preds : Nat
  loops : Nat
  regs : Nat
deriving DecidableEq, Repr

/-- A state image declaration (R106, Table 4.11): its kind and regions (address, length). -/
structure ImageDecl where
  kind : Nat
  total : Nat
  regions : List (Nat × Nat)
deriving DecidableEq, Repr

/-- One schedule of the APP image (Table 4.8 and its sections). -/
structure Schedule where
  number : Nat
  /-- 0 MAIN, 1 ALTERNATIVE. -/
  kind : Nat
  revision : Nat
  n : Nat
  s : Nat
  enginesUsed : Nat
  compilerBuild : Nat
  clauses : List ClauseEntry
  transfers : List TransferEntry
  gates : List GateEntry
  liveness : List LiveEntry
  images : List ImageDecl
  /-- CODE sections: engine and bytes. -/
  code : List (Nat × Bytes)
  /-- INITIAL_DATA chunks: address and bytes. -/
  data : List (Nat × Bytes)
deriving DecidableEq, Repr

/-- The schedules in force (R111, R112). -/
structure Sched where
  schedules : List Schedule := []
  selMain : Option Nat := none
  selAlt : Option Nat := none
  running : Option Nat := none
  runningB : Option Nat := none
  /-- SHA-256 of the APP image (Table 4.14). -/
  measurement : Bytes := List.replicate 32 0#8
deriving DecidableEq, Repr

end Sys2Proof.Machine
end

