-- ==== Sys2Proof/Machine/State/Lane.lean ====
section
/-! DEFINITION. The state of one lane (chapters 02, 04 to 07) and of the vote (chapter 05): what a lane holds, and what the
hub's halves SA and SB hold of it. The default of a field is its value at `State.reset`. -/
namespace Sys2Proof.Machine

/-- Lane states (Table 5.1). -/
inductive LaneState where
  | off | spareCold | spareWarm | active | outvoted | resync | splitB
deriving DecidableEq, Repr

/-- Table 5.1. -/
def LaneState.code : LaneState → Nat
  | .off => 0 | .spareCold => 1 | .spareWarm => 2 | .active => 3 | .outvoted => 4 | .resync => 5 | .splitB => 6

/-- Powered states of Table 5.1. -/
def LaneState.powered : LaneState → Bool
  | .off | .spareCold => false
  | _ => true

/-- A measurement record (Table 7.3); the quality bits are those of Table 7.4. -/
structure SdRec where
  fine : Int := 0
  coarse : Int := 0
  quality : Nat := 0
  tick : Nat := 0
deriving DecidableEq, Repr

/-- The content of an agreement frame and of the agreed input image, offsets 2 to 399 (Table 5.3). -/
structure AgFrame where
  tick : Nat := 0
  di : Nat := 0
  wire : Nat := 0
  edge : Nat := 0
  stamps : List Nat := List.replicate 24 0
  counters : List Nat := List.replicate 8 0
  sd : List SdRec := List.replicate 16 {}
deriving DecidableEq, Repr

/-- A signature frame (R125). -/
structure SigFrame where
  tick : Nat
  /-- Live and dead signatures of logical engines 0 to 7. -/
  live : List DWord
  dead : List DWord
  xfer : DWord
deriving DecidableEq, Repr

/-- A vote-result vector (R126): flags bits 0 and 1, and the verdict field. -/
structure VoteVec where
  tick : Nat
  selftestTick : Bool
  selftestSeen : Bool
  field : Nat
deriving DecidableEq, Repr

/-- An output frame (R125): entries of (destination offset from 0x2000_0000, data). -/
structure OutFrame where
  tick : Nat
  entries : List (Nat × Bytes)
deriving DecidableEq, Repr

/-- A digital input of one lane (R154, R217). FREE RESET: all 0. -/
structure DiIn where
  level : Bool := false
  stamp : Nat := 0
  /-- An edge was accepted since the previous tick's sample. -/
  edge : Bool := false
  wireBreak : Bool := false
deriving DecidableEq, Repr

/-- A sigma-delta channel of one lane (chapter 07). FREE RESET: values 0. -/
structure SdIn where
  /-- Fine and coarse value last delivered without CLOCK_LOSS or STUCK (R185). -/
  fine : Int := 0
  coarse : Int := 0
  /-- The coarse value as fed to the trip comparators, and the decimation instants since the restart, at most 2 (R180). -/
  path : Int := 0
  age : Nat := 0
  /-- Hub time of the last event that starts the settling time (R181). -/
  eventAt : Option Nat := none
  clockLoss : Bool := false
  /-- A stuck data line was found since the previous tick instant, and its level. -/
  stuck : Bool := false
  /-- Preset and skew removal in use. -/
  preset : Nat := 0
  skew : Bool := true
deriving DecidableEq, Repr

/-- One lane. -/
structure Lane where
  tick : Nat := 0
  tb0 : Nat := 0
  /-- The tick runs in this lane (R32). -/
  started : Bool := false
  /-- Offsets d_j measured in this tick (R34); none before the marker arrives. -/
  offsets : Vector (Option Int) 4 := Vector.replicate 4 none
  /-- a_k of this tick and the guard's length (R38). -/
  alignCycles : Int := 0
  guardLen : Nat := 200
  /-- Offset from the alignment target in this tick (R54, ALIGN registers). -/
  alignOffset : Int := 0
  steerAcc : Int := 0
  /-- s_k of this tick (R39). -/
  steerCycles : Int := 0
  eng : Vector Engine 8 := Vector.replicate 8 {}
  mem : Mem := []
  /-- The schedule the lane runs, by number. -/
  schedule : Option Nat := none
  xfers : List Xfer := []
  /-- Most recent issue of each transfer: index, and whether it completed (R102). -/
  issued : List (Nat × Bool) := []
  outFrame : List (Nat × Bytes) := []
  /-- Transfer signature and its capture (R121, R124). -/
  xsig : DWord := BitVec.allOnes 64
  capXfer : DWord := BitVec.allOnes 64
  /-- Own agreement frame, frames and receipt vectors held (R115). -/
  own : AgFrame := {}
  frames : Vector (Option AgFrame) 4 := Vector.replicate 4 none
  receipts : Vector (Option Nat) 4 := Vector.replicate 4 none
  /-- The agreed image that agreement wrote, kept apart from lane store (R118). -/
  agreed : AgFrame := {}
  /-- The selection set had no frame in this tick (R118, R120). -/
  agreedK : Nat := 0
  diRun : Vector Nat 24 := Vector.replicate 24 0
  diCount : Vector Nat 24 := Vector.replicate 24 0
  diActive : Nat := 0
  sdRun : Vector Nat 16 := Vector.replicate 16 0
  /-- Signature frames and vectors held in this tick. -/
  sigs : Vector (Option SigFrame) 4 := Vector.replicate 4 none
  vecs : Vector (Option VoteVec) 4 := Vector.replicate 4 none
  /-- Own vote-result vector of this tick. -/
  vec : Option VoteVec := none
  /-- The output frame as sent at N − 1,183 (R125). -/
  sentOut : Option OutFrame := none
  /-- Frames of this tick accounted for, arrived or reported missing: bits 3:0 agreement, 7:4 receipt, 11:8 signature, 15:12
  vector, by sender. -/
  heard : Nat := 0
  /-- CLAUSE_BUDGET and ILLEGAL_ACCESS reports of this tick: (false clause or true transfer, index) (R126). -/
  reports : List (Bool × Nat) := []
  di : Vector DiIn 24 := Vector.replicate 24 {}
  counters : Vector Word 8 := Vector.replicate 8 0#32
  sd : Vector SdIn 16 := Vector.replicate 16 {}
  /-- Auto-zero measurements (R191). -/
  az : Vector AzRun 16 := Vector.replicate 16 {}
  rt : LaneRt := {}
  /-- Steps 1 and 2 of R134 have ended: CODE and INITIAL_DATA are loaded. -/
  loaded : Bool := false
  /-- Bytes written since the last copy pass (R134): addresses of 64-byte blocks. -/
  dirty : List Nat := []
  /-- RETAINED data frozen at the last task-0 release (R165). -/
  frozen : Bytes := []
deriving DecidableEq, Repr

/-! ### The vote (chapter 05) -/

/-- What a lane in RESYNC is to become (R134, Table 5.2). -/
inductive CopyKind where
  | warm | join | powerOn | splitJoin | inPlace
deriving DecidableEq, Repr

/-- A state copy (R134). -/
structure Copy where
  target : LaneId
  kind : CopyKind
  source : Option LaneId
  /-- The copy was restarted once from a new source (R135). -/
  restarted : Bool := false
  /-- 0 loading (steps 1 and 2), 1 copying passes, 2 waiting for the boundary. -/
  phase : Nat := 0
  /-- Passes completed. -/
  passes : Nat := 0
  /-- COPY_KIND (Table 5.11). -/
  shown : Nat := 1
deriving DecidableEq, Repr

/-- A LANE_SELF_TEST in progress: lane and after-pass (0 WARM, 1 COLD, 2 JOIN). -/
structure SelfTest where
  lane : LaneId
  after : Nat
deriving DecidableEq, Repr

/-- SPLIT_STATE (Table 5.11). -/
inductive SplitState where
  | none | pending | loading | running | joinPending | cancelled
deriving DecidableEq, Repr

def SplitState.code : SplitState → Nat
  | .none => 0 | .pending => 1 | .loading => 2 | .running => 3 | .joinPending => 4 | .cancelled => 5

structure Vote where
  laneState : Vector LaneState 4 := Vector.replicate 4 .off
  /-- Lane state and mode changes that take effect at the next tick start (R128, R129). -/
  nextLane : Vector (Option LaneState) 4 := Vector.replicate 4 none
  nextMode : Option Mode := none
  /-- Output frames as each half received them (R13), and those of the tick being voted. -/
  framesSA : Vector (Option OutFrame) 4 := Vector.replicate 4 none
  framesSB : Vector (Option OutFrame) 4 := Vector.replicate 4 none
  vecsSA : Vector (Option VoteVec) 4 := Vector.replicate 4 none
  vecsSB : Vector (Option VoteVec) 4 := Vector.replicate 4 none
  /-- Decided vector of the tick, once formed (R127). -/
  decided : Option Nat := none
  /-- The agreed verdict field shown in VOTE_STATUS. -/
  verdicts : Nat := 0
  /-- Lanes that get verdict LIVE in the next vote (R130), or MISSING in the next tick (R133). -/
  forcedLive : Nat := 0
  forcedMissing : Nat := 0
  /-- Sentence numbers of each lane's LATENT_DIVERGENCE events, newest last (R131). -/
  latentLog : Vector (List Nat) 4 := Vector.replicate 4 []
  latentPending : Nat := 0
  linkErrors : Vector Nat 10 := Vector.replicate 10 0
  linkRun : Vector Nat 10 := Vector.replicate 10 0
  /-- LINK_FAULT raised on link i in this tick, and in the last tick. -/
  linkNow : Nat := 0
  linkActive : Nat := 0
  liveCount : Vector Nat 4 := Vector.replicate 4 0
  selftestCount : Nat := 0
  selftestTick : Bool := false
  selftestOk : Bool := false
  lastMismatch : Nat := 0
  lastMismatchTick : Nat := 0
  sigMajority : Nat := 0
  sigMinority : Nat := 0
  copy : Option Copy := none
  selfTests : List SelfTest := []
  split : SplitState := .none
  splitTarget : Nat := 0
  groupB : Nat := 0
  /-- Per lane, the physical engine of logical engines 0 to 7 and of the spare position 8 (R19, R136). -/
  engineMap : Vector (Vector Nat 9) 4 := Vector.replicate 4 (vmapIdx (fun i _ => i) (Vector.replicate 9 ()))
  splitSchedule : Nat := 0
  /-- Lanes named by a TICK_ALIGNMENT detection of this tick (R37), and the tick in which it was evaluated. -/
  misaligned : Nat := 0
  alignTick : Option Nat := none
  /-- Lanes that cleared the self-test bit in this tick (R132). -/
  comparatorOut : Nat := 0
  /-- The tick's vote has been taken (R127). -/
  votedTick : Option Nat := none
  /-- Lane states at the acceptance of a pending SPLIT or JOIN, and the mode it was accepted in (R139). -/
  splitLanes : Vector LaneState 4 := Vector.replicate 4 .off
  splitMode : Mode := .off
  /-- JOIN's group B lanes were moved to RESYNC at the boundary after acceptance (R138). -/
  joinMoved : Bool := false
  /-- Lanes of a pending JOIN whose copy has ended, and those still to be copied (R138). -/
  joined : Nat := 0
  toJoin : Nat := 0
  /-- Lanes powered on that wait for their copy (Table 19.2: one copy at a time). -/
  toPower : Nat := 0
  /-- Engine substitutions in progress: lane, logical engine, and the sentence in which the copy began (R136). -/
  engineCopy : List (LaneId × Nat × Nat) := []
  /-- What the source lane reported of the last agreement (R140), and every lane's levels as sent. -/
  diAgreed : Nat := 0
  diDisagree : Nat := 0
  diCount : Vector Nat 24 := Vector.replicate 24 0
  sdSpread : Nat := 0
  diRaw : Vector Nat 4 := Vector.replicate 4 0
  /-- Parser writes of window registers waiting for the next release (R22): block, offset, value. -/
  parserWrites : List (Nat × Nat × Nat) := []
deriving DecidableEq, Repr

/-- Record 0x0240 AGREE_DI (Table 5.12). -/
structure AgreeDi where
  safeValue : Nat := 0
  persist : List Nat := List.replicate 24 8
deriving DecidableEq, Repr

/-- One channel of record 0x0241 AGREE_SD (Table 5.13). -/
structure AgreeSd where
  tolerance : Nat := 0
  spreadTicks : Nat := 4
  higher : Bool := false
deriving DecidableEq, Repr

/-- Record 0x0242 VOTE_POLICY (Table 5.14); without one, selftest_tick is S − 1. -/
structure VotePolicy where
  selftestTick : Option Nat := none
  linkFaultTicks : Nat := 8
deriving DecidableEq, Repr

end Sys2Proof.Machine
end

