-- ==== Sys2Proof/Machine/State/Memory.lean ====
section
/-! DEFINITION. The state of memory supervision, spare capacity and the locks (chapter 16). The default of a field is its value
at `State.reset`. -/
namespace Sys2Proof.Machine

/-- State of a wear entry (Table 16.11). -/
inductive WearState where
  | inUse | reached | pending | substituted | noSpare
deriving DecidableEq, Repr

def WearState.code : WearState → Nat
  | .inUse => 0 | .reached => 1 | .pending => 2 | .substituted => 3 | .noSpare => 4

/-- A resource of the wear table (R406, R407). -/
structure WearEntry where
  cls : Nat
  unit : Nat
  index : Nat
  counter : Nat
  state : WearState := .inUse
  /-- Order of entry into the watch list, and of reaching the threshold. -/
  born : Nat
  reachedAt : Nat := 0
  /-- The copy to the spare has ended (R409). -/
  copied : Bool := false
deriving DecidableEq, Repr

structure Memory where
  dramCorr : Vector Nat 5 := Vector.replicate 5 0
  dramUncorr : Vector Nat 5 := Vector.replicate 5 0
  sramCorr : Vector Nat 5 := Vector.replicate 5 0
  sramUncorr : Vector Nat 5 := Vector.replicate 5 0
  /-- Free spare pages of units 0 to 4. FREE RESET (MRAM): every spare page of Table 16.1. -/
  sparePages : Vector Nat 5 := #v[26214, 26214, 26214, 26214, 4915]
  /-- Spare rows in use, (unit × 256 + macro, rows). FREE RESET (MRAM): none. -/
  spareRows : List (Nat × Nat) := []
  /-- Stripes scrubbed in the present pass, and passes completed, of units 0 to 4. -/
  dramScrub : Vector (Nat × Nat) 5 := Vector.replicate 5 (0, 0)
  /-- Scrub slots of 64 rows in the present pass, and passes completed. -/
  sramScrub : Vector (Nat × Nat) 5 := Vector.replicate 5 (0, 0)
  postedFails : Nat := 0
  lastPostedAddr : Nat := 0
  lastPostedInfo : Nat := 0
  /-- Retired blocks of NAND devices 0 and 1. FREE RESET (MRAM): none. -/
  nandBlocks : Vector Nat 2 := Vector.replicate 2 0
  /-- Devices retired by substitution (R405). -/
  nandRetired : Nat := 0
  uncorrSeen : Nat := 0
  /-- The wear table (MRAM). FREE RESET: empty. -/
  wear : List WearEntry := []
  /-- The model's own order of events in the wear table. -/
  order : Nat := 0
  /-- Remap entries in force: (class, unit, index) and the number of the spare that took its place (R409). FREE RESET (MRAM): none. -/
  remapped : List ((Nat × Nat × Nat) × Nat) := []
  /-- Poisoned codewords: (unit, codeword address) (R397). -/
  poison : List (Nat × Nat) := []
  /-- Corrected stripes waiting for their write-back: (unit, stripe address) (R395). -/
  writeBack : List (Nat × Nat) := []
  /-- Corrected SRAM words waiting for the scrub slot: (unit, macro, row) (R400). -/
  sramRewrite : List (Nat × Nat × Nat) := []
  /-- SRAM words written with inverted check bits: (unit, macro, row, word) (R401). -/
  sramBad : List (Nat × Nat × Nat × Nat) := []
  /-- Sequence number of the page programmed last on NAND devices 0 and 1 (R405). FREE RESET: 0. -/
  nandSeq : Vector Nat 2 := Vector.replicate 2 0
deriving DecidableEq, Repr

/-- One lock (R410): owner 0 PARSER, 1 LANES, 2 RACK, 3 PARTNER; station for owner RACK. -/
structure Lock where
  held : Bool := false
  owner : Nat := 0
  station : Nat := 0
deriving DecidableEq, Repr

structure Locks where
  lock : Vector Lock 32 := Vector.replicate 32 {}
  /-- The result that the lanes' reads of each lock got in this tick (R411). -/
  answers : Vector (Option Nat) 32 := Vector.replicate 32 none
  contention : Nat := 0
  releaseIgnored : Nat := 0
deriving DecidableEq, Repr

/-- Record 0x0840 MEM_WEAR (Table 16.9): threshold and AUTO policy of classes 1 to 9. -/
structure MemWear where
  scrubHours : Nat := 12
  threshold : List Nat := [3, 3, 32, 16, 4, 1000, 16, 0xFFFFFFFF, 500]
  auto : List Bool := [true, true, false, false, false, false, false, false, false]
deriving DecidableEq, Repr

end Sys2Proof.Machine
end

