-- ==== Sys2Proof/Machine/State/Net.lean ====
section
/-! DEFINITION. The state of the consist network, the TRDP engine and the queue fabric (chapter 11). The default of a field is its
value at `State.reset`; `FREE RESET` marks a value the spec does not give (assumption log 2). -/
namespace Sys2Proof.Machine

/-! ### Configuration records (R303) -/

/-- Record 0x0542 NETWORK (Table 11.10). -/
structure NetworkCfg where
  ip : Nat
  mask : Nat
  gateway : Nat
  e3Ip : Nat
  e3Mask : Nat
  vid : Nat
  pcp : Nat
  flags : Nat
  pathLossMs : Nat
  linkDownMs : Nat
  supervisionMs : Nat
  entryForgetMs : Nat
  nodeForgetS : Nat
  igmp : Nat
deriving DecidableEq, Repr

/-- A queue of record 0x0543 NET_QUEUE (Table 11.11). -/
structure QueueCfg where
  direction : Nat := 0
  owner : Nat := 0
  ringLog2 : Nat := 0
  slots : Nat := 0
  slotSize : Nat := 0
  offset : Nat := 0
deriving DecidableEq, Repr

/-- A rule of record 0x0544 NET_CLASSIFY (Table 11.12). -/
structure ClassRule where
  selects : Nat
  action : Nat
  queue : Nat
  deliver : Nat
  ethertype : Nat
  vid : Nat
  udpPort : Nat
  protocol : Nat
  comId : Nat
  srcIp : Nat
  srcMask : Nat
deriving DecidableEq, Repr

/-- A publication of record 0x0545 PD_PUBLISH (Table 11.13). -/
structure PubCfg where
  comId : Nat
  dest : Nat
  task : Nat
  every : Nat
  cls : Nat
  flags : Nat
  offset : Nat
  length : Nat
  vid : Nat
  pcp : Nat
deriving DecidableEq, Repr

/-- A subscription of record 0x0546 PD_SUBSCRIBE (Table 11.14). -/
structure SubCfg where
  comId : Nat
  src : Nat
  dest : Nat
  offset : Nat
  length : Nat
  timeoutMs : Nat
  zero : Bool
  topo : Bool
  pull : Nat
deriving DecidableEq, Repr

/-- A destination of record 0x0547 NET_DEST (Table 11.15). -/
structure DestCfg where
  ip : Nat
  port : Nat
  vid : Nat
  cls : Nat
  pcp : Nat
deriving DecidableEq, Repr

/-- The records of chapter 11. -/
structure NetCfg where
  network : Option NetworkCfg := none
  queues : List QueueCfg := List.replicate 64 {}
  rules : List ClassRule := []
  pubs : List PubCfg := []
  subs : List SubCfg := []
  dests : List DestCfg := []
deriving DecidableEq, Repr

/-! ### State -/

/-- What a frame to be sent belongs to. -/
inductive TxKind where
  | other
  | pub (i : Nat)
  /-- A slot of an APPLICATION queue. -/
  | slot (q slot : Nat)
  /-- A descriptor of a PARSER queue. -/
  | desc (q index : Nat)
deriving DecidableEq, Repr

/-- A frame ready on a port (R283): without FCS and PRP trailer; `seq` is the PRP sequence number (R276). -/
structure TxFrame where
  id : Nat
  cls : Nat
  bytes : Bytes
  seq : Option Nat
  kind : TxKind
deriving DecidableEq, Repr

/-- One Ethernet port. Instants are hub times in ns. -/
structure EthPort where
  up : Bool := false
  everUp : Bool := false
  /-- Since when the link is down, and the tick of the loss. -/
  downAt : Option Nat := none
  lostTick : Nat := 0
  /-- TB0 of the last link change. -/
  changed : Nat := 0
  received : Nat := 0
  sent : Nat := 0
  errors : Nat := 0
  /-- Powered down in a substitution (R280). -/
  off : Bool := false
  ready : List TxFrame := []
  current : Option TxFrame := none
deriving DecidableEq, Repr

/-- An entry of the ARP cache (R281) of interface 0 (consist) or 1 (E3): its MAC once resolved, the instant of the answer or of the
first request, the requests sent, and the frames that wait: VLAN tag, class, kind and IPv4 packet. -/
structure ArpEntry where
  iface : Nat
  ip : Nat
  mac : Option Nat
  at_ : Nat
  tries : Nat
  waiting : List (Option Nat × Nat × TxKind × Bytes) := []
deriving DecidableEq, Repr

/-- State of a publication (PUB_STATUS). -/
structure PubState where
  seq : Nat := 0
  sent : Nat := 0
  answered : Nat := 0
  skipped : Nat := 0
deriving DecidableEq, Repr

/-- State of a subscription (SUB_STATUS): `lastAt` (hub ns) is the last acceptance or the start of supervision. -/
structure SubState where
  seq : Nat := 0
  accepted : Nat := 0
  lastTick : Option Nat := none
  lastAt : Nat := 0
  source : Nat := 0
  valid : Bool := false
  /-- Sequence counter and tick of the last Pr sent. -/
  prSeq : Nat := 0
  prTick : Option Nat := none
deriving DecidableEq, Repr

/-- A descriptor as it stands in the ring of a PARSER queue (Table 11.6). -/
structure RingDesc where
  buffer : Nat
  length : Nat
  flags : Nat
  stamp : Nat := 0
deriving DecidableEq, Repr

/-- State of a queue (QUEUE_STATUS): frames sent or written, last doorbell, drops; slots pending (transmit); posted or staged
descriptors (index, buffer, length) of a PARSER ring. -/
structure QueueState where
  count : Nat := 0
  bell : Nat := 0
  drops : Nat := 0
  pending : List Nat := []
  posted : List (Nat × Nat × Nat) := []
  /-- Index of the next descriptor the Parser hands over, and the ring's descriptors by index. -/
  next : Nat := 0
  ring : List (Nat × RingDesc) := []
deriving DecidableEq, Repr

/-- An entry of the completion ring (R297). -/
structure Completion where
  queue : Nat
  status : Nat
  count : Nat
  index : Nat
  stamp : Nat
deriving DecidableEq, Repr

/-- SET_IP_CONFIG waiting for its boundary (R282): the request's parameters from byte 0. -/
structure IpPending where
  sentence : Nat
  iface : Nat
  ip : Nat
  mask : Nat
  gateway : Nat
  etb : Nat
  opTrn : Nat
deriving DecidableEq, Repr

structure Net where
  /-- Hub time of the last entry to SERVICE (R275, R290). -/
  startedAt : Nat := 0
  ports : Vector EthPort 4 := Vector.replicate 4 {}
  /-- 0 none, 1 E2 in place of E0, 2 in place of E1; a pending change: its value and sentence. -/
  subst : Nat := 0
  substPending : Option (Nat × Nat) := none
  /-- Open classes of E0 to E2 (R107). -/
  gates : Vector Nat 3 := Vector.replicate 3 0xFF
  ip : Nat := 0
  mask : Nat := 0
  gateway : Nat := 0
  e3Ip : Nat := 0
  e3Mask : Nat := 0
  etb : Nat := 0
  opTrn : Nat := 0
  epoch : Nat := 0
  ipPending : Option IpPending := none
  /-- The second gratuitous ARP of an interface is due at this hub time (R282). -/
  gratuitous : Option (Nat × Nat) := none
  nextId : Nat := 0
  /-- PRP: sequence numbers per destination MAC, the duplicate table (source, sequence, instant, newest first), the node table
  (MAC, last seen), the last valid frame of each LAN and the last supervision frame. -/
  prpSeq : List (Nat × Nat) := []
  dups : List (Nat × Nat × Nat) := []
  nodes : List (Nat × Nat) := []
  lanLast : Vector Nat 2 := Vector.replicate 2 0
  supSeq : Nat := 0
  supAt : Nat := 0
  arp : List ArpEntry := []
  pubs : List PubState := []
  pubEnable : Nat := 0
  subs : List SubState := []
  queues : Vector QueueState 64 := Vector.replicate 64 {}
  completions : List Completion := []
  dropNoRule : Nat := 0
  dropInvalid : Nat := 0
  dropFull : Nat := 0
  bellReject : Nat := 0
  duplicates : Nat := 0
  skipped : Nat := 0
  /-- Transmit and receive regions (R302), by offset. -/
  tx : Mem := []
  rx : Mem := []
  /-- Hub DRAM as the fabric writes it (R294). FREE RESET: 0. -/
  dram : Mem := []
  /-- Doorbells of this tick: lane, offset in block 24, bytes (R299). -/
  bells : List (Nat × Nat × Bytes) := []
deriving DecidableEq, Repr

end Sys2Proof.Machine
end

