-- ==== Sys2Proof/Machine/State/Partner.lean ====
section
/-! DEFINITION. The state of the partner link and the roles (chapter 15). The default of a field is its value at `State.reset`;
`FREE RESET` marks a value the spec does not give (assumption log 2). -/
namespace Sys2Proof.Machine

/-- Roles (R380). -/
inductive Role where
  | alone | active | standby
deriving DecidableEq, Repr

/-- Table 15.6. -/
def Role.code : Role → Nat
  | .alone => 0 | .active => 1 | .standby => 2

/-- Record 0x0740 PARTNER (Table 15.7). -/
structure PartnerCfg where
  enabled : Bool := false
  missLimit : Nat := 2
  preference : Nat := 0
  autoTakeover : Bool := true
  lanes : Nat := 3
  handshakeMs : Nat := 1000
deriving DecidableEq, Repr

/-- A role transition that waits for its tick start: what it counts as (0 none, 1 takeover, 2 switchover) and whether the epoch
increases. -/
structure RoleNext where
  role : Role
  tick : Nat
  promote : Bool
  counts : Nat
deriving DecidableEq, Repr

/-- A state copy being sent (R382): cycle, start (hub ns), source lane and the image as it stood. -/
structure CopyOut where
  cycle : Nat
  startAt : Nat
  source : LaneId
  data : Bytes
deriving DecidableEq, Repr

/-- A state copy being received (R383): cycle, length and the bytes that have arrived, by offset. -/
structure CopyIn where
  cycle : Nat
  total : Nat
  data : List (Nat × Bytes) := []
  late : Bool := false
deriving DecidableEq, Repr

/-- What the frames of the handshake have reported: role (3 new), preference and serial. -/
structure Heard where
  role : Nat
  preference : Nat
  serial : Nat
deriving DecidableEq, Repr

structure Partner where
  role : Role := .alone
  roleNext : Option RoleNext := none
  /-- The role epoch in MRAM. FREE RESET: 0. -/
  epoch : Nat := 0
  partnerRole : Nat := 3
  partnerEpoch : Nat := 0
  partnerSerial : Nat := 0
  up : Vector Bool 2 := Vector.replicate 2 false
  /-- Lanes held DOWN by substitution (Table 16.3). -/
  down : Vector Bool 2 := Vector.replicate 2 false
  handshake : Bool := false
  /-- Hub time of the last HELLO and of the handshake's start. -/
  helloAt : Nat := 0
  handshakeAt : Nat := 0
  heard : Option Heard := none
  seq : Nat := 0
  copyHeld : Bool := false
  promotable : Bool := false
  partnerSafe : Bool := false
  partnerSupply : Bool := false
  missCopies : Nat := 0
  missAcks : Nat := 0
  /-- Consecutive ACKs of a STANDBY partner while ALONE. -/
  ackRun : Nat := 0
  /-- A header whose ACK is awaited: sequence and send instant (hub ns). -/
  awaited : Option (Nat × Nat) := none
  /-- Arrival of the last valid header (hub ns), and the expected instants counted since. -/
  headerAt : Nat := 0
  counted : Nat := 0
  preference : Nat := 0
  missLimit : Nat := 2
  auto : Bool := true
  policyNext : Option (Nat × Nat × Bool) := none
  switching : Bool := false
  out : Option CopyOut := none
  in_ : Option CopyIn := none
  /-- The newest complete copy in hub DRAM: partner cycle and image. -/
  kept : Option (Nat × Bytes) := none
  lastSent : Nat := 0
  lastApplied : Nat := 0
  copyUs : Nat := 0
  late : Nat := 0
  linkErrors : Vector Nat 2 := Vector.replicate 2 0
  takeovers : Nat := 0
  switchovers : Nat := 0
  changedTb0 : Nat := 0
  dualSeen : Bool := false
deriving DecidableEq, Repr

end Sys2Proof.Machine
end

