-- ==== Sys2Proof/Machine/State/Rack.lean ====
section
/-! DEFINITION. The state of the rack link bridge (chapter 14). The default of a field is its value at `State.reset`. -/
namespace Sys2Proof.Machine

/-- Record 0x0E40 RACK_LINK (Table 14.8). -/
structure RackLinkCfg where
  enabled : Bool := false
  queues : Nat := 2
  tagTimeoutUs : Nat := 10000
  lostWindows : Nat := 3
  ringLog2 : Nat := 0
  rescanMs : Nat := 100
  hostPollUs : Nat := 1000
deriving DecidableEq, Repr

/-- A station of record 0x0E41 RACK_STATION (Table 14.9). -/
structure StationCfg where
  station : Nat
  host : Bool
  waitEnable : Bool
  period : Nat
  expected : Nat
  phase : Nat
  due : Nat
  outLen : Nat
  inLen : Nat
  holdMs : Nat
deriving DecidableEq, Repr

/-- A window of record 0x0E42 RACK_WINDOW (Table 14.10). -/
structure RackWindowCfg where
  station : Nat
  device : Bool
  base : Nat
  size : Nat
deriving DecidableEq, Repr

/-- The records of chapter 14; `substitutes` are (station, data). -/
structure RackCfg where
  link : RackLinkCfg := {}
  stations : List StationCfg := []
  windows : List RackWindowCfg := []
  substitutes : List (Nat × Bytes) := []
deriving DecidableEq, Repr

/-- Where an acyclic request comes from: a slot of Q44, a descriptor of Q46, or a command. -/
inductive RackSrc where
  | slot (i : Nat)
  | desc (i : Nat)
  | command (r : Req)
deriving DecidableEq, Repr

/-- An acyclic request (Table 14.3); `write` is the operation, `data` what is to be written. -/
structure RackReq where
  src : RackSrc
  user : Nat
  station : Nat
  write : Bool
  flags : Nat
  address : Nat
  length : Nat
  data : Bytes
deriving DecidableEq, Repr

/-- A tag in use: its request, the length asked of the station, the end of its packet (hub ns), and once timed out the end of its
quarantine; a completion suppressed by an injection. -/
structure RackTag where
  req : RackReq
  asked : Nat
  sentEnd : Nat
  quarantine : Option Nat := none
  suppressed : Option Origin := none
deriving DecidableEq, Repr

/-- What a reply window was granted for. -/
inductive RackAsk where
  | exchange (tick : Nat)
  | identify
  | request (tag : Nat)
  | poll
  | frame
deriving DecidableEq, Repr

/-- The prefetch buffer of a station: first address, bytes, a bit per byte served, and when it was filled (hub ns). -/
structure Prefetch where
  address : Nat
  data : Bytes
  served : Nat
  at_ : Nat
deriving DecidableEq, Repr

/-- A station. Instants are hub ns. -/
structure Station where
  present : Bool := false
  /-- STATION_LOST is active: its cause. -/
  lost : Option Nat := none
  lostAt : Nat := 0
  type : Nat := 0
  /-- DEVICE regions of the last DESCRIPTOR (base, size). -/
  devices : List (Nat × Nat) := []
  lastWrite : Nat := 0
  lastExchange : Nat := 0
  missed : Nat := 0
  completed : Nat := 0
  failed : Nat := 0
  stale : Bool := false
  substituted : Bool := false
  hold : Bool := false
  /-- Input image: length, stamp (TB0), data. -/
  length : Nat := 0
  stamp : Nat := 0
  data : Bytes := []
  /-- Exchanges without a reply yet: (due tick, exchange tick). -/
  dues : List (Nat × Nat) := []
  prefetch : Option Prefetch := none
  /-- End of the last window, last IDENTIFY and last host poll. -/
  lastWindow : Nat := 0
  identifyAt : Nat := 0
  polledAt : Nat := 0
  /-- A COMMAND packet being put together: when its first part came, and its bytes (R421). -/
  parts : Option (Nat × Bytes) := none
  /-- Packets that wait for the station's next host poll: COMMAND parts of replies (0x0A) and lock results (0x0B) (R421, R446). -/
  replies : List (Nat × Bytes) := []
deriving DecidableEq, Repr

structure Rack where
  stations : Vector Station 32 := Vector.replicate 32 {}
  /-- An enumeration or RESCAN runs. -/
  enumerating : Bool := false
  /-- The open reply window: station and what was asked; a packet with an error came in it. -/
  window : Option (Nat × RackAsk) := none
  windowBad : Bool := false
  tags : Vector (Option RackTag) 64 := Vector.replicate 64 none
  waiting : List RackReq := []
  peak : Nat := 0
  timeouts : Nat := 0
  crcErrors : Nat := 0
  late : Nat := 0
  /-- Bus time used in this sentence, ns, and BUS_LOAD. -/
  busy : Nat := 0
  load : Nat := 0
  /-- PREFETCH_LOG: (station, unused length, address), newest last, with the index of the next entry and the discards. -/
  log : Vector (Nat × Nat × Nat) 16 := Vector.replicate 16 (0, 0, 0)
  logNext : Nat := 0
  discards : Nat := 0
  /-- OUTPUT_IMAGE and REQ_SLOTS, and CPL_SLOTS, by offset in block 18. -/
  tx : Mem := []
  rx : Mem := []
deriving DecidableEq, Repr

end Sys2Proof.Machine
end

