-- ==== Sys2Proof/Machine/State/Stage.lean ====
section
/-! DEFINITION. The state of the input/output stage (chapter 09) and of the safety functions (chapter 10), and their configuration
records. The default of a field is its value at `State.reset`; `FREE RESET` marks a value the spec does not give (assumption
log 2). -/
namespace Sys2Proof.Machine

/-- Record 0x0640 FIELD_INPUT (Table 9.5); bits of `wire` and `type2`. -/
structure FieldInputCfg where
  debounce : List Nat := List.replicate 24 3000
  wire : Nat := 0
  type2 : Nat := 0
deriving DecidableEq, Repr

/-- A DO of record 0x0641 FIELD_OUTPUT: mode 0 OUTPUT, 1 INPUT, 2 UNUSED; safe state 0 OFF, 1 ON, 2 HOLD. -/
structure DoCfg where
  mode : Nat := 2
  safe : Nat := 0
  offpulse : Bool := false
deriving DecidableEq, Repr

/-- Record 0x0641 FIELD_OUTPUT (Table 9.6); SO modes 0 single, 1 paired, 2 unused. -/
structure FieldOutputCfg where
  dos : List DoCfg := List.replicate 16 {}
  sos : List Nat := List.replicate 8 0
  watchdog : Nat := 8
deriving DecidableEq, Repr

/-- A function of record 0x1040 SAFETY_FUNCTION (Table 10.9); 0xFF stands for none. -/
structure SafetyCfg where
  task : Nat := 0xFF
  kind : Nat := 1
  diA : Nat := 0
  diB : Nat := 0xFF
  tpA : Nat := 0xFF
  tpB : Nat := 0xFF
  startup : Bool := false
  resetDi : Nat := 0xFF
  discMs : Nat := 500
  pair : Nat := 0xFF
  outDiscMs : Nat := 10
  request : Nat := 0
deriving DecidableEq, Repr

/-- One output channel: 0 to 15 DO, 16 to 23 SO (R221). Instants are hub times in ns. -/
structure OutCh where
  /-- The state in which the stage holds the switch (R225), and when it last changed. -/
  cmd : Bool := false
  changedAt : Nat := 0
  /-- Latched faulty, and latched by an external voltage. -/
  faulty : Bool := false
  ext : Bool := false
  /-- Last sample: 0 low, 1 between the thresholds, 2 high; and the current in mA. FREE RESET: low, 0. -/
  readback : Nat := 0
  current : Nat := 0
  /-- The last command applied since the stage started (R230, HOLD). -/
  applied : Option Bool := none
  onSince : Nat := 0
  /-- Start of the off-pulse in progress (R258). -/
  pulse : Option Nat := none
deriving DecidableEq, Repr

/-- An external voltage being traced (R235): cause 0 commanded off, 1 own off-pulse; `opened` disconnects; phase 0 waits for the
evaluation, 1 searches. -/
structure Search where
  channel : Nat
  detectedAt : Nat
  cause : Nat
  opened : Nat
  searching : Bool := false
  /-- What detected it (R539). -/
  origin : Origin := .real
deriving DecidableEq, Repr

/-- TEST_OUTPUT in progress (R244). -/
structure OutTest where
  channel : Nat
  endAt : Nat
  fault : Bool := false
deriving DecidableEq, Repr

/-- An output frame as the stage receives it: tick, DO and SO commands, and whether it is a SAFE or SERVICE frame (R230). -/
structure StageFrame where
  tick : Nat
  dos : Nat
  sos : Nat
  safe : Bool
deriving DecidableEq, Repr

structure Stage where
  run : Bool := false
  wdTripped : Bool := false
  /-- The frame SA and SB released last. -/
  sent : Option StageFrame := none
  /-- The last valid frame: tick, and when it came; none since the stage's start (R231). -/
  last : Option (Nat × Nat) := none
  /-- A valid frame came in this tick; runs and count of ticks without one. -/
  gotFrame : Bool := false
  missRun : Nat := 0
  missLongest : Nat := 0
  missCount : Nat := 0
  /-- Disconnect switches of FS_A and FS_B, and their supplies: voltage in 10 mV, since when at or above 16.8 V, lowest while low.
  FREE RESET: 0 V. -/
  closed : Vector Bool 2 := Vector.replicate 2 false
  supply : Vector Nat 2 := Vector.replicate 2 0
  goodSince : Vector (Option Nat) 2 := Vector.replicate 2 none
  lowest : Vector Nat 2 := Vector.replicate 2 0
  ch : Vector OutCh 24 := Vector.replicate 24 {}
  safeStates : Bool := false
  /-- DO_INPUT and the filter's run of differing samples (R222). -/
  doInput : Nat := 0
  doRun : Vector Nat 16 := Vector.replicate 16 0
  searches : List Search := []
  test : Option OutTest := none
  refused : Nat := 0
  extLast : Nat := 0
  /-- TPk present, in current limit, and switched off since (R254). -/
  tpPresent : Nat := 0
  tpLimit : Nat := 0
  tpOff : Vector (Option Nat) 4 := Vector.replicate 4 none
  /-- The TP whose test window is open. -/
  window : Option Nat := none
  /-- TEST_RESULT and the other TP of a cross-short. -/
  testResult : Vector Nat 24 := Vector.replicate 24 0
  testOther : Vector Nat 24 := Vector.replicate 24 0xFF
  /-- DIs whose failure an injection made (R539). -/
  testInjected : Nat := 0
  testEvaluations : Nat := 0
  offFailed : Nat := 0
deriving DecidableEq, Repr

/-- Block 5's command registers and block 6's released values. -/
structure Safety where
  doCmd : Nat := 0
  soCmd : Nat := 0
  sfOut : Nat := 0
  sfState : Vector Nat 8 := Vector.replicate 8 0
  /-- HALVES: lanes used by SA and SB in the previous tick, and whether its frame was released. -/
  saUsed : Nat := 0
  sbUsed : Nat := 0
  halvesAgree : Bool := false
  /-- Functions whose monitor step reported an injected condition, by fault code, until the hub raises it (R539). -/
  injected : List (Nat × Nat) := []
  /-- Detectors that the monitor steps of this tick evaluated, by fault code and function (R510). -/
  evaluated : List (Nat × Nat) := []
deriving DecidableEq, Repr

end Sys2Proof.Machine
end

