-- ==== Sys2Proof/Machine/State/Yebor.lean ====
section
/-! DEFINITION. The state of the Yebor bus engine and its guardian (chapter 13). The default of a field is its value at `State.reset`. -/
namespace Sys2Proof.Machine

/-- Record 0x0D40 YB_CLUSTER (Table 13.11). -/
structure YbCluster where
  enabled : Bool := false
  node : Nat := 0
  channels : Nat := 3
  sync : Bool := false
  coldstart : Bool := false
  cycleTicks : Nat := 40
  staticSlots : Nat := 1
  slotUs : Nat := 16
  minislots : Nat := 64
  action : Nat := 2
  minSync : Nat := 1
  windowNs : Nat := 1500
  offsetLimit : Nat := 2000
  rateLimit : Nat := 200
  syncLoss : Nat := 4
  claimSlots : Nat := 0
  claimBuffer : Nat := 0
  claimRelease : Nat := 64
  dynQueues : Nat := 0
  ringLog2 : Nat := 0
deriving DecidableEq, Repr

/-- A static slot of record 0x0D41 YB_SLOT (Table 13.12). -/
structure YbSlot where
  slot : Nat
  owner : Nat
  channels : Nat
  sync : Bool
  length : Nat
  txBuffer : Nat
  rxBuffer : Nat
deriving DecidableEq, Repr

/-- A minislot of record 0x0D42 YB_DYNAMIC (Table 13.13). -/
structure YbDynamic where
  minislot : Nat
  owner : Nat
  route : Nat
deriving DecidableEq, Repr

/-- The records of chapter 13. -/
structure YbCfg where
  cluster : YbCluster := {}
  slots : List YbSlot := []
  dynamic : List YbDynamic := []
deriving DecidableEq, Repr

/-- Node states; codes of Table 13.7. -/
inductive YbState where
  | off | listen | coldstart | integrating | normal | passive
deriving DecidableEq, Repr

def YbState.code : YbState → Nat
  | .off => 0 | .listen => 1 | .coldstart => 2 | .integrating => 3 | .normal => 4 | .passive => 5

/-- The engine follows the cycle. -/
def YbState.timed : YbState → Bool
  | .off | .listen => false
  | _ => true

/-- A valid copy of the frame of the present slot: header fields, payload, deviation in ns and stamp. -/
structure YbCopy where
  flags : Nat
  slot : Nat
  cycle : Nat
  node : Nat
  data : Bytes
  deviation : Int
  stamp : Nat
deriving DecidableEq, Repr

/-- A startup frame heard in LISTEN: node, slot, cycle and stamp. -/
structure YbTentative where
  node : Nat
  slot : Nat
  cycle : Nat
  stamp : Nat
deriving DecidableEq, Repr

/-- A receive buffer (Table 13.9). -/
structure YbRx where
  status : Nat := 0
  cycle : Nat := 0
  node : Nat := 0
  length : Nat := 0
  missed : Nat := 0
  stamp : Nat := 0
  data : Bytes := []
deriving DecidableEq, Repr

/-- A transmit entry of the dynamic segment: its slot (Q40) or descriptor (Q42). -/
structure YbEntry where
  minislot : Nat
  channels : Nat
  data : Bytes
  parser : Bool
  index : Nat
deriving DecidableEq, Repr

structure Yebor where
  state : YbState := .off
  /-- The listen timeout's last start, hub ns. -/
  timeoutAt : Nat := 0
  tentative : Option YbTentative := none
  counter : Nat := 0
  /-- Cycles since leaving LISTEN. -/
  cycles : Nat := 0
  /-- Complete cycles in COLDSTART or INTEGRATING; a valid frame of another node came in COLDSTART. -/
  inState : Nat := 0
  heard : Bool := false
  /-- Consecutive clean cycles, cycles with too few sync frames, and guardian disagreements. -/
  cleanRun : Nat := 0
  lossRun : Nat := 0
  disagreeRun : Nat := 0
  offset : Int := 0
  rate : Int := 0
  /-- Sync nodes of the last idle time and their number. -/
  syncNodes : Nat := 0
  syncUsed : Nat := 0
  /-- Deviations (node, ns) of this cycle and of the previous one; the own sync frame was sent in this cycle. -/
  dev : List (Nat × Int) := []
  prevDev : List (Nat × Int) := []
  startAt : Nat := 0
  startTb0 : Nat := 0
  tb4Base : Nat := 0
  violations : Vector Nat 2 := Vector.replicate 2 0
  errors : Vector Nat 2 := Vector.replicate 2 0
  blocks : Nat := 0
  collisions : Nat := 0
  /-- Collisions since leaving OFF. -/
  collisionsNow : Nat := 0
  aborts : Nat := 0
  integrations : Nat := 0
  passives : Nat := 0
  mismatches : Nat := 0
  differ : Nat := 0
  agree : Bool := false
  /-- The guardian's copy of the records holds its CRC. -/
  tableOk : Bool := true
  /-- Drivers enabled in this cycle so far, and in the last one. -/
  driven : Bool := false
  drivenLast : Bool := false
  /-- The role of the last cycle start lets the module send (R349). -/
  roleOk : Bool := true
  txValid : Nat := 0
  /-- TX_BUFFER and DYN_TX_SLOTS, and DYN_RX_SLOTS, by offset in block 17. -/
  tx : Mem := []
  rx : Mem := []
  buffers : Vector YbRx 128 := Vector.replicate 128 {}
  /-- Latched transmit data: slot, NULL, payload. -/
  latches : List (Nat × Bool × Bytes) := []
  /-- Copies of the present slot's frame on channels A and B. -/
  copies : Vector (Option YbCopy) 2 := Vector.replicate 2 none
  /-- The minislot that runs. -/
  minislot : Option Nat := none
  queue : List YbEntry := []
  /-- Minislots in which the module sent in this cycle. -/
  sent : List Nat := []
  /-- Slots held by a claim (slot, node), and claims of this cycle that win at the next (slot, node). -/
  held : List (Nat × Nat) := []
  won : List (Nat × Nat) := []
  /-- Claimable slots with activity in this cycle, and those named by a claim frame. -/
  busy : List Nat := []
  named : List Nat := []
  /-- Consecutive empty cycles of each claimable slot, and cycles without a valid frame of each holder. -/
  empty : List (Nat × Nat) := []
  silent : List (Nat × Nat) := []
  /-- Complete cycles of observation since entry to NORMAL. -/
  observed : Nat := 0
  /-- The slot held by each own claim (0 none), and the own claim under way (index, slot, conflict found). -/
  claims : Vector Nat 4 := Vector.replicate 4 0
  claiming : Option (Nat × Nat × Bool) := none
deriving DecidableEq, Repr

end Sys2Proof.Machine
end

