-- ==== Sys2Proof/Machine/State.lean ====
section
/-! DEFINITION. The state of the block, its faults and refusals, and the state right after reset. -/
namespace Sys2Proof.Machine

/-- Reasons for which a step could stop with a fault. -/
inductive Fault where
  /-- Raised by no command: every stop that the spec describes (an abort, a fault record, SAFE, a module reset) is an effect on
  the state. Safe. -/
  | neverRaised
deriving DecidableEq, Repr

/-- Reasons for which a command has no meaning. -/
inductive Refusal where
  /-- The command's row has no meaning yet; `exec`'s arm names its mnemonic. Safe. -/
  | notModelled (mnemonic : String)
deriving DecidableEq, Repr

/-- What the module has handed to a transmitter or a pin: the model's own record of its outputs. -/
inductive Sent where
  /-- A command reply packet: transport, source, port, packet. -/
  | reply (transport source port : Nat) (packet : Bytes)
  /-- An Ethernet frame with its PRP trailer, from the start of its transmission: port, bytes without FCS (R276, R283). -/
  | frame (port : Nat) (bytes : Bytes)
  /-- An attempt to send a CAN frame: controller, identifier, flags, DLC, data (R313). -/
  | can (controller id flags dlc : Nat) (data : Bytes)
  /-- A Yebor bus frame from its header to its CRC: channel mask, bytes (R333). -/
  | yebor (channels : Nat) (frame : Bytes)
  /-- A rack link packet of the module from its header to its CRC (R356). -/
  | rack (packet : Bytes)
  /-- A partner link frame of the module: lane, frame from its header to its CRC (R379). -/
  | partner (lane : Nat) (frame : Bytes)
  /-- A trace datagram (R505): IPv4 address, port, datagram. -/
  | stream (ip port : Nat) (datagram : Bytes)
  /-- The start marker (R32): the start instant it names. -/
  | startMarker (at_ : Nat)
  /-- A PTP message of a tracker (R42): kind (0 Delay_Req, 1 Pdelay_Req, 2 Pdelay_Resp, 3 Pdelay_Resp_Follow_Up), domain, port
  and sequence number. -/
  | ptp (kind domain port seq : Nat)
deriving DecidableEq, Repr

/-- The configuration of the APP image: its records (R109), each at its default where the image has none. -/
structure Cfg where
  timeBase : TimeBaseCfg := {}
  ptp : Vector (Option PtpCfg) 2 := Vector.replicate 2 none
  agreeDi : AgreeDi := {}
  agreeSd : List AgreeSd := List.replicate 16 {}
  votePolicy : VotePolicy := {}
  memWear : MemWear := {}
  tasks : List TaskCfg := List.replicate 8 {}
  regions : List Region := []
  diCounters : List DiCounterCfg := List.replicate 8 {}
  sd : List SdCfg := List.replicate 16 {}
  sdCal : List CalSet := List.replicate 16 CalSet.empty
  pairs : List PairCfg := List.replicate 6 {}
  trip : TripCfg := {}
  fieldIn : FieldInputCfg := {}
  fieldOut : FieldOutputCfg := {}
  safety : List SafetyCfg := List.replicate 8 {}
  offpulseUs : Nat := 300
  net : NetCfg := {}
  can : CanCfgs := {}
  yb : YbCfg := {}
  rack : RackCfg := {}
  partner : PartnerCfg := {}
  system : SystemCfg := {}
  keys : List CommandKey := []
  trace : TraceFilter := {}
  /-- Record 0x0A41 COUNTERS: event and qualifier. -/
  counters : List (Nat × Nat) := List.replicate 48 (0, 0)
  /-- Record 0x0B40 INJECTION: the live enable bits. -/
  live : Nat := 0
  /-- Record 0x1140 MAILBOX. -/
  boxes : List Mailbox := (List.range 16).map Mailbox.default
  appAuthority : Nat := 2
deriving DecidableEq, Repr

/-- Everything outside the lanes. -/
structure Hub where
  time : Time := {}
  power : Power := {}
  backup : Backup := {}
  faults : Faults := {}
  trace : Trace := {}
  counters : Vector EventCounter 48 := Vector.replicate 48 {}
  inject : Inject := {}
  cmd : Cmd := {}
  mb : Mailboxes := {}
  sched : Sched := {}
  cfg : Cfg := {}
  vote : Vote := {}
  rt : Runtime := {}
  slots : ConfigSlots := {}
  meas : Measure := {}
  pwm : Pwm := {}
  stage : Stage := {}
  safety : Safety := {}
  otp : Otp := {}
  boot : Boot := {}
  net : Net := {}
  can : Can := {}
  yb : Yebor := {}
  rack : Rack := {}
  partner : Partner := {}
  mem : Memory := {}
  locks : Locks := {}
  outbox : List Sent := []
  /-- The model's own count of free values drawn (assumption log 1). -/
  free : Nat := 0
deriving DecidableEq, Repr

/-- The whole state. `snap` is the hub as it stood at its last tick start (R16); `pending` is the queue of waiting commands,
first in first out. -/
structure State where
  hub : Hub
  snap : Hub
  lanes : Vector Lane 4
  pending : List Instr
deriving DecidableEq, Repr

/-- The machine right after reset: before the first power-on, with an empty queue. -/
def State.reset : State :=
  { hub := {}, snap := {}, lanes := Vector.replicate 4 {}, pending := [] }

end Sys2Proof.Machine
end

