-- ==== Sys2Proof/Machine/Flags.lean ====
section
/-! DEFINITION. FLAGS and CLAUSE_STATUS (Tables 3.3 and 3.4), and the flags of the integer operations (R77, R81). The flags of
the floating-point operations are computed with their results in Machine/Float.lean (R82). -/
namespace Sys2Proof.Machine

/-- The writable bits of FLAGS. -/
def flagsMask : Nat := 0x3F

/-- R66: an MTS clears the bits written as 1, and a flag raised in the same cycle stays set. -/
def newFlags (old cleared raised : Nat) : Nat := clearBits (old % 64) (cleared % 64) ||| (raised % 64)

/-- CLAUSE_STATUS (Table 3.4). -/
def Engine.clauseStatus (e : Engine) : Nat :=
  b2n e.prevAbort + 2 * b2n e.mbFull + 256 * (if e.prevAbort then e.prevCause % 16 else 0)

/-- Signed division with the defined limits (R81, Table 3.10): result and flags. -/
def divS (a b : Word) : Word × Nat := if b = 0#32 then (0xFFFFFFFF#32, flagIDZ) else (a.sdiv b, 0)
def divU (a b : Word) : Word × Nat := if b = 0#32 then (0xFFFFFFFF#32, flagIDZ) else (a / b, 0)
def remS (a b : Word) : Word × Nat := if b = 0#32 then (a, flagIDZ) else (a.srem b, 0)
def remU (a b : Word) : Word × Nat := if b = 0#32 then (a, flagIDZ) else (a % b, 0)

end Sys2Proof.Machine
end

