-- ==== Sys2Proof/Config.lean ====
section
/-! DEFINITION. What an implementation fixes, and the free values: constants without a body, so that nothing can be proved
about which value they take (assumption log 1). -/
namespace Sys2Proof

/-- The build number (R1, GET_STATUS, GET_IDENTITY): this manual describes build 1. -/
def Config.build : Nat := 1

/-- HW_TYPE (R1, R2). -/
def Config.hwType : Nat := 0x00004310

/-- The confirm codes that the key engine draws at random (R433). -/
opaque Config.confirmCode : Nat → Word

/-- A tracker's rate after an offset measurement, in ppb (R45 gives the bound, not the filter). -/
opaque Config.trackerRate : Nat → Int

/-- The RTC's rate error in ppm at an RTC second (R51 gives the bound). -/
opaque Config.rtcRate : Nat → Int

/-- REC after a reception above 127, as an offset (ISO 11898-1 gives the bounds 119 and 127). -/
opaque Config.canReceiveCount : Nat → Nat

/-- The bit whose readback an injection of STARTUP_COLLISION inverts (Table 13.14 names none). -/
opaque Config.ybInjectedBit : Nat → Nat

/-- Sentences beyond the next boundary until a copy to a spare has ended (R409 gives no bound). -/
opaque Config.copySentences : Nat → Nat

/-- Whether a low period of RST_N between 4 µs and 5 µs resets the module (the spec gives no answer between the two). -/
opaque Config.rstSeen : Nat → Bool

/-- A bit that an injection makes and the spec does not give: the level of a data line reported stuck, and the inverse of a HIGH_Z
sample. -/
opaque Config.injectedBit : Nat → Bool

/-- The transfer ids that BEGIN_IMAGE gives. -/
opaque Config.transferId : Nat → Word

/-- The injection id in the reply to an INJECT that cancels (a repeat count of 0). -/
opaque Config.cancelId : Nat → Byte

/-- What ATTEST states as the hash of the active configuration slot when no slot is active. -/
opaque Config.noSlotHash : Nat → Byte

/-- The version of the resident loader in mask ROM (GET_IDENTITY). -/
opaque Config.loaderVersion : Nat

/-- The unit's HSS signature over a message with a leaf: the identity key's private values are derived inside the key engine (R475). -/
opaque Config.identitySignature : Nat → Bytes → Bytes

end Sys2Proof
end

