-- ==== Sys2Proof/Machine/Crypto.lean ====
section
/-! DEFINITION. The published checks and hashes the spec names: CRC-32 of IEEE 802.3 (R105), CRC-64 of ECMA-182 (R121), CRC-16
(R421 and the rack link), SHA-256 and HMAC-SHA-256 (Table 17.2). Their constants are those of the published standards. -/
namespace Sys2Proof.Machine

/-- One byte of the CRC-64 (R121's `fold_byte`). -/
def fold64Bits : Nat → BitVec 64 → BitVec 64
  | 0, s => s
  | n + 1, s => fold64Bits n (if s.msb then (s <<< 1) ^^^ 0x42F0E1EBA9EA3693#64 else s <<< 1)

def fold64 (s : BitVec 64) (b : Byte) : BitVec 64 := fold64Bits 8 (s ^^^ (b.zeroExtend 64 <<< 56))

def fold64All (s : BitVec 64) (bs : Bytes) : BitVec 64 := bs.foldl fold64 s

def crc64 (bs : Bytes) : BitVec 64 := fold64All (BitVec.allOnes 64) bs

/-- CRC-16 with polynomial 0x1021 and initial value 0xFFFF, most significant bit first (R333). -/
def crc16Bits : Nat → BitVec 16 → BitVec 16
  | 0, s => s
  | n + 1, s => crc16Bits n (if s.msb then (s <<< 1) ^^^ 0x1021#16 else s <<< 1)

def crc16 (bs : Bytes) : Nat :=
  (bs.foldl (fun s (b : Byte) => crc16Bits 8 (s ^^^ (b.zeroExtend 16 <<< 8))) 0xFFFF#16).toNat

def crc32Bits : Nat → BitVec 32 → BitVec 32
  | 0, s => s
  | n + 1, s => crc32Bits n (if s.getLsbD 0 then (s >>> 1) ^^^ 0xEDB88320#32 else s >>> 1)

/-- CRC-32 of IEEE 802.3. -/
def crc32 (bs : Bytes) : Nat :=
  (~~~ (bs.foldl (fun s b => crc32Bits 8 (s ^^^ b.zeroExtend 32)) (BitVec.allOnes 32))).toNat

def rotr (x : BitVec 32) (n : Nat) : BitVec 32 := (x >>> n) ||| (x <<< (32 - n))

/-- The first 32 bits of the fractional parts of the cube roots of the first 64 primes (FIPS 180-4). -/
def sha256K : List (BitVec 32) :=
  [0x428a2f98, 0x71374491, 0xb5c0fbcf, 0xe9b5dba5, 0x3956c25b, 0x59f111f1, 0x923f82a4, 0xab1c5ed5,
   0xd807aa98, 0x12835b01, 0x243185be, 0x550c7dc3, 0x72be5d74, 0x80deb1fe, 0x9bdc06a7, 0xc19bf174,
   0xe49b69c1, 0xefbe4786, 0x0fc19dc6, 0x240ca1cc, 0x2de92c6f, 0x4a7484aa, 0x5cb0a9dc, 0x76f988da,
   0x983e5152, 0xa831c66d, 0xb00327c8, 0xbf597fc7, 0xc6e00bf3, 0xd5a79147, 0x06ca6351, 0x14292967] ++
  [0x27b70a85, 0x2e1b2138, 0x4d2c6dfc, 0x53380d13, 0x650a7354, 0x766a0abb, 0x81c2c92e, 0x92722c85,
   0xa2bfe8a1, 0xa81a664b, 0xc24b8b70, 0xc76c51a3, 0xd192e819, 0xd6990624, 0xf40e3585, 0x106aa070,
   0x19a4c116, 0x1e376c08, 0x2748774c, 0x34b0bcb5, 0x391c0cb3, 0x4ed8aa4a, 0x5b9cca4f, 0x682e6ff3,
   0x748f82ee, 0x78a5636f, 0x84c87814, 0x8cc70208, 0x90befffa, 0xa4506ceb, 0xbef9a3f7, 0xc67178f2]

/-- The eight working words a to h. -/
structure Sha where
  a : BitVec 32
  b : BitVec 32
  c : BitVec 32
  d : BitVec 32
  e : BitVec 32
  f : BitVec 32
  g : BitVec 32
  h : BitVec 32
deriving DecidableEq, Repr

def Sha.init : Sha :=
  ⟨0x6a09e667, 0xbb67ae85, 0x3c6ef372, 0xa54ff53a, 0x510e527f, 0x9b05688c, 0x1f83d9ab, 0x5be0cd19⟩

def Sha.round (s : Sha) (k w : BitVec 32) : Sha :=
  let s1 := rotr s.e 6 ^^^ rotr s.e 11 ^^^ rotr s.e 25
  let ch := (s.e &&& s.f) ^^^ (~~~ s.e &&& s.g)
  let t1 := s.h + s1 + ch + k + w
  let s0 := rotr s.a 2 ^^^ rotr s.a 13 ^^^ rotr s.a 22
  let mj := (s.a &&& s.b) ^^^ (s.a &&& s.c) ^^^ (s.b &&& s.c)
  ⟨t1 + (s0 + mj), s.a, s.b, s.c, s.d + t1, s.e, s.f, s.g⟩

/-- The rounds, with the sixteen newest schedule words held oldest first. -/
def shaRounds : List (BitVec 32) → List (BitVec 32) → Sha → Sha
  | [], _, s => s
  | k :: ks, w, s =>
    let w0 := w.getD 0 0
    let w1 := w.getD 1 0
    let w9 := w.getD 9 0
    let w14 := w.getD 14 0
    let g0 := rotr w1 7 ^^^ rotr w1 18 ^^^ (w1 >>> 3)
    let g1 := rotr w14 17 ^^^ rotr w14 19 ^^^ (w14 >>> 10)
    shaRounds ks (w.drop 1 ++ [w0 + g0 + w9 + g1]) (s.round k w0)

def beWords : Nat → Bytes → List (BitVec 32)
  | 0, _ => []
  | n + 1, b => BitVec.ofNat 32 (beVal (b.take 4)) :: beWords n (b.drop 4)

def shaBlock (s : Sha) (blk : Bytes) : Sha :=
  let r := shaRounds sha256K (beWords 16 blk) s
  ⟨s.a + r.a, s.b + r.b, s.c + r.c, s.d + r.d, s.e + r.e, s.f + r.f, s.g + r.g, s.h + r.h⟩

def shaBlocks : Nat → Sha → Bytes → Sha
  | 0, s, _ => s
  | n + 1, s, b => shaBlocks n (shaBlock s (b.take 64)) (b.drop 64)

/-- SHA-256 (FIPS 180-4). -/
def sha256 (b : Bytes) : Bytes :=
  let len := b.length
  let k := (119 - len % 64) % 64
  let m := b ++ [0x80#8] ++ zeros k ++ beBytes 8 (8 * len)
  let s := shaBlocks (m.length / 64) Sha.init m
  [s.a, s.b, s.c, s.d, s.e, s.f, s.g, s.h].flatMap (fun w => beBytes 4 w.toNat)

/-- HMAC-SHA-256 (RFC 2104) with a key of at most 64 bytes. -/
def hmac (key msg : Bytes) : Bytes :=
  let k := fitBytes 64 key
  let ipad := k.map (· ^^^ 0x36#8)
  let opad := k.map (· ^^^ 0x5C#8)
  sha256 (opad ++ sha256 (ipad ++ msg))

end Sys2Proof.Machine
end

