-- ==== Sys2Proof/Machine/Ops.lean ====
section
/-! DEFINITION. The shared operations on the state: access to lanes and engines, trace records (R502 to R506), event counters
(R507), raising and clearing faults (R497, R539), replies (R430 to R432), the SAFE decision (R485) and mode changes. -/
namespace Sys2Proof.Machine

/-- What a meaning answers. -/
abbrev Out := Host.Outcome State Fault Refusal

/-! ### Access -/

def State.modHub (f : Hub → Hub) (s : State) : State := { s with hub := f s.hub }

def State.lane (s : State) (l : LaneId) : Lane := s.lanes[l]

def State.modLane (l : LaneId) (f : Lane → Lane) (s : State) : State := { s with lanes := vmod s.lanes l f }

def State.mapLanes (f : Nat → Lane → Lane) (s : State) : State := { s with lanes := vmapIdx f s.lanes }

def State.engine (s : State) (k : Site) : Engine := (s.lane k.lane).eng[k.eng]

def Lane.modEng (e : EngineId) (f : Engine → Engine) (l : Lane) : Lane := { l with eng := vmod l.eng e f }

def State.modEng (k : Site) (f : Engine → Engine) (s : State) : State := s.modLane k.lane (Lane.modEng k.eng f)

def Hub.laneState (h : Hub) (l : LaneId) : LaneState := h.vote.laneState[l]

def allLanes : List LaneId := [0, 1, 2, 3]

/-- The ACTIVE lanes: the contributing lanes of R35 (R113). -/
def Hub.active (h : Hub) : List LaneId := allLanes.filter (fun l => h.laneState l == .active)

def laneMask (ls : List LaneId) : Nat := ls.foldl (fun m l => setBit m l.val) 0

/-- The source lane of R134: the lowest-numbered ACTIVE lane. -/
def Hub.sourceLane (h : Hub) : Option LaneId := h.active.head?

/-- N and S of the loaded image (R25: equal in every schedule). Without an image N is the default 25,000 of R25 and S is 1
(assumption log 4). -/
def Hub.nCycles (h : Hub) : Nat := match h.sched.schedules with | [] => 25000 | x :: _ => x.n

def Hub.sTicks (h : Hub) : Nat := match h.sched.schedules with | [] => 1 | x :: _ => max 1 x.s

/-- Sentence number and tick in sentence (R30). -/
def Hub.sentence (h : Hub) : Nat := h.time.tick / h.sTicks
def Hub.tickInSentence (h : Hub) : Nat := h.time.tick % h.sTicks

def Hub.schedule (h : Hub) (n : Nat) : Option Schedule := h.sched.schedules.find? (fun x => x.number == n)

/-- The schedule a lane runs. -/
def State.laneSchedule (s : State) (l : LaneId) : Option Schedule :=
  match (s.lane l).schedule with
  | some n => s.hub.schedule n
  | none => none

/-- Draw a free value: the next index into the constants of Config (assumption log 1). -/
def Hub.draw (h : Hub) : Hub := { h with free := h.free + 1 }

def Hub.send (x : Sent) (h : Hub) : Hub := { h with outbox := h.outbox ++ [x] }

/-- A time base of a rate in ppb against the hub clock, run for `dt` ns: ns and the fraction in 10^-9 ns. -/
def runNs (value frac dt : Nat) (ppb : Int) : Nat × Nat :=
  let v := frac + dt * (1000000000 + ppb).toNat
  (value + v / 1000000000, v % 1000000000)

def Tracker.run (dt : Nat) (k : Tracker) : Tracker :=
  let r := runNs k.value k.frac dt k.ratePpb
  { k with value := r.1, frac := r.2 }

/-- The RTC runs for `dt` ns, within ±50 ppm (R51). -/
def Backup.run (dt : Nat) (b : Backup) : Backup :=
  if !b.rtcValid then b else
  let ppm := clampInt (-50) 50 (Config.rtcRate b.rtcSeconds)
  let v := b.rtcRest + dt * (1000000 + ppm).toNat * 32768
  let f := b.rtcFraction + v / 10 ^ 15
  { b with rtcSeconds := b.rtcSeconds + f / 32768, rtcFraction := f % 32768, rtcRest := v % 10 ^ 15 }

/-- The hub clock moves on to an instant; it does not run backwards. The trackers, TB3 and the RTC run with it. -/
def Hub.at_ (t : Nat) (h : Hub) : Hub :=
  let dt := t - h.time.now
  let b3 := runNs h.time.tb3 h.time.tb3Frac dt h.time.tb3Rate
  { h with
    time := { h.time with
      now := h.time.now + dt, tb3 := b3.1, tb3Frac := b3.2, trackers := vmap (Tracker.run dt) h.time.trackers }
    backup := h.backup.run dt }

/-- TB0 in the hub's TB0 image now (R40, R53). -/
def Hub.tb0Now (h : Hub) : Nat := if h.time.running then h.time.tb0 + (h.time.now - h.time.tickAt) else h.time.tb0 + h.time.tb0Run

def Mode.isRunning : Mode → Bool
  | .voted | .duplex | .split => true
  | _ => false

/-- The modes in which the Parser runs at full clock and answers commands (R420). -/
def Mode.parser : Mode → Bool
  | .service | .voted | .duplex | .split | .safe => true
  | _ => false

/-! ### Event counters (R507) -/

/-- Add to every counter that selects an event and whose qualifier accepts it. -/
def Hub.count (event : Nat) (accept : Nat → Nat) (h : Hub) : Hub :=
  let bump := fun (c : EventCounter) =>
    if c.event = event then { c with value := wrapAdd 64 c.value (accept c.qualifier) } else c
  { h with counters := vmap bump h.counters }

/-- Acceptance by a mask of one resource number at bit `lo` of the qualifier. -/
def byMask (lo n : Nat) (q : Nat) : Nat := b2n (bit q (lo + n))

/-! ### Injections under way (R508, R510 to R512) -/

/-- The application under way at a detector for a lane (`none`: whatever lane) and resource. -/
def Hub.armed (h : Hub) (n : FaultName) (p : Armed → Bool) : Option Armed :=
  h.inject.armed.find? (fun a => a.detector == n && p a)

def Armed.origin (a : Armed) : Origin := if a.reportOnly then .reportOnly else .injected

/-- The detector has been evaluated: its applications end. -/
def Hub.disarm (n : FaultName) (h : Hub) : Hub := { h with inject.armed := h.inject.armed.filter (fun a => a.detector != n) }

/-- The applications at one resource act and end: the origin they give a report (a full one before a report-only one, R513). -/
def Hub.takeArm (n : FaultName) (p : Armed → Bool) (h : Hub) : Option Origin × Hub :=
  let mine := h.inject.armed.filter (fun a => a.detector == n && p a)
  let o := match mine.find? (fun a => !a.reportOnly), mine with
    | some _, _ => some Origin.injected
    | none, [] => none
    | none, _ => some Origin.reportOnly
  (o, { h with inject.armed := h.inject.armed.filter (fun a => !mine.contains a) })

/-- One lane's part of an application ends, and of every other application that meets it there (R513). -/
def Hub.disarmLane (a : Armed) (l : LaneId) (h : Hub) : Hub :=
  let cut := fun (x : Armed) => if x.detector = a.detector ∧ x.resource = a.resource then { x with lanes := clearBit x.lanes l.val } else x
  { h with inject.armed := (h.inject.armed.map cut).filter (fun x => x.lanes != 0 || a.lanes == 0) }

/-! ### Trace -/

def TraceRec.size (r : TraceRec) : Nat := 16 * r.units

/-- The record's bytes, little-endian as in the ring (R503). -/
def TraceRec.bytesLe (r : TraceRec) : Bytes :=
  fitBytes r.size (leBytes 1 r.typ ++ leBytes 1 (r.units + 8 * r.unit) ++ leBytes 6 r.tb0 ++
    r.fields.flatMap (fun f => leBytes f.1 f.2))

/-- The record's bytes, every field big-endian as in replies and in the stream (R503). -/
def TraceRec.bytesBe (r : TraceRec) : Bytes :=
  fitBytes r.size (beBytes 1 r.typ ++ beBytes 1 (r.units + 8 * r.unit) ++ beBytes 6 r.tb0 ++
    r.fields.flatMap (fun f => beBytes f.1 f.2))

def ringSize : Nat := 2 ^ 26

/-- The oldest position held in the ring. -/
def Trace.oldest (t : Trace) : Nat := match t.ring with | [] => t.position | (p, _) :: _ => p

/-- Note a dropped record (R501, R502): source 0 lane buffer, 1 ring, 2 stream. -/
def Trace.drop (source lanes : Nat) (t : Trace) : Trace :=
  { t with dropped := satAdd 32 t.dropped 1, lossPending := t.lossPending + 1, lossSource := source,
           lossLanes := t.lossLanes ||| lanes, sentenceDrops := t.sentenceDrops + 1 }

/-- Whether a record of this size may be written now (R502: STOP never overwrites beyond the read position). -/
def Trace.fits (t : Trace) (size : Nat) : Bool :=
  t.filter.ringMode == 0 || decide (t.position + size - t.readPos ≤ ringSize)

/-- Write one record at the ring's position (R502). -/
def Trace.write (r : TraceRec) (t : Trace) : Trace :=
  let pos := t.position + r.size
  { t with ring := (t.ring ++ [(t.position, r)]).filter (fun e => decide (pos ≤ e.1 + ringSize)), position := pos }

/-- Send the stream's datagram (R505); without a free descriptor of Q52 its records are not streamed. -/
def Hub.streamFlush (h : Hub) : Hub :=
  if h.trace.stream.isEmpty then h else
  let t := h.trace
  if 256 ≤ t.streamUsed then
    let gone := t.stream.length
    ({ h with trace := { t with
      stream := [], streamGap := true, dropped := satAdd 32 t.dropped gone, lossPending := t.lossPending + gone, lossSource := 2,
      sentenceDrops := t.sentenceDrops + gone, dropOrigin := .real } } : Hub).count 0xF00C (fun _ => gone)
  else
    let pkt := [0x59#8, 0x54#8, 1#8, if t.streamGap then 1#8 else 0#8] ++ beBytes 4 t.streamSeq ++ beBytes 8 t.streamFirst ++
      t.stream.flatMap TraceRec.bytesBe
    { h with trace := { t with
      stream := [], streamSeq := wrapAdd 32 t.streamSeq 1, streamGap := false, streamUsed := t.streamUsed + 1 } }.send
      (.stream t.filter.streamIp t.filter.streamPort pkt)

/-- Append a written record to the stream (R505): at most 1,408 bytes of whole records a datagram. -/
def Hub.streamPut (pos : Nat) (r : TraceRec) (h : Hub) : Hub :=
  if h.trace.filter.streamIp = 0 then h else
  let have_ := sumNat (h.trace.stream.map TraceRec.size)
  let h := if 1408 < have_ + r.size then h.streamFlush else h
  let t := h.trace
  if t.stream.isEmpty then { h with trace := { t with stream := [r], streamFirst := pos, streamStart := h.time.now } }
  else { h with trace := { t with stream := t.stream ++ [r] } }

def Hub.syncRec (h : Hub) : TraceRec :=
  { typ := 1, unit := 4, tb0 := h.time.tb0, units := 2, fields := [(6, h.time.tick), (2, 0), (8, h.time.tb0), (8, h.time.tb3)] }

/-- Write a record to the ring and the stream; the ring-full check has an injection point (Table 20.7). -/
def Hub.ringWrite (r : TraceRec) (h : Hub) : Hub :=
  let arm := h.takeArm .traceOverflow (fun _ => true)
  let h := if arm.1 = some .reportOnly ∧ arm.2.trace.fits r.size then { arm.2 with trace.reportDue := true } else arm.2
  if h.trace.fits r.size && arm.1 != some .injected then
    let pos := h.trace.position
    { h with trace := h.trace.write r }.streamPut pos r
  else
    let real := !h.trace.fits r.size
    let o := if real then .real else if h.trace.sentenceDrops = 0 then .injected else h.trace.dropOrigin
    { h with trace := { h.trace.drop 1 0 with stopped := h.trace.stopped || real, dropOrigin := o } }.count 0xF00C (fun _ => 1)

/-- The records that follow a drop: LOSS and SYNC (R502, R503). -/
def Hub.afterDrop (h : Hub) : Hub :=
  if h.trace.lossPending = 0 then h else
  let t := h.trace
  let loss : TraceRec := {
    typ := 12, unit := 4, tb0 := h.time.tb0, units := 1,
    fields := [(4, t.lossPending), (1, t.lossSource), (1, t.lossLanes), (2, 0)] }
  if t.fits 48 then
    ({ h with trace := { t with lossPending := 0, lossLanes := 0 } }.ringWrite loss).ringWrite h.syncRec
  else h

/-- Whether a record type is selected (R504: SYNC and LOSS always are). -/
def Trace.wants (t : Trace) (typ : Nat) : Bool :=
  t.running && (typ == 1 || typ == 12 || bit t.filter.typeMask typ)

/-- Put a record of the hub, SA, SB or the stage into the ring (R501). -/
def Hub.emit (r : TraceRec) (h : Hub) : Hub :=
  if h.trace.wants r.typ && h.time.running then h.afterDrop.ringWrite r else h

/-- Put a record into a lane's trace buffer of 8 KiB (R501). -/
def Hub.emitLane (l : LaneId) (r : TraceRec) (h : Hub) : Hub :=
  if h.trace.wants r.typ && h.time.running && bit h.trace.filter.laneMask l.val then
    let buf := h.trace.laneBuf[l]
    if sumNat (buf.map TraceRec.size) + r.size ≤ 8192 then
      { h with trace.laneBuf := h.trace.laneBuf.set l (buf ++ [r]) }
    else { h with trace := { h.trace.drop 0 (setBit 0 l.val) with dropOrigin := .real } }.count 0xF00C (fun _ => 1)
  else h

/-! ### Replies (R430 to R432) -/

/-- A reply's flags byte (Table 17.3). -/
def replyFlags (r : Req) (more fragment : Bool) : Nat :=
  1 + 2 * b2n more + 4 * b2n r.confirm + 8 * b2n r.forward + 16 * b2n fragment

/-- One reply packet (Table 17.2); the tag is absent on MB0 and made with the key of the request's slot elsewhere. -/
def Hub.replyPacket (h : Hub) (r : Req) (opcode : Nat) (st : Status) (flags : Nat) (params : Bytes) : Bytes :=
  let body := [0x59#8, 0x42#8, 1#8] ++ beBytes 1 flags ++ beBytes 2 opcode ++ beBytes 2 params.length ++ beBytes 4 r.seq ++
    beBytes 4 r.session ++ beBytes 2 st.code ++ beBytes 1 r.authority ++ beBytes 1 r.slot ++ zeros 4 ++ params
  if r.transport = 4 then body
  else body ++ (hmac (vgetN h.cmd.keys r.slot {}).key body).take 16

/-- The fragments of a long reply (R432): at most 1,428 bytes of data each, after a 4-byte offset. -/
def Hub.fragments (h : Hub) (r : Req) (opcode : Nat) (st : Status) (params : Bytes) : Nat → Nat → List Bytes
  | 0, _ => []
  | fuel + 1, off =>
    let part := slice params off 1428
    let more := decide (off + 1428 < params.length)
    h.replyPacket r opcode st (replyFlags r more true) (beBytes 4 off ++ part) ::
      (if more then Hub.fragments h r opcode st params fuel (off + 1428) else [])

/-- The packets of a reply: one, or fragments when it would exceed 1,472 bytes. -/
def Hub.replyPackets (h : Hub) (r : Req) (opcode : Nat) (st : Status) (params : Bytes) : List Bytes :=
  let limit := if r.transport = 4 then 1448 else 1432
  if params.length ≤ limit then [h.replyPacket r opcode st (replyFlags r false false) params]
  else h.fragments r opcode st params (params.length / 1428 + 1) 0

/-- Words of a packet for MB0, padded with zero bytes to a multiple of 4 (R449). -/
def packetWords : Nat → Bytes → List Word
  | 0, _ => []
  | _, [] => []
  | n + 1, b => BitVec.ofNat 32 (beVal (fitBytes 4 b)) :: packetWords n (b.drop 4)

/-- Parts of a packet on the rack link (R421): 2-byte offset, flags with LAST in bit 0, a reserved byte, 1 to 252 bytes. -/
def rackParts (pkt : Bytes) : Nat → Nat → List Bytes
  | 0, _ => []
  | n + 1, off =>
    let last := decide (pkt.length ≤ off + 252)
    (beBytes 2 off ++ [if last then 1#8 else 0#8, 0#8] ++ slice pkt off 252) ::
      (if last then [] else rackParts pkt n (off + 252))

/-- Append words to A→B (direction 0) or B→A (1) of a mailbox; the no-progress timer starts with the first word (R439, R448). -/
def Mailbox.append (dir : Nat) (w : List Word) (now : Nat) (m : Mailbox) : Mailbox :=
  let m := if m.a2b.isEmpty && m.b2a.isEmpty && !w.isEmpty then { m with timerAt := now } else m
  if dir = 0 then { m with a2b := m.a2b ++ w, a2bAccepted := wrapAdd 32 m.a2bAccepted w.length }
  else { m with b2a := m.b2a ++ w, b2aAccepted := wrapAdd 32 m.b2aAccepted w.length }

/-- The queues, counters and timer cleared; sides stay (R444). -/
def Mailbox.cleared (m : Mailbox) : Mailbox :=
  { sideA := m.sideA, sideB := m.sideB, station := m.station, noProgressLimit := m.noProgressLimit }

/-- Clear the mailboxes of a kind, and with MB0 the command stream (R444). -/
def Hub.mbClear (p : Mailbox → Bool) (h : Hub) : Hub :=
  let gone := (List.range 16).filter (fun n => p (vgetN h.mb.box n {}) && (vgetN h.mb.box n {}).noProgress)
  let h := { h with
    mb.box := vmap (fun m => if p m then m.cleared else m) h.mb.box
    cmd := { h.cmd with mb0 := [], mb0Bad := false, mb0Out := [] } }
  { h with faults.log := h.faults.log.map (fun r =>
      if r.name == .mbNoProgress && r.active && gone.any (fun n => r.key == [n]) then { r with active := false } else r) }

/-- Move reply words into MB0's B→A queue while it has room (R449). -/
def Hub.mb0Fill (h : Hub) : Hub :=
  let m := h.mb.box[(0 : Fin 16)]
  let n := min (8 - m.b2a.length) h.cmd.mb0Out.length
  { h with
    mb.box := h.mb.box.set 0 (m.append 1 (h.cmd.mb0Out.take n) h.time.now)
    cmd.mb0Out := h.cmd.mb0Out.drop n }

/-! ### Partner link frames (R378, R379) -/

def Hub.modPartner (f : Partner → Partner) (h : Hub) : Hub := { h with partner := f h.partner }

/-- Lanes UP, as bits (A bit 0). -/
def Hub.linksUp (h : Hub) : Nat := ofBits (h.partner.up.toList)

def partnerFrame (type epoch seq : Nat) (payload : Bytes) : Bytes :=
  let b := beBytes 1 type ++ zeros 1 ++ beBytes 2 payload.length ++ beBytes 4 epoch ++ beBytes 4 seq ++ payload
  b ++ beBytes 4 (crc32 b)

/-- Send a frame on an UP lane: alternately with both (R378). Nothing is sent without one. -/
def Hub.partnerSend (type : Nat) (payload : Bytes) (h : Hub) : Hub :=
  if h.linksUp = 0 then h
  else
    let n := h.partner.seq
    let lane := if h.linksUp = 3 then n % 2 else if bit h.linksUp 0 then 0 else 1
    (h.modPartner (fun p => { p with seq := wrapAdd 32 n 1 })).send (.partner lane (partnerFrame type h.partner.epoch n payload))

/-- Send packets over the transport of the request (R419). -/
def Hub.sendPackets (r : Req) (pkts : List Bytes) (h : Hub) : Hub :=
  match r.transport with
  | 4 => { h with cmd.mb0Out := h.cmd.mb0Out ++ pkts.flatMap (fun (p : Bytes) => packetWords p.length p) }.mb0Fill
  | 2 =>
    let parts := pkts.flatMap (fun (p : Bytes) => (rackParts p (p.length / 252 + 1) 0).map (fun x => (0x0A, x)))
    { h with rack.stations := vmodN h.rack.stations r.source (fun x => { x with replies := x.replies ++ parts }) }
  | 3 => pkts.foldl (fun h p => h.partnerSend 6 p) h
  | _ => pkts.foldl (fun h p => h.send (.reply r.transport r.source r.port p)) h

/-- The same session, by R427. -/
def Session.matches (x : Session) (r : Req) : Bool :=
  x.transport == r.transport && x.source == r.source && x.port == r.port && x.slot == r.slot && x.session == r.session

def Req.key (r : Req) : Nat × Nat × Nat × Nat × Nat := (r.transport, r.source, r.port, r.slot, r.session)

/-- Answer a request: send the packets and keep them with its SEQUENCE and TAG (R429). -/
def Hub.replyCode (r : Req) (opcode : Nat) (st : Status) (params : Bytes) (h : Hub) : Hub :=
  let pkts := h.replyPackets r opcode st params
  let tag := match h.cmd.tags.find? (fun t => t.1 == r) with | some t => t.2 | none => []
  let keep := fun (x : Session) => if x.matches r then { x with last := some (r.seq, tag, pkts) } else x
  ({ h with cmd.sessions := h.cmd.sessions.map keep, cmd.tags := h.cmd.tags.filter (fun t => t.1 != r) }).sendPackets r pkts

def Hub.reply (r : Req) (op : Opcode) (st : Status) (params : Bytes) (h : Hub) : Hub := h.replyCode r op.code st params

/-- A request stays in execution until a later event (R431). -/
def Hub.defer (r : Req) (op : Opcode) (params : Bytes) (key : List Nat) (h : Hub) : Hub :=
  { h with cmd.exec := h.cmd.exec ++ [{ req := r, op := op, params := params, key := key }] }

/-- Answer and remove every request in execution that an event completes. -/
def Hub.finish (which : Exec → Bool) (st : Status) (params : Exec → Bytes) (h : Hub) : Hub :=
  let hit := h.cmd.exec.filter which
  hit.foldl (fun h e => h.reply e.req e.op st (params e)) { h with cmd.exec := h.cmd.exec.filter (fun e => !which e) }

/-! ### Modes -/

/-- Role code of Table 15.6 (0 ALONE, 1 ACTIVE, 2 STANDBY). -/
def Hub.roleCode (h : Hub) : Nat := h.partner.role.code

def Hub.laneStatesWord (h : Hub) : Nat :=
  let st := sumNat (allLanes.map (fun l => (h.laneState l).code * 16 ^ l.val))
  let grpB := allLanes.filter (fun l => h.laneState l == .splitB ||
    (h.laneState l == .resync && bit h.vote.groupB l.val))
  st + 2 ^ 16 * laneMask h.active + 2 ^ 20 * laneMask grpB

/-- The STATE trace record of a mode, role or lane state change (Table 20.1); `cause` is the causing fault or opcode. -/
def Hub.stateRec (cause : Nat) (h : Hub) : TraceRec :=
  { typ := 11, unit := 4, tb0 := h.time.tb0, units := 1,
    fields := [(1, h.power.mode.code), (1, h.roleCode), (2, h.laneStatesWord % 2 ^ 16), (2, cause), (2, 0)] }

/-- Clear every active record of a fault, whatever its key. -/
def Hub.clearAll (p : FaultName → Bool) (h : Hub) : Hub :=
  { h with faults.log := h.faults.log.map (fun r => if p r.name && r.active then { r with active := false } else r) }

/-- The mode, the role or a readback fault blocks every pair (MODE_BLOCK, R204). -/
def Hub.modeBlock (h : Hub) : Bool := !h.power.mode.isRunning || h.roleCode == 2

/-- Pairs tripped by the latched sources (R208). -/
def Hub.trippedPairs (h : Hub) : Nat :=
  (bitsSet 36 h.pwm.tripLatch).foldl (fun m i =>
    if i < 32 then
      let c := h.cfg.trip.chan.getD (i / 2) {}
      m ||| (if i % 2 = 0 then c.loPairs else c.hiPairs)
    else m ||| (h.cfg.trip.ins.getD (i - 32) (0, false)).1) 0

/-- Pairs that R204 blocks. -/
def Hub.blockedPairs (h : Hub) : Nat :=
  if h.modeBlock || h.pwm.buffersOff then 0x3F
  else ofBits ((List.range 6).map (fun i => !bit h.pwm.enable i || (h.cfg.pairs.getD i {}).mode == 2))

/-- SA's time in steps of 250 ps. -/
def Hub.steps (h : Hub) : Nat := 4 * h.time.now

/-- Every blocked or tripped pair goes to its trip levels at once (R204, R208): an active output falls now. -/
def Hub.pwmHold (h : Hub) : Hub :=
  let stop := h.blockedPairs ||| h.trippedPairs
  let fall := fun (k : Nat) (o : PwmOut) =>
    if bit stop (k / 2) then { o with high := false, side := false, suppressed := false, extended := false,
                                      fellAt := if o.high then h.steps else o.fellAt } else o
  { h with pwm := { h.pwm with running := clearBits h.pwm.running stop, outs := vmapIdx fall h.pwm.outs } }

/-- Opcodes whose requests pass through the runtime request area (R159). -/
def Opcode.viaRuntime : Opcode → Bool
  | .writeVariable | .changeConstant | .force | .unforce => true
  | _ => false

/-- Locks freed by an event of their owner (R412). -/
def Hub.dropLocks (p : Lock → Bool) (h : Hub) : Hub :=
  { h with locks.lock := vmap (fun (k : Lock) => if k.held && p k then {} else k) h.locks.lock }

/-- What a change of mode ends: a calibration average (R196), runtime requests when the running modes are left (R159), PAIR_CTRL, the
Yebor transmit buffers and the locks of the lanes at entry to SERVICE and SAFE (R204, R335, R412), and APP_RUNNING (Table 6.11). -/
def Hub.modeEnds (m : Mode) (h : Hub) : Hub :=
  let h := ({ h with meas.avg := none }).finish (fun (e : Exec) => e.op == Opcode.calibratePoint) .wrongMode (fun _ => [])
  let h := if m.isRunning then h else
    ({ h with partner.switching := false, rt := { h.rt with queue := [], present := none, status := clearBit h.rt.status 0 } }).finish
      (fun (e : Exec) => e.op.viaRuntime || e.op == Opcode.switchover) .wrongMode (fun _ => [])
  let h : Hub := if m = .service ∨ m = .safe then { h with pwm.enable := 0, yb.txValid := 0 }.dropLocks (fun k => k.owner == 1) else h
  let h := if m = .safe then h else { h with pwm.buffersOff := false }
  h.pwmHold

/-- Applications end with the mode in which they were made; one that the next boot's image checks wait for stays (R481). -/
def Hub.disarmAll (h : Hub) : Hub := { h with inject.armed := h.inject.armed.filter (fun a => a.detector == .imageVerifyFailed) }

/-- Change the mode (Table 19.1): injections are cancelled as R512 says (the tick of a SAFE decision still sees what has reached a
detector, R513), what the change ends ends, the faults that clear by leaving SAFE clear, and the STATE record is written. -/
def Hub.setMode (m : Mode) (cause : Nat) (h : Hub) : Hub :=
  if h.power.mode = m then h else
  let keep := fun (j : Injection) => !(j.live || h.power.mode == .service)
  let h := if h.power.mode = .safe then h.clearAll FaultName.clearsByLeavingSafe else h
  let h := { h with power.mode := m, inject.list := h.inject.list.filter keep }
  let h := if m = .safe then h else h.disarmAll
  (h.modeEnds m).emit (h.stateRec cause)

/-! ### Faults -/

/-- Detail bytes as fields (bytes, value). -/
abbrev Detail := List (Nat × Nat)

def FaultRec.severityByte (r : FaultRec) : Nat :=
  r.name.severity.code + (match r.origin with | .real => 0 | .injected => 128 | .reportOnly => 192)

/-- The fields of a record, in the order of Table 19.14. -/
def FaultRec.fields (r : FaultRec) : List (Nat × Nat) :=
  [(2, r.name.code), (1, r.severityByte), (1, r.lanes + 16 * b2n r.active), (6, r.tick), (8, r.tb3)] ++
    r.detail ++ [(12 - sumNat (r.detail.map Prod.fst), 0), (2, r.repeats)]

/-- The record as GET_FAULTS returns it: big-endian field by field (R497). -/
def FaultRec.bytesBe (r : FaultRec) : Bytes := r.fields.flatMap (fun f => beBytes f.1 f.2)

def Hub.countFault (n : FaultName) (lanes : Nat) (h : Hub) : Hub :=
  h.count n.code (fun q => b2n (q % 16 == 0 || (q % 16) &&& lanes != 0))

/-- Replace the first record of the log (the newest) that satisfies a test. -/
def updateFirst (p : FaultRec → Bool) (f : FaultRec → FaultRec) : List FaultRec → List FaultRec
  | [] => []
  | r :: rs => if p r then f r :: rs else r :: updateFirst p f rs

/-- Write a new record (R496, R497). -/
def Hub.newRecord (n : FaultName) (key : List Nat) (lanes : Nat) (detail : Detail) (o : Origin) (h : Hub) : Hub :=
  let rec_ : FaultRec :=
    { seq := wrapAdd 32 h.faults.seq 1, name := n, origin := o, lanes := lanes % 16, active := n.hasActive, tick := h.time.tick,
      tb3 := h.time.tb3, detail := detail, repeats := 0, key := key, lastTick := h.time.tick, lastLanes := lanes }
  let h := { h with faults := { h.faults with
    log := (rec_ :: h.faults.log).take 8192, seq := rec_.seq, faultNew := true,
    warningSet := h.faults.warningSet || n.severity == Severity.warning } }
  (h.emit { typ := 10, unit := 4, tb0 := h.time.tb0, units := 3, fields := rec_.fields }).countFault n lanes

/-- Count one more occurrence in an open record (R497: the repeat count saturates). -/
def Hub.repeatRecord (p : FaultRec → Bool) (n : FaultName) (lanes : Nat) (h : Hub) : Hub :=
  { h with faults.log := updateFirst p (fun r => { r with
      repeats := satAdd 16 r.repeats 1, lanes := r.lanes ||| lanes % 16,
      lastTick := h.time.tick, lastLanes := lanes }) h.faults.log }.countFault n lanes

def FaultRec.same (n : FaultName) (key : List Nat) (o : Origin) (r : FaultRec) : Bool :=
  r.name == n && r.key == key && r.origin == o

/-- An active fault of this name and resource (any origin but report-only decides for reactions; R539 keeps origins apart). -/
def Hub.faultActive (n : FaultName) (key : List Nat) (h : Hub) : Bool :=
  h.faults.log.any (fun r => r.name == n && r.key == key && r.active)

def Hub.anyActive (n : FaultName) (h : Hub) : Bool := h.faults.log.any (fun r => r.name == n && r.active)

/-- R485: the SAFE decision. It is taken in SERVICE, VOTED, DUPLEX and SPLIT only (R24, Table 19.1); a pending SET_MODE is
answered WRONG_MODE (R499), pairs are blocked (R204) and the next release carries the SAFE frames (R246). -/
def Hub.safeDecision (cause : Nat) (h : Hub) : Hub :=
  if h.power.mode = .service ∨ h.power.mode.isRunning then
    let h := { h with power := { h.power with
      safeCause := cause, safeTick := h.time.tick, safeFrames := true, pending := none,
      modeAt := none }, vote.nextMode := none }
    let h := h.finish (fun e => e.op == .setMode) .wrongMode (fun _ => [])
    h.setMode .safe cause
  else h

/-- The reaction to an occurrence (severities of the catalogue, R511: none for a report-only injection). -/
def Hub.react (n : FaultName) (o : Origin) (h : Hub) : Hub :=
  if n.severity = .safe ∧ o ≠ .reportOnly then h.safeDecision n.code else h

/-- Raise a fault that has an active state: a new record, or one more repeat of the record still active with the same origin
(R497, R539). -/
def Hub.raise (n : FaultName) (key : List Nat) (lanes : Nat) (detail : Detail) (o : Origin) (h : Hub) : Hub :=
  let p := fun (r : FaultRec) => r.same n key o && r.active
  let h := if h.faults.log.any p then h.repeatRecord p n lanes else h.newRecord n key lanes detail o
  h.react n o

/-- Raise an event: one more repeat when its newest record of the same key and origin satisfies the owning chapter's rule, else a
new record. -/
def Hub.raiseEvent (repeats : FaultRec → Bool) (n : FaultName) (key : List Nat) (lanes : Nat) (detail : Detail) (o : Origin)
    (h : Hub) : Hub :=
  let h := match h.faults.log.find? (FaultRec.same n key o) with
    | some r => if repeats r then h.repeatRecord (fun x => x.same n key o && x.seq == r.seq) n lanes
                else h.newRecord n key lanes detail o
    | none => h.newRecord n key lanes detail o
  h.react n o

/-- An event with no repeat rule of its own: every occurrence is a record. -/
def Hub.event (n : FaultName) (key : List Nat) (lanes : Nat) (detail : Detail) (o : Origin) (h : Hub) : Hub :=
  h.raiseEvent (fun _ => false) n key lanes detail o

/-- An event that repeats within one tick (R142, R453). -/
def Hub.eventPerTick (n : FaultName) (key : List Nat) (lanes : Nat) (detail : Detail) (o : Origin) (h : Hub) : Hub :=
  h.raiseEvent (fun r => r.lastTick == h.time.tick) n key lanes detail o

/-- Replace the detail field that starts at a byte offset. -/
def setDetail (off v : Nat) : Detail → Detail
  | [] => []
  | (w, x) :: r => if off = 0 then (w, v) :: r else (w, x) :: setDetail (off - w) v r

/-- A detection that lanes report one by one (R110, R194): a further lane of the same tick joins the record's mask; any other
occurrence follows the rule `repeats`. -/
def Hub.laneEvent (repeats : FaultRec → Bool) (n : FaultName) (key : List Nat) (l : LaneId) (detail : Detail) (o : Origin)
    (h : Hub) : Hub :=
  let m := setBit 0 l.val
  let joins := fun (r : FaultRec) => r.same n key o && r.lastTick == h.time.tick && r.lastLanes &&& m == 0
  match h.faults.log.find? (FaultRec.same n key o) with
  | some r =>
    if joins r then
      let log := updateFirst (fun x => x.same n key o && x.seq == r.seq)
        (fun x => { x with lanes := x.lanes ||| m, lastLanes := x.lastLanes ||| m }) h.faults.log
      { h with faults.log := log }.react n o
    else h.raiseEvent repeats n key m detail o
  | none => h.raiseEvent repeats n key m detail o

/-- A fault with an active state that lanes report one by one (R194): a further lane of the same tick joins the record's mask and
the lane-mask byte at `off` of its detail; any other report follows `Hub.raise`. -/
def Hub.laneRaise (n : FaultName) (key : List Nat) (l : LaneId) (off : Nat) (detail : Detail) (o : Origin) (h : Hub) : Hub :=
  let m := setBit 0 l.val
  let p := fun (r : FaultRec) => r.same n key o && r.active
  match h.faults.log.find? p with
  | some r =>
    if r.lastTick = h.time.tick ∧ r.lastLanes &&& m = 0 then
      let join := fun (x : FaultRec) =>
        { x with lanes := x.lanes ||| m, lastLanes := x.lastLanes ||| m, detail := setDetail off (x.lanes ||| m) x.detail }
      ({ h with faults.log := updateFirst p join h.faults.log }).react n o
    else h.raise n key m detail o
  | none => h.raise n key m detail o

/-- Clear an active fault (R497): write the detail of the clearance, then clear ACTIVE, for every origin (R539). -/
def Hub.clearFault (n : FaultName) (key : List Nat) (detail : Detail → Detail) (h : Hub) : Hub :=
  { h with faults.log := h.faults.log.map (fun r =>
      if r.name == n && r.key == key && r.active then { r with active := false, detail := detail r.detail } else r) }

/-! ### Opcodes: steps 8 to 11 of R424 -/

/-- What an opcode's meaning consists of. `level` is the authority of step 8, `layout` the P check of step 9, `twoPhase` the
marking of Table 17.6, `check` the conditions of step 11 that can be tested without executing, `act` the execution. -/
structure OpSpec where
  op : Opcode
  level : State → Bytes → Nat
  layout : Bytes → Bool
  twoPhase : State → Bytes → Bool := fun _ _ => false
  check : State → Req → Bytes → Option Status
  act : Req → Bytes → State → State

def OpSpec.answer (d : OpSpec) (r : Req) (st : Status) (s : State) : State := s.modHub (Hub.reply r d.op st [])

/-- R435: at most 8 requests in execution, and one per session. -/
def Hub.execBusy (h : Hub) (r : Req) : Bool :=
  decide (8 ≤ h.cmd.exec.length) || h.cmd.exec.any (fun e => e.req.key == r.key)

/-- Step 11: MB0 accepts no request outside the running modes (R419, R449), then the owning chapter's conditions. -/
def OpSpec.step11 (d : OpSpec) (s : State) (r : Req) (p : Bytes) : Option Status :=
  if r.transport = 4 ∧ s.hub.power.mode.isRunning = false then some .wrongMode else d.check s r p

/-- Step 11 and execution. -/
def OpSpec.execute (d : OpSpec) (r : Req) (p : Bytes) (s : State) : State :=
  if s.hub.execBusy r then d.answer r .busy s
  else match d.step11 s r p with
    | some st => d.answer r st s
    | none => d.act r p s

/-- The first phase of a two-phase request (R433): the conditions of step 11, then a confirm code drawn at random. -/
def OpSpec.firstPhase (d : OpSpec) (r : Req) (p : Bytes) (s : State) : State :=
  if s.hub.execBusy r then d.answer r .busy s
  else match d.step11 s r p with
    | some st => d.answer r st s
    | none =>
      let code := (Config.confirmCode s.hub.free).toNat
      let set := fun (x : Session) => if x.matches r then
        { x with confirm := some { opcode := d.op.code, params := p, code := code, at_ := s.hub.time.now } } else x
      s.modHub (fun h => ({ h with cmd.sessions := h.cmd.sessions.map set }).draw.reply r d.op .confirmRequired (beBytes 4 code))

/-- The second phase (R434): `p` is the parameters followed by the 4-byte code. -/
def OpSpec.secondPhase (d : OpSpec) (r : Req) (p : Bytes) (s : State) : State :=
  let body := p.take (p.length - 4)
  let code := beVal (p.drop (p.length - 4))
  match s.hub.cmd.sessions.find? (fun x => x.matches r) with
  | none => d.answer r .confirmExpired s
  | some x =>
    match x.confirm with
    | none => d.answer r .confirmExpired s
    | some c =>
      if 10000000000 < s.hub.time.now - c.at_ then d.answer r .confirmExpired s
      else
        let used := fun (y : Session) => if y.matches r then { y with confirm := none } else y
        let s := s.modHub (fun h => { h with cmd.sessions := h.cmd.sessions.map used })
        if c.code = code ∧ c.opcode = d.op.code ∧ c.params = body then d.execute r body s
        else d.answer r .confirmMismatch s

/-- Nobody takes a command: the module is off or in its boot, or the Parser pair has stopped (R466). -/
def Hub.silent (h : Hub) : Bool := h.power.mode == .off || h.boot.parserStopped

/-- Step 8: the opcode's level, and on MB0 at most app_authority (R449). -/
def OpSpec.authorityOk (d : OpSpec) (r : Req) (p : Bytes) (s : State) : Bool :=
  decide (d.level s p ≤ r.authority) && (r.transport != 4 || decide (r.authority ≤ s.hub.cfg.appAuthority))

/-- Steps 8 to 11 of R424, in order. A request with CONFIRM carries its parameters followed by the code. -/
def OpSpec.run (d : OpSpec) (r : Req) (p : Bytes) (s : State) : State :=
  let body := if r.confirm then p.take (p.length - 4) else p
  if s.hub.silent then s
  else if !d.authorityOk r body s then d.answer r .authorityTooLow s
  else if !r.headerOk then d.answer r .badParameter s
  else if r.confirm && !d.twoPhase s body then d.answer r .badParameter s
  else if !d.layout body || (r.confirm && decide (p.length < 4)) then d.answer r .badLength s
  else if d.twoPhase s body then (if r.confirm then d.secondPhase r p s else d.firstPhase r p s)
  else d.execute r p s

/-- The first condition of a list that fails. -/
def firstOf : List (Bool × Status) → Option Status
  | [] => none
  | (ok, st) :: r => if ok then firstOf r else some st

/-- Step 11 of Table 17.4: mode, role, supply and resource conditions decide before the parameters. -/
def firstFail (l : List (Bool × Status)) : Option Status :=
  (firstOf (l.filter (fun c => c.2 != .badParameter))).or (firstOf (l.filter (fun c => c.2 == .badParameter)))

def baseLevel (o : Opcode) : State → Bytes → Nat := fun _ _ => o.level

def exactly (n : Nat) (p : Bytes) : Bool := p.length == n

/-- The mode condition of step 11. -/
def modeIs (ok : Mode → Bool) (s : State) : Bool × Status := (ok s.hub.power.mode, .wrongMode)

def param (b : Bool) : Bool × Status := (b, .badParameter)

/-- A request that takes effect at the next release as a Parser write of (block, offset) (R22). -/
def releaseKey (block off : Nat) : List Nat := [22, block, off]

/-- (width, value) fields laid out from an offset. -/
def layFields : Nat → List (Nat × Nat) → List (Nat × Nat × Nat)
  | _, [] => []
  | o, (w, v) :: r => (o, w, v) :: layFields (o + w) r

end Sys2Proof.Machine
end

