-- ==== Sys2Proof/Machine/Operands.lean ====
section
/-! DEFINITION. Operand forms of the clause engine: registers, pairs, predicates, guards, immediates, special registers
(R60 to R75), and which encodings of them are undefined. -/
namespace Sys2Proof.Machine

/-- g0 reads as zero (R62). -/
def Engine.reg (e : Engine) (n : BitVec 6) : Word := if n = 0#6 then 0#32 else e.regs[n.toNat]'(n.isLt)

/-- Pair g2k:g2k+1, the even register holding bits 31:0 (Table 3.1). -/
def Engine.pair (e : Engine) (n : BitVec 6) : DWord := (e.reg (n + 1) ++ e.reg n)

/-- p0 reads as 1. -/
def Engine.pred (e : Engine) (n : BitVec 3) : Bool := n = 0#3 || e.preds.getLsbD n.toNat

/-- The low three bits of a register field that names a predicate (R71). -/
def predNo (f : BitVec 6) : BitVec 3 := f.truncate 3

/-- A field that names a predicate has bits 5:3 zero (R71, R75). -/
def isPred (f : BitVec 6) : Bool := f < 8#6

/-- A pair field names an even register other than 0 (R62). -/
def isPair (f : BitVec 6) : Bool := f ≠ 0#6 && !f.getLsbD 0

/-- The guard p[P], inverted when N is 1 (R72). -/
def Engine.guard (e : Engine) (n : Bool) (p : BitVec 3) : Bool := e.pred p != n

/-- A write to g0 or p0 is discarded (R62). -/
def Engine.setReg (e : Engine) (n : BitVec 6) (v : Word) : Engine :=
  if n = 0#6 then e else { e with regs := e.regs.set n.toNat v n.isLt }

def Engine.setPred (e : Engine) (n : BitVec 3) (b : Bool) : Engine :=
  if n = 0#3 then e else
    let m : BitVec 8 := 1#8 <<< n.toNat
    { e with preds := if b then e.preds ||| m else e.preds &&& ~~~ m }

/-- The immediate of an IMM syllable: the carrier's 32 bits when the field is 0x100, else the field sign-extended (R74). -/
def ImmSyl.value (f : ImmSyl) : Word := if f.imm = 0x100#9 then f.long else f.imm.signExtend 32

/-- Only slots A0 and L may take a long immediate (R74). -/
def ImmSyl.okIn (f : ImmSyl) (slot : ASlot) : Bool := !(f.imm == 0x100#9 && slot == .a1)

/-- A shift immediate lies from 0 to 31 (R75). -/
def ImmSyl.okShift (f : ImmSyl) : Bool := f.value.toNat < 32

/-- The number of a slot, in the order A0, A1, M, L of R64. -/
def ASlot.num : ASlot → Nat
  | .a0 => 0 | .a1 => 1

/-- Cycle c of the tick in which the present clause cycle lies. -/
def Running.tickCycle (r : Running) : Nat := r.start + r.cyc - 1

/-- A 32-bit special register (Table 3.2), as read in the issue cycle. -/
def special (s : State) (k : Site) (e : Engine) (r : Running) (idx : Nat) : Word :=
  let l := s.lane k.lane
  let tb0 := l.tb0 + r.tickCycle
  let v : Nat := match idx with
    | 0x00 => l.tick
    | 0x01 => l.tick / 2 ^ 32
    | 0x02 => tb0
    | 0x03 => tb0 / 2 ^ 32
    | 0x04 => r.tickCycle
    | 0x05 => l.tick % s.hub.sTicks
    | 0x06 => k.eng.val
    | 0x07 => r.clause % 65536
    | 0x08 => r.budget - (r.cyc - 1)
    | 0x09 => e.flags
    | 0x0A => e.clauseStatus
    | 0x0B => e.lc0.toNat
    | 0x0C => e.lc1.toNat
    | _ => 0
  BitVec.ofNat 32 v

/-- A 64-bit special register (R65): the tick number, or TB0 with both halves of the issue cycle. -/
def special64 (s : State) (k : Site) (r : Running) (idx : Nat) : DWord :=
  let l := s.lane k.lane
  if idx = 0 then BitVec.ofNat 64 (l.tick % 2 ^ 48) else BitVec.ofNat 64 (l.tb0 + r.tickCycle)

end Sys2Proof.Machine
end

