-- ==== Sys2Proof/Machine/Wear.lean ====
section
/-! DEFINITION. Wear counters and thresholds (R406 to R408) and the reports of corrected and uncorrectable words
(R395 to R401), as every reader of a memory makes them. -/
namespace Sys2Proof.Machine

def Hub.wearThreshold (h : Hub) (cls : Nat) : Nat := h.cfg.memWear.threshold.getD (cls - 1) 0
def Hub.wearAuto (h : Hub) (cls : Nat) : Bool := h.cfg.memWear.auto.getD (cls - 1) false

def WearEntry.is (cls unit index : Nat) (e : WearEntry) : Bool := e.cls == cls && e.unit == unit && e.index == index

/-- Spare rows a macro has in use. -/
def Memory.rowsUsed (m : Memory) (unit macro_ : Nat) : Nat := lookupD m.spareRows (unit * 256 + macro_) 0

/-- Whether lane `u`'s CE8 still stands at the spare position (R136). -/
def Hub.ce8Free (h : Hub) (u : Nat) : Bool :=
  match fin? 4 u with
  | some l => h.vote.engineMap[l][(8 : Fin 9)] == 8 && !h.vote.engineCopy.any (fun c => c.1 == l)
  | none => false

/-- E2 is free to replace E0 or E1 (R280). -/
def Hub.spareEth (h : Hub) : Nat :=
  match h.cfg.net.network with
  | some n => b2n (bit n.flags 1 && h.net.subst == 0 && h.net.substPending.isNone && (vgetN h.net.ports 2 {}).up)
  | none => 0

/-- The other partner lane is not itself held DOWN (Table 16.3). -/
def Hub.sparePartner (h : Hub) (i : Nat) : Nat := b2n (!(vgetN h.partner.down (1 - i) true))

/-- Queues Q56 to Q63 with direction 0 that replace no queue yet (Table 16.3). -/
def Hub.spareQueues (h : Hub) : Nat :=
  ((List.range 8).filter (fun k => (h.cfg.net.queues.getD (56 + k) {}).direction == 0)).length -
    (h.mem.wear.filter (fun e => e.cls == 7 && (e.state == .pending || e.state == .substituted))).length

/-- Spares left in the pool of a resource's class (Table 16.3). -/
def Hub.sparesLeft (h : Hub) (cls unit index : Nat) : Nat :=
  match cls with
  | 1 => vgetN h.mem.sparePages unit 0
  | 2 => 4 - h.mem.rowsUsed unit (index / 65536)
  | 3 => b2n (h.ce8Free unit)
  | 4 => if h.power.mode = .voted then (allLanes.filter (fun l => h.laneState l == .spareWarm)).length else 0
  | 5 => h.spareEth
  | 6 => h.sparePartner index
  | 7 => h.spareQueues
  | 9 => if h.mem.nandRetired = 0 then 1 else 0
  | _ => 0

def Memory.setEntry (m : Memory) (e : WearEntry) : Memory :=
  { m with wear := m.wear.map (fun x => if x.is e.cls e.unit e.index then e else x) }

/-- The entry of a resource, entered with its first event (R407: full watch lists replace the lowest counter, the oldest among
equals; a substituted resource keeps its entry). -/
def Memory.enter (m : Memory) (cls unit index : Nat) : Memory :=
  if m.wear.any (WearEntry.is cls unit index) then m else
  let fresh : WearEntry := { cls := cls, unit := unit, index := index, counter := 0, born := m.order }
  let mine := m.wear.filter (fun e => e.cls == cls && e.unit == unit)
  let limit := if cls = 1 then 256 else if cls = 2 then 64 else 0xFFFFFFFF
  let wear := if mine.length < limit then m.wear else
    match sortBy (fun a b => decide (a.counter < b.counter ∨ (a.counter = b.counter ∧ a.born ≤ b.born)))
        (mine.filter (fun e => e.state != .substituted)) with
    | [] => m.wear
    | v :: _ => m.wear.filter (fun e => !e.is v.cls v.unit v.index)
  { m with wear := wear ++ [fresh], order := m.order + 1 }

/-- The action byte of WEAR_THRESHOLD (Table 16.10). -/
def Hub.wearAction (h : Hub) (cls unit index : Nat) : Nat :=
  if cls = 8 then 3 else if !h.wearAuto cls then 0 else if h.sparesLeft cls unit index = 0 ∧ cls ≠ 4 then 2 else 1

/-- The threshold is reached: WEAR_THRESHOLD once, and under AUTO the request (R408). -/
def Hub.wearReached (e : WearEntry) (o : Origin) (h : Hub) : Hub :=
  let act := h.wearAction e.cls e.unit e.index
  let st : WearState := match act with | 1 => .pending | 2 => .noSpare | _ => .reached
  let h := { h with mem := { h.mem.setEntry { e with state := st, reachedAt := h.mem.order } with order := h.mem.order + 1 } }
  h.raise .wearThreshold [e.cls, e.unit, e.index] (if e.unit < 4 then 2 ^ e.unit else 0)
    [(1, e.cls), (1, e.unit), (4, e.index), (4, e.counter), (1, act)] o

/-- The physical resource behind a page or row: the spare that took its place, if any (R407). -/
def Memory.physical (m : Memory) (cls unit : Nat) : Nat → Nat → Nat
  | 0, i => i
  | n + 1, i => match m.remapped.find? (fun e => e.1 == (cls, unit, i)) with
    | some e => Memory.physical m cls unit n e.2
    | none => i

/-- Count `n` events against a resource (`none`: an uncorrectable error sets the counter to the threshold, Table 16.3). Counters belong
to the physical resource (R407). -/
def Hub.wearHit (cls unit index0 : Nat) (n : Option Nat) (h : Hub) : Hub :=
  let index := if cls ≤ 2 then h.mem.physical cls unit h.mem.remapped.length index0 else index0
  let h := { h with mem := h.mem.enter cls unit index }
  match h.mem.wear.find? (WearEntry.is cls unit index) with
  | none => h
  | some e =>
    let th := h.wearThreshold cls
    let c := match n with | some k => satAdd 32 e.counter k | none => max e.counter th
    let e := { e with counter := c }
    let h := { h with mem := h.mem.setEntry e }
    if e.state = .inUse ∧ th ≤ c then h.wearReached e .real else h

/-- The threshold counts as reached, whatever the counter: every claimable slot is held (Table 16.3), or an injection (Table 16.10). A
report-only one is recorded only. -/
def Hub.wearForce (cls unit index : Nat) (o : Origin) (h : Hub) : Hub :=
  let h := if o = .reportOnly then h else { h with mem := h.mem.enter cls unit index }
  let e := (h.mem.wear.find? (WearEntry.is cls unit index)).getD { cls := cls, unit := unit, index := index, counter := 0, born := 0 }
  if o = .reportOnly then
    h.raise .wearThreshold [cls, unit, index] (if unit < 4 then 2 ^ unit else 0)
      [(1, cls), (1, unit), (4, index), (4, e.counter), (1, h.wearAction cls unit index)] o
  else if e.state = .inUse then h.wearReached e o else h

/-- A resource has been substituted (R407, R408): its state, and the end of WEAR_THRESHOLD. -/
def Hub.wearDone (cls unit index : Nat) (h : Hub) : Hub :=
  let set := fun (e : WearEntry) => if e.is cls unit index then { e with state := WearState.substituted } else e
  ({ h with mem.wear := h.mem.wear.map set } : Hub).clearFault .wearThreshold [cls, unit, index] id

/-- The same for a resource whose substitution was requested. -/
def Hub.wearServed (cls unit index : Nat) (h : Hub) : Hub :=
  if h.mem.wear.any (fun e => e.is cls unit index && e.state == .pending) then h.wearDone cls unit index else h

/-- SRAM_CORRECTED or SRAM_UNCORRECTABLE of one word (R400, R401, Table 16.10). `unit` 0 to 3 is a lane, 4 the hub; the physical
engine of macros 0 to 17 and the queue of a burst buffer's row carry wear of their own (Table 16.3). -/
def Hub.sramFound (unit macro_ row word : Nat) (reader : Nat) (e : Ecc) (o : Origin) (h : Hub) : Hub :=
  let lanes := if unit < 4 then 2 ^ unit else 0
  match e with
  | .clean => h
  | .corrected b =>
    let h := { h with
      mem.sramCorr := vmodN h.mem.sramCorr unit (satAdd 32 · 1)
      mem.sramRewrite := h.mem.sramRewrite ++ [(unit, macro_, row)] }
    let h := h.raiseEvent (fun _ => true) .sramCorrected [unit, macro_, row] lanes
      [(1, unit), (1, macro_), (2, row), (1, word), (1, b)] o
    let h := h.wearHit 2 unit (macro_ * 65536 + row) (some 1)
    if unit < 4 then (if macro_ < 18 ∧ macro_ % 9 < 8 then h.wearHit 3 unit (macro_ % 9) (some 1) else h)
    else if macro_ < 8 ∧ 8 * macro_ + row / 64 < 56 then h.wearHit 7 4 (8 * macro_ + row / 64) (some 1) else h
  | .uncorrectable _ =>
    let h := { h with
      mem.sramUncorr := vmodN h.mem.sramUncorr unit (satAdd 32 · 1)
      mem.uncorrSeen := setBit h.mem.uncorrSeen unit }
    let h := h.raiseEvent (fun _ => true) .sramUncorrectable [unit, macro_, row] lanes
      [(1, unit), (1, macro_), (2, row), (1, word), (1, reader)] o
    h.wearHit 2 unit (macro_ * 65536 + row) none

/-- A word that is detectable as a double error (R401), and one encoded afresh. -/
def Hub.sramSpoil (word : Nat × Nat × Nat × Nat) (h : Hub) : Hub :=
  if h.mem.sramBad.contains word then h else { h with mem.sramBad := word :: h.mem.sramBad }

def Hub.sramGood (word : Nat × Nat × Nat × Nat) (h : Hub) : Hub :=
  { h with mem.sramBad := h.mem.sramBad.filter (fun w => w != word) }

/-- What a report-only injection records of an SRAM read (R511). -/
def Hub.sramReport (unit macro_ row word reader : Nat) (unc : Bool) (h : Hub) : Hub :=
  let name := if unc then FaultName.sramUncorrectable else .sramCorrected
  h.raiseEvent (fun _ => true) name [unit, macro_, row] (if unit < 4 then 2 ^ unit else 0)
    [(1, unit), (1, macro_), (2, row), (1, word), (1, if unc then reader else 0)] .reportOnly

/-- A reader's word: what its code found, or an injection of Table 16.10, which inverts bit 0, or bits 0 and 1 (assumption log 65);
its resource is macro × 65,536 + row. The reader gets what it has to go on with. -/
def Hub.sramRead (unit macro_ row word reader : Nat) (e : Ecc) (h : Hub) : Ecc × Hub :=
  let e := if h.mem.sramBad.contains (unit, macro_, row, word) then
      (match e with | .uncorrectable f => Ecc.uncorrectable f | _ => .uncorrectable 0#64) else e
  let mine := fun (a : Armed) => a.resource == macro_ * 65536 + row && (if unit < 4 then bit a.lanes unit else a.lanes == 0)
  let (ou, h) := h.takeArm .sramUncorrectable mine
  let (oc, h) := h.takeArm .sramCorrected mine
  if e ≠ .clean then (e, h.sramFound unit macro_ row word reader e .real)
  else match ou, oc with
    | some .injected, _ => (.uncorrectable 3#64, h.sramFound unit macro_ row word reader (.uncorrectable 3#64) .injected)
    | _, some .injected => (.corrected 0, h.sramFound unit macro_ row word reader (.corrected 0) .injected)
    | none, none => (e, h)
    | some _, _ => (e, h.sramReport unit macro_ row word reader true)
    | _, some _ => (e, h.sramReport unit macro_ row word reader false)

/-- The page of a DRAM address: lane pages are numbered from 0x4000_0000 (R394). -/
def dramPage (unit addr : Nat) : Nat := if unit < 4 then (addr - dramBase) / 4096 else addr / 4096

/-- A lane of a unit's lane mask. -/
def unitMask (unit : Nat) : Nat := if unit < 4 then 2 ^ unit else 0

/-- DRAM_CORRECTED (R395): the corrected stripe waits for its write-back; repeated corrections of one codeword before it count
as one event. `source` 0 read, 1 scrub, 2 read-modify-write. -/
def Hub.dramCorrected (unit addr source bytes : Nat) (o : Origin) (h : Hub) : Hub :=
  let cw := addr / 32 * 32
  if h.mem.writeBack.contains (unit, cw) then h else
  let page := dramPage unit addr
  let h := { h with
    mem.dramCorr := vmodN h.mem.dramCorr unit (satAdd 32 · 1)
    mem.writeBack := h.mem.writeBack ++ [(unit, cw)] }
  let h := h.wearHit 1 unit page (some 1)
  let phys := h.mem.physical 1 unit h.mem.remapped.length page
  let cnt := match h.mem.wear.find? (WearEntry.is 1 unit phys) with | some e => e.counter | none => 0
  h.raiseEvent (fun _ => true) .dramCorrected [unit, page] (if unit < 4 then 2 ^ unit else 0)
    [(4, addr), (1, unit), (1, source), (1, bytes), (1, 0), (4, cnt)] o

/-- DRAM_UNCORRECTABLE (R397). -/
def Hub.dramUncorrectable (unit addr source : Nat) (poison : Bool) (o : Origin) (h : Hub) : Hub :=
  let page := dramPage unit addr
  let h := { h with
    mem.dramUncorr := vmodN h.mem.dramUncorr unit (satAdd 32 · 1)
    mem.uncorrSeen := setBit h.mem.uncorrSeen unit }
  let h := h.raiseEvent (fun _ => true) .dramUncorrectable [unit, page] (if unit < 4 then 2 ^ unit else 0)
    [(4, addr), (1, unit), (1, source), (1, b2n poison)] o
  h.wearHit 1 unit page none

end Sys2Proof.Machine
end

