-- ==== Sys2Proof/Machine/Xfer.lean ====
section
/-! DEFINITION. The data movement of transfers in progress (R100): beats on paths inside the lane, one read and one write on paths
with DRAM or the hub link; and the transfer signature (R123). -/
namespace Sys2Proof.Machine

/-- Setup cycles of a permitted path (Table 4.2); none for a path that is not permitted. -/
def setupCycles : Port → Port → Option Nat
  | .scratch _, .scratch _ => some 4
  | .scratch _, .store _ => some 4
  | .store _, .scratch _ => some 4
  | .store _, .imem _ => some 4
  | .store a, .store b => if a = b then none else some 4
  | .scratch _, .hubFrame => some 4
  | .store _, .hubFrame => some 4
  | .scratch _, .dram => some 8
  | .store _, .dram => some 8
  | .dram, .scratch _ => some 96
  | .dram, .imem _ => some 96
  | .dram, .store _ => some 96
  | .hubLink, .scratch _ => some 180
  | .hubLink, .store _ => some 180
  | .scratch _, .hubLink => some 180
  | .store _, .hubLink => some 180
  | _, _ => none

def ceilDiv (a b : Nat) : Nat := (a + b - 1) / b

/-- 128-byte aligned stripes that `len` bytes from `addr` touch, and those a write covers only in part. -/
def stripes (addr len : Nat) : Nat := if len = 0 then 0 else (addr + len - 1) / 128 - addr / 128 + 1

def partStripes (addr len : Nat) : Nat :=
  stripes addr len - ((addr + len) / 128 - ceilDiv addr 128)

/-- D of R96. -/
def moveCycles (src dst : Port) (srcA dstA len : Nat) (param : Bool) : Nat :=
  match src, dst with
  | .dram, _ => if param then 20 * ceilDiv (len + 124) 128 else 20 * stripes srcA len
  | _, .dram =>
    if param then let s := ceilDiv (len + 124) 128; 20 * (s + min s 2)
    else 20 * stripes dstA len + 20 * partStripes dstA len
  | .hubLink, _ => ceilDiv (8 * len) 5
  | _, .hubLink => ceilDiv (8 * len) 5
  | _, _ => ceilDiv len (min src.rate dst.rate)

/-- Completion cycle (R96): t + setup + D − 1. -/
def completionCycle (src dst : Port) (t srcA dstA len : Nat) (param : Bool) : Option Nat :=
  (setupCycles src dst).map (fun su => t + su + moveCycles src dst srcA dstA len param - 1)

/-- Paths on which the bytes are read at once and written at the completion cycle (R100). -/
def Xfer.atOnce (x : Xfer) : Bool :=
  x.srcPort == .dram || x.dstPort == .dram || x.srcPort == .hubLink || x.dstPort == .hubLink

/-- Bytes of a beat (R100). -/
def Xfer.beat (x : Xfer) : Nat := min x.srcPort.rate x.dstPort.rate

/-- Poisoned codewords are delivered as 32 bytes of 0x00 (R397). -/
def poisoned (poison : List Nat) (addr : Nat) (b : Bytes) : Bytes :=
  mapIdxFrom (fun i x => if poison.contains ((addr + i) / 32 * 32) then 0#8 else x) 0 b

/-- Move beats `x.beats` to `n − 1` of a transfer inside the lane, or for the hub frame, and collect the bytes moved. -/
def moveBeats (x : Xfer) : Nat → Mem × Bytes → Nat → Mem × Bytes
  | 0, mb, _ => mb
  | k + 1, (m, acc), j =>
    let r := x.beat
    let n := min r (x.len - j * r)
    let d := m.readN (x.src + j * r) n
    let mb := (if x.dstPort == .hubFrame then m else m.writeN (x.dst + j * r) d, acc ++ d)
    moveBeats x k mb (j + 1)

/-- What a transfer has done when an engine access of cycle `c` takes effect: beats of earlier cycles have moved, and a source
read at once at the start of a cycle up to `c` has been read (R100). -/
def Xfer.step (poison : List Nat) (c : Nat) (m : Mem) (x : Xfer) : Mem × Xfer :=
  if x.failed then (m, x)
  else if x.atOnce then
    if x.held.isNone && decide (x.dataAt ≤ c) then
      let d := if x.srcPort == .hubLink then x.snapshot
        else if x.srcPort == .dram then poisoned poison x.src (m.readN x.src x.len) else m.readN x.src x.len
      (m, { x with held := some d })
    else (m, x)
  else
    let total := ceilDiv x.len x.beat
    let done := min total (c - x.dataAt)
    if done ≤ x.beats then (m, x)
    else
      let (m, acc) := moveBeats x (done - x.beats) (m, x.held.getD []) x.beats
      (m, { x with beats := done, held := some acc })

def stepAll (poison : List Nat) (c : Nat) : Mem → List Xfer → Mem × List Xfer
  | m, [] => (m, [])
  | m, x :: xs =>
    let (m, x) := x.step poison c m
    let (m, xs) := stepAll poison c m xs
    (m, x :: xs)

/-- Bring every transfer of a lane up to an engine access of cycle `c`. -/
def Lane.advance (poison : List Nat) (c : Nat) (l : Lane) : Lane :=
  let (m, xs) := stepAll poison c l.mem l.xfers
  { l with mem := m, xfers := xs }

/-- Codewords poisoned in a unit. -/
def Hub.poisonOf (h : Hub) (unit : Nat) : List Nat := (h.mem.poison.filter (fun p => p.1 == unit)).map Prod.snd

def State.advance (l : LaneId) (c : Nat) (s : State) : State := s.modLane l (Lane.advance (s.hub.poisonOf l.val) c)

/-- Note the 64-byte blocks of a lane's memory written (the dirty tracking of R134). -/
def Lane.markDirty (addr len : Nat) (l : Lane) : Lane :=
  let blocks := (List.range (len / 64 + 2)).map (fun i => addr / 64 + i)
  let new := blocks.filter (fun b => decide (b * 64 < addr + len) && !l.dirty.contains b)
  { l with dirty := new ++ l.dirty }

/-- The descriptor a start folds into the transfer signature (R123). -/
def descriptor (ctx flags : Nat) (src dst : Port) (srcA dstA len : Nat) : Bytes :=
  beBytes 1 ctx ++ beBytes 1 flags ++ beBytes 1 src.code ++ beBytes 1 dst.code ++ beBytes 4 srcA ++ beBytes 4 dstA ++ beBytes 4 len

end Sys2Proof.Machine
end

