-- ==== Sys2Proof/Machine/Engine.lean ====
section
/-! DEFINITION. The clause engine's shared operations (chapter 03): issuing a syllable, aborting a clause, the end of a cycle,
the start and the end of a clause. -/
namespace Sys2Proof.Machine

/-! ### Signature records (R76, R122) -/

/-- A write record: a class byte and a 32-bit value, most significant byte first. -/
def foldRecord (s : DWord) (cls : Nat) (v : Word) : DWord := fold64All s (beBytes 1 cls ++ beBytes 4 v.toNat)

def Engine.record (e : Engine) (dead : Bool) (cls : Nat) (v : Word) : Engine :=
  if dead then { e with dead := foldRecord e.dead cls v } else { e with live := foldRecord e.live cls v }

/-- Class byte of a register record (Table 3.6); writes to g0 produce none. -/
def Engine.writeReg (e : Engine) (n : BitVec 6) (v : Word) (dead : Bool) : Engine :=
  if n = 0#6 then e else (e.setReg n v).record dead n.toNat v

def Engine.writePred (e : Engine) (n : BitVec 3) (b : Bool) (dead : Bool) : Engine :=
  if n = 0#3 then e else (e.setPred n b).record dead (0x40 + n.toNat) (BitVec.ofNat 32 (b2n b))

/-- Write an operation's result with its record; a pair gives two, the even register first (R76). -/
def Engine.writeOp (e : Engine) (o : Op) : Engine :=
  match o.dst with
  | .none => e
  | .reg n => e.writeReg n (o.value.truncate 32) o.dead
  | .pair n => (e.writeReg n (o.value.truncate 32) o.dead).writeReg (n + 1) ((o.value >>> 32).truncate 32) o.dead
  | .pred n => e.writePred n (o.value.getLsbD 0) o.dead

/-- The records of a store (R122). -/
def Engine.recordStore (e : Engine) (addr : Nat) (b : Bytes) : Engine :=
  let w := fun (x : Bytes) => BitVec.ofNat 32 (leVal x)
  let e := e.record false 0x48 (BitVec.ofNat 32 addr)
  match b.length with
  | 1 => e.record false 0x4B (w b)
  | 2 => e.record false 0x4A (w b)
  | 8 => (e.record false 0x49 (w (b.take 4))).record false 0x4C (w (b.drop 4))
  | _ => e.record false 0x49 (w b)

/-! ### Aborts (R89, R545) -/

/-- Task control block of task t in lane store (Table 6.2). -/
def tcbAddr (t : Nat) : Nat := storeBase + 0x200 + 32 * t

/-- The lane sets ABORTED in a task's control block; the first abort of the cycle leaves its cause and clause (R156). -/
def Lane.setAborted (task cause clause : Nat) (l : Lane) : Lane :=
  if 8 ≤ task then l else
  let a := tcbAddr task
  let fl := l.mem.readLe (a + 16) 4
  if bit fl 0 then l
  else { l with mem := (l.mem.writeLe (a + 16) 4 (clearBits fl 0xF0 + 16 * (cause % 16) ||| 1)).writeLe (a + 20) 2 clause }

/-- The records of group 0x02 that a clause abort raises (R110, Table 4.13). -/
def State.abortFault (k : Site) (r : Running) (cause addr : Nat) (o : Origin) (s : State) : State :=
  let sched := (s.lane k.lane).schedule.getD 255
  let s := s.modLane k.lane (fun l => { l with reports := (false, r.clause) :: l.reports })
  if cause = 1 then
    s.modHub (Hub.laneEvent (fun _ => true) .clauseBudget [sched, r.clause] k.lane
      [(2, r.clause), (1, k.eng.val), (1, r.task), (4, r.budget), (2, r.flags)] o)
  else
    s.modHub (Hub.laneEvent (fun _ => true) .illegalAccess [sched, 0, r.clause] k.lane
      [(2, r.clause), (1, 0), (1, cause), (4, addr), (2, if cause = 9 then 0xFFFF else r.pc % 65536), (1, k.eng.val)] o)

/-- Cycles the clause has counted, for its CLAUSE record and counter. -/
def State.clauseRecord (k : Site) (r : Running) (cause cycles : Nat) (s : State) : State :=
  let h := s.hub
  let prev := h.trace.lastCount.find? (fun e => e.1 == (k.lane.val, r.clause))
  let changed := match prev with | some e => e.2 != cycles | none => true
  let rec_ : TraceRec := { typ := 2, unit := k.lane.val, tb0 := (s.lane k.lane).tb0 + r.tickCycle, units := 1,
                           fields := [(2, r.clause), (1, k.eng.val + 16 * cause), (1, 0), (4, cycles)] }
  let h := if (h.trace.filter.clauseMode == 1 || cause != 0 || changed) && bit h.trace.filter.engineMask k.eng.val
    then h.emitLane k.lane rec_ else h
  let counts := ((k.lane.val, r.clause), cycles) :: h.trace.lastCount.filter (fun e => e.1 != (k.lane.val, r.clause))
  let h := { h with trace.lastCount := counts }
  let ok := fun q => b2n (bit q k.lane.val && bit q (4 + k.eng.val))
  { s with hub := (if cause = 0 then h.count 0xF002 ok else h.count 0xF003 ok) }

/-- Abort the running clause (R89): no syllable of the present bundle takes effect, loops end, PREV_ABORT and PREV_CAUSE are set
and the fault is raised. Operations issued earlier drain. -/
def State.abortClause (k : Site) (cause addr : Nat) (o : Origin) (s : State) : State :=
  let e := s.engine k
  match e.run with
  | none => s
  | some r =>
    let r' := { r with aborted := some (cause, r.cyc) }
    let s := s.modEng k (fun e => { e with
      run := some r', bundle := {}, loops := [], prevAbort := true, prevCause := cause })
    (s.abortFault k r cause addr o).clauseRecord k r cause (min r.cyc r.budget)

/-- A lower cause met in the bundle that already aborted the clause (R545): it is the one recorded. -/
def State.lowerAbort (k : Site) (r : Running) (cause addr : Nat) (s : State) : State :=
  let s := s.modEng k (fun e => { e with run := some { r with aborted := some (cause, r.cyc) }, prevCause := cause })
  let sched := (s.lane k.lane).schedule.getD 255
  let mine := fun (x : FaultRec) => x.same .illegalAccess [sched, 0, r.clause] .real
  let fix := fun (x : FaultRec) => { x with detail := setDetail 3 cause (setDetail 4 addr x.detail) }
  s.modHub (fun h => { h with faults.log := updateFirst mine fix h.faults.log })

/-! ### Issue -/

/-- The clause may issue in this cycle: it runs, has issued no END, stands in no bubble and has not passed cycle B (R83, R88). -/
def Running.issues (r : Running) : Bool :=
  r.aborted.isNone && !r.ended && r.bubbles == 0 && decide (r.cyc ≤ r.budget)

/-- Issue one syllable. `ok` says that its encoding is defined (R75); `cause` finds a further abort cause and its address from
the engine, the clause and the guard; `eff` adds what the syllable does to the bundle. -/
def State.issue (k : Site) (n : Bool) (p : BitVec 3) (ok : Bool) (cause : Engine → Running → Bool → Option (Nat × Nat))
    (eff : Engine → Running → Bool → Bundle → Bundle) (s : State) : State :=
  let e := s.engine k
  match e.run with
  | none => s
  | some r =>
    let g := e.guard n p
    let bad : Option (Nat × Nat) := if ok then cause e r g else some (2, 0)
    if r.issues then
      match bad with
      | some (c, a) => s.abortClause k c a .real
      | none => s.modEng k (fun e => { e with bundle := eff e r g e.bundle })
    else
      match r.aborted, bad with
      | some (old, at_), some (c, a) => if at_ = r.cyc ∧ c < old ∧ 2 ≤ old then s.lowerAbort k r c a else s
      | _, _ => s

def noCause : Engine → Running → Bool → Option (Nat × Nat) := fun _ _ _ => none

/-- A non-NOP M syllable in a busy cycle (R78), whatever its guard. -/
def mBusy : Engine → Running → Bool → Option (Nat × Nat) := fun e r _ => if r.cyc < e.mFree then some (5, 0) else none

/-- Add an operation of a latency to the bundle when its guard holds (R72). -/
def addOp (slot lat : Nat) (dst : Dest) (v : DWord) (flags : Nat) (dead : Bool) (r : Running) (g : Bool) (b : Bundle) : Bundle :=
  if g then { b with ops := b.ops ++ [⟨r.cyc, slot, r.cyc + lat - 1, dst, v, flags, dead⟩] } else b

/-! ### A-slot shapes (R77) -/

def State.aReg (k : Site) (slot : ASlot) (f : RegSyl) (ok : Bool) (dst : Dest) (v : Engine → DWord) (s : State) : State :=
  s.issue k f.n f.p ok noCause (fun e r g => addOp slot.num 1 dst (v e) 0 f.d r g)

/-- d ← op(a, b); X is zero. -/
def State.aBin (k : Site) (slot : ASlot) (f : RegSyl) (op : Word → Word → Word) (s : State) : State :=
  s.aReg k slot f (f.x == 0#3) (.reg f.dst) (fun e => (op (e.reg f.sa) (e.reg f.sb)).zeroExtend 64) 

/-- d ← op(a), SB and X zero. -/
def State.aUn (k : Site) (slot : ASlot) (f : RegSyl) (op : Word → Word) (s : State) : State :=
  s.aReg k slot f (f.x == 0#3 && f.sb == 0#6) (.reg f.dst) (fun e => (op (e.reg f.sa)).zeroExtend 64)

/-- pd ← test(a, b). -/
def State.aCmp (k : Site) (slot : ASlot) (f : RegSyl) (op : Word → Word → Bool) (s : State) : State :=
  s.aReg k slot f (f.x == 0#3 && isPred f.dst) (.pred (predNo f.dst))
    (fun e => BitVec.ofNat 64 (b2n (op (e.reg f.sa) (e.reg f.sb))))

/-- pd ← op(pa, pb). -/
def State.aPred (k : Site) (slot : ASlot) (f : RegSyl) (op : Bool → Bool → Bool) (s : State) : State :=
  s.aReg k slot f (f.x == 0#3 && isPred f.dst && isPred f.sa && isPred f.sb) (.pred (predNo f.dst))
    (fun e => BitVec.ofNat 64 (b2n (op (e.pred (predNo f.sa)) (e.pred (predNo f.sb)))))

/-- Pair d ← op(pair a, pair b). -/
def State.aPair (k : Site) (slot : ASlot) (f : RegSyl) (op : DWord → DWord → DWord) (s : State) : State :=
  s.aReg k slot f (f.x == 0#3 && isPair f.dst && isPair f.sa && isPair f.sb) (.pair f.dst)
    (fun e => op (e.pair f.sa) (e.pair f.sb))

/-- d ← op(a, imm). -/
def State.aImm (k : Site) (slot : ASlot) (f : ImmSyl) (ok : Bool) (op : Word → Word → Word) (s : State) : State :=
  s.issue k f.n f.p (f.okIn slot && ok) noCause
    (fun e r g => addOp slot.num 1 (.reg f.dst) ((op (e.reg f.sa) f.value).zeroExtend 64) 0 f.d r g)

/-- pd ← test(a, imm). -/
def State.aCmpImm (k : Site) (slot : ASlot) (f : ImmSyl) (op : Word → Word → Bool) (s : State) : State :=
  s.issue k f.n f.p (f.okIn slot && isPred f.dst) noCause
    (fun e r g => addOp slot.num 1 (.pred (predNo f.dst)) (BitVec.ofNat 64 (b2n (op (e.reg f.sa) f.value))) 0 f.d r g)

/-! ### M-slot shapes (R78) -/

/-- An M operation of latency `lat`; a blocking one keeps the slot busy for lat − 1 cycles more, whatever its guard (R72). -/
def State.mOp (k : Site) (f : RegSyl) (ok : Bool) (lat : Nat) (blocking : Bool) (dst : Dest) (v : Engine → DWord × Nat)
    (s : State) : State :=
  s.issue k f.n f.p (f.x == 0#3 && ok) mBusy (fun e r g b =>
    let res := v e
    let b := addOp 2 lat dst res.1 res.2 f.d r g b
    if blocking then { b with mFree := some (r.cyc + lat) } else b)

def State.mInt (k : Site) (f : RegSyl) (lat : Nat) (blocking : Bool) (op : Word → Word → Word × Nat) (s : State) : State :=
  s.mOp k f true lat blocking (.reg f.dst) (fun e => let r := op (e.reg f.sa) (e.reg f.sb); (r.1.zeroExtend 64, r.2))

/-- A binary32 operation of two operands and the accumulator d. -/
def State.mF32 (k : Site) (f : RegSyl) (ok : Bool) (lat : Nat) (blocking : Bool) (op : Nat → Nat → Nat → Nat × Nat) (s : State) :
    State :=
  s.mOp k f ok lat blocking (.reg f.dst) (fun e =>
    let r := op (e.reg f.sa).toNat (e.reg f.sb).toNat (e.reg f.dst).toNat
    (BitVec.ofNat 64 (r.1 % 2 ^ 32), r.2))

/-- A binary64 operation of two operands and the accumulator pair d. -/
def State.mF64 (k : Site) (f : RegSyl) (ok : Bool) (lat : Nat) (blocking : Bool) (op : Nat → Nat → Nat → Nat × Nat) (s : State) :
    State :=
  s.mOp k f (ok && isPair f.dst && isPair f.sa) lat blocking (.pair f.dst) (fun e =>
    let r := op (e.pair f.sa).toNat (e.pair f.sb).toNat (e.pair f.dst).toNat
    (BitVec.ofNat 64 r.1, r.2))

def State.mCmp32 (k : Site) (f : RegSyl) (op : Nat → Nat → Bool × Nat) (s : State) : State :=
  s.mOp k f (isPred f.dst) 4 false (.pred (predNo f.dst)) (fun e =>
    let r := op (e.reg f.sa).toNat (e.reg f.sb).toNat
    (BitVec.ofNat 64 (b2n r.1), r.2))

def State.mCmp64 (k : Site) (f : RegSyl) (op : Nat → Nat → Bool × Nat) (s : State) : State :=
  s.mOp k f (isPred f.dst && isPair f.sa && isPair f.sb) 5 false (.pred (predNo f.dst)) (fun e =>
    let r := op (e.pair f.sa).toNat (e.pair f.sb).toNat
    (BitVec.ofNat 64 (b2n r.1), r.2))

/-! ### L-slot shapes (R67, R68, R79) -/

/-- The abort an effective address causes: outside the scratchpad, or not aligned (R67); only when the guard is true. -/
def addrCause (ea : Engine → Nat) (size : Nat) : Engine → Running → Bool → Option (Nat × Nat) := fun e _ g =>
  let a := ea e
  if !g then none
  else if scratchSize ≤ a then some (3, a)
  else if a % size ≠ 0 then some (4, a)
  else none

/-- Report what the SEC-DED code of a scratchpad word found (R400, R401); `reader` as in Table 16.10. -/
def State.scratchEcc (k : Site) (addr reader : Nat) (ecc : Ecc) (s : State) : Ecc × State :=
  let phys := s.hub.vote.engineMap[k.lane][k.eng.val]
  let f := s.hub.sramRead k.lane.val phys (addr / 128) (addr % 128 / 8) reader ecc
  (f.1, { s with hub := f.2 })

/-- The issue happens with a true guard and no abort: only then is the scratchpad read. -/
def State.accesses (s : State) (k : Site) (n : Bool) (p : BitVec 3) (ok : Bool)
    (cause : Engine → Running → Bool → Option (Nat × Nat)) : Bool :=
  let e := s.engine k
  match e.run with
  | none => false
  | some r => r.issues && ok && (cause e r (e.guard n p)).isNone && e.guard n p

def eccFlips : Ecc → DWord
  | .uncorrectable f => f
  | _ => 0#64

/-- A load (R68): it reads the scratchpad in its issue cycle and has latency 2. An uncorrectable word delivers its bits as read
(R401). `post` extends the `size` bytes read. -/
def State.load (k : Site) (d n : Bool) (p : BitVec 3) (ok : Bool) (ea : Engine → Nat) (size : Nat) (dst : Dest)
    (post : Nat → DWord) (ecc : Ecc) (s : State) : State :=
  let cause := addrCause ea size
  let hit := s.accesses k n p ok cause
  let s := if hit then (match (s.engine k).run with
    | some r => s.advance k.lane r.tickCycle
    | none => s) else s
  let addr := ea (s.engine k)
  let raw := (s.lane k.lane).mem.readLe (scratchBase k.eng.val + addr) size
  let f := if hit then s.scratchEcc k addr 0 ecc else (ecc, s)
  let flips := (eccFlips f.1).toNat / 2 ^ (8 * (addr % 8))
  let v := post ((BitVec.ofNat 64 raw ^^^ BitVec.ofNat 64 flips).toNat % 2 ^ (8 * size))
  f.2.issue k n p ok cause (fun _ r g => addOp 3 2 dst v 0 d r g)

/-- A store (R68): it updates the scratchpad at the end of its cycle. D is 0 (R73). A store to part of an uncorrectable word leaves it
detectable as such; one of the whole word encodes it afresh (R401). -/
def State.store (k : Site) (d n : Bool) (p : BitVec 3) (ok : Bool) (ea : Engine → Nat) (size : Nat) (v : Engine → Nat)
    (ecc : Ecc) (s : State) : State :=
  let cause := addrCause ea size
  let hit := s.accesses k n p (ok && !d) cause
  let addr := ea (s.engine k)
  let s := s.issue k n p (ok && !d) cause (fun e _ g b =>
    if g then { b with store := some (ea e, leBytes size (v e), size) } else b)
  if !hit then s
  else
    let phys := s.hub.vote.engineMap[k.lane][k.eng.val]
    let word := (k.lane.val, phys, addr / 128, addr % 128 / 8)
    if size = 8 then s.modHub (Hub.sramGood word)
    else
      let f := s.scratchEcc k addr 0 ecc
      match f.1 with
      | .uncorrectable _ => f.2.modHub (Hub.sramSpoil word)
      | _ => f.2

/-- Effective addresses (R67), modulo 2^32. -/
def eaImm (f : ImmSyl) (e : Engine) : Nat := (e.reg f.sa + f.value).toNat
def eaReg (f : RegSyl) (e : Engine) : Nat := (e.reg f.sa + e.reg f.sb).toNat

/-- A taken BR or BRI in the END bundle of an active loop (R86), whatever its guard; a BRI target above 8191 (R83). -/
def branchCause (target : Engine → Nat) : Engine → Running → Bool → Option (Nat × Nat) := fun e r g =>
  if e.loops.any (fun l => l.last == r.pc) then some (6, 0)
  else if g && decide (8191 < target e) then some (8, target e)
  else none

/-- Conditions of LOOP_NESTING (R85). -/
def loopCause (lc : Bool) (last : Nat) : Engine → Running → Bool → Option (Nat × Nat) := fun e _ _ =>
  let outer : Bool := match e.loops with | [] => false | l :: _ => decide (l.last < last)
  if decide (2 ≤ e.loops.length) || e.loops.any (fun l => l.lc == lc) || outer then some (7, 0) else none

/-- Start a loop (R84). An END that is not greater than the loop's own bundle index is an undefined encoding (R75), as is any
non-zero guard or fixed bit (R79). -/
def State.startLoop (k : Site) (f : LpSyl) (okCnt : Bool) (count : Engine → Word) (s : State) : State :=
  let okEnd := match (s.engine k).run with | some r => decide (r.pc < f.last.toNat) | none => true
  s.issue k false 0#3 (f.rest == 0#5 && okCnt && okEnd) (loopCause f.lc f.last.toNat) (fun e r _ b =>
    { b with loop := some (⟨f.lc, r.pc + 1, f.last.toNat⟩, count e) })

/-! ### The end of a cycle -/

def Engine.lcOf (e : Engine) (lc : Bool) : Word := if lc then e.lc1 else e.lc0
def Engine.setLc (e : Engine) (lc : Bool) (v : Word) : Engine := if lc then { e with lc1 := v } else { e with lc0 := v }

/-- R63, R64, R76: write what is due at the end of this cycle, ordered by issue cycle and slot; what is not due stays in
flight. -/
def Engine.writeDue (e : Engine) (cyc : Nat) : Engine :=
  let all := e.flight ++ sortBy (fun a b => decide (a.slot ≤ b.slot)) e.bundle.ops
  let due := all.filter (fun o => o.due == cyc)
  let e := due.foldl Engine.writeOp e
  { e with
    flight := all.filter (fun o => o.due != cyc)
    flags := newFlags e.flags e.bundle.clearFlags (due.foldl (fun m o => m ||| o.flags) 0)
    mbFull := e.mbFull && !e.bundle.clearMbFull
    mFree := match e.bundle.mFree with | some m => m | none => e.mFree }

/-- An XSET of this cycle: the slot and its two records, in the live signature (R76, R80). -/
def Engine.commitXset (e : Engine) : Engine :=
  match e.bundle.xset with
  | none => e
  | some (n, a, b) =>
    let e := { e with slots := e.slots.set n.toNat (a, b) n.isLt }
    (e.record false (0x80 + n.toNat) a).record false (0xC0 + n.toNat) b

/-- Hardware loops at the bundle that issued (R84, R85): the inner loop loops back first. The answer is the next bundle. -/
def Engine.loopEnd (pc : Nat) : Nat → Engine → Engine × Nat
  | 0, e => (e, pc + 1)
  | fuel + 1, e =>
    match e.loops with
    | [] => (e, pc + 1)
    | l :: rest =>
      if l.last ≠ pc then (e, pc + 1)
      else if 1#32 < e.lcOf l.lc then (e.setLc l.lc (e.lcOf l.lc - 1#32), l.first)
      else Engine.loopEnd pc fuel { e.setLc l.lc 0#32 with loops := rest }

/-- Where the clause goes on: a taken branch (R83, R86), a loop start (R84), a loop's end, or the next bundle. -/
def Engine.nextBundle (e : Engine) (r : Running) : Engine × Running :=
  if e.bundle.ends then (e, { r with ended := true })
  else match e.bundle.branch with
    | some t => ({ e with loops := e.loops.filter (fun l => decide (l.first ≤ t ∧ t ≤ l.last)) }, { r with pc := t, bubbles := 2 })
    | none =>
      match e.bundle.loop with
      | some (l, c) =>
        let e := e.setLc l.lc c
        if c = 0#32 then (e, { r with pc := l.last + 1, bubbles := 2 })
        else ({ e with loops := l :: e.loops }, { r with pc := r.pc + 1 })
      | none =>
        let (e, pc) := e.loopEnd r.pc 2
        (e, { r with pc := pc })

/-- The whole of an engine's end of cycle, but for the scratchpad: results, XSET, store records, then the flow of the clause. -/
def Engine.endCycle (e : Engine) (r : Running) : Engine :=
  let issued := r.issues
  let e := (e.writeDue r.cyc).commitXset
  let e := match e.bundle.store with | some (a, b, _) => e.recordStore a b | none => e
  let (e, r) := if issued then e.nextBundle r else (e, { r with bubbles := r.bubbles - 1 })
  { e with run := some { r with cyc := r.cyc + 1 }, bundle := {} }

/-- R88: at the end of cycle B every operation still in flight is cancelled and the M slot released. -/
def Engine.cancel (e : Engine) : Engine := { e with flight := [], mFree := 0, bundle := {} }

/-- The engine goes idle (R61, R89): loops end, the clause is gone. -/
def Engine.idle (e : Engine) : Engine := { e.cancel with run := none, loops := [] }

/-- An aborted clause has drained, or stands past cycle B: the task is marked (R156), the engine stays idle (R89). -/
def State.retire (k : Site) (r : Running) (cause : Nat) (s : State) : State :=
  (s.modLane k.lane (Lane.setAborted r.task cause r.clause)).modEng k Engine.idle

end Sys2Proof.Machine
end

