-- ==== Sys2Proof/Machine/Vote.lean ====
section
/-! DEFINITION. Conjunction and the vote (chapter 05): link faults, signature frames, verdicts, vectors, consensus and its
consequences (R124 to R133, R541). -/
namespace Sys2Proof.Machine

/-! ### Links (R133) -/

/-- The number of the link between two lanes (R133 numbers them 0 to 5). -/
def laneLink (a b : LaneId) : Nat :=
  let i := min a.val b.val
  let j := max a.val b.val
  match i with | 0 => j - 1 | 1 => j + 1 | _ => 5

def hubLinkOf (l : LaneId) : Nat := 6 + l.val

/-- The lanes at the ends of a link. -/
def linkLanes (link : Nat) : Nat :=
  match link with
  | 0 => 3 | 1 => 5 | 2 => 9 | 3 => 6 | 4 => 10 | 5 => 12 | n => 2 ^ (n - 6)

/-- The lane that a persistent LINK_FAULT makes MISSING: the higher-numbered one of a lane-to-lane link. -/
def linkVictim (link : Nat) : Nat :=
  match link with
  | 0 => 1 | 1 => 2 | 2 => 3 | 3 => 2 | 4 => 3 | 5 => 3 | n => n - 6

/-- An event of the lanes' own detectors; a new record of it counts against the lanes it names (class 4 of Table 16.3). -/
def Hub.laneWear (n : FaultName) (key : List Nat) (lanes : Nat) (detail : Detail) (o : Origin) (h : Hub) : Hub :=
  let x := h.eventPerTick n key lanes detail o
  if x.faults.seq = h.faults.seq ∨ o = .reportOnly then x
  else (bitsSet 4 lanes).foldl (fun (h : Hub) j => h.wearHit 4 j 0 (some 1)) x

/-- LINK_FAULT (R133): kind 0 CRC, 1 missing, 2 retry failed. A report-only injection leaves counters and runs as they are. -/
def Hub.linkFault (link kind : Nat) (o : Origin) (h : Hub) : Hub :=
  let run := vgetN h.vote.linkRun link 0 + 1
  let h := if o = .reportOnly then h else { h with
    vote.linkErrors := vmodN h.vote.linkErrors link (satAdd 16 · 1)
    vote.linkNow := setBit h.vote.linkNow link }
  h.laneWear .linkFault [link] (linkLanes link) [(1, link), (1, kind), (1, run % 256)] o

/-- A tick start closes the runs of R133: a link that raised LINK_FAULT in link_fault_ticks consecutive ticks makes its lane MISSING
in this tick. -/
def Hub.closeLinkRuns (h : Hub) : Hub :=
  let runs := vmapIdx (fun i n => if bit h.vote.linkNow i then n + 1 else 0) h.vote.linkRun
  let limit := h.cfg.votePolicy.linkFaultTicks
  let bad := (List.range 10).filter (fun i => decide (limit ≤ vgetN runs i 0))
  { h with
    vote.linkRun := runs
    vote.forcedMissing := bad.foldl (fun m i => setBit m (linkVictim i)) 0
    vote.linkActive := h.vote.linkNow
    vote.linkNow := 0 }

/-- A frame of `kind` bits (0 agreement, 4 receipt, 8 signature, 12 vector) that a powered lane should have received by now and did
not raises LINK_FAULT for its link (R133). -/
def State.reportMissing (l : LaneId) (kind : Nat) (s : State) : State :=
  let late := allLanes.filter (fun j => j != l && (s.hub.laneState j).powered && !bit (s.lane l).heard (kind + j.val))
  let s := late.foldl (fun s j => s.modHub (Hub.linkFault (laneLink l j) 1 .real)) s
  s.modLane l (fun x => { x with heard := late.foldl (fun m j => setBit m (kind + j.val)) x.heard })

/-- What a receiver makes of a frame on a link: LINK_FAULT where it failed, or where an injection corrupts its CRC (Table 5.15). -/
def State.frameCrc (link : Nat) (rx : Rx) (s : State) : State × Rx :=
  let arm := s.hub.takeArm .linkFault (fun a => a.resource == link)
  let s := { s with hub := arm.2 }
  match rx, arm.1 with
  | .crcError, _ => (s.modHub (Hub.linkFault link 0 .real), .crcError)
  | .missing, _ => (s.modHub (Hub.linkFault link 1 .real), .missing)
  | .whole, some .injected => (s.modHub (Hub.linkFault link 0 .injected), .crcError)
  | .whole, some o => (s.modHub (Hub.linkFault link 0 o), .whole)
  | .whole, none => (s, .whole)

/-- Note what became of a frame from `sender`, and what the receiver makes of it. -/
def State.frameRx (l sender : LaneId) (kind : Nat) (rx : Rx) (s : State) : State × Rx :=
  (s.modLane l (fun x => { x with heard := setBit x.heard (kind + sender.val) })).frameCrc (laneLink l sender) rx

/-- Two different lanes with power, while the tick runs. -/
def State.linked (s : State) (l sender : LaneId) : Bool :=
  s.hub.time.running && l != sender && (s.hub.laneState l).powered && (s.hub.laneState sender).powered

/-! ### Signatures (R124, R125, R132) -/

/-- SIGNATURE_CAPTURE (R124): every engine latches its live and dead signatures, and the transfer signature is read out. -/
def execSignatureCapture (lane : LaneId) (s : State) : Out :=
  .next (if s.hub.time.running && (s.hub.laneState lane).powered then
    s.modLane lane (fun l => { l with
      eng := vmap (fun e => { e with capLive := e.live, capDead := e.dead }) l.eng
      capXfer := l.xsig })
  else s)

/-- The self-test tick of a sentence, by its tick in sentence (R132, Table 5.14). -/
def Hub.selftestAt (h : Hub) : Nat := match h.cfg.votePolicy.selftestTick with | some t => t | none => h.sTicks - 1

/-- The victim lane and engine of the tick, when it is the self-test tick and at least two lanes contribute. -/
def State.victim (s : State) (l : LaneId) : Option (LaneId × Nat) :=
  let t := (s.lane l).tick
  let q := t / s.hub.sTicks
  let on := s.hub.active
  if t % s.hub.sTicks = s.hub.selftestAt ∧ 2 ≤ on.length then (on[q % on.length]?).map (fun v => (v, q % 8)) else none

/-- Invert one engine's live signature. -/
def SigFrame.invert (e : Nat) (f : SigFrame) : SigFrame := { f with live := modifyAt (fun x => ~~~ x) f.live e }

/-- SIGNATURE_FRAME_SEND (R125, R132): the signature frame with the victim's inversion, and the output frame. -/
def execSignatureFrameSend (lane : LaneId) (s : State) : Out :=
  .next (if s.hub.time.running && (s.hub.laneState lane).powered then
    let v := s.victim lane
    s.modLane lane (fun l =>
      let f : SigFrame := { tick := l.tick % 65536, live := l.eng.toList.map (fun e => e.capLive),
                            dead := l.eng.toList.map (fun e => e.capDead), xfer := l.capXfer }
      let f := match v with | some (w, e) => if w = lane then f.invert e else f | none => f
      { l with sigs := l.sigs.set lane (some f), sentOut := some { tick := l.tick % 65536, entries := l.outFrame },
               heard := setBit l.heard (8 + lane.val) })
  else s)

/-- SIGNATURE_FRAME_RECEIVED (R125): a frame that arrives whole, before the deadline and with the receiver's tick is held. -/
def execSignatureFrameReceived (lane sender : LaneId) (rx : Rx) (s : State) : Out :=
  .next (if s.linked lane sender then
    let (s, rx) := s.frameRx lane sender 8 rx
    match rx, (s.lane sender).sigs[sender] with
    | .whole, some f =>
      if f.tick = (s.lane lane).tick % 65536 then s.modLane lane (fun l => { l with sigs := l.sigs.set sender (some f) }) else s
    | _, _ => s
  else s)

/-- OUTPUT_FRAME_RECEIVED (R13): the hub's half holds a lane's output frame. A frame that does not arrive whole is a LINK_FAULT
(R130). -/
def execOutputFrameReceived (half : Rcv) (sender : LaneId) (rx : Rx) (s : State) : Out :=
  .next (if s.hub.time.running && (s.hub.laneState sender).powered then
    let (s, rx) := s.frameCrc (hubLinkOf sender) rx
    match rx with
    | .whole =>
      let f := (s.lane sender).sentOut
      match half with
      | .sa => s.modHub (fun h => { h with vote.framesSA := h.vote.framesSA.set sender f })
      | .sb => s.modHub (fun h => { h with vote.framesSB := h.vote.framesSB.set sender f })
      | .lane _ => s
    | _ => s
  else s)

/-! ### Misalignment (R37) -/

/-- Lane j's offset from the alignment target as lane i measures it; none where the marker has not arrived. An injection adds
256 ns (Table 5.15). -/
def State.offsetSeen (s : State) (target : Int) (i j : LaneId) : Option Int :=
  let extra : Int := if (s.hub.armed .tickAlignment (fun a => bit a.lanes j.val && !a.reportOnly)).isSome then 256 else 0
  match (if i = j then some (0 : Int) else (s.lane i).offsets[j]) with
  | some d => some (d + extra - target)
  | none => none

/-- The target of R35 in lane i. -/
def State.targetOf (s : State) (i : LaneId) : Int :=
  median (s.hub.active.filterMap (fun j => if j = i then some 0 else (s.lane i).offsets[j]))

def beyond (limit : Int) (o : Option Int) : Bool :=
  match o with
  | some d => decide (limit < d ∨ d < -limit)
  | none => true

/-- The lanes beyond the limit, with `seen` the offset measured. With two contributing lanes their markers must differ by more than
400 ns, and both are named. -/
def State.misalignedBy (s : State) (seen : LaneId → LaneId → Option Int) : Nat :=
  let c := s.hub.active
  match c with
  | [a, b] =>
    let pair := if beyond 400 (seen a b) then laneMask [a, b] else 0
    let others := allLanes.filter (fun j => (s.hub.laneState j).powered && !c.contains j && c.all (fun i => beyond 200 (seen i j)))
    pair ||| laneMask others
  | _ =>
    laneMask (allLanes.filter (fun j =>
      let m := c.filter (fun i => i != j)
      (s.hub.laneState j).powered && !m.isEmpty && m.all (fun i => beyond 200 (seen i j))))

/-- The offsets that the comparison of R37 sees: from the target, or between the two lanes of a pair. -/
def State.alignSeen (s : State) (i j : LaneId) : Option Int :=
  let pair := s.hub.active.length = 2 ∧ s.hub.active.contains j
  s.offsetSeen (if pair then 0 else s.targetOf i) i j

/-- TICK_ALIGNMENT of the tick (R37), evaluated once. -/
def State.evaluateAlignment (tick : Nat) (s : State) : State :=
  if s.hub.vote.alignTick = some tick then s else
  let real := s.misalignedBy (fun i j => if i = j then some 0 else
    ((s.lane i).offsets[j]).map (fun d => d - (if s.hub.active.length = 2 ∧ s.hub.active.contains j then 0 else s.targetOf i)))
  let all := s.misalignedBy s.alignSeen
  let first := (bitsSet 4 all).head?
  let off : Int := match first with
    | some j => match fin? 4 j, s.hub.active.filter (fun i => i.val != j) with
      | some jj, i :: _ => (s.alignSeen i jj).getD 32767
      | _, _ => 0
    | none => 0
  let reporters := laneMask (s.hub.active.filter (fun i => !(bit all i.val) || s.hub.active.length == 2))
  let detail : Detail := [(2, ofSigned 16 off), (1, reporters)]
  let s := s.modHub (fun h => { h with vote.misaligned := all, vote.alignTick := some tick })
  let s := if all = 0 then s
    else s.modHub (Hub.laneWear .tickAlignment [] all detail (if real ≠ 0 then .real else .injected))
  let s := match s.hub.armed .tickAlignment (fun a => a.reportOnly) with
    | some a => s.modHub (Hub.eventPerTick .tickAlignment [] a.lanes detail .reportOnly)
    | none => s
  s.modHub (Hub.disarm .tickAlignment)

/-! ### Verdicts (R126) -/

/-- How often a key stands in a list. -/
def keyCount {κ : Type} [BEq κ] (l : List κ) (k : κ) : Nat := (l.filter (fun x => x == k)).length

/-- The key of the one class with at least two members that is larger than every other. -/
def majorityKey {κ : Type} [BEq κ] (l : List κ) : Option κ :=
  l.find? (fun k => decide (2 ≤ keyCount l k) && l.all (fun x => x == k || decide (keyCount l x < keyCount l k)))

/-- Lane j's signature frame as lane l compares it: with the self-test inversion removed and an injected inversion (Table 5.15). -/
def State.sigSeen (s : State) (l j : LaneId) : Option SigFrame :=
  let flip := fun (n : FaultName) => (s.hub.armed n (fun a => bit a.lanes j.val && !a.reportOnly)).map (fun a => a.resource % 9)
  let inv := fun (f : SigFrame) (e : Nat) => if e = 8 then { f with xfer := ~~~ f.xfer } else f.invert e
  ((s.lane l).sigs[j]).map (fun f =>
    let f := match s.victim l with | some (w, e) => if w = j then f.invert e else f | none => f
    let f := match flip .liveDivergence with | some e => inv f e | none => f
    let f := match flip .duplexMismatch with | some e => inv f e | none => f
    match flip .latentDivergence with
    | some e => { f with dead := modifyAt (fun x => ~~~ x) f.dead (e % 8) }
    | none => f)

def SigFrame.liveKey (f : SigFrame) : List DWord := f.live ++ [f.xfer]

/-- A lane's reports of this tick that not every contributing lane made (step 2). -/
def State.aborts (s : State) (j : LaneId) : Bool :=
  (s.lane j).reports.any (fun r => s.hub.active.any (fun i => !(s.lane i).reports.contains r))

/-- Codes of R126. -/
def vOk : Nat := 1
def vDeadOnly : Nat := 2
def vLive : Nat := 3
def vMissing : Nat := 4
def vMisaligned : Nat := 5
def vAbort : Nat := 6

/-- The verdict of a lane against a class: its live key and dead key. -/
def classVerdict (live : Option (List DWord)) (dead : Option (List DWord)) (f : SigFrame) : Nat :=
  match live with
  | none => vLive
  | some k =>
    if f.liveKey != k then vLive
    else match dead with
      | some d => if f.dead == d then vOk else vDeadOnly
      | none => vDeadOnly

/-- The dead majority of the members of a class (step 4). -/
def deadKey (fs : List SigFrame) : Option (List DWord) := majorityKey (fs.map (fun f => f.dead))

/-- The verdict of lane j in lane l's eyes. -/
def State.verdict (s : State) (l j : LaneId) : Nat :=
  let st := s.hub.laneState j
  let mis := bit s.hub.vote.misaligned j.val
  let gone := fun (i : LaneId) => bit s.hub.vote.forcedMissing i.val || (s.sigSeen l i).isNone
  let rest := s.hub.active.filter (fun i => !(bit s.hub.vote.misaligned i.val || gone i || s.aborts i))
  let frames := rest.filterMap (s.sigSeen l)
  let live := majorityKey (frames.map SigFrame.liveKey)
  let members := frames.filter (fun f => live == some f.liveKey)
  let dead := deadKey members
  if !st.powered then 0
  else if mis then vMisaligned
  else match st with
    | .active =>
      if gone j then vMissing
      else if s.aborts j then vAbort
      else if bit s.hub.vote.forcedLive j.val then vLive
      else match s.sigSeen l j with
        | some f => classVerdict live dead f
        | none => vMissing
    | .spareWarm =>
      if gone j then vMissing
      else match s.sigSeen l j with
        | some f => classVerdict live dead f
        | none => vMissing
    | .splitB =>
      if gone j then vMissing else
      let b := allLanes.filter (fun i => s.hub.laneState i == .splitB)
      match s.sigSeen l j, b.filter (fun i => i != j) with
      | none, _ => vMissing
      | some _, [] => vOk
      | some f, i :: _ =>
        match s.sigSeen l i with
        | some g => if f.liveKey != g.liveKey then vLive else if f.dead != g.dead then vDeadOnly else vOk
        | none => vOk
    | _ => vOk

def State.verdictField (s : State) (l : LaneId) : Nat := sumNat (allLanes.map (fun j => s.verdict l j * 16 ^ j.val))

def verdictOf (field : Nat) (j : LaneId) : Nat := field / 16 ^ j.val % 16

/-- The comparator self-test of a contributing lane (R132): it reports the victim's difference when it holds the victim's frame; an
injection suppresses the report. -/
def State.selfTest (l : LaneId) (s : State) : State × Bool :=
  match s.victim l with
  | none => (s, false)
  | some (w, e) =>
    if !s.hub.active.contains l then (s, false) else
    let held := ((s.lane l).sigs[w]).isSome
    let det : Detail := [(1, w.val), (1, e)]
    let raise := fun (o : Origin) (s : State) => s.modHub (Hub.eventPerTick .comparatorSelftest [l.val] (setBit 0 l.val) det o)
    let arm := s.hub.armed .comparatorSelftest (fun a => bit a.lanes l.val)
    let real := !held
    let inj := match arm with | some a => !a.reportOnly | none => false
    let rep := match arm with | some a => a.reportOnly && !real | none => false
    let s := if rep then raise .reportOnly s else s
    if real || inj then
      ((raise (if real then .real else .injected) s).modHub (fun h =>
        { h with vote.comparatorOut := setBit h.vote.comparatorOut l.val }), false)
    else (s, true)

/-- VERDICT_FORMATION (R126): at N − 800 the lane forms its verdicts and sends its vector. -/
def execVerdictFormation (lane : LaneId) (s : State) : Out :=
  .next (if s.hub.time.running && (s.hub.laneState lane).powered then
    let s := s.reportMissing lane 8
    let s := s.evaluateAlignment (s.lane lane).tick
    let (s, seen) := s.selfTest lane
    let field := s.verdictField lane
    let t := (s.lane lane).tick
    let v : VoteVec := { tick := t % 65536, selftestTick := (s.victim lane).isSome, selftestSeen := seen, field := field }
    s.modLane lane (fun l => { l with vec := some v, vecs := l.vecs.set lane (some v), heard := setBit l.heard (12 + lane.val) })
  else s)

/-- VOTE_VECTOR_RECEIVED (R127). An injected VOTE_RESULT_MISMATCH alters the sender's field (Table 5.15). -/
def execVoteVectorReceived (dest : Rcv) (sender : LaneId) (rx : Rx) (s : State) : Out :=
  .next (match dest with
  | .lane l =>
    if s.linked l sender then
      let (s, rx) := s.frameRx l sender 12 rx
      match rx, (s.lane sender).vec with
      | .whole, some v => if v.tick = (s.lane l).tick % 65536 then
          s.modLane l (fun x => { x with vecs := x.vecs.set sender (some v) }) else s
      | _, _ => s
    else s
  | half =>
    if s.hub.time.running && (s.hub.laneState sender).powered then
      let (s, rx) := s.frameCrc (hubLinkOf sender) rx
      match rx, (s.lane sender).vec with
      | .whole, some v =>
        let alter := (s.hub.armed .voteResultMismatch (fun a => bit a.lanes sender.val && !a.reportOnly)).isSome
        let v := if alter then { v with field := v.field ^^^ 1 } else v
        if half = .sa then s.modHub (fun h => { h with vote.vecsSA := h.vote.vecsSA.set sender (some v) })
        else s.modHub (fun h => { h with vote.vecsSB := h.vote.vecsSB.set sender (some v) })
      | _, _ => s
    else s)

/-! ### Consensus (R127) -/

/-- The field held by at least `need` of the given vectors, and by more of them than any other. -/
def agreedField (need : Nat) (l : List Nat) : Option Nat :=
  l.find? (fun k => decide (need ≤ keyCount l k) && l.all (fun x => x == k || decide (keyCount l x < keyCount l k)))

/-- The agreed vector of a half from the contributing lanes' vectors. -/
def Hub.agreedOf (h : Hub) (v : Vector (Option VoteVec) 4) : Option Nat :=
  let fields := h.active.filterMap (fun l => (v[l]).map (fun x => x.field))
  if h.power.mode.isRunning then agreedField 2 fields
  else if h.active.length = 1 then fields.head?
  else agreedField 2 fields

/-- Engine mask (bit 8 transfer) of the differences between two frames, and the first differing pair of signatures. -/
def sigDiff (dead : Bool) (a b : SigFrame) : Nat × DWord × DWord :=
  let ka := if dead then a.dead else a.liveKey
  let kb := if dead then b.dead else b.liveKey
  let d := (List.range ka.length).filter (fun i => ka.getD i 0 != kb.getD i 0)
  match d with
  | [] => (0, 0, 0)
  | i :: _ => (d.foldl setBit 0, ka.getD i 0, kb.getD i 0)

/-- The frame a lane is compared against: that of the first contributing lane with verdict OK, else of one with DEAD_ONLY, else of
another contributing lane; of the other lane of group B for a lane of that group (R137). -/
def State.reference (s : State) (field : Nat) (j : LaneId) : Option SigFrame :=
  let group := if s.hub.laneState j = .splitB then allLanes.filter (fun i => s.hub.laneState i == .splitB) else s.hub.active
  let c := group.filter (fun i => i != j)
  let pick := match c.filter (fun i => verdictOf field i == vOk), c.filter (fun i => verdictOf field i == vDeadOnly) with
    | i :: _, _ => some i
    | [], i :: _ => some i
    | [], [] => c.head?
  match pick with
  | some i => s.sigSeen i i
  | none => none

/-- Detail of LIVE_DIVERGENCE, LATENT_DIVERGENCE and DUPLEX_MISMATCH (Table 5.15), and the LAST_MISMATCH registers. -/
def State.noteMismatch (field : Nat) (j : LaneId) (dead : Bool) (source : Nat) (s : State) : State × Detail :=
  match s.reference field j, s.sigSeen j j with
  | some a, some b =>
    let (mask, x, y) := sigDiff dead a b
    let eng := match bitsSet 9 mask with | e :: _ => e | [] => 0
    let s := s.modHub (fun h => { h with
      vote.lastMismatch := j.val + 16 * eng + 256 * b2n dead
      vote.lastMismatchTick := h.time.tick
      vote.sigMajority := x.toNat
      vote.sigMinority := y.toNat })
    (s, [(1, source), (1, 0), (2, mask), (4, x.toNat % 2 ^ 32), (4, y.toNat % 2 ^ 32)])
  | _, _ => (s, [(1, source), (1, 0), (2, 0), (4, 0), (4, 0)])

/-- The origin of a divergence: injected where an injection of the detector names the lane and the lanes' own frames agree. -/
def State.divOrigin (s : State) (n : FaultName) (j : LaneId) : Origin :=
  if (s.hub.armed n (fun a => bit a.lanes j.val && !a.reportOnly)).isSome then .injected else .real

/-- LATENT_LIMIT (R131) of lane j. -/
def Hub.latentLimit (j : LaneId) (o : Origin) (h : Hub) : Hub :=
  let h := if o = .reportOnly then h else { h with
    vote.latentLog := h.vote.latentLog.set j []
    vote.latentPending := setBit h.vote.latentPending j.val }
  h.raise .latentLimit [j.val] (setBit 0 j.val) [(1, 0), (1, 0), (6, 0)] o

/-- Note a LATENT_DIVERGENCE in the lane's record of its last eight (R131). -/
def Hub.noteLatent (j : LaneId) (o : Origin) (h : Hub) : Hub :=
  if o = .reportOnly then h else
  let log := keepLast 8 (h.vote.latentLog[j] ++ [h.sentence])
  let first := match log with | f :: _ => f | [] => 0
  if log.length = 8 ∧ h.sentence - first < 1000 then h.latentLimit j .real
  else { h with vote.latentLog := h.vote.latentLog.set j (keepLast 7 log) }

/-- The lane's own copy in place is running: its DEAD_ONLY verdicts cause no LATENT_DIVERGENCE (R131). -/
def Hub.inPlace (h : Hub) (j : LaneId) : Bool :=
  match h.vote.copy with
  | some c => c.target == j && c.kind == .inPlace
  | none => false

/-- The records of one lane's verdict (Table 5.15, R541); DUPLEX_MISMATCH is raised with the SAFE entry. -/
def State.recordVerdict (field : Nat) (j : LaneId) (s : State) : State :=
  let v := verdictOf field j
  let m := setBit 0 j.val
  let duplexLane := (s.hub.power.mode == .duplex || s.hub.power.mode == .split) && s.hub.laneState j == .active
  if v = vDeadOnly then
    let (s, d) := s.noteMismatch field j true 0
    if s.hub.inPlace j then s else
    let o := s.divOrigin .latentDivergence j
    s.modHub (fun h => (h.laneWear .latentDivergence [j.val] m d o).noteLatent j o)
  else if v = vLive then
    let source := if s.hub.laneState j = .splitB then 2 else if bit s.hub.vote.forcedLive j.val then 1 else 0
    let (s, d) := s.noteMismatch field j false source
    let s := s.modHub (fun h => { h with vote.liveCount := h.vote.liveCount.set j (satAdd 16 h.vote.liveCount[j] 1) })
    if duplexLane then s
    else s.modHub (Hub.eventPerTick .liveDivergence [j.val] m d (s.divOrigin .liveDivergence j))
  else s

/-- Report-only injections of the divergence detectors: recorded, nothing else (R511). -/
def State.reportOnlyVote (s : State) : State :=
  [FaultName.liveDivergence, .latentDivergence, .duplexMismatch, .voteResultMismatch].foldl (fun s n =>
    match s.hub.armed n (fun a => a.reportOnly) with
    | some a => s.modHub (Hub.eventPerTick n (bitsSet 4 a.lanes) a.lanes [(1, 0), (1, 0), (2, 2 ^ (a.resource % 9))] .reportOnly)
    | none => s) s

/-- VOTE_RESULT_MISMATCH (R127): the field differs from the decided vector, or the vector is missing at SA or SB. -/
def State.vectorWrong (s : State) (field : Nat) (j : LaneId) : Bool :=
  match s.hub.vote.vecsSA[j], s.hub.vote.vecsSB[j] with
  | some a, some b => a.field != field || b.field != field
  | _, _ => true

/-- NO_MAJORITY, with its SAFE entry. -/
def Hub.noMajority (leaving : Nat) (h : Hub) : Hub :=
  h.raise .noMajority [] (laneMask h.active) [(1, laneMask h.active), (1, leaving)] .real

/-- The lane changes of a decided vector (R128, R129, Table 5.6), due at the next tick start. -/
def State.applyDecided (field : Nat) (wrong : List LaneId) (s : State) : State :=
  let c := s.hub.active
  let leaves := fun (j : LaneId) => decide (3 ≤ verdictOf field j) || wrong.contains j || bit s.hub.vote.comparatorOut j.val
  let out := c.filter leaves
  let setLane := fun (st : LaneState) (s : State) (j : LaneId) =>
    s.modHub (fun h => { h with vote.nextLane := h.vote.nextLane.set j (some st) })
  let spares := allLanes.filter (fun j => s.hub.laneState j == .spareWarm)
  let badSpares := spares.filter (fun j => decide (3 ≤ verdictOf field j))
  let badResync := allLanes.filter (fun j => s.hub.laneState j == .resync && verdictOf field j == vMisaligned)
  let others := fun (s : State) => (badSpares ++ badResync).foldl (setLane .outvoted) s
  match s.hub.power.mode with
  | .voted =>
    match out with
    | [] => others s
    | [j] =>
      let s := setLane .outvoted (others s) j
      match spares.filter (fun i => verdictOf field i == vOk || verdictOf field i == vDeadOnly) with
      | i :: _ => setLane .active s i
      | [] => s.modHub (fun h => { h with vote.nextMode := some .duplex })
    | _ => s.modHub (Hub.noMajority (laneMask out))
  | .duplex | .split =>
    match out with
    | [] => others s
    | j :: _ =>
      let liveish := out.any (fun j => verdictOf field j == vLive || verdictOf field j == vAbort || bit s.hub.vote.comparatorOut j.val)
      if liveish then
        let (s, d) := s.noteMismatch field j false 0
        s.modHub (Hub.raise .duplexMismatch [] (laneMask out) d (s.divOrigin .duplexMismatch j))
      else s.modHub (Hub.noMajority (laneMask out))
  | _ => s

/-- The VOTE record of a tick whose vector is not all OK or NONE, or in which a lane state will change (R504). -/
def Hub.voteRec (field flags : Nat) (h : Hub) : Hub :=
  let plain := allLanes.all (fun j => decide (verdictOf field j ≤ 1))
  let changes := h.vote.nextLane.toList.any Option.isSome
  if plain && !changes then h
  else h.emit { typ := 3, unit := 4, tb0 := h.time.tb0, units := 1,
                fields := [(2, field), (2, h.laneStatesWord % 2 ^ 16), (1, flags), (3, 0)] }

/-- What held for this tick's vote only. -/
def Hub.endVote (h : Hub) : Hub := { h with vote.forcedLive := 0, vote.comparatorOut := 0 }

/-- VECTOR_CONSENSUS (R127): at N − 450 SA and SB form the agreed vector, and what follows from it. -/
def execVectorConsensus (s : State) : Out :=
  .next (if !s.hub.time.running || s.hub.vote.votedTick = some s.hub.time.tick || s.hub.active.isEmpty then s else
    let s := s.modHub (fun h => { h with vote.votedTick := some h.time.tick })
    let s := (allLanes.filter (fun l => (s.hub.laneState l).powered)).foldl (fun (s : State) l => s.reportMissing l 12) s
    let a := s.hub.agreedOf s.hub.vote.vecsSA
    let b := s.hub.agreedOf s.hub.vote.vecsSB
    let tested := s.hub.active.any (fun l => match (s.lane l).vec with | some v => v.selftestTick | none => false)
    let passed := tested && s.hub.active.all (fun l => match (s.lane l).vec with | some v => v.selftestSeen | none => false)
    let s := s.modHub (fun h => { h with
      vote.selftestTick := h.tickInSentence == h.selftestAt
      vote.selftestOk := passed
      vote.selftestCount := if passed then wrapAdd 32 h.vote.selftestCount 1 else h.vote.selftestCount })
    let s := match a with
      | some field =>
        if a = b then
          let s := s.modHub (fun h => { h with vote.decided := some field, vote.verdicts := field })
          let wrong := s.hub.active.filter (s.vectorWrong field)
          let s := allLanes.foldl (fun (s : State) (j : LaneId) => s.recordVerdict field j) s
          let s := wrong.foldl (fun (s : State) (j : LaneId) =>
            let lf := match s.hub.vote.vecsSA[j], s.hub.vote.vecsSB[j] with | some x, _ => x.field | none, some y => y.field | _, _ => 0
            let inj := (s.hub.armed .voteResultMismatch (fun a => bit a.lanes j.val)).isSome
            s.modHub (Hub.eventPerTick .voteResultMismatch [j.val] (setBit 0 j.val) [(2, field), (2, lf)]
              (if inj then .injected else .real))) s
          let s := s.applyDecided field wrong
          s.modHub (Hub.voteRec field (b2n tested + 2 * b2n passed))
        else if s.hub.power.mode.isRunning then (s.modHub (fun h => { h with vote.decided := none })).modHub (Hub.noMajority 0)
        else s.modHub (fun h => { h with vote.decided := none })
      | none =>
        let s := s.modHub (fun h => { h with vote.decided := none })
        if s.hub.power.mode.isRunning then s.modHub (Hub.noMajority 0) else s
    let s := s.reportOnlyVote
    s.modHub (fun h => (((((h.disarm .liveDivergence).disarm .latentDivergence).disarm .duplexMismatch).disarm
      .voteResultMismatch).disarm .comparatorSelftest).endVote))

end Sys2Proof.Machine
end

