-- ==== Sys2Proof/Machine/LaneCtl.lean ====
section
/-! DEFINITION. Lane state changes, state copies, self-tests, the spare engine, SPLIT and JOIN (chapter 05: R114, R131, R134 to R139,
R143, R538, R544). -/
namespace Sys2Proof.Machine

def Hub.atBoundary (h : Hub) : Bool := h.time.running && h.tickInSentence == 0

/-- The main schedule: the one running, else the selected one. -/
def Hub.mainSchedule (h : Hub) : Option Nat := match h.sched.running with | some n => some n | none => h.sched.selMain

/-! ### State copies (R134, R135) -/

/-- The source lane of a copy into lane `t`: the lowest-numbered ACTIVE lane other than the target (R134, R538). -/
def Hub.copySource (h : Hub) (t : LaneId) : Option LaneId := (h.active.filter (fun l => l != t)).head?

/-- A copy, or a self-test that would start one, is under way. -/
def Hub.copyBusy (h : Hub) : Bool := h.vote.copy.isSome || h.vote.selfTests.any (fun t => t.after != 1)

/-- The failure of a copy by R135: the target goes to OUTVOTED at the next tick start, and R129 applies to an ACTIVE one (R537). -/
def Hub.failCopy (h : Hub) : Hub :=
  match h.vote.copy with
  | none => h
  | some c =>
    let h := { h with vote.copy := none, vote.nextLane := h.vote.nextLane.set c.target (some .outvoted) }
    let h := { h with vote.toJoin := clearBit h.vote.toJoin c.target.val }
    if h.laneState c.target = .active ∧ h.power.mode = .voted then
      match allLanes.filter (fun i => h.laneState i == .spareWarm) with
      | i :: _ => { h with vote.nextLane := h.vote.nextLane.set i (some .active) }
      | [] => { h with vote.nextMode := some .duplex }
    else h

/-- The source of the copy has left: the copy restarts once from the next source, and fails the second time (R135). -/
def Hub.copySourceLeft (l : LaneId) (h : Hub) : Hub :=
  match h.vote.copy with
  | none => h
  | some c =>
    if c.source != some l then h
    else match h.copySource c.target with
      | some n => if c.restarted then h.failCopy
                  else { h with vote.copy := some { c with source := some n, restarted := true, phase := min c.phase 1, passes := 0 } }
      | none => h.failCopy

/-- Change a lane's state (Table 5.2), with what follows at once: engines of an OUTVOTED lane idle, a lane without power keeps
nothing, a copy whose source or target it was ends or restarts, and the STATE record (Table 20.1). -/
def State.setLaneState (l : LaneId) (st : LaneState) (cause : Nat) (s : State) : State :=
  if s.hub.laneState l = st then s else
  let s := s.modHub (fun h => { h with
    vote.laneState := h.vote.laneState.set l st, vote.nextLane := h.vote.nextLane.set l none
    vote.toPower := if st = .resync then h.vote.toPower else clearBit h.vote.toPower l.val })
  let s := match st with
    | .outvoted => s.modLane l (fun x => { x with eng := vmap Engine.idle x.eng, xfers := [] })
    | .off | .spareCold => s.modLane l (fun _ => {})
    | _ => s
  s.modHub (fun h =>
    let h := if st = .active then h else h.copySourceLeft l
    let h := match h.vote.copy with
      | some c => if c.target == l && st != LaneState.resync && !(c.kind == CopyKind.inPlace && st == LaneState.active) then { h with vote.copy := none } else h
      | none => h
    h.emit (h.stateRec cause))

/-- A copy into a lane that goes to RESYNC. -/
def State.startCopy (t : LaneId) (kind : CopyKind) (shown phase : Nat) (s : State) : State :=
  let h := s.hub
  let set := fun (k : Nat) (x : SdIn) => { x with preset := vgetN h.meas.activePreset k 0, skew := vgetN h.meas.activeSkew k true }
  (s.modLane t (fun l => { l with sd := vmapIdx set l.sd })).modHub (fun h =>
    { h with vote.copy := some { target := t, kind := kind, source := h.copySource t, shown := shown, phase := phase } })

/-- The CODE and INITIAL_DATA sections of a schedule, loaded into a lane (R134 step 1, R137). -/
def Lane.load (sc : Schedule) (l : Lane) : Lane :=
  let m := sc.code.foldl (fun m c => m.writeN (imemBase c.1) c.2) l.mem
  { l with mem := sc.data.foldl (fun m d => m.writeN d.1 d.2) m, loaded := true }

/-- LANE_LOAD_COMPLETE (R134 step 2, R137, R538): the lane has its sections. A RESYNC lane observes the main schedule and its copy
passes begin; a group B lane waits for its start; a lane powered on without a source waits for the boundary. -/
def execLaneLoadComplete (lane : LaneId) (s : State) : Out :=
  .next (match s.hub.laneState lane with
  | .splitB =>
    match s.hub.schedule s.hub.vote.splitSchedule with
    | some sc => if s.hub.vote.split = .loading then s.modLane lane (Lane.load sc) else s
    | none => s
  | st =>
    match s.hub.vote.copy, s.hub.mainSchedule.bind s.hub.schedule with
    | some c, some sc =>
      if c.target = lane ∧ c.phase = 0 then
        let s := s.modLane lane (fun l => { l.load sc with schedule := some sc.number })
        s.modHub (fun h => { h with vote.copy := some { c with phase := if c.source.isSome then 1 else 2 } })
      else s
    | _, _ => if st = .active then s else s)

/-- The regions of a schedule's LANE state image (R106). -/
def Schedule.laneRegions (sc : Schedule) : List (Nat × Nat) :=
  match sc.images.find? (fun i => i.kind == 1) with
  | some i => i.regions
  | none => []

/-- The areas that every LANE declaration covers hold what it names; the copied bytes replace the target's. -/
def State.copyImage (src dst : LaneId) (s : State) : State :=
  match s.laneSchedule src with
  | none => s
  | some sc =>
    let m := (s.lane src).mem
    s.modLane dst (fun l => { l with mem := sc.laneRegions.foldl (fun d r => m.copyFrom r.1 r.2 d) l.mem })

/-- STATE_COPY_PASS_COMPLETE (R134 step 3): a pass has copied the LANE image; `last` says that no dirty pass follows. -/
def execStateCopyPassComplete (last : Bool) (s : State) : Out :=
  .next (match s.hub.vote.copy with
  | none => s
  | some c =>
    match c.source with
    | none => s
    | some src =>
      if c.phase ≠ 1 then s else
      let s := (s.copyImage src c.target).modLane src (fun l => { l with dirty := [] })
      s.modHub (fun h => { h with vote.copy := some { c with passes := c.passes + 1, phase := if last then 2 else 1 } }))

/-- The registers marked in LIVENESS; all others are zero (R108). -/
def Engine.takeLive (e : LiveEntry) (src dst : Engine) : Engine :=
  { dst with
    regs := vmapIdx (fun i v => if bit e.regs i ∧ i ≠ 0 then v else 0#32) src.regs
    preds := (src.preds &&& BitVec.ofNat 8 e.preds) ||| 1#8
    lc0 := if bit e.loops 0 then src.lc0 else 0#32
    lc1 := if bit e.loops 1 then src.lc1 else 0#32 }

def State.copyRegisters (src dst : LaneId) (s : State) : State :=
  match s.laneSchedule src with
  | none => s
  | some sc =>
    let from_ := (s.lane src).eng
    let none_ : LiveEntry := { engine := 0, preds := 0, loops := 0, regs := 0 }
    s.modLane dst (fun l => { l with eng := vmapIdx (fun i e =>
      let live := (sc.liveness.find? (fun x => x.engine == i)).getD none_
      Engine.takeLive live (vgetN from_ i {}) e) l.eng })

/-- The rest of step 4: writes stayed mirrored until the boundary, so the image is the source's. -/
def State.takeover (src dst : LaneId) (s : State) : State :=
  ((s.copyImage src dst).copyRegisters src dst).modLane dst (fun l =>
    { l with agreed := (s.lane src).agreed, agreedK := (s.lane src).agreedK, az := (s.lane src).az, rt := (s.lane src).rt })

/-- The next lane of a pending JOIN to be copied (R138: one copy at a time). -/
def State.nextJoinCopy (s : State) : State :=
  match allLanes.filter (fun l => bit s.hub.vote.toJoin l.val) with
  | t :: _ => (s.startCopy t .splitJoin 3 0).modHub (fun h => { h with vote.toJoin := clearBit h.vote.toJoin t.val })
  | [] => s

/-- The next lane powered on (Table 19.2) gets its copy, when none is under way. -/
def State.nextPowerCopy (s : State) : State :=
  match s.hub.vote.copy, allLanes.filter (fun l => bit s.hub.vote.toPower l.val) with
  | none, t :: _ =>
    let s := if s.hub.active.isEmpty then s else s.setLaneState t .resync 0x0103
    (s.startCopy t .powerOn 1 0).modHub (fun h => { h with vote.toPower := clearBit h.vote.toPower t.val })
  | _, _ => s

/-- STATE_COPY_TAKEOVER (R134 step 4, Table 5.2, R544): at the boundary after the last pass. -/
def execStateCopyTakeover (s : State) : Out :=
  .next (State.nextPowerCopy (match s.hub.vote.copy with
  | none => s
  | some c =>
    if c.phase ≠ 2 ∨ s.hub.atBoundary = false then s else
    let s := match c.source with
      | some src => s.takeover src c.target
      | none => s.modLane c.target (fun l => { l with eng := vmap (fun (e : Engine) =>
          { e with regs := Vector.replicate 64 0#32, preds := 1#8, lc0 := 0#32, lc1 := 0#32 }) l.eng })
    let done := s.modHub (fun h => { h with vote.copy := none })
    match c.kind with
    | .inPlace => done
    | .warm => done.setLaneState c.target .spareWarm 0
    | .powerOn => done.setLaneState c.target .active 0
    | .join =>
      if s.hub.power.mode = .voted ∨ s.hub.power.mode = .split then done.setLaneState c.target .spareWarm 0
      else
        let d := done.setLaneState c.target .active 0
        if s.hub.power.mode = .duplex then d.modHub (Hub.setMode .voted 0) else d
    | .splitJoin =>
      (done.modHub (fun h => { h with vote.joined := setBit h.vote.joined c.target.val })).nextJoinCopy))

/-- STATE_COPY_FAILED (R135): a bound exceeded, the source lost twice, or a persistent fault of the copy link. -/
def execStateCopyFailed (s : State) : Out :=
  .next ((s.modHub Hub.failCopy).nextJoinCopy.nextPowerCopy)

/-! ### LATENT_LIMIT (R131, R537) -/

/-- The action taken: 0 spare, 1 in place, 2 none, written into the record as the fault clears. -/
def Hub.clearLatentLimit (j : LaneId) (action : Nat) (h : Hub) : Hub :=
  ({ h with vote.latentPending := clearBit h.vote.latentPending j.val }).clearFault .latentLimit [j.val]
    (fun _ => [(1, action), (1, 0), (6, h.sentence)])

/-- LATENT_LIMIT_ACTION (R537) for every lane with a pending action; one that would need a second state copy stays pending
(assumption log 11). -/
def execLatentLimitAction (s : State) : Out :=
  .next (if !s.hub.atBoundary then s else
    allLanes.foldl (fun (s : State) (j : LaneId) =>
      if !bit s.hub.vote.latentPending j.val then s
      else if s.hub.power.mode ≠ .voted ∨ s.hub.laneState j ≠ .active then s.modHub (Hub.clearLatentLimit j 2)
      else if s.hub.copyBusy then s
      else match allLanes.filter (fun i => s.hub.laneState i == .spareWarm) with
        | i :: _ =>
          let s := ((s.setLaneState i .active 0x0212).setLaneState j .resync 0x0212).startCopy j .warm 2 1
          s.modHub (Hub.clearLatentLimit j 0)
        | [] => (s.startCopy j .inPlace 4 1).modHub (Hub.clearLatentLimit j 1)) s)

/-! ### Self-test (Table 5.2) -/

/-- LANE_SELF_TEST_END: the lane moves by its result and its after-pass target (0 WARM, 1 COLD, 2 JOIN). -/
def execLaneSelfTestEnd (lane : LaneId) (passed : Bool) (s : State) : Out :=
  .next (match s.hub.vote.selfTests.find? (fun t => t.lane == lane) with
  | none => s
  | some t =>
    let s := s.modHub (fun h => { h with vote.selfTests := h.vote.selfTests.filter (fun x => x.lane != lane) })
    if !passed then s.setLaneState lane .off 0x0206
    else if t.after = 1 ∨ (s.hub.copySource lane).isNone ∨ s.hub.vote.copy.isSome then s.setLaneState lane .spareCold 0x0206
    else ((s.modLane lane (fun _ => {})).setLaneState lane .resync 0x0206).startCopy lane
      (if t.after = 2 then .join else .warm) 2 0)

/-! ### The spare engine (R136) -/

/-- ENGINE_SUBSTITUTION (R136): at a sentence boundary the map switches to CE8; the spare position takes the engine left. -/
def execEngineSubstitution (lane : LaneId) (eng : EngineId) (s : State) : Out :=
  .next (if s.hub.atBoundary && s.hub.vote.engineCopy.any (fun c => c.1 == lane && c.2.1 == eng.val && decide (c.2.2 < s.hub.sentence)) then
    s.modHub (fun h =>
      let m := h.vote.engineMap[lane]
      let old := vgetN m eng.val 0
      let new := vgetN m 8 8
      let m := (vmodN m eng.val (fun _ => new))
      let m := vmodN m 8 (fun _ => old)
      ({ h with
        vote.engineMap := h.vote.engineMap.set lane m
        vote.engineCopy := h.vote.engineCopy.filter (fun c => !(c.1 == lane && c.2.1 == eng.val)) } : Hub).wearServed 3 lane.val old)
  else s)

/-! ### SPLIT and JOIN (R137 to R139) -/

def groupLanes (mask : Nat) : List LaneId := allLanes.filter (fun l => bit mask l.val)

/-- SPLIT_BOUNDARY (R137, R139). -/
def execSplitBoundary (s : State) : Out :=
  .next (if s.hub.vote.split ≠ .pending ∨ s.hub.atBoundary = false ∨ s.hub.sentence < s.hub.vote.splitTarget then s else
    let v := s.hub.vote
    let named := allLanes.filter (fun l => bit v.groupB l.val || v.splitLanes[l] == .active)
    let same := named.all (fun l => s.hub.laneState l == v.splitLanes[l]) && s.hub.power.mode == v.splitMode
    if !same then s.modHub (fun h => { h with vote.split := .cancelled })
    else
      let s := (groupLanes v.groupB).foldl (fun (s : State) (l : LaneId) =>
        (s.setLaneState l .splitB 0x0204).modLane l (fun x => { x with schedule := none, loaded := false, eng := vmap Engine.idle x.eng, xfers := [] })) s
      s.modHub (fun h => ({ h with vote.split := .loading, sched.runningB := some v.splitSchedule }).setMode .split 0x0204))

/-- GROUP_B_START (R137): at the first boundary after the load of every group B lane. -/
def execGroupBStart (s : State) : Out :=
  .next (let b := allLanes.filter (fun l => s.hub.laneState l == .splitB)
    if s.hub.vote.split = .loading ∧ s.hub.atBoundary = true ∧ b ≠ [] ∧ b.all (fun l => (s.lane l).loaded) = true then
      (b.foldl (fun (s : State) (l : LaneId) => s.modLane l (fun x => { x with schedule := some s.hub.vote.splitSchedule })) s).modHub
        (fun h => { h with vote.split := .running })
    else s)

/-- The first boundary after a JOIN's acceptance (R138): every group B lane goes to RESYNC, and the copies begin. -/
def State.joinMove (s : State) : State :=
  if s.hub.vote.split = .joinPending ∧ s.hub.vote.joinMoved = false ∧ s.hub.atBoundary = true then
    let b := allLanes.filter (fun l => s.hub.laneState l == .splitB)
    let s := b.foldl (fun (s : State) (l : LaneId) => (s.setLaneState l .resync 0x0205).modLane l (fun x => { x with schedule := none })) s
    let s := s.modHub (fun h => { h with
      vote.joinMoved := true, vote.joined := 0, vote.toJoin := laneMask b, vote.groupB := laneMask b, sched.runningB := none })
    s.nextJoinCopy
  else s

/-- JOIN_BOUNDARY (R138, R139). -/
def execJoinBoundary (s : State) : Out :=
  .next (if s.hub.vote.split ≠ .joinPending ∨ s.hub.atBoundary = false ∨ s.hub.sentence < s.hub.vote.splitTarget then s else
    let v := s.hub.vote
    let grpA := allLanes.filter (fun l => v.splitLanes[l] == .active)
    let same := grpA.all (fun l => s.hub.laneState l == .active) && s.hub.power.mode == .split
    let named := allLanes.filter (fun l => v.splitLanes[l] == .splitB)
    let ready := (groupLanes v.joined).filter (fun l => s.hub.laneState l == .resync)
    let done := fun (s : State) => s.modHub (fun h => { h with vote.split := .none, vote.groupB := 0 })
    if !same then s.modHub (fun h => { h with vote.split := .cancelled })
    else if named.isEmpty then (done s).modHub (Hub.setMode .duplex 0x0205)
    else match ready with
      | [] => s.modHub (fun h => { h with vote.split := .cancelled, vote.groupB := 0 })
      | a :: rest =>
        let s := (done s).setLaneState a .active 0x0205
        let s := rest.foldl (fun (s : State) (l : LaneId) => s.setLaneState l .spareWarm 0x0205) s
        s.modHub (Hub.setMode .voted 0x0205))

/-! ### COUNTER_CLEAR (R140) -/

/-- Bit 0: the DI disagreement counters, in every lane. -/
def execDiDisagreeCountClear (s : State) : Out :=
  .next (s.mapLanes (fun _ l => { l with diCount := Vector.replicate 24 0 }))

/-- Bit 1. -/
def execLinkErrorsClear (s : State) : Out := .next (s.modHub (fun h => { h with vote.linkErrors := Vector.replicate 10 0 }))

/-- Bit 2. -/
def execLiveCountClear (s : State) : Out := .next (s.modHub (fun h => { h with vote.liveCount := Vector.replicate 4 0 }))

/-! ### Opcodes (Table 5.16) -/

def modes (l : List Mode) (s : State) : Bool × Status := modeIs (fun m => l.contains m) s

def opLaneBringIn : OpSpec where
  op := .laneBringIn
  level := baseLevel .laneBringIn
  layout := exactly 4
  check := fun s _ p => firstFail [modes [.voted, .duplex, .split] s, (!s.hub.copyBusy, .busy),
    param (match fin? 4 (u8 p 0) with | some l => s.hub.laneState l == .spareCold | none => false),
    param (u8 p 1 == 0 || (u8 p 1 == 1 && s.hub.power.mode == .duplex)), param (allZero (slice p 2 2))]
  act := fun r p s => match fin? 4 (u8 p 0) with
    | none => s
    | some l => (((s.setLaneState l .resync 0x0203).startCopy l (if u8 p 1 = 1 then .join else .warm) 1 0)).modHub
        (Hub.reply r .laneBringIn .pending (beBytes 1 l.val ++ beBytes 1 LaneState.resync.code))

def execLaneBringIn (r : Req) (p : Bytes) (s : State) : Out := .next (opLaneBringIn.run r p s)

/-- The alternative schedule a SPLIT names, or the selection of R112. -/
def Hub.splitSchedule? (h : Hub) (n : Nat) : Option Nat :=
  if n = 0xFF then h.sched.selAlt
  else match h.schedule n with
    | some x => if x.kind = 1 then some n else none
    | none => none

def Hub.groupA (h : Hub) (mask : Nat) : List LaneId := h.active.filter (fun l => !bit mask l.val)

def opSplit : OpSpec where
  op := .split
  level := baseLevel .split
  layout := exactly 8
  check := fun s _ p =>
    let b := groupLanes (u8 p 0)
    firstFail [modes [.voted, .duplex] s, (s.hub.vote.split != .pending && s.hub.vote.split != .joinPending, .busy),
      param (decide (u8 p 0 < 16) && (b.length == 1 || b.length == 2)),
      param (b.all (fun l => s.hub.laneState l == .active || s.hub.laneState l == .spareWarm)),
      param ((s.hub.groupA (u8 p 0)).length == 2), param (s.hub.splitSchedule? (u8 p 1)).isSome,
      param (decide (s.hub.sentence < be48 p 2))]
  act := fun r p s =>
    let n := (s.hub.splitSchedule? (u8 p 1)).getD 0
    s.modHub (fun h => ({ h with vote := { h.vote with
      split := .pending, splitTarget := be48 p 2, groupB := u8 p 0, splitSchedule := n, splitLanes := h.vote.laneState,
      splitMode := h.power.mode } }).reply r .split .ok
        (beBytes 1 (laneMask (h.groupA (u8 p 0))) ++ beBytes 1 n ++ beBytes 6 (be48 p 2)))

def execSplitCmd (r : Req) (p : Bytes) (s : State) : Out := .next (opSplit.run r p s)

/-- The least target sentence of a JOIN (R138). -/
def Hub.joinEarliest (h : Hub) : Nat :=
  let d := max 1 (h.sTicks * h.nCycles)
  h.sentence + 1 + (52000000 + d - 1) / d

def opJoin : OpSpec where
  op := .join
  level := baseLevel .join
  layout := exactly 8
  check := fun s _ p =>
    let b := allLanes.filter (fun l => s.hub.laneState l == .splitB)
    firstFail [modes [.split] s, (s.hub.vote.split != .joinPending, .busy), (b.isEmpty || !s.hub.copyBusy, .busy),
      param (allZero (slice p 6 2)), param (decide (s.hub.joinEarliest ≤ be48 p 0))]
  act := fun r p s => s.modHub (fun h =>
    let b := allLanes.filter (fun l => h.laneState l == .splitB)
    ({ h with vote := { h.vote with
      split := .joinPending, splitTarget := be48 p 0, splitLanes := h.vote.laneState, splitMode := .split, joinMoved := false,
      joined := 0 } }).reply r .join .ok (beBytes 6 (be48 p 0) ++ beBytes 1 (laneMask b)))

def execJoinCmd (r : Req) (p : Bytes) (s : State) : Out := .next (opJoin.run r p s)

def opLaneSelfTest : OpSpec where
  op := .laneSelfTest
  level := baseLevel .laneSelfTest
  layout := exactly 4
  check := fun s _ p => firstFail [modeIs Mode.parser s,
    (!(s.hub.vote.selfTests.any (fun t => t.lane.val == u8 p 0)), .busy), (u8 p 1 == 1 || !s.hub.copyBusy, .busy),
    param (match fin? 4 (u8 p 0) with
      | some l => s.hub.laneState l == .outvoted || s.hub.laneState l == .off | none => false),
    param (decide (u8 p 1 ≤ 1) || (u8 p 1 == 2 && s.hub.power.mode == .duplex)), param (allZero (slice p 2 2))]
  act := fun r p s => match fin? 4 (u8 p 0) with
    | none => s
    | some l => s.modHub (fun h =>
        ({ h with vote.selfTests := h.vote.selfTests ++ [(SelfTest.mk l (u8 p 1))] }).reply r .laneSelfTest .pending [])

def execLaneSelfTest (r : Req) (p : Bytes) (s : State) : Out := .next (opLaneSelfTest.run r p s)

end Sys2Proof.Machine
end

