-- ==== Sys2Proof/Machine/NetFrame.lean ====
section
/-! DEFINITION. The frames of the consist network (chapter 11): Ethernet, PRP trailer, ARP, IPv4, UDP, ICMP, IGMP and TRDP process
data, built and taken apart; and the chapter's configuration records. Where the manual names a published standard (IEC 62439-3,
IEC 61375-2-3, the Internet protocols), the layout is that standard's. -/
namespace Sys2Proof.Machine

/-! ### Checksums -/

/-- Sum of 16-bit big-endian words with end-around carry. -/
def onesSum : Bytes → Nat
  | [] => 0
  | [a] => a.toNat * 256
  | a :: b :: r => a.toNat * 256 + b.toNat + onesSum r

def foldSum (n : Nat) : Nat :=
  let a := n % 65536 + n / 65536
  let b := a % 65536 + a / 65536
  b % 65536 + b / 65536

/-- The Internet checksum. -/
def inetSum (b : Bytes) : Nat := 65535 - foldSum (onesSum b)

/-! ### Ethernet -/

structure Eth where
  dst : Nat
  src : Nat
  vid : Option Nat
  type : Nat
  body : Bytes
deriving DecidableEq, Repr

/-- A frame without FCS; a VLAN tag gives its VID. -/
def parseEth (b : Bytes) : Option Eth :=
  if b.length < 14 then none
  else if be16 b 12 = 0x8100 then
    (if b.length < 18 then none
     else some { dst := be48 b 0, src := be48 b 6, vid := some (be16 b 14 % 4096), type := be16 b 16, body := b.drop 18 })
  else some { dst := be48 b 0, src := be48 b 6, vid := none, type := be16 b 12, body := b.drop 14 }

/-- A frame, filled to 60 bytes; `tag` is the VLAN tag's TCI. -/
def buildEth (dst src : Nat) (tag : Option Nat) (type : Nat) (body : Bytes) : Bytes :=
  let vlan := match tag with | some t => beBytes 2 0x8100 ++ beBytes 2 t | none => []
  let f := beBytes 6 dst ++ beBytes 6 src ++ vlan ++ beBytes 2 type ++ body
  f ++ zeros (60 - f.length)

/-- The PRP trailer of a frame (R276): sequence number, LanId (0 LAN A, 1 LAN B), LSDU size, suffix. -/
def withTrailer (seq lan : Nat) (f : Bytes) : Bytes :=
  let head := if be16 f 12 = 0x8100 then 18 else 14
  f ++ beBytes 2 seq ++ beBytes 2 ((10 + lan) * 4096 + (f.length - head + 6) % 4096) ++ beBytes 2 0x88FB

/-- A valid trailer: the frame without it and its sequence number (R277). -/
def takeTrailer (f : Bytes) : Option (Bytes × Nat) :=
  let n := f.length
  let head := if be16 f 12 = 0x8100 then 18 else 14
  let lan := be16 f (n - 4) / 4096
  if n < head + 6 ∨ be16 f (n - 2) ≠ 0x88FB ∨ (lan ≠ 10 ∧ lan ≠ 11) ∨ be16 f (n - 4) % 4096 ≠ (n - head) % 4096 then none
  else some (f.take (n - 6), be16 f (n - 6))

def broadcastMac : Nat := 2 ^ 48 - 1

/-! ### IPv4, UDP -/

structure Ip where
  src : Nat
  dst : Nat
  proto : Nat
  body : Bytes
deriving DecidableEq, Repr

/-- IPv4 with options, a fragment or a wrong checksum is invalid (Table 11.2). -/
def parseIp (b : Bytes) : Option Ip :=
  let n := be16 b 2
  if b.length < 20 ∨ u8 b 0 ≠ 0x45 ∨ n < 20 ∨ b.length < n ∨ be16 b 6 % 16384 ≠ 0 ∨ inetSum (b.take 20) ≠ 0 then none
  else some { src := be32 b 12, dst := be32 b 16, proto := u8 b 9, body := slice b 20 (n - 20) }

/-- TTL 64, DF set, no options. -/
def buildIp (src dst proto : Nat) (body : Bytes) : Bytes :=
  let h := fun (sum : Nat) => [0x45#8, 0#8] ++ beBytes 2 (20 + body.length) ++ beBytes 2 0 ++ beBytes 2 0x4000 ++ beBytes 1 64 ++
    beBytes 1 proto ++ beBytes 2 sum ++ beBytes 4 src ++ beBytes 4 dst
  h (inetSum (h 0)) ++ body

structure Udp where
  sport : Nat
  dport : Nat
  body : Bytes
deriving DecidableEq, Repr

def pseudo (src dst len : Nat) : Bytes := beBytes 4 src ++ beBytes 4 dst ++ [0#8, 17#8] ++ beBytes 2 len

def parseUdp (ip : Ip) : Option Udp :=
  let b := ip.body
  let n := be16 b 4
  if b.length < 8 ∨ n < 8 ∨ b.length < n then none
  else if be16 b 6 ≠ 0 ∧ foldSum (onesSum (pseudo ip.src ip.dst n ++ b.take n)) ≠ 65535 then none
  else some { sport := be16 b 0, dport := be16 b 2, body := slice b 8 (n - 8) }

def buildUdp (src dst sport dport : Nat) (body : Bytes) : Bytes :=
  let n := 8 + body.length
  let u := fun (sum : Nat) => beBytes 2 sport ++ beBytes 2 dport ++ beBytes 2 n ++ beBytes 2 sum ++ body
  let s := inetSum (pseudo src dst n ++ u 0)
  buildIp src dst 17 (u (if s = 0 then 65535 else s))

/-! ### ARP, ICMP, IGMP -/

def buildArp (op srcMac srcIp dstMac dstIp : Nat) : Bytes :=
  beBytes 2 1 ++ beBytes 2 0x0800 ++ [6#8, 4#8] ++ beBytes 2 op ++ beBytes 6 srcMac ++ beBytes 4 srcIp ++ beBytes 6 dstMac ++
    beBytes 4 dstIp

/-- The echo reply to an ICMP message, if it is an echo request with at most 1,472 bytes of data. -/
def echoReply (b : Bytes) : Option Bytes :=
  if u8 b 0 = 8 ∧ u8 b 1 = 0 ∧ 8 ≤ b.length ∧ b.length ≤ 1480 ∧ inetSum b = 0 then
    let r := fun (sum : Nat) => [0#8, 0#8] ++ beBytes 2 sum ++ b.drop 4
    some (r (inetSum (r 0)))
  else none

/-- A membership report for a group (Table 11.2), with its destination: IGMPv2 to the group, IGMPv3 to 224.0.0.22. -/
def igmpReport (version group : Nat) : Nat × Bytes :=
  if version = 2 then
    let r := fun (sum : Nat) => [0x16#8, 0#8] ++ beBytes 2 sum ++ beBytes 4 group
    (group, r (inetSum (r 0)))
  else
    let r := fun (sum : Nat) => [0x22#8, 0#8] ++ beBytes 2 sum ++ zeros 2 ++ beBytes 2 1 ++ [4#8, 0#8, 0#8, 0#8] ++ beBytes 4 group
    (0xE0000016, r (inetSum (r 0)))

def isMulticast (ip : Nat) : Bool := ip / 2 ^ 28 == 14
def multicastMac (ip : Nat) : Nat := 0x01005E000000 + ip % 2 ^ 23

/-! ### TRDP process data (IEC 61375-2-3) -/

structure Pd where
  seq : Nat
  version : Nat
  type : Nat
  comId : Nat
  etb : Nat
  opTrn : Nat
  replyComId : Nat
  replyIp : Nat
  data : Bytes
  /-- Header FCS, version and lengths are valid. -/
  ok : Bool
deriving DecidableEq, Repr

def pdPd : Nat := 0x5064
def pdPp : Nat := 0x5070
def pdPr : Nat := 0x5072

def leSum (b : Bytes) : Bytes := leBytes 4 (crc32 b)

def buildPd (seq type comId etb opTrn replyComId replyIp : Nat) (data : Bytes) : Bytes :=
  let h := beBytes 4 seq ++ beBytes 2 0x0100 ++ beBytes 2 type ++ beBytes 4 comId ++ beBytes 4 etb ++ beBytes 4 opTrn ++
    beBytes 4 data.length ++ zeros 4 ++ beBytes 4 replyComId ++ beBytes 4 replyIp
  h ++ leSum h ++ data

def parsePd (b : Bytes) : Pd :=
  let n := be32 b 20
  { seq := be32 b 0, version := be16 b 4, type := be16 b 6, comId := be32 b 8, etb := be32 b 12, opTrn := be32 b 16,
    replyComId := be32 b 28, replyIp := be32 b 32, data := slice b 40 n,
    ok := decide (40 + n ≤ b.length) && u8 b 4 == 1 && slice b 36 4 == leSum (b.take 36) &&
      (be16 b 6 == pdPd || be16 b 6 == pdPp || be16 b 6 == pdPr) }

/-! ### Re-addressing (R282) -/

/-- A UDP payload with the topography counters in force, where it is TRDP process data. -/
def retopo (etb opTrn : Nat) (u : Udp) : Bytes :=
  let d := parsePd u.body
  if u.sport = 17224 ∧ u.dport = 17224 ∧ d.ok then buildPd d.seq d.type d.comId etb opTrn d.replyComId d.replyIp d.data else u.body

/-- An IPv4 packet of the module as it leaves after a re-addressing. -/
def readdressIp (old new etb opTrn : Nat) (b : Bytes) : Bytes :=
  match parseIp b with
  | none => b
  | some ip =>
    let src := if ip.src = old then new else ip.src
    match (if ip.proto = 17 then parseUdp ip else none) with
    | some u => buildUdp src ip.dst u.sport u.dport (retopo etb opTrn u)
    | none => buildIp src ip.dst ip.proto ip.body

/-- A frame of the module as it leaves after a re-addressing: IPv4 source and TRDP counters, or the sender of an ARP message. -/
def readdress (old new etb opTrn : Nat) (f : Bytes) : Bytes :=
  match parseEth f with
  | none => f
  | some e =>
    let head := f.take (f.length - e.body.length)
    let put := fun (at_ : Nat) (b : Bytes) => if be32 b at_ = old then b.take at_ ++ beBytes 4 new ++ b.drop (at_ + 4) else b
    if e.type = 0x0800 then
      let g := head ++ readdressIp old new etb opTrn e.body
      g ++ zeros (60 - g.length)
    else if e.type = 0x0806 then (if be32 e.body 14 = old then head ++ put 24 (put 14 e.body) else f)
    else f

/-! ### Records (R303) -/

def unicast (ip : Nat) : Bool := ip != 0 && ip / 2 ^ 28 != 14 && ip != 2 ^ 32 - 1

/-- Ones from bit 31 down. -/
def contiguous (m : Nat) : Bool := (List.range 33).any (fun k => m == 2 ^ 32 - 2 ^ k)

def inRange (lo hi v : Nat) : Bool := decide (lo ≤ v) && decide (v ≤ hi)

def parseNetwork (b : Bytes) : Option NetworkCfg :=
  let c : NetworkCfg :=
    { ip := le32 b 0, mask := le32 b 4, gateway := le32 b 8, e3Ip := le32 b 12, e3Mask := le32 b 16, vid := le16 b 20, pcp := u8 b 22,
      flags := u8 b 23, pathLossMs := le16 b 24, linkDownMs := le16 b 26, supervisionMs := le16 b 28, entryForgetMs := le16 b 30,
      nodeForgetS := le16 b 32, igmp := u8 b 34 }
  if b.length == 40 && unicast c.ip && contiguous c.mask && unicast c.e3Ip && contiguous c.e3Mask && decide (c.vid ≤ 4094) &&
      decide (c.pcp ≤ 7) && decide (c.flags < 8) && inRange 500 60000 c.pathLossMs && inRange 10 10000 c.linkDownMs &&
      inRange 500 10000 c.supervisionMs && inRange 10 1000 c.entryForgetMs && inRange 1 3600 c.nodeForgetS && inRange 2 3 c.igmp &&
      allZero (slice b 35 5) then some c
  else none

def parseQueue (q : Nat) (b : Bytes) : Option QueueCfg :=
  let c : QueueCfg :=
    { direction := u8 b 0, owner := u8 b 1, ringLog2 := u8 b 2, slots := u8 b 4, slotSize := le16 b 6, offset := le32 b 8 }
  if allZero b then some {}
  else if 32 ≤ q ∧ q < 56 then none
  else
    let dir := if q < 16 then c.direction == 1 else if q < 32 then c.direction == 2 else inRange 1 2 c.direction
    let parser := c.owner == 1 && inRange 4 20 c.ringLog2 && c.slots == 0
    let app := c.owner == 2 && c.ringLog2 == 0 && inRange 1 64 c.slots && inRange 64 1536 c.slotSize && c.slotSize % 64 == 0 &&
      c.offset % 64 == 0 && decide (c.offset + c.slots * c.slotSize ≤ 0x40000)
    if u8 b 3 == 0 && u8 b 5 == 0 && allZero (slice b 12 4) && (c.direction == 0 || (dir && (parser || app))) then some c else none

def parseQueues (b : Bytes) : Option (List QueueCfg) :=
  if b.length = 1024 then (List.range 64).mapM (fun q => parseQueue q (slice b (16 * q) 16)) else none

/-- Entries of one size, 1 to `most` of them. -/
def parseEntries {α : Type} (size most : Nat) (f : Bytes → Option α) (b : Bytes) : Option (List α) :=
  let k := b.length / size
  if b.length % size = 0 ∧ 1 ≤ k ∧ k ≤ most then (List.range k).mapM (fun i => f (slice b (size * i) size)) else none

def parseRule (b : Bytes) : Option ClassRule :=
  if u8 b 0 < 64 ∧ u8 b 1 ≤ 1 ∧ u8 b 2 < 64 ∧ u8 b 3 ≤ 1 ∧ u8 b 11 = 0 then
    some { selects := u8 b 0, action := u8 b 1, queue := u8 b 2, deliver := u8 b 3, ethertype := le16 b 4, vid := le16 b 6,
           udpPort := le16 b 8, protocol := u8 b 10, comId := le32 b 12, srcIp := le32 b 16, srcMask := le32 b 20 }
  else none

def vidOk (v : Nat) : Bool := decide (v ≤ 4094) || v == 0xFFFF

def parsePub (b : Bytes) : Option PubCfg :=
  let c : PubCfg :=
    { comId := le32 b 0, dest := le32 b 4, task := u8 b 8, every := u8 b 9, cls := u8 b 10, flags := u8 b 11, offset := le32 b 12,
      length := le16 b 16, vid := le16 b 18, pcp := u8 b 20 }
  if (unicast c.dest || isMulticast c.dest) && decide (c.task < 8) && decide (1 ≤ c.every) && decide (c.cls ≤ 7) && decide (c.flags < 4) &&
      c.offset % 4 == 0 && decide (c.length ≤ 1432) && decide (c.offset + c.length ≤ 0x40000) && vidOk c.vid && decide (c.pcp ≤ 7) &&
      allZero (slice b 21 3) then some c
  else none

def parseSub (b : Bytes) : Option SubCfg :=
  let c : SubCfg :=
    { comId := le32 b 0, src := le32 b 4, dest := le32 b 8, offset := le32 b 12, length := le16 b 16, timeoutMs := le16 b 18,
      zero := u8 b 20 == 1, topo := u8 b 21 == 1, pull := le16 b 22 }
  if c.offset % 4 == 0 && decide (c.length ≤ 1432) && decide (c.offset + c.length ≤ 0x40000) && decide (c.timeoutMs ≤ 60000) &&
      decide (u8 b 20 ≤ 1) && decide (u8 b 21 ≤ 1) && (c.dest == 0 || isMulticast c.dest) then some c
  else none

def parseDest (b : Bytes) : Option DestCfg :=
  if vidOk (le16 b 6) && decide (u8 b 8 ≤ 7) && decide (u8 b 9 ≤ 7) && le16 b 10 == 0 then
    some { ip := le32 b 0, port := le16 b 4, vid := le16 b 6, cls := u8 b 8, pcp := u8 b 9 }
  else none

/-- No two of the areas (offset, length) overlap. -/
def areasApart : List (Nat × Nat) → Bool
  | [] => true
  | (a, n) :: r => r.all (fun e => !(decide (a < e.1 + e.2) && decide (e.1 < a + n))) && areasApart r

/-- The refusals of R303 that concern several records. -/
def Cfg.netOk (c : Cfg) : Bool :=
  let slots := fun (dir : Nat) => (c.net.queues.filter (fun q => q.owner == 2 && q.direction == dir)).map (fun q => (q.offset, q.slots * q.slotSize))
  areasApart (slots 1 ++ c.net.pubs.map (fun p => (p.offset, p.length))) &&
  areasApart (slots 2 ++ c.net.subs.map (fun p => (p.offset, p.length))) &&
  c.net.pubs.all (fun p => (c.tasks.getD p.task {}).period != 0) &&
  c.net.rules.all (fun r => r.action == 0 || (c.net.queues.getD r.queue {}).direction == 2)

end Sys2Proof.Machine
end

