-- ==== Sys2Proof/Machine/Net.lean ====
section
/-! DEFINITION. The consist network (chapter 11): ports, PRP, IPv4 services, gates, the TRDP engine and the queue fabric. -/
namespace Sys2Proof.Machine

/-! ### Ports (R273, R280) -/

/-- The network without a NETWORK record: E3 alone is in use (R303). -/
def NetworkCfg.absent : NetworkCfg where
  ip := 0
  mask := 0
  gateway := 0
  e3Ip := 0
  e3Mask := 0
  vid := 0
  pcp := 0
  flags := 0
  pathLossMs := 5000
  linkDownMs := 100
  supervisionMs := 2000
  entryForgetMs := 400
  nodeForgetS := 60
  igmp := 3

def Hub.netCfg (h : Hub) : NetworkCfg := h.cfg.net.network.getD .absent

def Hub.port (h : Hub) (p : Nat) : EthPort := vgetN h.net.ports p {}

def Hub.modPort (p : Nat) (f : EthPort → EthPort) (h : Hub) : Hub := { h with net.ports := vmodN h.net.ports p f }

/-- The port of LAN A (0) or B (1). -/
def Hub.lanPort (h : Hub) (lan : Nat) : Nat := if h.net.subst = lan + 1 then 2 else lan

/-- The LAN of a port, if it has one. -/
def Hub.portLan (h : Hub) (p : Nat) : Option Nat :=
  if p = h.lanPort 0 then some 0 else if p = h.lanPort 1 then some 1 else none

/-- E2 is a spare by the NETWORK record. -/
def Hub.e2Spare (h : Hub) : Bool := h.cfg.net.network.isSome && bit h.netCfg.flags 1

/-- A port in use: E3 always, the others with a NETWORK record (R303). -/
def Hub.portOn (h : Hub) (p : Nat) : Bool :=
  if p = 3 then true
  else h.cfg.net.network.isSome && !(h.port p).off && (p != 2 || h.e2Spare)

/-- MAC of interface 0 (consist pair) or 1 (E3) (Table 11.1). -/
def Hub.ifMac (h : Hub) (i : Nat) : Nat := h.otp.baseMac + 2 * i
def Hub.ifIp (h : Hub) (i : Nat) : Nat := if i = 0 then h.net.ip else h.net.e3Ip
def Hub.ifMask (h : Hub) (i : Nat) : Nat := if i = 0 then h.net.mask else h.net.e3Mask

/-! ### Trace (Table 20.1) -/

/-- A FRAME record; direction 0 receive, 1 send; flags bit 0 duplicate, bit 1 dropped. -/
def Hub.frameRec (p dir cls flags : Nat) (f : Bytes) (h : Hub) : Hub :=
  if !bit h.trace.filter.portMask p then h else
  let e := parseEth f
  let type := match e with | some e => e.type | none => 0
  let ip := if type = 0x0800 then e.bind (fun e => parseIp e.body) else none
  let udp := ip.bind (fun i => if i.proto = 17 then parseUdp i else none)
  let peer := match ip with | some i => if dir = 0 then i.src else i.dst | none => 0
  let uport := match udp with | some u => u.dport | none => 0
  let com := match udp with | some u => if u.dport = 17224 then be32 u.body 8 else 0 | none => 0
  h.emit { typ := 6, unit := 4, tb0 := h.tb0Now, units := 2, fields :=
    [(1, p), (1, dir), (1, cls), (1, flags), (2, f.length), (2, type), (4, peer), (2, uport), (2, 0), (4, com), (4, 0)] }

/-- A QUEUE record: kind 0 doorbell, 1 completion, 2 drop, 3 error. -/
def Hub.queueRec (q kind v : Nat) (h : Hub) : Hub :=
  if !bit h.trace.filter.queueMask q then h else
  h.emit { typ := 5, unit := 4, tb0 := h.tb0Now, units := 1, fields := [(1, q), (1, kind), (2, 0), (4, v)] }

/-! ### Queues (R293 to R298) -/

def Hub.queue (h : Hub) (q : Nat) : QueueState := vgetN h.net.queues q {}
def Hub.modQueue (q : Nat) (f : QueueState → QueueState) (h : Hub) : Hub := { h with net.queues := vmodN h.net.queues q f }
def Cfg.queueOf (c : Cfg) (q : Nat) : QueueCfg := c.net.queues.getD q {}

/-- A completion of a PARSER queue (R297): at most four unconsumed entries, the newest of which takes further ones. The descriptor loses
OWN and gets its stamp (R294); `rx` is the length and rule of a received frame. -/
def Hub.complete (q status index : Nat) (rx : Option (Nat × Nat)) (h : Hub) : Hub :=
  let mine := h.net.completions.filter (fun c => c.queue == q)
  let last := mine.getLast?
  let new : Completion := { queue := q, status := status, count := 1, index := index, stamp := h.tb0Now }
  let join := fun (c : Completion) =>
    if some c = last then { c with count := c.count + 1, index := index, stamp := h.tb0Now } else c
  let h : Hub := if mine.length < 4 then { h with net.completions := h.net.completions ++ [new] }
    else { h with net.completions := h.net.completions.map join }
  let fill := fun (d : RingDesc) =>
    let flags := putBit (clearBit d.flags 0) 6 (status != 0)
    match rx with
    | some (len, rule) => { d with flags := flags % 256 + 256 * (rule % 256), length := len, stamp := h.tb0Now }
    | none => { d with flags := flags, stamp := h.tb0Now }
  let write := fun (s : QueueState) => { s with
    count := wrapAdd 32 s.count (b2n (status == 0))
    ring := s.ring.map (fun (e : Nat × RingDesc) => if e.1 = index then (e.1, fill e.2) else e) }
  (h.modQueue q write).queueRec q (if status = 0 then 1 else 3) index

/-- The Parser hands a descriptor over (R294): it stands in the ring at the next index, which is answered. -/
def Hub.pushDesc (q log2 : Nat) (d : Desc) (h : Hub) : Hub × Nat :=
  let i := (h.queue q).next
  let e : RingDesc := { buffer := d.buffer, length := d.length, flags := d.flags }
  (h.modQueue q (fun s => { s with next := (i + 1) % 2 ^ log2, ring := insertKey i e s.ring }), i)

/-- A frame left every port: sent, or given up because no port of it has a link. -/
def Hub.frameDone (k : TxKind) (sent : Bool) (h : Hub) : Hub :=
  match k with
  | .other => h
  | .pub i => if sent then { h with net.pubs := modifyAt (fun p => { p with sent := wrapAdd 32 p.sent 1 }) h.net.pubs i } else h
  | .slot q s =>
    let n := if sent then 1 else 0
    (h.modQueue q (fun x => { x with count := wrapAdd 32 x.count n, pending := x.pending.erase s })).queueRec q
      (if sent then 1 else 3) s
  | .desc q i => h.complete q (if sent then 0 else 1) i none

/-- A frame (by id) still waits or is being sent on some port. -/
def Hub.holds (h : Hub) (id : Nat) : Bool :=
  h.net.ports.toList.any (fun p => p.ready.any (fun f => f.id == id) || p.current.any (fun f => f.id == id))

/-- Drop what waits on a port. -/
def Hub.flushPort (p : Nat) (h : Hub) : Hub :=
  let gone := (h.port p).ready
  let h := h.modPort p (fun x => { x with ready := [] })
  gone.foldl (fun (h : Hub) f => if h.holds f.id then h else h.frameDone f.kind false) h

/-- Make a frame ready (R276, R283): on both LAN ports with one sequence number (interface 0), or on E3. A port without link takes no
frame. -/
def Hub.ready (iface cls : Nat) (bytes : Bytes) (k : TxKind) (h : Hub) : Hub :=
  let id := h.net.nextId
  let dst := be48 bytes 0
  let seq := lookupD h.net.prpSeq dst 0
  let f : TxFrame := { id := id, cls := cls, bytes := bytes, seq := if iface = 0 then some seq else none, kind := k }
  let h : Hub := { h with
    net.nextId := id + 1
    net.prpSeq := if iface = 0 then insertKey dst ((seq + 1) % 65536) h.net.prpSeq else h.net.prpSeq }
  let ps := (if iface = 0 then [h.lanPort 0, h.lanPort 1] else [3]).filter (fun p => h.portOn p && (h.port p).up)
  let h := ps.foldl (fun (h : Hub) p => h.modPort p (fun x => { x with ready := x.ready ++ [f] })) h
  if ps.isEmpty then h.frameDone k false else h

/-! ### IPv4 sending and ARP (R281) -/

/-- An ARP request, or a gratuitous one when `ip` is the module's own. -/
def Hub.arpRequest (i ip : Nat) (h : Hub) : Hub :=
  h.ready i 5 (buildEth broadcastMac (h.ifMac i) none 0x0806 (buildArp 1 (h.ifMac i) (h.ifIp i) 0 ip)) .other

def Hub.sendEth (i mac : Nat) (tag : Option Nat) (cls : Nat) (k : TxKind) (packet : Bytes) (h : Hub) : Hub :=
  h.ready i cls (buildEth mac (h.ifMac i) tag 0x0800 packet) k

/-- Remove an entry; what waits for it is dropped. -/
def Hub.arpDrop (e : ArpEntry) (h : Hub) : Hub :=
  e.waiting.foldl (fun (h : Hub) w => h.frameDone w.2.2.1 false) { h with net.arp := h.net.arp.filter (fun x => x != e) }

/-- Room in the cache of 256 entries: the oldest entry gives way. -/
def Hub.arpRoom (h : Hub) : Hub :=
  match h.net.arp with
  | e :: _ => if 256 ≤ h.net.arp.length then h.arpDrop e else h
  | [] => h

def Hub.addArp (e : ArpEntry) (h : Hub) : Hub := { h with net.arp := h.net.arp ++ [e] }

/-- Send an IPv4 packet: multicast and broadcast go at once, others after ARP; E3 has no gateway. -/
def Hub.sendIp (i dst : Nat) (tag : Option Nat) (cls : Nat) (k : TxKind) (packet : Bytes) (h : Hub) : Hub :=
  let mask := h.ifMask i
  let same := dst &&& mask == h.ifIp i &&& mask
  let hop := if same then dst else if i = 0 then h.net.gateway else 0
  if isMulticast dst then h.sendEth i (multicastMac dst) tag cls k packet
  else if dst = 2 ^ 32 - 1 ∨ (same ∧ dst ||| mask = 2 ^ 32 - 1) then h.sendEth i broadcastMac tag cls k packet
  else if hop = 0 then h.frameDone k false
  else match h.net.arp.find? (fun e => e.iface == i && e.ip == hop) with
    | some e =>
      match e.mac with
      | some m => h.sendEth i m tag cls k packet
      | none =>
        let add := fun (x : ArpEntry) => if x = e then { x with waiting := x.waiting ++ [(tag, cls, k, packet)] } else x
        { h with net.arp := h.net.arp.map add }
    | none =>
      let e : ArpEntry := { iface := i, ip := hop, mac := none, at_ := h.time.now, tries := 1, waiting := [(tag, cls, k, packet)] }
      ((h.arpRoom).addArp e).arpRequest i hop

/-- An ARP answer resolves an entry and sends what waits. -/
def Hub.arpAnswer (i ip mac : Nat) (h : Hub) : Hub :=
  match h.net.arp.find? (fun e => e.iface == i && e.ip == ip) with
  | none => h
  | some e =>
    let set := fun (x : ArpEntry) => if x = e then { x with mac := some mac, at_ := h.time.now, waiting := [] } else x
    e.waiting.foldl (fun (h : Hub) w => h.sendEth i mac w.1 w.2.1 w.2.2.1 w.2.2.2) { h with net.arp := h.net.arp.map set }

/-- ARP_RETRY: an unresolved entry is requested again 1 s after each request, three in all, and given up 3 s after the first. -/
def execArpRetry (iface : Fin 2) (ip now : Nat) (s : State) : Out :=
  .next (s.modHub (fun (h : Hub) =>
    let h := h.at_ now
    match h.net.arp.find? (fun e => e.iface == iface.val && e.ip == ip && e.mac.isNone) with
    | none => h
    | some e =>
      if e.at_ + 3000000000 ≤ h.time.now then h.arpDrop e
      else if e.tries < 3 ∧ e.at_ + e.tries * 1000000000 ≤ h.time.now then
        let set := fun (x : ArpEntry) => if x = e then { x with tries := x.tries + 1 } else x
        ({ h with net.arp := h.net.arp.map set } : Hub).arpRequest iface ip
      else h))

/-- ARP_CACHE_AGING: 300 s. -/
def execArpCacheAging (iface : Fin 2) (ip now : Nat) (s : State) : Out :=
  .next (s.modHub (fun (h : Hub) =>
    let h := h.at_ now
    let old := fun (e : ArpEntry) => e.iface == iface.val && e.ip == ip && e.mac.isSome && decide (e.at_ + 300000000000 ≤ h.time.now)
    { h with net.arp := h.net.arp.filter (fun e => !old e) }))

/-- Membership reports for every multicast group of a subscription (Table 11.2). -/
def Hub.igmpReports (h : Hub) : Hub :=
  let groups := (h.cfg.net.subs.filterMap (fun s => if isMulticast s.dest then some s.dest else none)).eraseDups
  groups.foldl (fun (h : Hub) g =>
    let r := igmpReport h.netCfg.igmp g
    h.sendIp 0 r.1 none 5 .other (buildIp h.net.ip r.1 2 r.2)) h

/-! ### Start of the network -/

/-- The state of every port's gate at an entry to SERVICE (R107): that of the last entry that names it. -/
def Hub.gateStart (h : Hub) : Vector Nat 3 :=
  let gs := match h.mainSchedule.bind h.schedule with | some sc => sc.gates | none => []
  let gs := if h.net.subst = 0 then gs else gs.filter (fun g => g.ports != 4)
  vmapIdx (fun p _ =>
    let own := if p = 2 ∧ h.net.subst ≠ 0 then h.net.subst - 1 else p
    match (gs.filter (fun g => bit g.ports own)).getLast? with | some g => g.gates | none => 0xFF) (Vector.replicate 3 0)

/-- Entry to SERVICE: gates and supervision start, and the groups are joined. -/
def Hub.netService (h : Hub) : Hub :=
  let t := h.time.now
  ({ h with net := { h.net with
      startedAt := t, gates := h.gateStart, lanLast := Vector.replicate 2 t, supAt := t
      subs := h.net.subs.map (fun s => { s with lastAt := t }) } } : Hub).igmpReports

/-- A module reset: the configured addresses apply, counters and tables are empty, PUB_ENABLE is as configured (R282, R301). -/
def Hub.netBoot (h : Hub) : Hub :=
  let c := h.netCfg
  { h with net := { ({} : Net) with
      ip := c.ip, mask := c.mask, gateway := c.gateway, e3Ip := c.e3Ip, e3Mask := c.e3Mask
      pubs := h.cfg.net.pubs.map (fun _ => {}), subs := h.cfg.net.subs.map (fun _ => {})
      pubEnable := ofBits (h.cfg.net.pubs.map (fun p => bit p.flags 1)), dram := h.net.dram } }

/-! ### Link state, PORT_LINK_DOWN and PRP_PATH_LOSS (R275, R279) -/

def Hub.pathLoss (lan cause : Nat) (o : Origin) (h : Hub) : Hub :=
  let ms := (h.time.now - vgetN h.net.lanLast lan 0) / 1000000
  h.raise .prpPathLoss [lan] 0 [(1, lan), (1, h.lanPort lan), (1, cause), (1, 0), (4, min ms (2 ^ 32 - 1))] o

def Hub.linkDown (p cause : Nat) (o : Origin) (h : Hub) : Hub :=
  let h := h.raise .portLinkDown [p] 0 [(1, p), (1, cause), (2, 0), (6, (h.port p).lostTick)] o
  if p < 2 then h.wearHit 5 4 p (some 1) else h

/-- One port of the poll. -/
def Hub.pollPort (up : Nat) (h : Hub) (p : Nat) : Hub :=
  if !h.portOn p then h else
  let x := h.port p
  let t := h.time.now
  if bit up p then
    if x.up then h
    else (h.modPort p (fun x => { x with up := true, everUp := true, downAt := none, changed := h.tb0Now })).clearFault .portLinkDown [p] id
  else
    let lost := x.up
    let h := if lost then
        (h.modPort p (fun x => { x with up := false, downAt := some t, lostTick := h.time.tick, changed := h.tb0Now })).flushPort p
      else h
    let h := match h.portLan p with
      | some lan => if !h.power.mode.parser || h.faultActive .prpPathLoss [lan] then h else h.pathLoss lan 0 .real
      | none => h
    let y := h.port p
    if h.faultActive .portLinkDown [p] then h
    else if y.everUp then
      (match y.downAt with
       | some d => if d + h.netCfg.linkDownMs * 1000000 ≤ t then h.linkDown p 0 .real else h
       | none => h)
    else if h.power.mode.parser = true ∧ h.net.startedAt + 5000000000 ≤ t then h.linkDown p 1 .real else h

/-- LINK_STATE_POLL (R275): every 1 ms; `up` is the mask of ports whose PHY reports link. -/
def execLinkStatePoll (up now : Nat) (s : State) : Out :=
  .next (s.modHub (fun (h : Hub) => (List.range 4).foldl (Hub.pollPort up) (h.at_ now)))

/-- PRP_PATH_LOSS (R279): silent for path_loss_ms while frames arrive on the other LAN. -/
def execPrpPathLoss (lan : Fin 2) (now : Nat) (s : State) : Out :=
  .next (s.modHub (fun (h : Hub) =>
    let h := h.at_ now
    let lim := h.netCfg.pathLossMs * 1000000
    let since := fun (l : Nat) => h.time.now - vgetN h.net.lanLast l 0
    if h.cfg.net.network.isSome && decide (lim ≤ since lan) && decide (since (1 - lan.val) < lim) && !h.faultActive .prpPathLoss [lan.val]
      then h.pathLoss lan 1 .real else h))

/-! ### PRP (R276 to R278) -/

/-- PRP_SUPERVISION_SEND: every supervision_ms, class 5, on both LAN ports. -/
def execPrpSupervisionSend (now : Nat) (s : State) : Out :=
  .next (s.modHub (fun (h : Hub) =>
    let h := h.at_ now
    if h.cfg.net.network.isNone || decide (h.time.now < h.net.supAt + h.netCfg.supervisionMs * 1000000) then h else
    let body := beBytes 2 1 ++ beBytes 2 h.net.supSeq ++ [20#8, 6#8] ++ beBytes 6 (h.ifMac 0) ++ [0#8, 0#8]
    ({ h with net.supSeq := (h.net.supSeq + 1) % 65536, net.supAt := h.time.now } : Hub).ready 0 5
      (buildEth 0x01154E000100 (h.ifMac 0) none 0x88FB body) .other))

/-- A node seen: its entry is refreshed, or entered while the table has room. -/
def Hub.seeNode (mac : Nat) (h : Hub) : Hub :=
  if (h.net.nodes.any (fun n => n.1 == mac)) || decide (h.net.nodes.length < 512) then
    { h with net.nodes := insertKey mac h.time.now h.net.nodes } else h

/-- PRP_NODE_FORGET. -/
def execPrpNodeForget (mac now : Nat) (s : State) : Out :=
  .next (s.modHub (fun (h : Hub) =>
    let h := h.at_ now
    let old := fun (n : Nat × Nat) => n.1 == mac && decide (n.2 + h.netCfg.nodeForgetS * 1000000000 ≤ h.time.now)
    { h with net.nodes := h.net.nodes.filter (fun n => !old n) }))

/-! ### TRDP (R286 to R291) -/

/-- R288. -/
def Hub.publishing (h : Hub) : Bool := h.power.mode.isRunning && h.roleCode != 2

/-- The VLAN tag of a telegram or destination. -/
def Hub.tagOf (h : Hub) (vid pcp : Nat) : Option Nat :=
  let v := if vid = 0xFFFF then h.netCfg.vid else vid
  let p := if vid = 0xFFFF then h.netCfg.pcp else pcp
  if v = 0 then none else some (p * 8192 + v)

/-- A publication still waiting on a port gives way to the next one (R287). -/
def Hub.replacePub (i : Nat) (h : Hub) : Hub :=
  let waits := fun (p : EthPort) => p.ready.any (fun f => f.kind == .pub i)
  let n := (h.net.ports.toList.filter waits).length
  let cut := fun (p : EthPort) => { p with ready := p.ready.filter (fun f => f.kind != .pub i) }
  { h with
    net.ports := vmap cut h.net.ports, net.skipped := satAdd 32 h.net.skipped n
    net.pubs := modifyAt (fun p => { p with skipped := wrapAdd 32 p.skipped n }) h.net.pubs i }

/-- PD_PUBLICATION (R287): at the release instant of a publishing cycle, after the release of that tick. -/
def execPdPublication (index now : Nat) (s : State) : Out :=
  .next (s.modHub (fun (h : Hub) =>
    let h := h.at_ now
    match h.cfg.net.pubs[index]?, h.net.pubs[index]? with
    | some c, some st =>
      let p := (h.cfg.tasks.getD c.task {}).period
      let d := h.time.tick - h.power.tA
      if !h.publishing || !bit h.net.pubEnable index || p == 0 || decide (h.time.tick ≤ h.power.tA) || d % p != 0 ||
          (d / p - 1) % c.every != 0 then h
      else
        let h := h.replacePub index
        let seq := (st.seq + 1) % 2 ^ 32
        let h : Hub := { h with net.pubs := modifyAt (fun x => { x with seq := seq }) h.net.pubs index }
        let pd := buildPd seq pdPd c.comId h.net.etb h.net.opTrn 0 0 (h.net.tx.readN c.offset c.length)
        h.sendIp 0 c.dest (h.tagOf c.vid c.pcp) c.cls (.pub index) (buildUdp h.net.ip c.dest 17224 17224 pd)
    | _, _ => h))

/-- PD_PULL_REQUEST (R286): a Pr to the subscription's source every pull_ticks ticks. -/
def execPdPullRequest (index now : Nat) (s : State) : Out :=
  .next (s.modHub (fun (h : Hub) =>
    let h := h.at_ now
    match h.cfg.net.subs[index]?, h.net.subs[index]? with
    | some c, some st =>
      let due := match st.prTick with | some t => decide (t + c.pull ≤ h.time.tick) | none => true
      if c.pull = 0 ∨ h.time.running = false ∨ due = false then h
      else
        let seq := (st.prSeq + 1) % 2 ^ 32
        let set := fun (x : SubState) => { x with prSeq := seq, prTick := some h.time.tick }
        let h : Hub := { h with net.subs := modifyAt set h.net.subs index }
        let pd := buildPd seq pdPr c.comId h.net.etb h.net.opTrn 0 0 []
        h.sendIp 0 c.src (h.tagOf 0xFFFF 0) 7 .other (buildUdp h.net.ip c.src 17224 17224 pd)
    | _, _ => h))

def Hub.pdTimeout (i : Nat) (o : Origin) (h : Hub) : Hub :=
  match h.cfg.net.subs[i]?, h.net.subs[i]? with
  | some c, some st =>
    let h : Hub := if o = .reportOnly then h else { h with
      net.subs := modifyAt (fun x => { x with valid := false }) h.net.subs i
      net.rx := if c.zero then h.net.rx.writeN c.offset (zeros c.length) else h.net.rx }
    h.raise .pdTimeout [i] 0 [(2, i), (4, c.comId), (4, st.source), (2, c.timeoutMs)] o
  | _, _ => h

/-- PD_TIMEOUT (R290): no frame accepted for timeout_ms. -/
def execPdTimeout (index now : Nat) (s : State) : Out :=
  .next (s.modHub (fun (h : Hub) =>
    let h := h.at_ now
    match h.cfg.net.subs[index]?, h.net.subs[index]? with
    | some c, some st =>
      if c.timeoutMs ≠ 0 ∧ st.lastAt + c.timeoutMs * 1000000 ≤ h.time.now ∧ h.time.running = true ∧
          h.faultActive .pdTimeout [index] = false then h.pdTimeout index .real else h
    | _, _ => h))

/-- A Pd or Pp accepted for a subscription. -/
def Hub.acceptPd (d : Pd) (src : Nat) (h : Hub) (i : Nat) : Hub :=
  match h.cfg.net.subs[i]? with
  | none => h
  | some c =>
    let set := fun (x : SubState) => { x with
      seq := d.seq, accepted := wrapAdd 32 x.accepted 1, lastTick := some h.time.tick, lastAt := h.time.now, source := src, valid := true }
    ({ h with net.subs := modifyAt set h.net.subs i, net.rx := h.net.rx.writeN c.offset d.data } : Hub).clearFault .pdTimeout [i] id

/-- A subscription's conditions of R290 beyond the comId. -/
def Hub.pdMatches (h : Hub) (d : Pd) (src : Nat) (c : SubCfg) : Bool :=
  let topo := fun (a b : Nat) => a == 0 || b == 0 || a == b
  (c.src == 0 || c.src == src) && d.data.length == c.length &&
    (!c.topo || (topo d.etb h.net.etb && topo d.opTrn h.net.opTrn))

def Hub.dropNoRule (h : Hub) : Hub := { h with net.dropNoRule := satAdd 32 h.net.dropNoRule 1 }
def Hub.dropInvalid (h : Hub) : Hub := { h with net.dropInvalid := satAdd 32 h.net.dropInvalid 1 }

/-- A Pr (R289). -/
def Hub.takePr (d : Pd) (src : Nat) (h : Hub) : Hub × Bool :=
  match (List.range h.cfg.net.pubs.length).find? (fun i => match h.cfg.net.pubs[i]? with
      | some c => c.comId == d.comId && bit c.flags 0 | none => false) with
  | none => (h.dropNoRule, true)
  | some i => match h.cfg.net.pubs[i]?, h.net.pubs[i]? with
    | some c, some st =>
      if !h.publishing || !bit h.net.pubEnable i then (h, true) else
      let dst := if d.replyIp = 0 then src else d.replyIp
      let h : Hub := { h with net.pubs := modifyAt (fun x => { x with answered := wrapAdd 32 x.answered 1 }) h.net.pubs i }
      let pd := buildPd st.seq pdPp c.comId h.net.etb h.net.opTrn 0 0 (h.net.tx.readN c.offset c.length)
      (h.sendIp 0 dst (h.tagOf c.vid c.pcp) c.cls .other (buildUdp h.net.ip dst 17224 17224 pd), false)
    | _, _ => (h, true)

/-! ### Dispatch (R296) -/

/-- A frame that reaches the rules, taken apart. -/
structure RxFrame where
  bytes : Bytes
  eth : Eth
  ip : Option Ip
  udp : Option Udp
deriving DecidableEq, Repr

def ClassRule.hits (r : ClassRule) (f : RxFrame) : Bool :=
  let on := fun (b : Nat) (ok : Bool) => !bit r.selects b || ok
  on 0 (f.eth.type == r.ethertype) && on 1 (f.eth.vid == some r.vid) &&
    on 2 (match f.ip with | some i => i.proto == r.protocol | none => false) &&
    on 3 (match f.udp with | some u => u.dport == r.udpPort | none => false) &&
    on 4 (match f.udp with | some u => be32 u.body 8 == r.comId | none => false) &&
    on 5 (match f.ip with | some i => i.src &&& r.srcMask == r.srcIp &&& r.srcMask | none => false)

/-- No room in a receive queue, or a frame too long for it (R295). -/
def Hub.queueDrop (q : Nat) (h : Hub) : Hub × Bool :=
  ((({ h with net.dropFull := satAdd 32 h.net.dropFull 1 } : Hub).modQueue q (fun s => { s with drops := satAdd 32 s.drops 1 })).queueRec
    q 2 0, true)

/-- Write a frame into a receive queue (R294, R298). -/
def Hub.enqueueRx (q rule deliver : Nat) (f : RxFrame) (h : Hub) : Hub × Bool :=
  let c := h.cfg.queueOf q
  let st := h.queue q
  if c.owner = 2 then
    let data := if deliver = 1 then f.bytes else match f.udp with | some u => u.body | none => []
    let used := (st.count + 2 ^ 32 - st.bell) % 2 ^ 32
    if c.slots ≤ used ∨ c.slotSize < 16 + data.length then h.queueDrop q
    else
      let src := match f.ip with | some i => i.src | none => 0
      let sport := match f.udp with | some u => u.sport | none => 0
      let head := leBytes 2 data.length ++ zeros 2 ++ leBytes 4 src ++ leBytes 2 sport ++ leBytes 1 rule ++ zeros 1 ++ leBytes 4 h.tb0Now
      let at_ := c.offset + st.count % c.slots * c.slotSize
      ((({ h with net.rx := h.net.rx.writeN at_ (head ++ data) } : Hub).modQueue q
        (fun s => { s with count := wrapAdd 32 s.count 1 })).queueRec q 1 st.count, false)
  else
    match st.posted with
    | [] => h.queueDrop q
    | (i, buf, size) :: rest =>
      if size < f.bytes.length then h.queueDrop q
      else ((({ h with net.dram := h.net.dram.writeN buf f.bytes } : Hub).modQueue q
        (fun s => { s with posted := rest })).complete q 0 i (some (f.bytes.length, rule)), false)

/-- Steps 3 and 4. -/
def Hub.classify (f : RxFrame) (h : Hub) : Hub × Bool :=
  match (List.range h.cfg.net.rules.length).find? (fun i => match h.cfg.net.rules[i]? with | some r => r.hits f | none => false) with
  | none => (h.dropNoRule, true)
  | some i => match h.cfg.net.rules[i]? with
    | some r => if r.action = 0 then (h, true) else h.enqueueRx r.queue i r.deliver f
    | none => (h, true)

/-- The packet is for an address of the interface: its own, a broadcast, or a group joined. -/
def Hub.forMe (h : Hub) (i dst : Nat) : Bool :=
  dst == h.ifIp i || dst == 2 ^ 32 - 1 || dst == (h.ifIp i &&& h.ifMask i) + (2 ^ 32 - 1 - h.ifMask i) || dst == 0xE0000001 || (i == 0 && h.cfg.net.subs.any (fun s => s.dest == dst && isMulticast dst))

/-- A UDP datagram: process data, command packets and PTP are built in; the rest goes to the rules. -/
def Hub.takeUdp (i : Nat) (f : RxFrame) (ip : Ip) (u : Udp) (h : Hub) : Hub × Bool :=
  if u.dport = 17224 ∧ i = 0 then
    let d := parsePd u.body
    if !d.ok then (h.dropInvalid, true)
    else if d.type = pdPr then h.takePr d ip.src
    else
      let mine := (List.range h.cfg.net.subs.length).filter (fun k => match h.cfg.net.subs[k]? with
        | some c => c.comId == d.comId | none => false)
      let ok := mine.filter (fun k => match h.cfg.net.subs[k]? with | some c => h.pdMatches d ip.src c | none => false)
      if mine.isEmpty then h.classify f
      else if ok.isEmpty then (h.dropInvalid, true)
      else (ok.foldl (Hub.acceptPd d ip.src) h, false)
  else if u.dport = 47800 ∧ (i = 1 ∨ bit h.netCfg.flags 0 = true) then (h, false)
  else if u.dport = 319 ∨ u.dport = 320 then (h, false)
  else h.classify f

/-- Steps 2 to 4 for a frame of interface `i` (0 consist, 1 E3), and whether it was dropped. -/
def Hub.dispatch (i : Nat) (b : Bytes) (h : Hub) : Hub × Bool :=
  match parseEth b with
  | none => (h.dropInvalid, true)
  | some e =>
    let multicast := e.dst / 2 ^ 40 % 2 == 1
    if !multicast && e.dst != h.ifMac i then (h, true)
    else if e.type = 0x88FB then (h, false)
    else if e.type = 0x88F7 then (h, false)
    else if e.type = 0x0806 then
      let op := be16 e.body 6
      let sender := be48 e.body 8
      let ip := be32 e.body 14
      if op = 1 ∧ be32 e.body 24 = h.ifIp i then
        (h.ready i 5 (buildEth sender (h.ifMac i) none 0x0806 (buildArp 2 (h.ifMac i) (h.ifIp i) sender ip)) .other, false)
      else if op = 2 then (h.arpAnswer i ip sender, false)
      else (h, false)
    else if e.type = 0x0800 then
      match parseIp e.body with
      | none => (h.dropInvalid, true)
      | some ip =>
        if !h.forMe i ip.dst then (h.dropNoRule, true)
        else match ip.proto with
          | 1 =>
            if i = 0 ∧ bit h.netCfg.flags 2 = false then (h, true)
            else match echoReply ip.body with
              | some r => (h.sendIp i ip.src none 5 .other (buildIp (h.ifIp i) ip.src 1 r), false)
              | none => (h, true)
          | 2 => if u8 ip.body 0 = 0x11 then (h.igmpReports, false) else (h, false)
          | 6 => (h, true)
          | 17 => match parseUdp ip with
            | none => (h.dropInvalid, true)
            | some u => h.takeUdp i { bytes := b, eth := e, ip := some ip, udp := some u } ip u
          | _ => h.classify { bytes := b, eth := e, ip := some ip, udp := none }
    else h.classify { bytes := b, eth := e, ip := none, udp := none }

/-- A valid frame on a LAN (R279). -/
def Hub.lanHeard (lan : Nat) (h : Hub) : Hub :=
  ({ h with net.lanLast := vmodN h.net.lanLast lan (fun _ => h.time.now) } : Hub).clearFault .prpPathLoss [lan] id

/-- The PRP step (R277): the frame without its trailer, and whether it is a duplicate. -/
def Hub.prpRx (b : Bytes) (h : Hub) : Hub × Bytes × Bool :=
  match takeTrailer b with
  | none => (h, b, false)
  | some (f, seq) =>
    let src := be48 f 6
    let t := h.time.now
    let dup := h.net.dups.any (fun d => d.1 == src && d.2.1 == seq && decide (t - d.2.2 ≤ h.netCfg.entryForgetMs * 1000000))
    let h := h.seeNode src
    if dup then ({ h with net.duplicates := satAdd 32 h.net.duplicates 1 }, f, true)
    else ({ h with net.dups := ((src, seq, t) :: h.net.dups.filter (fun d => !(d.1 == src && d.2.1 == seq))).take 4096 }, f, false)

/-- FRAME_RECEIVED (R296): a whole frame without FCS; `fcsOk` says that its FCS held. -/
def execFrameReceived (port : Fin 4) (frame : Bytes) (fcsOk : Bool) (now : Nat) (s : State) : Out :=
  .next (s.modHub (fun (h : Hub) =>
    let h := h.at_ now
    let p := port.val
    if !h.portOn p || !(h.port p).up then h
    else if !fcsOk then h.modPort p (fun x => { x with errors := wrapAdd 32 x.errors 1 })
    else
      let h := (h.modPort p (fun x => { x with received := wrapAdd 32 x.received 1 })).count 0xF005 (byMask 0 p)
      if p = 3 then
        let r := h.dispatch 1 frame
        r.1.frameRec p 0 0 (2 * b2n r.2) frame
      else match h.portLan p with
        | none => h.frameRec p 0 0 2 frame
        | some lan =>
          let r := (h.lanHeard lan).prpRx frame
          let h := if be16 r.2.1 12 = 0x88FB then r.1.seeNode (be48 r.2.1 6) else r.1
          if r.2.2 then h.frameRec p 0 0 3 frame
          else
            let d := h.dispatch 0 r.2.1
            d.1.frameRec p 0 0 (2 * b2n d.2) frame))

/-! ### Gates and transmission (R283 to R285) -/

/-- GATE_ENTRY (R284, R107): an entry of the running schedule's gate table takes effect. E2 in place of a port takes that port's
entries and ignores its own. -/
def execGateEntry (index : Nat) (s : State) : Out :=
  .next (match (s.hub.mainSchedule.bind s.hub.schedule).bind (fun sc => sc.gates[index]?) with
  | none => s
  | some g =>
    if !s.hub.time.running || s.hub.tickInSentence != g.tick then s
    else s.modHub (fun (h : Hub) => { h with net.gates := vmapIdx (fun p v =>
      let own := if p = 2 ∧ h.net.subst ≠ 0 then h.net.subst - 1 else p
      if bit g.ports own then g.gates else v) h.net.gates }))

/-- Time until the next entry that closes a class on a port, in ns; none when no entry does. -/
def Hub.closesIn (h : Hub) (p cls : Nat) : Option Nat :=
  match h.mainSchedule.bind h.schedule with
  | none => none
  | some sc =>
    let own := if p = 2 ∧ h.net.subst ≠ 0 then h.net.subst - 1 else p
    let len := h.sTicks * h.nCycles
    let here := h.tickInSentence * h.nCycles + (h.time.now - h.time.tickAt)
    let ds := (sc.gates.filter (fun g => bit g.ports own && !bit g.gates cls)).map (fun g =>
      let at_ := g.tick * h.nCycles + g.cycle
      if here < at_ then at_ - here else at_ + len - here)
    ds.foldl (fun (m : Option Nat) d => match m with | none => some d | some x => some (min x d)) none

/-- Time on the wire, preamble, FCS and interframe gap included. -/
def TxFrame.wireNs (f : TxFrame) (p : Nat) : Nat :=
  (f.bytes.length + (if f.seq.isSome then 6 else 0) + 24) * (if p = 3 then 80 else 8)

/-- The frame's class has an open gate and the frame ends before it closes. -/
def Hub.mayStart (h : Hub) (p : Nat) (f : TxFrame) : Bool :=
  p == 3 || (bit (vgetN h.net.gates p 0xFF) f.cls && match h.closesIn p f.cls with | some d => decide (f.wireNs p < d) | none => true)

/-- The frame that a port sends next: the first of the highest class that may start. -/
def Hub.nextFrame (h : Hub) (p : Nat) : Option TxFrame :=
  let can := (h.port p).ready.filter (h.mayStart p)
  can.foldl (fun (m : Option TxFrame) f => match m with
    | none => some f
    | some x => if x.cls < f.cls then some f else some x) none

/-- FRAME_TRANSMIT (R283, R284). -/
def execFrameTransmit (port : Fin 4) (now : Nat) (s : State) : Out :=
  .next (s.modHub (fun (h : Hub) =>
    let h := h.at_ now
    let p := port.val
    if !h.portOn p || (h.port p).current.isSome then h
    else match h.nextFrame p with
      | none => h
      | some f =>
        let wire := match f.seq, h.portLan p with | some q, some lan => withTrailer q lan f.bytes | _, _ => f.bytes
        let h := h.modPort p (fun x => { x with current := some f, ready := x.ready.filter (fun y => y.id != f.id) })
        (h.send (.frame p wire)).frameRec p 1 f.cls 0 f.bytes))

/-- FRAME_TRANSMIT_COMPLETE (R297, R298). -/
def execFrameTransmitComplete (port : Fin 4) (now : Nat) (s : State) : Out :=
  .next (s.modHub (fun (h : Hub) =>
    let h := h.at_ now
    let p := port.val
    match (h.port p).current with
    | none => h
    | some f =>
      let h := (h.modPort p (fun x => { x with current := none, sent := wrapAdd 32 x.sent 1 })).count 0xF006 (byMask 0 p)
      if h.holds f.id then h else h.frameDone f.kind true))

/-! ### Boundaries: re-addressing and substitution (R280, R282) -/

def Hub.gratuitousArp (i : Nat) (h : Hub) : Hub := h.arpRequest i (h.ifIp i)

/-- Frames that wait for transmission leave with the configuration in force (R282); those of the Parser are its own. -/
def Hub.readdressReady (ip0 ip1 : Nat) (h : Hub) : Hub :=
  let turn := fun (p : Nat) (f : TxFrame) => match f.kind with
    | .desc _ _ => f
    | _ => { f with bytes := readdress (if p = 3 then ip1 else ip0) (h.ifIp (p / 3)) h.net.etb h.net.opTrn f.bytes }
  { h with net.ports := vmapIdx (fun p x => { x with ready := x.ready.map (turn p) }) h.net.ports }

/-- What waited for an ARP answer is sent again under the configuration in force. -/
def Hub.resend (ip0 ip1 : Nat) (h : Hub) (e : ArpEntry) : Hub :=
  e.waiting.foldl (fun (h : Hub) w =>
    let packet := readdressIp (if e.iface = 0 then ip0 else ip1) (h.ifIp e.iface) h.net.etb h.net.opTrn w.2.2.2
    h.sendIp e.iface (be32 packet 16) w.1 w.2.1 w.2.2.1 packet) h

/-- IP_CONFIG_APPLY (R282): at the tick start of its boundary. -/
def execIpConfigApply (now : Nat) (s : State) : Out :=
  .next (s.modHub (fun (h : Hub) =>
    let h := h.at_ now
    match h.net.ipPending with
    | none => h
    | some c =>
      if !h.atBoundary || decide (h.sentence < c.sentence) then h else
      let cache := h.net.arp
      let ip0 := h.net.ip
      let ip1 := h.net.e3Ip
      let net := { h.net with
        arp := []
        ipPending := none, epoch := wrapAdd 32 h.net.epoch 1, etb := c.etb, opTrn := c.opTrn
        gratuitous := some (c.iface, h.time.now + 1000000000) }
      let net := if c.iface = 0 then { net with ip := c.ip, mask := c.mask, gateway := c.gateway }
        else { net with e3Ip := c.ip, e3Mask := c.mask }
      let h := ((({ h with net := net } : Hub).readdressReady ip0 ip1).gratuitousArp c.iface).igmpReports
      cache.foldl (Hub.resend ip0 ip1) h))

/-- GRATUITOUS_ARP_REPEAT (R282): 1 s after the first. -/
def execGratuitousArpRepeat (now : Nat) (s : State) : Out :=
  .next (s.modHub (fun (h : Hub) =>
    let h := h.at_ now
    match h.net.gratuitous with
    | some (i, t) => if t ≤ h.time.now then ({ h with net.gratuitous := none } : Hub).gratuitousArp i else h
    | none => h))

/-- PORT_SUBSTITUTION (R280): at its boundary. What waits on the replaced port leaves on E2. -/
def execPortSubstitution (now : Nat) (s : State) : Out :=
  .next (s.modHub (fun (h : Hub) =>
    let h := h.at_ now
    match h.net.substPending with
    | none => h
    | some (v, sentence) =>
      if !h.atBoundary || decide (h.sentence < sentence) then h else
      let h : Hub := { h with net.substPending := none }
      let move := fun (a b : Nat) (h : Hub) =>
        let w := (h.port a).ready
        (h.modPort a (fun x => { x with ready := [] })).modPort b (fun x => { x with ready := x.ready ++ w })
      if v = 0 then
        let old := h.net.subst - 1
        if h.net.subst = 0 then h
        else if (h.port old).up then move 2 old { h with net.subst := 0 }
        else h.modPort old (fun x => { x with off := true })
      else
        let p := v - 1
        if h.net.subst = v then h else
        let h := move p 2 h
        let h := h.modPort p (fun x => { x with off := true, up := false, downAt := none, everUp := false, changed := h.tb0Now })
        (({ h with net.subst := v, net.gates := vmodN h.net.gates 2 (fun _ => vgetN h.net.gates p 0xFF) } : Hub).clearFault
          .portLinkDown [p] id).wearServed 5 4 p))

/-! ### Doorbells (R294, R298, R299) -/

def Hub.bellReject (h : Hub) : Hub := { h with net.bellReject := satAdd 32 h.net.bellReject 1 }

/-- A doorbell of an APPLICATION queue, applied at the release. -/
def Hub.appBell (q : Nat) (b : Bytes) (h : Hub) : Hub :=
  let c := h.cfg.queueOf q
  let v := le32 b 0
  if c.direction = 0 ∨ c.owner ≠ 2 then h.bellReject
  else if c.direction = 2 then (h.modQueue q (fun s => { s with bell := v })).queueRec q 0 v
  else
    let slot := u8 b 0
    let len := le16 b 2
    match h.cfg.net.dests[u8 b 1]? with
    | none => h.bellReject
    | some d =>
      if c.slots ≤ slot ∨ (h.queue q).pending.contains slot = true ∨ c.slotSize < len ∨ 1472 < len then h.bellReject
      else
        let h := (h.modQueue q (fun s => { s with bell := v, pending := slot :: s.pending })).queueRec q 0 v
        let data := h.net.tx.readN (c.offset + slot * c.slotSize) len
        h.sendIp 0 d.ip (h.tagOf d.vid d.pcp) d.cls (.slot q slot) (buildUdp h.net.ip d.ip 17225 d.port data)

/-- A lane's doorbell write arrives at the hub (R299): the later write of a lane to one doorbell counts. -/
def Hub.laneBell (l off : Nat) (b : Bytes) (h : Hub) : Hub :=
  { h with net.bells := h.net.bells.filter (fun e => !(e.1 == l && e.2.1 == off)) ++ [(l, off, b)] }

/-- LANE_DOORBELL (R299): a write at an offset of block 24. -/
def execLaneDoorbell (lane : LaneId) (offset : Nat) (data : Bytes) (s : State) : Out :=
  .next (if s.hub.laneState lane = .active then s.modHub (Hub.laneBell lane offset data) else s)

/-- The vote over the doorbells of the tick, from the lanes used, after the hub frame writes of the release; `need` lanes agree.
Queues of other chapters are handled by `other`. -/
def Hub.applyBells (used : List LaneId) (need : Nat) (other : Nat → Bytes → Hub → Hub) (h : Hub) : Hub :=
  let mine := h.net.bells.filter (fun e => used.any (fun l => l.val == e.1))
  let offs := (mine.map (fun e => e.2.1)).eraseDups
  let h : Hub := { h with net.bells := [] }
  offs.foldl (fun (h : Hub) off =>
    let vals := (mine.filter (fun e => e.2.1 == off)).map (fun e => e.2.2)
    match vals.find? (fun v => decide (need ≤ (vals.filter (fun w => w == v)).length)) with
    | none => h.bellReject
    | some v =>
      let q := off / 8
      if off % 8 ≠ 0 ∨ 64 ≤ q then h
      else if 32 ≤ q ∧ q < 56 then other q v h
      else h.appBell q v) h

/-- A descriptor of a NET_QUEUE ring: a transmit descriptor's frame is ready, a receive descriptor's buffer is posted. -/
def Hub.takeDesc (q : Nat) (h : Hub) (d : Desc) : Hub :=
  let c := h.cfg.queueOf q
  let (h, i) := h.pushDesc q c.ringLog2 d
  if !bit d.flags 0 then h
  else if c.direction = 1 then
    if d.frame.length < 60 ∨ 1518 < d.frame.length ∨ 2 ≤ bits d.flags 4 2 then h.complete q 1 i none
    else h.ready (bits d.flags 4 2) (bits d.flags 1 3) d.frame (.desc q i)
  else h.modQueue q (fun s => { s with posted := s.posted ++ [(i, d.buffer, d.length)] })

/-! ### Block 7 (R301) -/

def Hub.netStatus (h : Hub) : Nat :=
  let gates := match h.mainSchedule.bind h.schedule with | some sc => !sc.gates.isEmpty | none => false
  ofBits ((List.range 4).map (fun p => (h.port p).up)) + 16 * h.net.subst +
    64 * ofBits [h.faultActive .prpPathLoss [0], h.faultActive .prpPathLoss [1], h.publishing, gates, h.net.ipPending.isSome,
      h.net.substPending.isSome]

/-- Direction and owner of a queue as QUEUE_STATUS shows them; `dir` gives the queues of other chapters. -/
def Hub.queueShown (h : Hub) (dir : Nat → Nat) (q : Nat) : Nat × Nat :=
  if 32 ≤ q ∧ q < 56 then (dir q, 3)
  else
    let c := h.cfg.queueOf q
    if c.direction = 0 then (0, 0) else (c.direction, c.owner)

def Hub.block7 (h : Hub) (dir : Nat → Nat) : List (Nat × Nat × Nat) :=
  let n := h.net
  [(0x00, 4, h.netStatus), (0x04, 4, n.ip), (0x08, 4, n.epoch), (0x0C, 4, n.etb), (0x10, 4, n.opTrn), (0x14, 4, n.nodes.length),
   (0x18, 4, n.dropNoRule), (0x1C, 4, n.dropInvalid), (0x20, 4, n.dropFull), (0x24, 4, n.bellReject), (0x28, 4, n.duplicates),
   (0x2C, 4, n.skipped), (0x80, 128, n.pubEnable), (0x100, 128, ofBits (n.subs.map (fun s => s.valid))),
   (0x180, 128, ofBits ((List.range n.subs.length).map (fun i => h.faultActive .pdTimeout [i])))] ++
  (List.range 64).flatMap (fun q =>
    let st := h.queue q
    let sh := h.queueShown dir q
    layFields (0x200 + 16 * q) [(4, st.count), (4, st.bell), (4, st.drops), (1, sh.1), (1, sh.2), (2, 0)]) ++
  (mapIdxFrom (fun i (p : PubState) => layFields (0x1000 + 16 * i) [(4, p.seq), (4, p.sent), (4, p.answered), (4, p.skipped)]) 0
    n.pubs).flatten ++
  (mapIdxFrom (fun i (p : SubState) =>
    let age := match p.lastTick with | some t => min (h.time.tick - t) (2 ^ 32 - 1) | none => 0
    layFields (0x5000 + 16 * i) [(4, p.seq), (4, p.accepted), (4, age), (4, p.source)]) 0 n.subs).flatten

/-- A write of PUB_ENABLE (R301): byte `off` of the register. -/
def Hub.writePubEnable (off v : Nat) (h : Hub) : Hub :=
  { h with net.pubEnable := clearBits h.net.pubEnable (255 * 256 ^ off) + v % 256 * 256 ^ off }

/-! ### Opcodes (R305) -/

def Hub.portRole (h : Hub) (p : Nat) : Nat :=
  if p = 3 then 4 else if !h.portOn p then 0
  else match h.portLan p with | some l => l + 1 | none => 3

def opGetPortStatus : OpSpec where
  op := .getPortStatus
  level := baseLevel .getPortStatus
  layout := exactly 0
  check := fun s _ _ => firstFail [modeIs Mode.parser s]
  act := fun r _ s =>
    let h := s.hub
    let one := fun (p : Nat) =>
      let x := h.port p
      beBytes 1 (b2n x.up) ++ beBytes 1 (if x.up then (if p = 3 then 1 else 2) else 0) ++ beBytes 1 (h.portRole p) ++ zeros 1 ++
        beBytes 4 x.received ++ beBytes 4 x.sent ++ beBytes 4 x.errors ++ beBytes 8 x.changed
    s.modHub (Hub.reply r .getPortStatus .ok (beBytes 4 s.snap.netStatus ++ beBytes 4 s.snap.net.ip ++ beBytes 2 s.snap.net.nodes.length ++ zeros 2 ++
      (List.range 4).flatMap one))

def execGetPortStatus (r : Req) (p : Bytes) (s : State) : Out := .next (opGetPortStatus.run r p s)

/-- The first sentence boundary at least 2 ticks after acceptance, as a sentence number. -/
def Hub.nextBoundary (h : Hub) : Nat := (h.time.tick + 2 + h.sTicks - 1) / h.sTicks

/-- An address that SET_IP_CONFIG accepts. -/
def addressOk (ip mask : Nat) : Bool :=
  unicast ip && contiguous mask && ip &&& mask != ip && ip ||| mask != 2 ^ 32 - 1

def opSetIpConfig : OpSpec where
  op := .setIpConfig
  level := baseLevel .setIpConfig
  layout := exactly 24
  check := fun s _ p =>
    let ip := be32 p 4
    let m := be32 p 8
    let gw := be32 p 12
    firstFail [modeIs Mode.parser s, (s.hub.net.ipPending.isNone, .busy), param (decide (u8 p 0 ≤ 1)), param (allZero (slice p 1 3)),
      param (addressOk ip m), param (gw == 0 || u8 p 0 == 0)]
  act := fun r p s => s.modHub (fun (h : Hub) =>
    let c : IpPending := { sentence := h.nextBoundary, iface := u8 p 0, ip := be32 p 4, mask := be32 p 8, gateway := be32 p 12,
                           etb := be32 p 16, opTrn := be32 p 20 }
    ({ h with net.ipPending := some c } : Hub).reply r .setIpConfig .ok
      (beBytes 6 c.sentence ++ zeros 2 ++ beBytes 4 (wrapAdd 32 h.net.epoch 1)))

def execSetIpConfig (r : Req) (p : Bytes) (s : State) : Out := .next (opSetIpConfig.run r p s)

/-- A substitution or its reverse waits for its boundary; a reverse powers the original port's PHY up at once. -/
def Hub.requestSubst (v : Nat) (h : Hub) : Hub :=
  let h : Hub := { h with net.substPending := some (v, h.nextBoundary) }
  if v = 0 ∧ h.net.subst ≠ 0 then h.modPort (h.net.subst - 1) (fun x => { x with off := false }) else h

def opSubstitutePort : OpSpec where
  op := .substitutePort
  level := baseLevel .substitutePort
  layout := exactly 4
  check := fun s _ p =>
    let v := u8 p 0
    let h := s.hub
    firstFail [modeIs Mode.parser s, (h.net.substPending.isNone, .busy), (v == 0xFF || (h.e2Spare && (h.port 2).up), .resourceFault),
      (v == 0xFF || h.net.subst == 0 || h.net.subst == v + 1, .noSpare), param (decide (v ≤ 1) || v == 0xFF),
      param (allZero (slice p 1 3))]
  act := fun r p s => s.modHub (fun (h : Hub) =>
    let v := if u8 p 0 = 0xFF then 0 else u8 p 0 + 1
    (h.requestSubst v).reply r .substitutePort .ok (beBytes 6 h.nextBoundary ++ beBytes 1 v))

def execSubstitutePort (r : Req) (p : Bytes) (s : State) : Out := .next (opSubstitutePort.run r p s)

end Sys2Proof.Machine
end

