-- ==== Sys2Proof/Machine/Can.lean ====
section
/-! DEFINITION. The CAN controllers (chapter 12): entries, transmission, reception, error confinement, listen-only and block 16. -/
namespace Sys2Proof.Machine

def Hub.canCfg (h : Hub) (c : Nat) : CanCfg := h.cfg.can.ctl.getD c {}
def Hub.canCtl (h : Hub) (c : Nat) : CanCtl := vgetN h.can.ctl c {}
def Hub.modCan (c : Nat) (f : CanCtl → CanCtl) (h : Hub) : Hub := { h with can.ctl := vmodN h.can.ctl c f }

/-! ### Entries (R309) -/

/-- Bytes of a frame by its DLC. -/
def canLength (fd : Bool) (dlc : Nat) : Nat :=
  if dlc ≤ 8 then dlc else if fd then [12, 16, 20, 24, 32, 48, 64].getD (dlc - 9) 64 else 8

def CanEntry.ide (e : CanEntry) : Bool := bit e.flags 0
def CanEntry.fdf (e : CanEntry) : Bool := bit e.flags 1
def CanEntry.rtr (e : CanEntry) : Bool := bit e.flags 3

/-- An entry read from its 80 bytes; bytes beyond the length are ignored. -/
def CanEntry.ofBytes (b : Bytes) : CanEntry :=
  let flags := u8 b 4
  { id := le32 b 0, flags := flags, dlc := u8 b 5, index := u8 b 6, data := slice b 16 (canLength (bit flags 1) (u8 b 5)) }

/-- Table 12.2. -/
def CanEntry.bytes (e : CanEntry) (index stamp : Nat) : Bytes :=
  leBytes 4 e.id ++ leBytes 1 e.flags ++ leBytes 1 e.dlc ++ leBytes 1 index ++ [0#8] ++ leBytes 8 stamp ++ fitBytes 64 e.data

/-- Not rejected by R309. A DLC above 15 is no DLC, and FDF needs a controller in FD mode (assumption log 40). -/
def CanEntry.ok (e : CanEntry) (k : CanCfg) : Bool :=
  !(!e.fdf && bit e.flags 2) && !(e.rtr && e.fdf) && decide (e.id < (if e.ide then 2 ^ 29 else 2 ^ 11)) &&
    (if k.txMode = 0 then e.index == 0 else decide (e.index ≤ 2)) && decide (e.dlc ≤ 15) && (k.fd || !e.fdf)

/-- The arbitration field as sent, as a number: dominant bits are 0, so that the lower number wins (R313). -/
def CanEntry.arbitration (e : CanEntry) : Nat :=
  if e.ide then e.id / 2 ^ 18 * 2 ^ 21 + 3 * 2 ^ 19 + e.id % 2 ^ 18 * 2 + b2n e.rtr
  else e.id * 2 ^ 21 + b2n e.rtr * 2 ^ 20

/-! ### Final states of transmit entries (Table 12.3) -/

/-- A CAN trace record with its stamp (R53); direction 0 receive, 1 send (Table 20.1). -/
def Hub.canRec (c dir status stamp : Nat) (e : CanEntry) (h : Hub) : Hub :=
  if !bit h.trace.filter.canMask c then h else
  h.emit { typ := 7, unit := 4, tb0 := stamp, units := 2, fields :=
    [(1, c), (1, dir), (1, status), (1, e.flags), (4, e.id), (1, e.dlc), (3, 0)] ++
      (fitBytes 8 e.data).map (fun (b : Byte) => (1, b.toNat)) ++ [(4, 0)] }

/-- A transmit entry reaches a final status. -/
def Hub.canFinal (c : Nat) (f : CanFrame) (st : Nat) (h : Hub) : Hub :=
  let sent := st == 2 || st == 3
  let h := match f.src with
    | .slot i =>
      let h := h.modCan c (fun x => { x with slotStatus := vmodN x.slotStatus i (fun _ => st) })
      h.modQueue (32 + 2 * c) (fun s => { s with count := wrapAdd 32 s.count (b2n sent) })
    | .desc i => h.complete (32 + 2 * c) (b2n !sent) i none
  let busy := (vgetN (h.canCtl c).bufs f.entry.index none).isSome && st == 8
  let h := if busy then h else h.modCan c (fun x => { x with bufStatus := vmodN x.bufStatus f.entry.index (fun _ => st) })
  h.canRec c 1 st (if sent then (h.canCtl c).lastTxSof else h.tb0Now) f.entry

/-- Every pending frame but that of an attempt in progress ends FLUSHED; the number of them. -/
def Hub.canFlush (c : Nat) (h : Hub) : Hub × Nat :=
  let x := h.canCtl c
  let keepHead := x.attempt.isSome && (h.canCfg c).txMode == 0
  let fifo := if keepHead then x.fifo.drop 1 else x.fifo
  let inBuf := (List.range 3).filterMap (fun i =>
    if x.attempt = some i ∧ (h.canCfg c).txMode ≠ 0 then none else vgetN x.bufs i none)
  let clear := fun (y : CanCtl) => { y with
    fifo := if keepHead then y.fifo.take 1 else []
    bufs := vmapIdx (fun i b => if y.attempt = some i then b else none) y.bufs }
  let gone := fifo ++ inBuf
  (gone.foldl (fun (h : Hub) f => h.canFinal c f 6) (h.modCan c clear), gone.length)

/-- An entry reaches a controller (R312, R313). -/
def Hub.canEnter (c : Nat) (src : CanSrc) (e : CanEntry) (h : Hub) : Hub :=
  let k := h.canCfg c
  let x := h.canCtl c
  let f : CanFrame := { entry := e, src := src }
  let room := if k.txMode = 0 then decide (x.fifo.length < 32) else x.attempt != some e.index
  if !e.ok k || !x.on || x.busOff || x.listen || !room then h.canFinal c f 8
  else
    let h := match src with
      | .slot i => h.modCan c (fun y => { y with slotStatus := vmodN y.slotStatus i (fun _ => 1) })
      | .desc _ => h
    if k.txMode = 0 then h.modCan c (fun y => { y with fifo := y.fifo ++ [f] })
    else
      let h := match vgetN x.bufs e.index none with
        | some old => h.canFinal c old 7
        | none => h
      h.modCan c (fun y => { y with
        bufs := vmodN y.bufs e.index (fun _ => some f), bufStatus := vmodN y.bufStatus e.index (fun _ => 1) })

/-- The voted doorbell of an APPLICATION transmit queue (R311): first slot and count. -/
def Hub.canBell (c : Nat) (v : Bytes) (h : Hub) : Hub :=
  let first := u8 v 0
  let n := u8 v 1
  let x := h.canCtl c
  let slots := (List.range n).map (fun i => (first + i) % 8)
  if (h.canCfg c).txOwner ≠ 2 ∨ 8 ≤ first ∨ n = 0 ∨ 8 < n ∨ le16 v 2 ≠ 0 ∨
      slots.any (fun i => vgetN x.slotStatus i 0 == 1) = true then h.bellReject
  else
    let h := (h.modQueue (32 + 2 * c) (fun s => { s with bell := le32 v 0 })).queueRec (32 + 2 * c) 0 (le32 v 0)
    slots.foldl (fun (h : Hub) i => h.canEnter c (.slot i) (CanEntry.ofBytes (x.tx.readN (0x1000 + 0x400 * c + 80 * i) 80))) h

/-- The voted doorbell of an APPLICATION receive queue: frames consumed. -/
def Hub.canRxBell (c : Nat) (v : Bytes) (h : Hub) : Hub :=
  if (h.canCfg c).rxOwner ≠ 2 then h.bellReject
  else (h.modQueue (33 + 2 * c) (fun s => { s with bell := le32 v 0 })).queueRec (33 + 2 * c) 0 (le32 v 0)

/-- A descriptor of a PARSER queue (R310): a transmit entry, or a receive buffer. -/
def Hub.canDesc (q : Nat) (h : Hub) (d : Desc) : Hub :=
  let c := (q - 32) / 2
  let (h, i) := h.pushDesc q (h.canCfg c).ringLog2 d
  if !bit d.flags 0 then h
  else if q % 2 = 0 then
    let e := CanEntry.ofBytes d.frame
    if d.length = 16 + e.data.length ∧ bits d.flags 4 2 = 0 then h.canEnter c (.desc i) e else h.complete q 1 i none
  else h.modQueue q (fun s => { s with posted := s.posted ++ [(i, d.buffer, d.length)] })

/-! ### Error confinement (R318) -/

/-- Bus off: the controller leaves the bus and everything pending ends FLUSHED. -/
def Hub.canBusOff (c : Nat) (o : Origin) (h : Hub) : Hub :=
  let raise := fun (n : Nat) (h : Hub) =>
    h.raise .busOff [c] 0 [(1, c), (1, min n 255), (2, 0), (4, (h.canCtl c).lastErrorId)] o
  if o = .reportOnly then raise 0 h
  else
    let r := (h.modCan c (fun x => { x with busOff := true, recovering := false, attempt := none, busOffCount := wrapAdd 32 x.busOffCount 1 })).canFlush c
    raise r.2 r.1

/-- ERROR_PASSIVE and BUS_OFF by the counters after a change. -/
def Hub.canConfine (c : Nat) (h : Hub) : Hub :=
  let x := h.canCtl c
  let real := decide (127 < x.tec) || decide (127 < x.rec_)
  let r := h.takeArm .errorPassive (fun a => a.resource == c)
  let h := r.2
  let passive := real || r.1 == some .injected
  let raise := fun (o : Origin) (h : Hub) =>
    h.raise .errorPassive [c] 0 [(1, c), (2, x.tec), (1, min x.rec_ 255), (1, x.lastError)] o
  let h := if !x.passive && passive then raise (if real then .real else .injected) (h.modCan c (fun y => { y with passive := true }))
    else if r.1 = some .reportOnly ∧ real = false then raise .reportOnly h
    else if !passive && !x.busOff then (h.modCan c (fun y => { y with passive := false })).clearFault .errorPassive [c] id
    else h
  let r := h.takeArm .busOff (fun a => a.resource == c)
  if x.busOff then r.2
  else if 255 < x.tec then r.2.canBusOff c .real
  else match r.1 with
    | some o => r.2.canBusOff c o
    | none => r.2

/-- LAST_ERROR bits 7:0. -/
def CanErr.code (e : CanErr) (transmitter : Bool) : Nat :=
  e.type % 8 + 8 * b2n transmitter + 16 * (e.field % 4) + 64 * b2n e.dataPhase

/-- The error statistics and LAST_ERROR. -/
def CanCtl.noteError (e : CanErr) (transmitter : Bool) (x : CanCtl) : CanCtl :=
  let x := { x with lastError := e.code transmitter }
  match e.type with
  | 1 => { x with bitErrors := satAdd 16 x.bitErrors 1 }
  | 2 => { x with stuffErrors := satAdd 16 x.stuffErrors 1 }
  | 3 => { x with formErrors := satAdd 16 x.formErrors 1 }
  | 4 => { x with ackErrors := satAdd 16 x.ackErrors 1 }
  | 5 => { x with crcErrors := satAdd 16 x.crcErrors 1 }
  | _ => x

/-- CAN_RECEIVE_ERROR (R318): listen-only leaves the error counters as they are (R319). -/
def execCanReceiveError (controller : Fin 4) (error : CanErr) (now : Nat) (s : State) : Out :=
  .next (s.modHub (fun (h : Hub) =>
    let h := h.at_ now
    let c := controller.val
    let x := h.canCtl c
    if !x.on || !x.joined || x.busOff then h
    else
      let h := h.modCan c (CanCtl.noteError error false)
      if x.listen then h
      else (h.modCan c (fun y => { y with rec_ := min 255 (y.rec_ + b2n (!error.exempt) + 8 * error.more) })).canConfine c))

/-- CAN_INTEGRATION_END (R308, R319): 11 consecutive recessive bits. -/
def execCanIntegrationEnd (controller : Fin 4) (now : Nat) (s : State) : Out :=
  .next (s.modHub (fun (h : Hub) => (h.at_ now).modCan controller.val (fun x =>
    if x.on && x.integrating && !x.busOff then { x with joined := true, integrating := false } else x)))

/-- CAN_RECOVERY_COMPLETE (R318). -/
def execCanRecoveryComplete (controller : Fin 4) (now : Nat) (s : State) : Out :=
  .next (s.modHub (fun (h : Hub) =>
    let h := h.at_ now
    let c := controller.val
    if !(h.canCtl c).recovering then h
    else
      let h := h.modCan c (fun x => { x with
        recovering := false, busOff := false, passive := false, joined := true, integrating := false, tec := 0, rec_ := 0 })
      (h.clearFault .busOff [c] id).clearFault .errorPassive [c] id))

/-- A recovery request (R318); ignored unless the controller is in bus off and not yet recovering. -/
def Hub.canRecover (c : Nat) (h : Hub) : Hub :=
  h.modCan c (fun x => if x.busOff && x.on then { x with recovering := true } else x)

/-! ### Transmission (R312 to R315) -/

/-- The frame that contends next: 0 for the FIFO's head, else the buffer. -/
def Hub.canChoice (h : Hub) (c : Nat) : Option Nat :=
  let x := h.canCtl c
  let held := (List.range 3).filter (fun i => (vgetN x.bufs i none).isSome)
  match (h.canCfg c).txMode with
  | 0 => if x.fifo.isEmpty then none else some 0
  | 1 =>
    let key : Nat → Nat := fun i => match vgetN x.bufs i none with | some f => f.entry.arbitration | none => 0
    (sortBy (fun (a b : Nat) => decide (key a < key b) || (decide (key a = key b) && decide (a ≤ b))) held).head?
  | _ => held.head?

/-- The frame of the attempt in progress. -/
def Hub.canCurrent (h : Hub) (c : Nat) : Option CanFrame :=
  let x := h.canCtl c
  match x.attempt with
  | none => none
  | some i => if (h.canCfg c).txMode = 0 then x.fifo.head? else vgetN x.bufs i none

/-- CAN_TRANSMIT_ATTEMPT (R313): the bus is free for arbitration. -/
def execCanTransmitAttempt (controller : Fin 4) (now : Nat) (s : State) : Out :=
  .next (s.modHub (fun (h : Hub) =>
    let h := h.at_ now
    let c := controller.val
    let x := h.canCtl c
    if !x.on || !x.joined || x.integrating || x.busOff || x.listen || x.attempt.isSome then h
    else match h.canChoice c with
      | none => h
      | some i =>
        let h := h.modCan c (fun y => { y with attempt := some i })
        match h.canCurrent c with
        | some f => h.send (.can c f.entry.id f.entry.flags f.entry.dlc (if f.entry.rtr then [] else f.entry.data))
        | none => h))

/-- Take the frame of the attempt in progress out of its controller, or put it back changed. -/
def Hub.canPut (c : Nat) (f : Option CanFrame) (h : Hub) : Hub :=
  let fifo := (h.canCfg c).txMode == 0
  h.modCan c (fun x => match x.attempt with
    | none => x
    | some i =>
      if fifo then { x with fifo := (match f with | some g => [g] | none => []) ++ x.fifo.drop 1, attempt := none }
      else { x with bufs := vmodN x.bufs i (fun _ => f), attempt := none })

/-- R321: a bit error seen as transmitter after the arbitration field; three on one identifier within 1 s. -/
def Hub.canCollision (c : Nat) (e : CanEntry) (field : Nat) (h : Hub) : Hub :=
  let r := h.takeArm .idCollisionSuspect (fun a => a.resource == c)
  let h := r.2
  let key := (e.id, e.ide)
  let t := h.time.now
  let fresh := fun (l : List Nat) => l.filter (fun u => decide (t ≤ u + 1000000000))
  let mine := match (h.canCtl c).collisions.find? (fun p => p.1 == key) with | some p => fresh p.2 | none => []
  let real := keepLast 3 (mine ++ [t])
  let times := if r.1 = some .injected then [t, t, t] else real
  let rest := ((h.canCtl c).collisions.filter (fun p => p.1 != key)).map (fun (p : (Nat × Bool) × List Nat) => (p.1, fresh p.2))
  let h := h.modCan c (fun x => { x with collisions := (key, times) :: rest.filter (fun p => !p.2.isEmpty) })
  let raise := fun (o : Origin) => h.raiseEvent (fun _ => true) .idCollisionSuspect [c, e.id, b2n e.ide] 0
    [(1, c), (1, b2n e.ide), (2, 0), (4, e.id), (1, field)] o
  if real.length = 3 then raise .real else match r.1 with | some o => raise o | none => h

/-- The limit comparison of R314 for a frame whose attempts are counted; it ends the frame, or puts it back. -/
def Hub.canRetry (c : Nat) (f : CanFrame) (compare : Bool) (h : Hub) : Hub :=
  let x := h.canCtl c
  if f.abort then (h.canPut c none).canFinal c f 4
  else
    let limit := (h.canCfg c).retryLimit
    let real := compare && decide (limit < f.tries)
    let r := if compare then h.takeArm .retryLimit (fun a => a.resource == c) else (none, h)
    let h := r.2
    let raise := fun (o : Origin) (h : Hub) => h.raiseEvent (fun _ => true) .retryLimit [c, f.entry.id, b2n f.entry.ide] 0
      [(1, c), (1, limit), (1, x.lastError % 8), (1, 0), (4, f.entry.id), (1, b2n f.entry.ide)] o
    if real ∨ r.1 = some .injected then raise (if real then .real else .injected) ((h.canPut c none).canFinal c f 5)
    else
      let h := if r.1.isSome then raise .reportOnly h else h
      if x.listen then (h.canPut c none).canFinal c f 6 else h.canPut c (some f)

/-- The attempt in progress at entry to listen-only has ended: the rest is flushed (R319). -/
def Hub.canFlushIf (c : Nat) (h : Hub) : Hub := if (h.canCtl c).listen then (h.canFlush c).1 else h

/-- CAN_ATTEMPT_END (R314, R318); `tdc` is the transmitter delay measured in an FD frame, in CAN clock cycles. -/
def execCanAttemptEnd (controller : Fin 4) (result : CanEnd) (tdc : Option Nat) (now : Nat) (s : State) : Out :=
  .next (s.modHub (fun (h : Hub) =>
    let h := h.at_ now
    let c := controller.val
    match h.canCurrent c with
    | none => h
    | some f =>
      let k := h.canCfg c
      let h := if f.entry.fdf && decide ((k.data.getD 0 0) ≤ 2) then
        h.modCan c (fun x => { x with tdc := match tdc with | some d => d % 128 | none => x.tdc }) else h
      match result with
      | .sent stamp =>
        let h := h.modCan c (fun x => { x with tec := x.tec - 1, sent := satAdd 32 x.sent 1, lastTxSof := stamp % 2 ^ 64 })
        let h := (h.count 0xF008 (byMask 0 c)).canPut c none
        ((h.canFinal c f (if f.abort then 3 else 2)).canFlushIf c).canConfine c
      | .lost =>
        let h := h.modCan c (fun x => { x with arbLosses := satAdd 16 x.arbLosses 1 })
        (h.canRetry c { f with tries := f.tries + b2n (k.retryLimit == 0) } (k.retryLimit == 0)).canFlushIf c
      | .error e =>
        let note := fun (x : CanCtl) => { (x.noteError e true) with
          tec := x.tec + 8 * (b2n (!e.exempt) + e.more), lastErrorId := f.entry.id + 2 ^ 31 * b2n f.entry.ide }
        let h := h.modCan c note
        let h := if e.type = 1 ∧ e.field ≠ 0 then h.canCollision c f.entry e.field else h
        ((h.canRetry c { f with tries := f.tries + 1 } true).canFlushIf c).canConfine c))

/-- An abort of buffers by mask (R315): only application frames. -/
def Hub.canAbortBufs (c m : Nat) (h : Hub) : Hub :=
  if (h.canCfg c).txOwner ≠ 2 ∨ (h.canCfg c).txMode = 0 then h else
  (bitsSet 3 m).foldl (fun (h : Hub) i =>
    let x := h.canCtl c
    match vgetN x.bufs i none with
    | some f =>
      if x.attempt = some i then h.modCan c (fun y => { y with bufs := vmodN y.bufs i (fun _ => some { f with abort := true }) })
      else (h.modCan c (fun y => { y with bufs := vmodN y.bufs i (fun _ => none) })).canFinal c f 4
    | none => h) h

/-- An abort of every FIFO entry (R315). -/
def Hub.canAbortFifo (c : Nat) (h : Hub) : Hub :=
  if (h.canCfg c).txOwner ≠ 2 ∨ (h.canCfg c).txMode ≠ 0 then h else
  let x := h.canCtl c
  let busy := x.attempt.isSome
  let gone := if busy then x.fifo.drop 1 else x.fifo
  let mark := fun (f : CanFrame) => { f with abort := true }
  let h := h.modCan c (fun y => { y with fifo := if busy then (y.fifo.take 1).map mark else [] })
  gone.foldl (fun (h : Hub) f => h.canFinal c f 4) h

/-- A released write of CAN_CTRL (R315, R318). -/
def Hub.canCtrl (c v : Nat) (h : Hub) : Hub :=
  let h := if bit v 0 then h.canRecover c else h
  let h := h.canAbortBufs c (bits v 1 3)
  if bit v 4 then h.canAbortFifo c else h

/-- RECOVER_REQUEST (R318): the RECOVER bit, released. -/
def execRecoverRequest (controller : Fin 4) (s : State) : Out :=
  .next (if s.hub.power.mode.isRunning then s.modHub (Hub.canRecover controller.val) else s)

/-- ABORT_BUF (R315): the ABORT_BUF bits, released. -/
def execAbortBuf (controller : Fin 4) (mask : Nat) (s : State) : Out :=
  .next (if s.hub.power.mode.isRunning then s.modHub (Hub.canAbortBufs controller.val mask) else s)

/-- ABORT_FIFO (R315): the ABORT_FIFO bit, released. -/
def execAbortFifo (controller : Fin 4) (s : State) : Out :=
  .next (if s.hub.power.mode.isRunning then s.modHub (Hub.canAbortFifo controller.val) else s)

/-! ### Reception (R316, R317) -/

def CanFilter.hits (f : CanFilter) (e : CanEntry) : Bool :=
  e.id &&& f.mask == f.id &&& f.mask && (!bit f.flags 1 || bit f.flags 0 == e.ide) &&
    (if e.rtr then bit f.flags 4 else if e.fdf then bit f.flags 3 else bit f.flags 2)

/-- An accepted frame is written to the receive queue, or dropped for want of room. -/
def Hub.canDeliver (c index stamp : Nat) (e : CanEntry) (h : Hub) : Hub :=
  let q := 33 + 2 * c
  let st := h.queue q
  let full := fun (h : Hub) => ((h.modCan c (fun x => { x with dropFull := satAdd 16 x.dropFull 1 })).queueDrop q).1
  match (h.canCfg c).rxOwner with
  | 2 =>
    if 32 ≤ (st.count + 2 ^ 32 - st.bell) % 2 ^ 32 then full h
    else
      let h := h.modCan c (fun x => { x with rx := x.rx.writeN (0x2000 + 0xC00 * c + st.count % 32 * 80) (e.bytes index stamp) })
      (h.modQueue q (fun s => { s with count := wrapAdd 32 s.count 1 })).queueRec q 1 st.count
  | 1 =>
    match st.posted with
    | [] => full h
    | (i, buf, size) :: rest =>
      let n := 16 + e.data.length
      if size < n then full h
      else (({ h with net.dram := h.net.dram.writeN buf ((e.bytes index stamp).take n) } : Hub).modQueue q
        (fun s => { s with posted := rest })).complete q 0 i (some (n, index))
  | _ => full h

/-- CAN_FRAME_RECEIVED (R316): identifier, flags and data of the frame, its stamp (R322). -/
def execCanFrameReceived (controller : Fin 4) (id flags dlc : Nat) (data : Bytes) (stamp now : Nat) (s : State) : Out :=
  .next (s.modHub (fun (h : Hub) =>
    let h := h.at_ now
    let c := controller.val
    let x := h.canCtl c
    if !x.on || !x.joined || x.busOff then h
    else
      let e : CanEntry := { id := id % 2 ^ 29, flags := flags % 32, dlc := dlc % 16, index := 0,
                            data := if bit flags 3 then [] else data.take (canLength (bit flags 1) (dlc % 16)) }
      let h := if x.listen then h else
        let r := h.draw
        (r.modCan c (fun y => { y with rec_ := if y.rec_ = 0 then 0 else if y.rec_ ≤ 127 then y.rec_ - 1
                                               else 119 + Config.canReceiveCount h.free % 9 })).canConfine c
      let fs := h.cfg.can.filters.filter (fun f => f.controller == c)
      match (List.range fs.length).find? (fun i => match fs[i]? with | some f => f.hits e | none => false) with
      | some i =>
        if (match fs[i]? with | some f => f.accept | none => false) then
          let h := (h.modCan c (fun y => { y with received := satAdd 32 y.received 1 })).count 0xF007 (byMask 0 c)
          (h.canRec c 0 0 (stamp % 2 ^ 64) e).canDeliver c i (stamp % 2 ^ 64) e
        else h.modCan c (fun y => { y with dropFilter := satAdd 16 y.dropFilter 1 })
      | none => h.modCan c (fun y => { y with dropFilter := satAdd 16 y.dropFilter 1 })))

/-! ### Start, listen-only and the tick (R308, R319) -/

/-- Listen-only in force follows the request and the role. -/
def Hub.canListen (h : Hub) : Hub :=
  (List.range 4).foldl (fun (h : Hub) c =>
    let x := h.canCtl c
    let want := x.on && (x.listenReq || h.roleCode == 2)
    if want == x.listen then h
    else if want then
      let h := h.modCan c (fun y => { y with listen := true })
      if x.attempt.isSome then h else (h.canFlush c).1
    else h.modCan c (fun y => { y with listen := false, integrating := true })) h

/-- A module reset, and the modes in which the controllers are off. -/
def Hub.canBoot (h : Hub) : Hub :=
  { h with can.ctl := vmapIdx (fun c _ => { ({} : CanCtl) with listenReq := (h.canCfg c).listenOnly }) h.can.ctl }

/-- Entry to SERVICE from LOAD (R308). -/
def Hub.canService (h : Hub) : Hub :=
  let start := fun (c : Nat) (x : CanCtl) =>
    let on := (h.canCfg c).enabled
    { x with on := on, joined := false, integrating := on, passive := false, busOff := false, recovering := false, fifo := [],
             bufs := Vector.replicate 3 none, attempt := none, tec := 0, rec_ := 0 }
  ({ h with can.ctl := vmapIdx start h.can.ctl } : Hub).canListen

/-- The tick start: CAN_RECOVER and CAN_SET_LISTEN act and answer. -/
def Hub.canTick (h : Hub) : Hub :=
  let due := h.cmd.exec.filter (fun e => (e.op == Opcode.canRecover || e.op == Opcode.canSetListen) && e.key == [12])
  due.foldl (fun (h : Hub) e =>
    let m := u8 e.params 0
    let done := fun (x : Exec) => x == e
    if e.op = .canRecover then
      let off := ofBits ((List.range 4).map (fun c => bit m c && (h.canCtl c).busOff))
      let started := ofBits ((List.range 4).map (fun c => bit off c && !(h.canCtl c).recovering))
      let h := (bitsSet 4 started).foldl (fun (h : Hub) c => h.canRecover c) h
      h.finish done .ok (fun _ => beBytes 1 started ++ beBytes 1 (clearBits m off))
    else
      let on := u8 e.params 1 == 1
      let h := ((bitsSet 4 m).foldl (fun (h : Hub) c => h.modCan c (fun x => { x with listenReq := on })) h).canListen
      h.finish done .ok (fun _ => beBytes 1 (ofBits (h.can.ctl.toList.map CanCtl.listen)))) h

/-! ### Block 16 (R324) -/

def CanCtl.state (x : CanCtl) : Nat :=
  if !x.on || !x.joined then 0 else if x.busOff then 3 else if x.integrating then 0 else if x.passive then 2 else 1

/-- Table 12.7. -/
def CanCtl.stateReg (x : CanCtl) (mode : Nat) : Nat :=
  x.state + 4 * b2n x.listen + 8 * b2n x.listenReq + 16 * b2n x.recovering + 32 * b2n x.integrating + 64 * mode +
    2 ^ 8 * x.fifo.length + 2 ^ 14 * ofBits (x.bufs.toList.map Option.isSome) + 2 ^ 17 * b2n x.attempt.isSome

/-- The registers +0x00 to +0x3F of a controller. -/
def Hub.canRegs (h : Hub) (c : Nat) : List (Nat × Nat) :=
  let x := h.canCtl c
  let k := h.canCfg c
  let slot := fun (i : Nat) => if k.txMode ≠ 0 ∧ i < 3 then vgetN x.bufStatus i 0 else vgetN x.slotStatus i 0
  [(4, x.stateReg k.txMode), (4, x.tec % 512 + 2 ^ 16 * min x.rec_ 255), (4, 0), (4, sumNat ((List.range 8).map (fun i => slot i * 16 ^ i))),
   (4, x.sent), (4, x.received), (4, x.dropFilter + 65536 * x.dropFull), (4, x.bitErrors + 65536 * x.stuffErrors),
   (4, x.formErrors + 65536 * x.crcErrors), (4, x.ackErrors + 65536 * x.arbLosses), (4, x.lastError), (4, x.lastErrorId),
   (4, x.busOffCount), (4, x.tdc), (8, x.lastTxSof)]

/-- The registers of block 16 below 0x1000. -/
def Hub.block16 (h : Hub) : List (Nat × Nat × Nat) :=
  let st := sumNat ((List.range 4).map (fun c => (h.canCtl c).state * 4 ^ c))
  (0, 4, st + 256 * ofBits (h.can.ctl.toList.map CanCtl.listen)) ::
    (List.range 4).flatMap (fun c => layFields (0x100 + 0x100 * c) (h.canRegs c))

/-- A byte of TX_SLOTS or RX_SLOTS. -/
def Hub.canSlotByte (h : Hub) (off : Nat) : Byte :=
  if off < 0x2000 then (h.canCtl ((off - 0x1000) / 0x400)).tx.read off else (h.canCtl ((off - 0x2000) / 0xC00)).rx.read off

/-- A released write of TX_SLOTS. -/
def Hub.canSlotWrite (off : Nat) (b : Byte) (h : Hub) : Hub :=
  if 0x1000 ≤ off ∧ off < 0x2000 ∧ (off - 0x1000) % 0x400 < 640 then
    h.modCan ((off - 0x1000) / 0x400) (fun x => { x with tx := x.tx.write off b }) else h

/-! ### Records (R325) -/

def parseCanCfg (b : Bytes) : Option CanCfg :=
  let k : CanCfg :=
    { enabled := u8 b 0 == 1, fd := u8 b 1 == 1, txMode := u8 b 2, retryLimit := u8 b 3, listenOnly := u8 b 4 == 1, txOwner := u8 b 5,
      rxOwner := u8 b 6, ringLog2 := u8 b 7, nominal := [u8 b 8, u8 b 9, u8 b 10, u8 b 11],
      data := [u8 b 12, u8 b 13, u8 b 14, u8 b 15], tdcOffset := u8 b 16 }
  let nq := 1 + u8 b 9 + u8 b 10
  let dq := 1 + u8 b 13 + u8 b 14
  let parser := k.txOwner == 1 || k.rxOwner == 1
  let nomOk := inRange 1 32 (u8 b 8) && inRange 1 127 (u8 b 9) && inRange 1 32 (u8 b 10) && inRange 1 32 (u8 b 11) &&
    decide (8 ≤ nq) && decide (80 ≤ nq * u8 b 8) && decide (u8 b 11 ≤ u8 b 10)
  let dataOk := if k.fd then
      inRange 1 8 (u8 b 12) && inRange 1 31 (u8 b 13) && inRange 1 16 (u8 b 14) && inRange 1 16 (u8 b 15) && decide (5 ≤ dq) &&
        decide (16 ≤ dq * u8 b 12) && decide (u8 b 15 ≤ u8 b 14) && decide (dq * u8 b 12 ≤ nq * u8 b 8)
    else u8 b 12 == 0
  if decide (u8 b 0 ≤ 1) && decide (u8 b 1 ≤ 1) && decide (u8 b 2 ≤ 2) && decide (u8 b 3 ≤ 15) && decide (u8 b 4 ≤ 1) &&
      decide (u8 b 5 ≤ 2) && decide (u8 b 6 ≤ 2) && (if parser then inRange 4 20 k.ringLog2 else k.ringLog2 == 0) &&
      decide (u8 b 16 ≤ 127) && allZero (slice b 17 15) && (!k.enabled || (nomOk && dataOk)) then some k else none

def parseCans (b : Bytes) : Option (List CanCfg) :=
  if b.length = 128 then (List.range 4).mapM (fun i => parseCanCfg (slice b (32 * i) 32)) else none

def parseCanFilter (b : Bytes) : Option CanFilter :=
  if u8 b 0 ≤ 3 ∧ u8 b 1 ≤ 1 ∧ u8 b 2 < 32 ∧ u8 b 3 = 0 ∧ le32 b 4 < 2 ^ 29 ∧ le32 b 8 < 2 ^ 29 ∧ le32 b 12 = 0 then
    some { controller := u8 b 0, accept := u8 b 1 == 1, flags := u8 b 2, id := le32 b 4, mask := le32 b 8 }
  else none

/-- The refusals of R325 that concern both records. -/
def Cfg.canOk (c : Cfg) : Bool :=
  (List.range 4).all (fun i => decide ((c.can.filters.filter (fun f => f.controller == i)).length ≤ 64)) &&
    c.can.filters.all (fun f => (c.can.ctl.getD f.controller {}).enabled)

/-! ### Opcodes (R327) -/

/-- The running modes of the field buses and SERVICE, SAFE: where their commands are accepted. -/
def Hub.canMaskOk (h : Hub) (m : Nat) : Bool := decide (m < 16) && (bitsSet 4 m).all (fun c => (h.canCfg c).enabled)

def opGetCanStatus : OpSpec where
  op := .getCanStatus
  level := baseLevel .getCanStatus
  layout := exactly 4
  check := fun s _ p => firstFail [modeIs Mode.parser s, param (s.hub.canMaskOk (u8 p 0) && allZero (slice p 1 3))]
  act := fun r p s => s.modHub (Hub.reply r .getCanStatus .ok (beBytes 1 (u8 p 0) ++ zeros 3 ++
    (bitsSet 4 (u8 p 0)).flatMap (fun c => (s.snap.canRegs c).flatMap (fun (f : Nat × Nat) => beBytes f.1 f.2))))

def execGetCanStatus (r : Req) (p : Bytes) (s : State) : Out := .next (opGetCanStatus.run r p s)

def opCanRecover : OpSpec where
  op := .canRecover
  level := baseLevel .canRecover
  layout := exactly 4
  check := fun s _ p => firstFail [modeIs Mode.parser s, param (s.hub.canMaskOk (u8 p 0) && allZero (slice p 1 3))]
  act := fun r p s => s.modHub (Hub.defer r .canRecover p [12])

def execCanRecover (r : Req) (p : Bytes) (s : State) : Out := .next (opCanRecover.run r p s)

def opCanSetListen : OpSpec where
  op := .canSetListen
  level := baseLevel .canSetListen
  layout := exactly 4
  check := fun s _ p => firstFail [modeIs Mode.parser s,
    param (s.hub.canMaskOk (u8 p 0) && decide (u8 p 1 ≤ 1) && allZero (slice p 2 2))]
  act := fun r p s => s.modHub (Hub.defer r .canSetListen p [12])

def execCanSetListen (r : Req) (p : Bytes) (s : State) : Out := .next (opCanSetListen.run r p s)

end Sys2Proof.Machine
end

