-- ==== Sys2Proof/Machine/Locks.lean ====
section
/-! DEFINITION. The hardware locks (R410 to R412, R415). Masters: 0 PARSER, 1 LANES, 2 RACK, 3 PARTNER. -/
namespace Sys2Proof.Machine

/-- LKn as a read returns it (Table 16.8). -/
def Lock.value (k : Lock) (granted : Bool) : Nat :=
  b2n granted + 2 * b2n k.held + 4 * (if k.held then k.owner else 0) + 16 * (if k.held && k.owner == 2 then k.station else 0)

/-- A read of LKn by a master: it acquires a free lock, and answers the lock's value. -/
def Hub.lockRead (n : Fin 32) (owner station : Nat) (h : Hub) : Hub × Nat :=
  let k := h.locks.lock[n]
  if k.held then
    let h : Hub := if k.owner = owner then h else { h with locks.contention := satAdd 32 h.locks.contention 1 }
    (h, k.value false)
  else
    let new : Lock := { held := true, owner := owner, station := if owner = 2 then station else 0 }
    ({ h with locks.lock := h.locks.lock.set n new }, new.value true)

/-- A release of LKn by a master. -/
def Hub.lockRelease (n : Fin 32) (owner : Nat) (h : Hub) : Hub :=
  let k := h.locks.lock[n]
  if k.held && k.owner == owner then { h with locks.lock := h.locks.lock.set n {} }
  else { h with locks.releaseIgnored := satAdd 32 h.locks.releaseIgnored 1 }

/-- LOCK_READ (R410, R411): a read by the Parser (0), by a host station (2) or the partner (3), or the hub's decision over the lanes
whose reads arrived (1, `lanes` their mask): two contributing lanes make the request. -/
def execLockRead (n : Fin 32) (master : Fin 4) (station lanes : Nat) (s : State) : Out :=
  .next (s.modHub (fun (h : Hub) =>
    if master.val = 1 then
      let r := if 2 ≤ (h.active.filter (fun l => bit lanes l.val)).length then h.lockRead n 1 0
        else (h, h.locks.lock[n].value false)
      { r.1 with locks.answers := r.1.locks.answers.set n (some r.2) }
    else (h.lockRead n master.val station).1))

/-- LOCK_RELEASE (R412): a write of RELEASE by a master. -/
def execLockRelease (n : Fin 32) (master : Fin 4) (s : State) : Out := .next (s.modHub (Hub.lockRelease n master.val))

/-- What a lane's read of LKn delivers (R411): the result of this tick, or the state; a group B lane gets the state. -/
def Hub.lockSeen (h : Hub) (n : Fin 32) (groupB : Bool) : Nat :=
  match h.locks.answers[n] with
  | some v => if groupB then h.locks.lock[n].value false else v
  | none => h.locks.lock[n].value false

/-- Block 22 (R415); LKn without a grant. -/
def Hub.block22 (h : Hub) : List (Nat × Nat × Nat) :=
  mapIdxFrom (fun i (k : Lock) => (4 * i, 4, k.value false)) 0 h.locks.lock.toList ++
    [(0x100, 4, ofBits (h.locks.lock.toList.map Lock.held)), (0x104, 4, h.locks.contention), (0x108, 4, h.locks.releaseIgnored)]

end Sys2Proof.Machine
end

