-- ==== Sys2Proof/Machine/Memory.lean ====
section
/-! DEFINITION. Memories, error correction, scrub and substitution (chapter 16): the Reed-Solomon code, reads and writes of DRAM, patrol
scrub, NAND, block 20, the record MEM_WEAR and the opcodes of wear. -/
namespace Sys2Proof.Machine

/-! ### The external memory code (R393) -/

/-- Multiplication by α in GF(2^8) with polynomial 0x11D. -/
def gfDouble (a : BitVec 8) : BitVec 8 := if a.msb then (a <<< 1) ^^^ 0x1D#8 else a <<< 1

def gfMulFrom : Nat → BitVec 8 → BitVec 8 → BitVec 8
  | 0, _, _ => 0#8
  | n + 1, a, b => (if b.getLsbD 0 then a else 0#8) ^^^ gfMulFrom n (gfDouble a) (b >>> 1)

/-- The product in GF(2^8). -/
def gfMul (a b : BitVec 8) : BitVec 8 := gfMulFrom 8 a b

def gfPow (n : Nat) : BitVec 8 := Nat.rec 1#8 (fun _ x => gfDouble x) n

/-- A polynomial times (x − r), coefficients from the highest degree down. -/
def polyTimes (p : Bytes) (r : BitVec 8) : Bytes :=
  List.zipWith (· ^^^ ·) (p ++ [0#8]) (0#8 :: p.map (gfMul r))

/-- g(x): eight roots α^0 to α^7. -/
def rsGenerator : Bytes := (List.range 8).foldl (fun p i => polyTimes p (gfPow i)) [1#8]

/-- One data byte enters the division by g(x). -/
def rsStep (rem : Bytes) (d : Byte) : Bytes :=
  let f := rem.headD 0#8 ^^^ d
  List.zipWith (· ^^^ ·) (rem.drop 1 ++ [0#8]) ((rsGenerator.drop 1).map (gfMul f))

/-- The eight check bytes of 32 data bytes, byte 0 the coefficient of x^7. -/
def rsCheck (data : Bytes) : Bytes := data.foldl rsStep (zeros 8)

/-- The five bursts of a stripe (R394): the data of codewords 0 to 3, then their check bytes. -/
def stripeBursts (data : Bytes) : List Bytes :=
  (List.range 4).map (fun k => slice data (32 * k) 32) ++ [(List.range 4).flatMap (fun k => rsCheck (slice data (32 * k) 32))]

/-- A codeword with at most four wrong bytes is corrected. -/
def DramErr.correctable (e : DramErr) : Bool := decide (e.bytes ≤ 4)

/-! ### Reads and writes (R395 to R399) -/

/-- The codewords that `n` bytes from `addr` touch. -/
def codewords (addr n : Nat) : List Nat :=
  if n = 0 then [] else (List.range ((addr + n - 1) / 32 - addr / 32 + 1)).map (fun i => (addr / 32 + i) * 32)

def Hub.isPoison (h : Hub) (unit cw : Nat) : Bool := h.mem.poison.contains (unit, cw)

/-- An injection of the next codeword read at its address in a unit (Table 16.10). -/
def Hub.takeDramArm (n : FaultName) (unit cw : Nat) (h : Hub) : Option Origin × Hub :=
  h.takeArm n (fun a => a.resource / 32 * 32 == cw && (if unit < 4 then bit a.lanes unit else a.lanes == 0))

/-- The error a codeword shows: what was found, or an injection of one or five data bytes (assumption log 65). -/
def Hub.codewordErr (unit cw : Nat) (errs : List DramErr) (h : Hub) : Option (DramErr × Origin) × Hub :=
  let (ou, h) := h.takeDramArm .dramUncorrectable unit cw
  let (oc, h) := h.takeDramArm .dramCorrected unit cw
  let forced := fun (k : Nat) (o : Origin) => some (({ addr := cw, bytes := k, flips := List.replicate k 255#8 } : DramErr), o)
  match errs.find? (fun e => e.addr == cw && decide (1 ≤ e.bytes)) with
  | some e => (some (e, .real), h)
  | none => match ou, oc with
    | some .injected, _ => (forced 5 .injected, h)
    | _, some .injected => (forced 1 .injected, h)
    | some o, _ => (forced 5 o, h)
    | _, some o => (forced 1 o, h)
    | none, none => (none, h)

/-- XOR the wrong bits of a codeword into bytes read from `addr`. -/
def flipAt (addr : Nat) (e : DramErr) (d : Bytes) : Bytes :=
  mapIdxFrom (fun i b => if addr + i < e.addr ∨ e.addr + 32 ≤ addr + i then b else b ^^^ e.flips.getD (addr + i - e.addr) 0#8) 0 d

/-- A report-only injection only records (R511). -/
def Hub.dramReport (unit addr source : Nat) (unc : Bool) (h : Hub) : Hub :=
  let name := if unc then FaultName.dramUncorrectable else .dramCorrected
  h.raiseEvent (fun _ => true) name [unit, dramPage unit addr] (unitMask unit)
    [(4, addr), (1, unit), (1, source), (1, b2n (!unc))] .reportOnly

/-- One codeword of a read: the reports, and the bytes as delivered (R395, R397). -/
def Hub.readCodeword (unit addr source : Nat) (errs : List DramErr) (x : Hub × Bytes) (cw : Nat) : Hub × Bytes :=
  let (h, d) := x
  if h.isPoison unit cw then
    (h.dramUncorrectable unit cw source true .real, flipAt addr { addr := cw, bytes := 0 } d)
  else
    let (f, h) := h.codewordErr unit cw errs
    match f with
    | none => (h, d)
    | some (e, .reportOnly) => (h.dramReport unit cw source (!e.correctable), d)
    | some (e, o) =>
      if e.correctable then (h.dramCorrected unit cw source e.bytes o, d)
      else (h.dramUncorrectable unit cw source false o, flipAt addr e d)

/-- A read of DRAM (R395, R397): `d` are the bytes stored, with poison already delivered as zeros; `source` 0 read, 1 scrub, 2
read-modify-write. -/
def Hub.dramRead (unit addr source : Nat) (errs : List DramErr) (d : Bytes) (h : Hub) : Hub × Bytes :=
  (codewords addr d.length).foldl (Hub.readCodeword unit addr source errs) (h, d)

/-- Every codeword of the 128-byte stripes that `n` bytes from `addr` touch. -/
def stripeCodewords (addr n : Nat) : List Nat :=
  if n = 0 then [] else codewords (addr / 128 * 128) ((addr + n + 127) / 128 * 128 - addr / 128 * 128)

/-- Who issued a write that fails after its issuer has finished (R398): engine byte, CLAUSE_ID, transfer. -/
structure Issuer where
  engine : Nat
  clause : Nat
  transfer : Nat
deriving DecidableEq, Repr

/-- POSTED_WRITE_FAILED (R398): the codewords poisoned, the first of them first. -/
def Hub.postedFailed (unit : Nat) (i : Issuer) (cws : List Nat) (o : Origin) (h : Hub) : Hub :=
  let first := cws.headD 0
  let last := cws.getLast?.getD first
  let e := if 8 < i.engine then 0xF else i.engine
  let h := if o = .reportOnly then h else { h with mem := { h.mem with
    poison := cws.map (fun c => (unit, c)) ++ h.mem.poison.filter (fun p => !(p.1 == unit && cws.contains p.2))
    postedFails := satAdd 32 h.mem.postedFails 1, lastPostedAddr := last
    lastPostedInfo := unit + 256 * e + 65536 * (i.clause % 65536) } }
  h.raiseEvent (fun _ => true) .postedWriteFailed [unit, dramPage unit first] (unitMask unit)
    [(4, first), (1, i.engine), (1, 0), (2, i.clause), (2, i.transfer), (1, cws.length)] o

/-- A write of DRAM (R396 to R399), after its bytes stand in memory: codewords covered whole lose their poison, those covered in part
and uncorrectable become poison, corrected ones of a stripe read for it are reported, and write-backs of its stripes are discarded. -/
def Hub.dramWrite (unit addr n : Nat) (i : Issuer) (errs : List DramErr) (h : Hub) : Hub :=
  let all := stripeCodewords addr n
  let whole := fun (cw : Nat) => decide (addr ≤ cw ∧ cw + 32 ≤ addr + n)
  let touched := fun (cw : Nat) => decide (cw < addr + n ∧ addr < cw + 32)
  let rmw := fun (cw : Nat) => !(decide (addr ≤ cw / 128 * 128 ∧ cw / 128 * 128 + 128 ≤ addr + n))
  let found := fun (cw : Nat) => errs.find? (fun e => e.addr == cw && decide (1 ≤ e.bytes))
  let lost := fun (h : Hub) (cw : Nat) => h.isPoison unit cw || (match found cw with | some e => !e.correctable | none => false)
  let part := all.filter (fun cw => touched cw && !whole cw)
  let bad := part.filter (lost h)
  let (arm, h) := if part.isEmpty then (none, h) else
    h.takeArm .postedWriteFailed (fun a => if unit < 4 then bit a.lanes unit else a.lanes == 0)
  let h := (all.filter rmw).foldl (fun (h : Hub) cw =>
    match found cw with
    | some e => if whole cw then h else if e.correctable then h.dramCorrected unit cw 2 e.bytes .real
                else if touched cw then h else h.dramUncorrectable unit cw 2 false .real
    | none => h) h
  let h : Hub := { h with
    mem.poison := h.mem.poison.filter (fun p => !(p.1 == unit && whole p.2))
    mem.writeBack := h.mem.writeBack.filter (fun p => !(p.1 == unit && all.contains p.2)) }
  if !bad.isEmpty then h.postedFailed unit i bad .real
  else match arm with
    | some .injected => h.postedFailed unit i (part.take 1) .injected
    | some o => h.postedFailed unit i (part.take 1) o
    | none => h

/-- DRAM_WRITE_BACK (R395): the corrected stripe is written back; its codewords count afresh. -/
def execDramWriteBack (unit : Fin 5) (stripe : Nat) (s : State) : Out :=
  .next (s.modHub (fun (h : Hub) =>
    { h with mem.writeBack := h.mem.writeBack.filter (fun p => !(p.1 == unit.val && p.2 / 128 == stripe / 128)) }))

/-! ### Patrol scrub (R402, R403) -/

/-- Stripes of one pass: every exposed and spare stripe (Table 16.1). -/
def scrubStripes (unit : Nat) : Nat := if unit < 4 then 13421760 else (196608 + 4915) * 32

/-- Whether a unit's memories are scrubbed now: a lane with power while the tick runs, the hub outside OFF and DORMANT. -/
def Hub.scrubs (h : Hub) (unit : Nat) : Bool :=
  match fin? 4 unit with
  | some l => h.time.running && (h.laneState l).powered
  | none => h.power.mode != .off && h.power.mode != .dormant

/-- One more step of a pass of `total` steps. -/
def scrubStep (total : Nat) (p : Nat × Nat) : Nat × Nat :=
  if total ≤ p.1 + 1 then (0, satAdd 16 p.2 1) else (p.1 + 1, p.2)

/-- PATROL_SCRUB (R402): one stripe is read, and written back at once where a byte was corrected. -/
def execPatrolScrub (unit : Fin 5) (stripe : Nat) (errs : List DramErr) (s : State) : Out :=
  .next (s.modHub (fun (h : Hub) =>
    if !h.scrubs unit then h else
    let a := stripe / 128 * 128
    let kept := h.mem.writeBack.filter (fun p => !(p.1 == unit.val && p.2 / 128 == stripe / 128))
    let h := (h.dramRead unit a 1 errs (zeros 128)).1
    { h with
      mem.writeBack := kept
      mem.dramScrub := vmodN h.mem.dramScrub unit (scrubStep (scrubStripes unit)) }))

/-- SRAM_SCRUB (R403): each macro of a unit scrubs its next 64 rows; `found` are words in error (macro, row, word). Words waiting for
their rewrite are rewritten (R400). -/
def execSramScrub (unit : Fin 5) (found : List (Nat × Nat × Nat × Ecc)) (s : State) : Out :=
  .next (s.modHub (fun (h : Hub) =>
    if !h.scrubs unit then h else
    let h : Hub := { h with mem.sramRewrite := h.mem.sramRewrite.filter (fun w => w.1 != unit.val) }
    let h := found.foldl (fun (h : Hub) f => (h.sramRead unit f.1 f.2.1 f.2.2.1 3 f.2.2.2).2) h
    { h with
      mem.sramRewrite := h.mem.sramRewrite.filter (fun w => w.1 != unit.val)
      mem.sramScrub := vmodN h.mem.sramScrub unit (scrubStep (if unit.val < 4 then 256 else 64)) }))

/-! ### NAND (R405) -/

/-- NAND_PROGRAM (R405): a page is programmed to device 0, then to device 1; `cut` says that the power failed between the two,
`failed` names devices whose block failed and was retired. A retired device is not written. -/
def execNandProgram (cut : Bool) (failed : Nat) (s : State) : Out :=
  .next (s.modHub (fun (h : Hub) =>
    let seq := maxNat h.mem.nandSeq.toList + 1
    [0, 1].foldl (fun (h : Hub) d =>
      if bit h.mem.nandRetired d || (cut && d == 1) then h
      else
        let h : Hub := { h with mem.nandSeq := vmodN h.mem.nandSeq d (fun _ => seq) }
        if bit failed d then
          ({ h with mem.nandBlocks := vmodN h.mem.nandBlocks d (satAdd 16 · 1) } : Hub).wearHit 9 4 d (some 1)
        else h) h))

/-! ### Substitution (R408, R409) -/

/-- The order of R408. -/
def wearOrder (a b : WearEntry) : Bool :=
  decide (a.reachedAt < b.reachedAt ∨ (a.reachedAt = b.reachedAt ∧
    (a.cls < b.cls ∨ (a.cls = b.cls ∧ (a.unit < b.unit ∨ (a.unit = b.unit ∧ a.index ≤ b.index))))))

/-- The pool an entry takes its spare from. -/
def WearEntry.pool (e : WearEntry) : Nat × Nat × Nat :=
  match e.cls with
  | 1 | 3 => (e.cls, e.unit, 0)
  | 2 => (2, e.unit, e.index / 65536)
  | 6 => (6, 0, e.index)
  | c => (c, 0, 0)

/-- The number of the spare that takes a page's, row's or queue's place: spares follow the exposed pages and rows (assumption log 66). -/
def Hub.spareNumber (h : Hub) (e : WearEntry) : Nat :=
  match e.cls with
  | 1 => if e.unit < 4 then 393216 + (26214 - vgetN h.mem.sparePages e.unit 0) else 196608 + (4915 - vgetN h.mem.sparePages 4 0)
  | 2 => e.index / 65536 * 65536 + 32768 + h.mem.rowsUsed e.unit (e.index / 65536)
  | _ => ((List.range 8).map (56 + ·)).find? (fun q => (h.cfg.queueOf q).direction == 0 &&
      !h.mem.remapped.any (fun m => m.1.1 == 7 && m.2 == q)) |>.getD 56

/-- The LANE substitution (Table 16.3): the spare action of R131, one with a LATENT_LIMIT of the same lane (Table 16.4). -/
def State.substituteLane (j : LaneId) (s : State) : Option State :=
  if s.hub.power.mode ≠ .voted ∨ s.hub.laneState j ≠ .active ∨ s.hub.copyBusy = true then none
  else match allLanes.filter (fun i => s.hub.laneState i == .spareWarm) with
    | i :: _ =>
      let s := ((s.setLaneState i .active 0x0815).setLaneState j .resync 0x0815).startCopy j .warm 2 1
      some (if bit s.hub.vote.latentPending j.val then s.modHub (Hub.clearLatentLimit j 0) else s)
    | [] => none

/-- One pending request at its boundary: what it does when it can be served now. -/
def State.substitute (e : WearEntry) (s : State) : State :=
  let done := fun (f : Hub → Hub) => s.modHub (fun (h : Hub) => (f h).wearDone e.cls e.unit e.index)
  let remap := fun (h : Hub) => ({ h with mem.remapped := ((e.cls, e.unit, e.index), h.spareNumber e) :: h.mem.remapped } : Hub)
  match e.cls with
  | 1 => if !e.copied then s else done (fun h => let h := remap h
      { h with mem.sparePages := vmodN h.mem.sparePages e.unit (· - 1) })
  | 2 => if !e.copied then s else done (fun h => let h := remap h
      let k := e.unit * 256 + e.index / 65536
      { h with mem.spareRows := insertKey k (lookupD h.mem.spareRows k 0 + 1) h.mem.spareRows })
  | 3 => match fin? 4 e.unit with
    | none => s
    | some l =>
      let m := s.hub.vote.engineMap[l]
      let logical := ((List.range 8).find? (fun k => vgetN m k 8 == e.index)).getD 8
      if logical = 8 ∨ s.hub.vote.engineCopy.any (fun c => c.1 == l) = true then s
      else s.modHub (fun (h : Hub) => { h with vote.engineCopy := (l, logical, h.sentence) :: h.vote.engineCopy })
  | 4 => match fin? 4 e.unit with
    | none => s
    | some l => match s.substituteLane l with
      | some t => t.modHub (Hub.wearDone 4 e.unit e.index)
      | none => s
  | 5 => if s.hub.net.substPending.isSome ∨ s.hub.net.subst ≠ 0 then s
    else s.modHub (fun (h : Hub) => { h with net.substPending := some (e.index + 1, h.sentence) })
  | 6 => done (fun h => { h with partner := { h.partner with
      down := vmodN h.partner.down e.index (fun _ => true), up := vmodN h.partner.up e.index (fun _ => false) } })
  | 7 => done remap
  | 9 => done (fun h => { h with mem.nandRetired := setBit h.mem.nandRetired e.index })
  | _ => s

/-- One request in order: a spare is found, or the request is kept with NO_SPARE. `held` are the pools of earlier requests still
under way. -/
def State.serve (x : State × List (Nat × Nat × Nat)) (e : WearEntry) : State × List (Nat × Nat × Nat) :=
  let (s, held) := x
  let free := s.hub.sparesLeft e.cls e.unit e.index - (if e.cls = 7 then 0 else (held.filter (· == e.pool)).length)
  let started := (e.cls == 3 && s.hub.vote.engineCopy.any (fun c => c.1.val == e.unit)) ||
    (e.cls == 5 && (s.hub.net.substPending.isSome || s.hub.net.subst == e.index + 1)) || (e.cls == 7 && e.state == .pending)
  if free = 0 ∧ e.cls = 4 then (s, held)
  else if free = 0 ∧ started = false then
    (s.modHub (fun (h : Hub) => { h with mem := h.mem.setEntry { e with state := .noSpare } }), held)
  else
    let s := s.modHub (fun (h : Hub) => { h with mem := h.mem.setEntry { e with state := .pending } })
    (s.substitute { e with state := .pending }, e.pool :: held)

/-- SUBSTITUTION_BOUNDARY (R408, R409): at a sentence boundary, while the tick runs, the requests are served in the order of R408. -/
def execSubstitutionBoundary (s : State) : Out :=
  .next (if !s.hub.atBoundary then s else
    let due := sortBy wearOrder (s.hub.mem.wear.filter (fun e => e.state == .pending || e.state == .noSpare))
    (due.foldl State.serve (s, [])).1)

/-- SPARE_COPY_COMPLETE (R409): the copy of a page (class 1) or a row (class 2) has ended. -/
def execSpareCopyComplete (cls unit index : Nat) (s : State) : Out :=
  .next (s.modHub (fun (h : Hub) =>
    if cls ≠ 1 ∧ cls ≠ 2 then h else
    { h with mem.wear := h.mem.wear.map (fun e =>
        if e.is cls unit index && e.state == .pending && h.time.running then { e with copied := true } else e) }))

/-! ### Block 20 (R414) -/

def Hub.memStatus (h : Hub) : Nat :=
  let m := h.mem
  let any := fun (p : WearEntry → Bool) => b2n (m.wear.any p)
  let units := (List.range 5).map (fun u => m.wear.any (fun e => e.unit == u && e.state != .inUse && e.state != .substituted))
  m.uncorrSeen % 32 + 32 * ofBits units + 1024 * any (fun e => e.state == .pending) + 2048 * any (fun e => e.state == .noSpare) +
    4096 * (m.nandRetired % 4)

def Hub.block20 (h : Hub) : List (Nat × Nat × Nat) :=
  let m := h.mem
  let five : Nat → (Nat → Nat) → List (Nat × Nat × Nat) := fun off f => (List.range 5).map (fun u => (off + 4 * u, 4, f u))
  let rows := fun (u : Nat) => sumNat ((m.spareRows.filter (fun r => r.1 / 256 == u)).map Prod.snd)
  [(0x00, 4, h.memStatus)] ++ five 0x10 (fun u => vgetN m.dramCorr u 0) ++ five 0x30 (fun u => vgetN m.dramUncorr u 0) ++
  five 0x50 (fun u => vgetN m.sramCorr u 0) ++ five 0x70 (fun u => vgetN m.sramUncorr u 0) ++
  five 0x90 (fun u => vgetN m.sparePages u 0 % 65536) ++ five 0xB0 (fun u => rows u % 65536) ++
  five 0xD0 (fun u => let p := vgetN m.dramScrub u (0, 0); p.1 * 1000 / scrubStripes u + 65536 * p.2) ++
  five 0xF0 (fun u => (vgetN m.sramScrub u (0, 0)).2) ++
  [(0x110, 4, m.postedFails), (0x114, 4, m.lastPostedAddr), (0x118, 4, m.lastPostedInfo),
   (0x120, 4, m.nandBlocks[(0 : Fin 2)] + 65536 * m.nandBlocks[(1 : Fin 2)])]

/-! ### Record MEM_WEAR (R416) -/

def parseMemWear (b : Bytes) : Option MemWear :=
  let cs := List.range 9
  if b.length = 76 ∧ 1 ≤ u8 b 0 ∧ u8 b 0 ≤ 12 ∧ allZero (slice b 1 3) ∧
      cs.all (fun c => decide (1 ≤ le32 b (4 + 8 * c)) && decide (u8 b (8 + 8 * c) ≤ 1) && allZero (slice b (9 + 8 * c) 3)) ∧
      u8 b (8 + 8 * 7) = 0 then
    some { scrubHours := u8 b 0, threshold := cs.map (fun c => le32 b (4 + 8 * c)), auto := cs.map (fun c => u8 b (8 + 8 * c) == 1) }
  else none

/-! ### Opcodes (R418) -/

/-- Rows of an SRAM macro (Tables 1.5 and 16.1, R400, R403). -/
def macroRows (unit macro_ : Nat) : Nat :=
  if unit < 4 then (if macro_ < 9 then 2048 else if macro_ < 18 then 1024 else if macro_ < 22 then 16384 else 0)
  else if macro_ < 8 then 512 else if macro_ = 8 then 4096 else 0

/-- Whether a resource exists (Table 16.3): spare pages and rows are numbered as assumption log 66 says. -/
def resourceExists (cls unit index : Nat) : Bool :=
  match cls with
  | 1 => decide (unit ≤ 4) && decide (index < (if unit < 4 then 393216 + 26214 else 196608 + 4915))
  | 2 => decide (unit ≤ 4) && (decide (index % 65536 < macroRows unit (index / 65536)) ||
      (macroRows unit (index / 65536) != 0 && decide (32768 ≤ index % 65536 ∧ index % 65536 < 32772)))
  | 3 => decide (unit < 4) && decide (index < 8)
  | 4 => decide (unit < 4) && index == 0
  | 5 | 6 | 9 => unit == 4 && decide (index < 2)
  | 7 => unit == 4 && decide (index < 56)
  | 8 => unit == 4 && index == 0
  | _ => false

/-- The fixed resources of classes 3 to 9. -/
def fixedResources : List (Nat × Nat × Nat) :=
  (List.range 4).flatMap (fun u => (List.range 8).map (fun i => (3, u, i))) ++ (List.range 4).map (fun u => (4, u, 0)) ++
  [(5, 4, 0), (5, 4, 1), (6, 4, 0), (6, 4, 1)] ++ (List.range 56).map (fun q => (7, 4, q)) ++ [(8, 4, 0), (9, 4, 0), (9, 4, 1)]

/-- The wear table in class, unit and index order: the watch lists, and every resource of classes 3 to 9. -/
def Hub.wearTable (h : Hub) : List WearEntry :=
  let fixed := fixedResources.filter (fun r => !h.mem.wear.any (WearEntry.is r.1 r.2.1 r.2.2))
  let none_ := fixed.map (fun r => ({ cls := r.1, unit := r.2.1, index := r.2.2, counter := 0, born := 0 } : WearEntry))
  sortBy (fun a b => wearOrder { a with reachedAt := 0 } { b with reachedAt := 0 }) (h.mem.wear ++ none_)

def Hub.wearBytes (h : Hub) (e : WearEntry) : Bytes :=
  beBytes 1 e.cls ++ beBytes 1 e.unit ++ zeros 2 ++ beBytes 4 e.index ++ beBytes 4 e.counter ++ beBytes 4 (h.wearThreshold e.cls) ++
    beBytes 1 e.state.code ++ beBytes 1 (b2n (h.wearAuto e.cls)) ++ beBytes 2 (h.sparesLeft e.cls e.unit e.index) ++ zeros 4

def opGetWear : OpSpec where
  op := .getWear
  level := baseLevel .getWear
  layout := exactly 4
  check := fun s _ p => firstFail [modeIs Mode.parser s, param (decide (u8 p 0 ≤ 9)), param (decide (u8 p 1 ≤ 4) || u8 p 1 == 0xFF)]
  act := fun r p s =>
    let all := s.hub.wearTable.filter (fun e => (u8 p 0 == 0 || e.cls == u8 p 0) && (u8 p 1 == 0xFF || e.unit == u8 p 1))
    let out := (all.drop (be16 p 2)).take 59
    s.modHub (Hub.reply r .getWear .ok (beBytes 2 all.length ++ beBytes 2 out.length ++ zeros 4 ++ out.flatMap s.hub.wearBytes))

def execGetWear (r : Req) (p : Bytes) (s : State) : Out := .next (opGetWear.run r p s)

def Hub.wearStateOf (h : Hub) (cls unit index : Nat) : WearState :=
  match h.mem.wear.find? (WearEntry.is cls unit index) with | some e => e.state | none => .inUse

/-- A request of SUBSTITUTE enters the order of R408 now. -/
def Hub.requestSpare (cls unit index : Nat) (st : WearState) (h : Hub) : Hub :=
  let m := h.mem.enter cls unit index
  let set := fun (e : WearEntry) => if e.is cls unit index then
    { e with state := st, reachedAt := if e.state = .inUse then m.order else e.reachedAt } else e
  { h with mem := { m with wear := m.wear.map set, order := m.order + 1 } }

def opSubstitute : OpSpec where
  op := .substitute
  level := baseLevel .substitute
  layout := exactly 12
  check := fun s _ p =>
    let st := s.hub.wearStateOf (u8 p 0) (u8 p 1) (be32 p 4)
    firstFail [modeIs Mode.parser s, (st != .pending, .busy), (resourceExists (u8 p 0) (u8 p 1) (be32 p 4), .notFound),
      param (allZero (slice p 2 2) && allZero (slice p 8 4)), param (u8 p 0 != 8 && st != .substituted)]
  act := fun r p s => s.modHub (fun (h : Hub) =>
    let c := u8 p 0
    let u := u8 p 1
    let i := be32 p 4
    if h.sparesLeft c u i = 0 then
      (h.requestSpare c u i .noSpare).reply r .substitute .noSpare (beBytes 1 WearState.noSpare.code ++ zeros 7)
    else
      let h := h.requestSpare c u i .pending
      let extra := if c ≤ 3 then Config.copySentences h.free else 0
      h.draw.reply r .substitute .ok (beBytes 1 WearState.pending.code ++ zeros 1 ++ beBytes 6 (h.nextBoundary + extra)))

def execSubstitute (r : Req) (p : Bytes) (s : State) : Out := .next (opSubstitute.run r p s)

end Sys2Proof.Machine
end

