-- ==== Sys2Proof/Machine/Rack.lean ====
section
/-! DEFINITION. The rack link bridge (chapter 14): enumeration, scheduled exchanges, split transactions, prefetch, lost stations and
block 18. -/
namespace Sys2Proof.Machine

def Hub.modRack (f : Rack → Rack) (h : Hub) : Hub := { h with rack := f h.rack }
def Hub.station (h : Hub) (i : Nat) : Station := vgetN h.rack.stations i {}
def Hub.modStation (i : Nat) (f : Station → Station) (h : Hub) : Hub := { h with rack.stations := vmodN h.rack.stations i f }
def Hub.stationCfg (h : Hub) (i : Nat) : Option StationCfg := h.cfg.rack.stations.find? (fun c => c.station == i)

/-- The driver is active: configured, the tick runs, and the role is not STANDBY (R372). -/
def Hub.rackDriving (h : Hub) : Bool := h.cfg.rack.link.enabled && h.time.running && h.roleCode != 2

/-! ### Packets (R356) -/

/-- A packet from its header to its CRC. -/
def rackPacket (reply : Bool) (station tag type : Nat) (payload : Bytes) : Bytes :=
  let b := beBytes 1 (128 * b2n reply + station % 32) ++ beBytes 1 (tag * 4) ++ beBytes 1 type ++ beBytes 2 payload.length ++ payload
  b ++ beBytes 4 (crc32 b)

/-- Bus time of a packet of `n` payload bytes, ns. -/
def rackNs (n : Nat) : Nat := (11 + n) * 200

/-- The lengths of Table 14.2 for what a station sends. -/
def rackTypeOk (type n : Nat) (payload : Bytes) : Bool :=
  match type with
  | 0x02 => decide (4 ≤ n ∧ n ≤ 252)
  | 0x04 => n == 4
  | 0x06 => decide (4 ≤ n ∧ n ≤ 252)
  | 0x08 => n == 8 + 12 * u8 payload 6 && decide (u8 payload 6 ≤ 8)
  | 0x0A => decide (5 ≤ n ∧ n ≤ 256)
  | 0x0B => decide (n ≤ 256)
  | 0x0C => n == 0
  | 0x0D => n == 4
  | _ => false

/-- A packet received whole from a station. -/
def rackReplyOk (b : Bytes) : Bool :=
  let n := be16 b 3
  b.length == 9 + n && be32 b (5 + n) == crc32 (b.take (5 + n)) && u8 b 0 / 32 == 4 && u8 b 1 % 4 == 0 &&
    rackTypeOk (u8 b 2) n (slice b 5 n) && inRange 1 30 (u8 b 0 % 32)

/-- Send a master packet and open its window. -/
def Hub.rackSend (i tag type : Nat) (payload : Bytes) (ask : RackAsk) (h : Hub) : Hub :=
  let h := h.send (.rack (rackPacket false i tag type payload))
  h.modRack (fun k => { k with window := some (i, ask), windowBad := false, busy := k.busy + rackNs payload.length })

/-! ### Prefetch (R363, R364) -/

/-- The first run of bytes never served: offset and length. -/
def Prefetch.unserved (p : Prefetch) : Option (Nat × Nat) :=
  match (List.range p.data.length).find? (fun i => !bit p.served i) with
  | none => none
  | some i => some (i, ((List.range (p.data.length - i)).takeWhile (fun k => !bit p.served (i + k))).length)

/-- The buffer is discarded; bytes never served are logged. -/
def Hub.prefetchDiscard (i : Nat) (o : Origin) (h : Hub) : Hub :=
  match (h.station i).prefetch with
  | none => h
  | some p =>
    let h := h.modStation i (fun x => { x with prefetch := none })
    match p.unserved with
    | none => h
    | some (off, n) =>
      let h := h.modRack (fun k => { k with
        log := vmodN k.log k.logNext (fun _ => (i, n, p.address + off)), logNext := (k.logNext + 1) % 16
        discards := satAdd 16 k.discards 1 })
      h.raiseEvent (fun _ => true) .prefetchDiscarded [i] 0 [(1, i), (1, n), (2, 0), (4, p.address + off)] o

/-- PREFETCH_AGE_DISCARD (R364): 1 ms of age. -/
def execPrefetchAgeDiscard (station now : Nat) (s : State) : Out :=
  .next (s.modHub (fun (h : Hub) =>
    let h := h.at_ now
    match (h.station station).prefetch with
    | some p => if p.at_ + 1000000 ≤ h.time.now then h.prefetchDiscard station .real else h
    | none => h))

/-- The end of the MEMORY window that holds a read wholly (R358): a DEVICE region of the station's descriptor or of the configuration
overrides the marking. -/
def Hub.memoryEnd (h : Hub) (i address n : Nat) : Option Nat :=
  let mine := h.cfg.rack.windows.filter (fun w => w.station == i)
  let devs := (h.station i).devices ++ (mine.filter RackWindowCfg.device).map (fun w => (w.base, w.size))
  match mine.find? (fun w => !w.device && decide (w.base ≤ address ∧ address + n ≤ w.base + w.size)) with
  | none => none
  | some w =>
    if devs.any (fun d => decide (d.1 < address + n ∧ address < d.1 + d.2)) then none
    else some ((devs.filter (fun d => decide (address + n ≤ d.1))).foldl (fun m d => min m d.1) (w.base + w.size))

/-- The length asked of the station for a read (R363). -/
def Hub.askedLength (h : Hub) (q : RackReq) : Nat :=
  if q.write || bit q.flags 1 then q.length
  else match h.memoryEnd q.station q.address q.length with
    | none => q.length
    | some e =>
      let end_ := q.address + q.length
      let up := (end_ / 64 + 1) * 64
      min (min up e) (q.address + 248) - q.address

/-- A read served from the buffer. -/
def Hub.fromPrefetch (h : Hub) (q : RackReq) : Option Bytes :=
  match (h.station q.station).prefetch with
  | some p =>
    if !q.write && (h.memoryEnd q.station q.address q.length).isSome &&
        decide (p.address ≤ q.address ∧ q.address + q.length ≤ p.address + p.data.length) then
      some (slice p.data (q.address - p.address) q.length)
    else none
  | none => none

/-! ### Requests and completions (R359 to R362, R370) -/

/-- A completion entry (Table 14.3). -/
def RackReq.completion (q : RackReq) (status : Nat) (data : Bytes) : Bytes :=
  leBytes 4 q.user ++ leBytes 1 q.station ++ leBytes 1 (if q.write then 2 else 1) ++ leBytes 1 status ++ zeros 1 ++ leBytes 4 q.address ++
    leBytes 2 data.length ++ zeros 2 ++ fitBytes 248 data

/-- A request completes: its entry goes to Q45 or Q47, or its command is answered. -/
def Hub.rackComplete (q : RackReq) (status : Nat) (data : Bytes) (h : Hub) : Hub :=
  let h := if q.write then h.modStation q.station (fun x => { x with lastWrite := status }) else h
  let e := q.completion status data
  match q.src with
  | .slot _ =>
    let st := h.queue 45
    if 16 ≤ (st.count + 2 ^ 32 - st.bell) % 2 ^ 32 then (h.queueDrop 45).1
    else
      let h := h.modRack (fun k => { k with rx := k.rx.writeN (0x6000 + 264 * (st.count % 16)) e })
      (h.modQueue 45 (fun s => { s with count := wrapAdd 32 s.count 1 })).queueRec 45 1 st.count
  | .desc i =>
    let h := h.complete 46 (b2n (status != 0)) i none
    match (h.queue 47).posted with
    | [] => (h.queueDrop 47).1
    | (j, buf, size) :: rest =>
      if size < 264 then (h.queueDrop 47).1
      else (({ h with net.dram := h.net.dram.writeN buf e } : Hub).modQueue 47
        (fun s => { s with posted := rest })).complete 47 0 j (some (264, 0))
  | .command r =>
    let body := if q.write then beBytes 1 status ++ zeros 3 else beBytes 1 status ++ zeros 1 ++ beBytes 2 data.length ++ data
    h.finish (fun e => e.req == r && (e.op == .rackRead || e.op == .rackWrite)) .ok (fun _ => body)

/-- LOCK_UNSUPPORTED (R362); source 0 application, 1 Parser. -/
def Hub.lockUnsupported (station source address : Nat) (o : Origin) (h : Hub) : Hub :=
  h.raiseEvent (fun _ => true) .lockUnsupported [station] 0 [(1, station), (1, source), (2, 0), (4, address)] o

/-- The lock attribute of a request as the bridge sees it: set by the request, or by an injection; the record is raised. -/
def Hub.rackLocked (station flags source address : Nat) (h : Hub) : Bool × Hub :=
  let r := h.takeArm .lockUnsupported (fun a => a.resource == station)
  if bit flags 0 then (true, r.2.lockUnsupported station source address .real)
  else match r.1 with
    | some o => (o == .injected, r.2.lockUnsupported station source address o)
    | none => (false, r.2)

/-- A request enters the bridge: refused at once, or waiting in arrival order. -/
def Hub.rackAccept (q : RackReq) (h : Hub) : Hub :=
  if (h.stationCfg q.station).isNone || decide (q.length = 0) || decide (248 < q.length) then h.rackComplete q 6 []
  else
    let r := h.rackLocked q.station q.flags 0 q.address
    if r.1 then r.2.rackComplete q 5 []
    else if !(r.2.station q.station).present then r.2.rackComplete q 4 []
    else r.2.modRack (fun k => { k with waiting := k.waiting ++ [q] })

/-- A request entry of 264 bytes (Table 14.3); an operation that is neither read nor write completes BAD_REQUEST. -/
def Hub.rackEntry (src : RackSrc) (b : Bytes) (h : Hub) : Hub :=
  let q : RackReq := { src := src, user := le32 b 0, station := u8 b 4, write := u8 b 5 == 2, flags := u8 b 6, address := le32 b 8,
                       length := le16 b 12, data := slice b 16 (le16 b 12) }
  if u8 b 5 = 1 ∨ u8 b 5 = 2 then h.rackAccept q else h.rackComplete q 6 []

/-- The voted doorbells of Q44 and Q45 (R370). -/
def Hub.rackBell (v : Bytes) (h : Hub) : Hub :=
  let first := u8 v 0
  let n := u8 v 1
  let slots := (List.range n).map (fun i => (first + i) % 8)
  let inUse := fun (i : Nat) => h.rack.waiting.any (fun q => q.src == .slot i) ||
    h.rack.tags.toList.any (fun t => t.any (fun t => t.req.src == .slot i && t.quarantine.isNone))
  if bit h.cfg.rack.link.queues 0 = false ∨ 8 ≤ first ∨ n = 0 ∨ 8 < n ∨ slots.any inUse = true then h.bellReject
  else
    let h := (h.modQueue 44 (fun s => { s with bell := le32 v 0, count := wrapAdd 32 s.count n })).queueRec 44 0 (le32 v 0)
    slots.foldl (fun (h : Hub) i => h.rackEntry (.slot i) (h.rack.tx.readN (0x5000 + 264 * i) 264)) h

def Hub.rackRxBell (v : Bytes) (h : Hub) : Hub :=
  if bit h.cfg.rack.link.queues 0 then (h.modQueue 45 (fun s => { s with bell := le32 v 0 })).queueRec 45 0 (le32 v 0) else h.bellReject

/-- A descriptor of Q46 or Q47. -/
def Hub.rackDesc (q : Nat) (h : Hub) (d : Desc) : Hub :=
  let (h, i) := h.pushDesc q h.cfg.rack.link.ringLog2 d
  if !bit d.flags 0 then h
  else if q = 46 then h.rackEntry (.desc i) d.frame
  else h.modQueue q (fun s => { s with posted := s.posted ++ [(i, d.buffer, d.length)] })

def Rack.freeTag (k : Rack) : Option Nat := (List.range 64).find? (fun i => (vgetN k.tags i none).isNone)

def Rack.outstanding (k : Rack) : List Nat :=
  (List.range 64).filter (fun i => match vgetN k.tags i none with | some t => t.quarantine.isNone | none => false)

/-- RACK_REQUEST_SEND (R359, R363): the oldest waiting request, in free bus time. -/
def execRackRequestSend (now : Nat) (s : State) : Out :=
  .next (s.modHub (fun (h : Hub) =>
    let h := h.at_ now
    match h.rack.waiting with
    | [] => h
    | q :: rest =>
      if !h.rackDriving || h.rack.window.isSome then h
      else
        let pop := fun (h : Hub) => h.modRack (fun k => { k with waiting := rest })
        if !(h.station q.station).present then (pop h).rackComplete q 4 []
        else match h.fromPrefetch q with
        | some d =>
          let mark := fun (p : Prefetch) =>
            { p with served := p.served ||| ((2 ^ q.length - 1) * 2 ^ (q.address - p.address)) }
          ((pop h).modStation q.station (fun x => { x with prefetch := x.prefetch.map mark })).rackComplete q 0 d
        | none => match h.rack.freeTag with
          | none => h
          | some t =>
            let h := pop h
            let h := if q.write then h.prefetchDiscard q.station .real else h
            let asked := h.askedLength q
            let body := beBytes 4 q.address ++ beBytes 2 asked ++ zeros 2 ++ (if q.write then fitBytes q.length q.data else [])
            let tag : RackTag := { req := q, asked := asked, sentEnd := h.time.now + rackNs body.length }
            let h := h.rackSend q.station t (if q.write then 3 else 1) body (.request t)
            h.modRack (fun k =>
              let k := { k with tags := vmodN k.tags t (fun _ => some tag) }
              { k with peak := max k.peak k.outstanding.length })))

/-- RACK_POLL (R359): a station with an outstanding tag, 10 µs after its last window. -/
def execRackPoll (station now : Nat) (s : State) : Out :=
  .next (s.modHub (fun (h : Hub) =>
    let h := h.at_ now
    let mine := h.rack.outstanding.any (fun i => match vgetN h.rack.tags i none with | some t => t.req.station == station | none => false)
    if h.rackDriving && h.rack.window.isNone && mine && decide ((h.station station).lastWindow + 10000 ≤ h.time.now) then
      h.rackSend station 0 9 [] .poll
    else h))

/-- A READ_CPL or WRITE_CPL is taken (R359 to R361): the extra bytes of an extended read go to the prefetch buffer. -/
def Hub.rackCompletion (station tag : Nat) (write : Bool) (payload : Bytes) (h : Hub) : Hub :=
  match vgetN h.rack.tags tag none with
  | some t =>
    if t.quarantine.isSome || t.req.station != station || t.req.write != write then h.modRack (fun k => { k with late := satAdd 32 k.late 1 })
    else
      let r := h.takeArm .tagTimeout (fun a => a.resource == station)
      let h := match r.1 with
        | some .reportOnly => r.2.raiseEvent (fun _ => true) .tagTimeout [station] 0
            [(1, station), (1, tag), (1, if write then 2 else 1), (1, 0), (4, t.req.address), (4, h.cfg.rack.link.tagTimeoutUs)] .reportOnly
        | _ => r.2
      if r.1 = some .injected then
        h.modRack (fun k => { k with tags := vmodN k.tags tag (fun x => x.map (fun y => { y with suppressed := some .injected })) })
      else
        let h := h.modRack (fun k => { k with tags := vmodN k.tags tag (fun _ => none) })
        let data := payload.drop 4
        let n := t.req.length
        let st := min (u8 payload 0) 2
        let h := if !write && st == 0 && decide (n < data.length) then
            let h := h.prefetchDiscard station .real
            let p : Prefetch := { address := t.req.address + n, data := (data.drop n).take 64, served := 0, at_ := h.time.now }
            let h := h.modStation station (fun x => { x with prefetch := some p })
            let r := h.takeArm .prefetchDiscarded (fun a => a.resource == station)
            match r.1 with
            | some .reportOnly => r.2.raiseEvent (fun _ => true) .prefetchDiscarded [station] 0
                [(1, station), (1, p.data.length), (2, 0), (4, p.address)] .reportOnly
            | some o => r.2.prefetchDiscard station o
            | none => r.2
          else h
        h.rackComplete t.req st (if write then [] else data.take n)
  | none => h.modRack (fun k => { k with late := satAdd 32 k.late 1 })

/-- TAG_TIMEOUT (R361). -/
def execTagTimeout (tag : Fin 64) (now : Nat) (s : State) : Out :=
  .next (s.modHub (fun (h : Hub) =>
    let h := h.at_ now
    let us := h.cfg.rack.link.tagTimeoutUs
    match h.rack.tags[tag] with
    | some t =>
      if t.quarantine.isSome || decide (h.time.now < t.sentEnd + us * 1000) then h
      else
        let until_ := t.sentEnd + 2 * us * 1000
        let h := h.modRack (fun k => { k with
          tags := k.tags.set tag (some { t with quarantine := some until_ }), timeouts := satAdd 32 k.timeouts 1 })
        let h := h.raiseEvent (fun _ => true) .tagTimeout [t.req.station] 0
          [(1, t.req.station), (1, tag.val), (1, if t.req.write then 2 else 1), (1, 0), (4, t.req.address), (4, us)]
          (t.suppressed.getD .real)
        h.rackComplete t.req 3 []
    | none => h))

/-- TAG_QUARANTINE_END (R361). -/
def execTagQuarantineEnd (tag : Fin 64) (now : Nat) (s : State) : Out :=
  .next (s.modHub (fun (h : Hub) =>
    let h := h.at_ now
    match (h.rack.tags[tag]).bind RackTag.quarantine with
    | some u => if u ≤ h.time.now then h.modRack (fun k => { k with tags := k.tags.set tag none }) else h
    | none => h))

/-! ### Lost stations (R368, R369) -/

/-- STATION_LOST (R357, R368): its tags complete ABSENT, its inputs go STALE and its locks are freed. -/
def Hub.stationLost (i cause : Nat) (o : Origin) (h : Hub) : Hub :=
  let raise := fun (h : Hub) =>
    h.raise .stationLost [i, cause] 0 [(1, i), (1, cause), (1, (h.station i).lastExchange), (1, 0), (6, h.time.tick)] o
  if o = .reportOnly then raise h
  else
    let wait := match h.stationCfg i with | some c => c.waitEnable | none => false
    let h := raise ((h.modStation i (fun x => { x with
      present := false, lost := some cause, lostAt := h.time.now, identifyAt := h.time.now, stale := true, hold := x.hold || wait
      parts := none })).prefetchDiscard i .real)
    let mine := h.rack.outstanding.filter (fun t => match vgetN h.rack.tags t none with | some x => x.req.station == i | none => false)
    let h := mine.foldl (fun (h : Hub) t => match vgetN h.rack.tags t none with
      | some x => (h.modRack (fun k => { k with tags := vmodN k.tags t (fun _ => none) })).rackComplete x.req 4 []
      | none => h) h
    h.dropLocks (fun k => k.owner == 2 && k.station == i)

/-- A DESCRIPTOR answers IDENTIFY (R357, R369). -/
def Hub.describe (i : Nat) (d : Bytes) (h : Hub) : Hub :=
  let type := be32 d 0
  let regions := (List.range (u8 d 6)).map (fun k => (be32 d (8 + 12 * k), be32 d (12 + 12 * k), u8 d (16 + 12 * k)))
  let devs := (regions.filter (fun r => r.2.2 == 2)).map (fun r => (r.1, r.2.1))
  let h := h.modStation i (fun x => { x with type := type, devices := devs, missed := 0 })
  match h.stationCfg i with
  | none => h.modStation i (fun x => { x with present := true })
  | some c =>
    if c.expected ≠ 0 ∧ c.expected ≠ type then
      if (h.station i).lost = some 2 then h
      else
        let h := h.clearFault .stationLost [i, 0] id
        (h.clearFault .stationLost [i, 1] id).stationLost i 2 .real
    else
      let h := h.modStation i (fun x => { x with present := true, lost := none })
      [0, 1, 2].foldl (fun (h : Hub) k => h.clearFault .stationLost [i, k] id) h

/-- RACK_ENUMERATION (R357): IDENTIFY goes to S1 to S30; `answers` are the stations that answered with a valid DESCRIPTOR, and its
payload. RESCAN is answered. -/
def execRackEnumeration (answers : List (Nat × Bytes)) (now : Nat) (s : State) : Out :=
  .next (s.modHub (fun (h : Hub) =>
    let h := h.at_ now
    if !h.rackDriving || !h.rack.enumerating then h
    else
      let one := fun (h : Hub) (i : Nat) =>
        let h := h.send (.rack (rackPacket false i 0 7 []))
        let h := h.modRack (fun k => { k with busy := k.busy + rackNs 0 })
        match answers.find? (fun a => a.1 == i && rackTypeOk 8 a.2.length a.2) with
        | some a => h.describe i a.2
        | none =>
          if (h.stationCfg i).isNone then h.modStation i (fun x => { x with present := false })
          else if (h.station i).lost.isSome then h else h.stationLost i 1 .real
      let h := ((List.range 30).map (· + 1)).foldl one h
      let h := h.modRack (fun k => { k with enumerating := false })
      let mask := fun (p : Station → Bool) => ofBits (h.rack.stations.toList.map p)
      h.finish (fun e => e.op == .rescan) .ok
        (fun _ => beBytes 4 (mask Station.present) ++ beBytes 4 (mask (fun x => x.lost == some 2)))))

/-- RACK_IDENTIFY_RETRY (R357): a lost station, every rescan_ms. -/
def execRackIdentifyRetry (station now : Nat) (s : State) : Out :=
  .next (s.modHub (fun (h : Hub) =>
    let h := h.at_ now
    let x := h.station station
    if h.rackDriving && h.rack.window.isNone && x.lost.isSome && decide (x.identifyAt + h.cfg.rack.link.rescanMs * 1000000 ≤ h.time.now) then
      (h.modStation station (fun y => { y with identifyAt := x.identifyAt + h.cfg.rack.link.rescanMs * 1000000 })).rackSend station 0 7 []
        .identify
    else h))

/-- RACK_HOLD_EXPIRY (R368): after hold_ms the substitute values. -/
def execRackHoldExpiry (station now : Nat) (s : State) : Out :=
  .next (s.modHub (fun (h : Hub) =>
    let h := h.at_ now
    let x := h.station station
    match h.stationCfg station with
    | some c =>
      if x.lost.isSome && !x.substituted && decide (x.lostAt + c.holdMs * 1000000 ≤ h.time.now) then
        let d := match h.cfg.rack.substitutes.find? (fun p => p.1 == station) with | some p => p.2 | none => []
        h.modStation station (fun y => { y with data := fitBytes c.inLen d, length := c.inLen, substituted := true, stale := true })
      else h
    | none => h))

/-- ENABLE_REQ (R369): a released mask. -/
def Hub.rackEnable (mask : Nat) (h : Hub) : Hub :=
  (bitsSet 32 mask).foldl (fun (h : Hub) i => h.modStation i (fun x => { x with hold := false })) h

def execEnableReq (mask : Nat) (s : State) : Out :=
  .next (if s.hub.power.mode.isRunning then s.modHub (Hub.rackEnable mask) else s)

/-! ### Scheduled exchange (R365 to R367) -/

/-- OUTPUTS_VALID. A SAFE decision counts for the exchanges of ticks that start after it (R373); `ran` says that the mode ran at the start
of this tick. -/
def Hub.outputsValid (h : Hub) (ran : Bool) (i : Nat) : Bool :=
  (h.power.mode.isRunning || (ran && h.power.mode == .safe)) && h.roleCode != 2 && !(h.station i).hold

/-- RACK_EXCHANGE (R365): in an exchange tick of the station. A STANDBY sends nothing and expects the partner's exchange (R372). -/
def execRackExchange (station now : Nat) (s : State) : Out :=
  .next (s.modHub (fun (h : Hub) =>
    let h := h.at_ now
    match h.stationCfg station with
    | none => h
    | some c =>
      let t := h.time.tick
      let x := h.station station
      if c.period = 0 ∨ t % c.period ≠ c.phase ∨ !h.time.running ∨ !h.cfg.rack.link.enabled ∨ x.dues.any (fun d => d.2 == t) then h
      else
        let due := h.modStation station (fun y => { y with dues := y.dues ++ [(t + c.due, t)] })
        if h.roleCode = 2 then due
        else if !x.present || h.rack.window.isSome then h
        else
          let ok := h.outputsValid (s.snap.power.mode.isRunning && s.snap.time.tick == h.time.tick) station
          let data := if ok then h.rack.tx.readN (0x3000 + 0x100 * station + 8) c.outLen else zeros c.outLen
          due.rackSend station 0 5 (beBytes 1 (b2n ok) ++ zeros 3 ++ data) (.exchange t)))

/-- A valid EXCHANGE_RSP writes the input image. -/
def Hub.exchangeReply (i tick : Nat) (payload : Bytes) (h : Hub) : Hub :=
  let len := match h.stationCfg i with | some c => c.inLen | none => 0
  if u8 payload 0 = 0 ∧ payload.length = 4 + len then
    (h.modStation i (fun x => { x with
      data := payload.drop 4, length := len, stamp := h.tb0Now, stale := false, substituted := false, lastExchange := 0
      completed := satAdd 32 x.completed 1, dues := x.dues.filter (fun d => d.2 != tick) })).count 0xF00A (fun q => b2n (q == 0 || q == i))
  else h.modStation i (fun x => { x with lastExchange := 3, failed := satAdd 32 x.failed 1 })

/-- The tick start: due ticks without a reply set STALE, and BUS_LOAD is shown at a sentence boundary. -/
def Hub.rackTick (h : Hub) : Hub :=
  let t := h.time.tick
  let late := fun (x : Station) => if x.dues.any (fun d => decide (d.1 ≤ t)) then
    { x with stale := true, dues := x.dues.filter (fun d => decide (t < d.1)) } else x
  let h : Hub := { h with rack.stations := vmap late h.rack.stations }
  if h.atBoundary then h.modRack (fun k => { k with load := min 1000 (k.busy * 1000 / (h.sTicks * h.nCycles)), busy := 0 }) else h

/-! ### Windows (R355, R368) -/

/-- The window closes without a valid reply. -/
def Hub.windowEmpty (inj : Option Origin) (h : Hub) : Hub :=
  match h.rack.window with
  | none => h
  | some (i, ask) =>
    let bad := h.rack.windowBad
    let h := h.modRack (fun k => { k with window := none, windowBad := false })
    let h := h.modStation i (fun x => { x with missed := min 255 (x.missed + 1), lastWindow := h.time.now })
    let h := match ask with
      | .exchange _ => h.modStation i (fun x => { x with lastExchange := if bad then 2 else 1, failed := satAdd 32 x.failed 1 })
      | _ => h
    let x := h.station i
    if x.present && decide (h.cfg.rack.link.lostWindows ≤ x.missed) && (h.stationCfg i).isSome then h.stationLost i 0 (inj.getD .real) else h

/-- RACK_WINDOW_CLOSED_EMPTY (R368). -/
def execRackWindowClosedEmpty (now : Nat) (s : State) : Out := .next (s.modHub (fun (h : Hub) => (h.at_ now).windowEmpty none))

/-! ### Start (R357, R372) -/

def Hub.rackBoot (h : Hub) : Hub := { h with rack := {} }

/-- Every entry to SERVICE enumerates. -/
def Hub.rackService (h : Hub) : Hub := if h.cfg.rack.link.enabled then h.modRack (fun k => { k with enumerating := true }) else h

/-! ### Block 18 (R374) -/

def Hub.rackMask (h : Hub) (p : Station → Bool) : Nat := ofBits (h.rack.stations.toList.map p)

/-- State of a station as STATION_STATUS shows it. -/
def Hub.stationState (h : Hub) (i : Nat) : Nat :=
  let x := h.station i
  if (h.stationCfg i).isNone then 0
  else match x.lost with
    | some 2 => 3
    | some _ => 4
    | none => if x.present then 2 else 1

def Hub.stationStatus (h : Hub) (i : Nat) : List (Nat × Nat) :=
  let x := h.station i
  [(1, h.stationState i), (1, x.lastWrite), (1, x.lastExchange), (1, x.missed), (4, x.type), (4, x.completed), (4, x.failed)]

/-- Quality, length, stamp and data of an input image. -/
def Hub.inputImage (h : Hub) (i : Nat) : List (Nat × Nat) :=
  let x := h.station i
  [(1, b2n x.stale + 2 * b2n x.substituted), (1, 0), (2, x.length), (4, x.stamp % 2 ^ 32)]

def Hub.rackStatus (h : Hub) : Nat := b2n h.cfg.rack.link.enabled + 2 * b2n h.rackDriving + 4 * b2n h.rack.enumerating

def Hub.block18 (h : Hub) : List (Nat × Nat × Nat) :=
  let k := h.rack
  layFields 0 [(4, h.rackStatus), (4, h.rackMask Station.present), (4, h.rackMask (fun x => x.lost.isSome)), (4, h.rackMask Station.stale),
    (4, h.rackMask Station.substituted), (4, h.rackMask Station.hold), (4, 0), (4, k.outstanding.length + 256 * k.peak), (4, k.timeouts),
    (4, k.crcErrors), (4, k.late), (4, k.load), (4, k.logNext + 65536 * k.discards)] ++
  layFields 0x40 (k.log.toList.flatMap (fun e => [(1, e.1), (1, e.2.1), (2, 0), (4, e.2.2)])) ++
  layFields 0x100 ((List.range 31).flatMap h.stationStatus) ++
  (List.range 32).flatMap (fun i => layFields (0x1000 + 0x100 * i) (h.inputImage i ++ [(248, leVal (fitBytes 248 (h.station i).data))]))

/-- A byte of OUTPUT_IMAGE, REQ_SLOTS or CPL_SLOTS. -/
def Hub.rackMemByte (h : Hub) (off : Nat) : Byte := if off < 0x6000 then h.rack.tx.read off else h.rack.rx.read off

/-- A released byte of OUTPUT_IMAGE or REQ_SLOTS. -/
def Hub.rackWrite (off : Nat) (b : Byte) (h : Hub) : Hub :=
  if (0x3000 ≤ off ∧ off < 0x5000 ∧ 8 ≤ off % 0x100) ∨ (0x5000 ≤ off ∧ off < 0x5840) then
    h.modRack (fun k => { k with tx := k.tx.write off b }) else h

/-! ### Records (R375) -/

def parseRackLink (b : Bytes) : Option RackLinkCfg :=
  let c : RackLinkCfg := { enabled := u8 b 0 == 1, queues := u8 b 1, tagTimeoutUs := le32 b 2, lostWindows := u8 b 6, ringLog2 := u8 b 7,
                           rescanMs := le16 b 8, hostPollUs := le16 b 10 }
  if b.length == 16 && decide (u8 b 0 ≤ 1) && decide (c.queues ≤ 3) && inRange 100 100000 c.tagTimeoutUs && inRange 1 16 c.lostWindows &&
      (if bit c.queues 1 then inRange 4 20 c.ringLog2 else c.ringLog2 == 0) && inRange 10 10000 c.rescanMs &&
      inRange 100 10000 c.hostPollUs && le32 b 12 == 0 then some c else none

def parseStation (b : Bytes) : Option StationCfg :=
  let c : StationCfg := { station := u8 b 0, host := bit (u8 b 1) 0, waitEnable := bit (u8 b 1) 1, period := le16 b 2, expected := le32 b 4,
                          phase := le16 b 8, due := u8 b 10, outLen := u8 b 11, inLen := u8 b 12, holdMs := le16 b 14 }
  if inRange 1 30 c.station && decide (u8 b 1 ≤ 3) && decide (c.period ≤ 4096) && (c.period == 0 || decide (c.phase < c.period)) &&
      (c.period != 0 || c.phase == 0) && decide (1 ≤ c.due) && decide (c.outLen ≤ 248) && decide (c.inLen ≤ 248) && u8 b 13 == 0 &&
      decide (c.holdMs ≤ 60000) then some c else none

def parseRackWindow (b : Bytes) : Option RackWindowCfg :=
  let w : RackWindowCfg := { station := u8 b 0, device := u8 b 1 == 2, base := le32 b 4, size := le32 b 8 }
  if inRange 1 30 w.station && inRange 1 2 (u8 b 1) && le16 b 2 == 0 && w.base % 64 == 0 && w.size % 64 == 0 && decide (64 ≤ w.size) &&
      decide (w.base + w.size ≤ 2 ^ 32) then some w else none

def parseSubstitute (b : Bytes) : Option (Nat × Bytes) :=
  if inRange 1 30 (u8 b 0) && allZero (slice b 1 3) then some (u8 b 0, slice b 4 248) else none

/-- The refusals of R375 and R366 that concern several entries; `n` is N, `sent` is S. -/
def Cfg.rackOk (c : Cfg) (n sent : Nat) : Bool :=
  let st := c.rack.stations
  let nums : List Nat := st.map StationCfg.station
  let subs : List Nat := c.rack.substitutes.map Prod.fst
  let timed := st.filter (fun x => x.period != 0)
  let budget := (List.range (min sent 4096)).all (fun t =>
    decide (500 + sumNat ((timed.filter (fun x => t % x.period == x.phase)).map (fun x => (30 + x.outLen + x.inLen) * 200 + 2000)) + 1000 ≤ n))
  decide nums.Nodup && decide subs.Nodup && timed.all (fun x => sent % x.period == 0) && budget &&
    (List.range 31).all (fun i => areasApart ((c.rack.windows.filter (fun w => w.station == i)).map (fun w => (w.base, w.size)))) &&
    c.rack.substitutes.all (fun p => match st.find? (fun x => x.station == p.1) with
      | some x => allZero (p.2.drop x.inLen) | none => allZero p.2)

/-! ### Opcodes (R377) -/

def opGetStationStatus : OpSpec where
  op := .getStationStatus
  level := baseLevel .getStationStatus
  layout := exactly 4
  check := fun s _ p => firstFail [modeIs Mode.parser s, param (decide (u8 p 0 ≤ 30) && allZero (slice p 1 3)),
    param (u8 p 0 == 0 || (s.hub.stationCfg (u8 p 0)).isSome)]
  act := fun r p s =>
    let h := s.snap
    let be := fun (l : List (Nat × Nat)) => l.flatMap (fun (f : Nat × Nat) => beBytes f.1 f.2)
    let top := be [(4, h.rackStatus), (4, h.rackMask Station.present), (4, h.rackMask (fun x => x.lost.isSome)), (4, h.rackMask Station.stale),
      (4, h.rackMask Station.hold)]
    let i := u8 p 0
    let more := if i = 0 then [] else be (h.stationStatus i) ++ be (h.inputImage i) ++ fitBytes 248 (h.station i).data
    s.modHub (Hub.reply r .getStationStatus .ok (top ++ more))

def execGetStationStatus (r : Req) (p : Bytes) (s : State) : Out := .next (opGetStationStatus.run r p s)

/-- The conditions of RACK_READ and RACK_WRITE. -/
def rackOpCheck (s : State) (p : Bytes) : Option Status :=
  let h := s.hub
  let busy := (h.cmd.exec.filter (fun e => e.op == .rackRead || e.op == .rackWrite)).length
  firstFail [modeIs Mode.parser s, (decide (busy < 4) || bit (u8 p 1) 0, .busy), param (inRange 1 30 (u8 p 0)),
    param ((h.stationCfg (u8 p 0)).isSome), param (decide (u8 p 1 ≤ 3)), param (inRange 1 248 (be16 p 2))]

/-- Their execution: a lock is refused (R362), anything else enters the bridge. -/
def rackOpAct (op : Opcode) (r : Req) (p : Bytes) (h : Hub) : Hub :=
  let q : RackReq := { src := .command r, user := 0, station := u8 p 0, write := op == .rackWrite, flags := u8 p 1, address := be32 p 4,
                       length := be16 p 2, data := p.drop 8 }
  let k := h.rackLocked q.station q.flags 1 q.address
  if k.1 then k.2.reply r op .lockUnsupported []
  else
    let h := k.2.defer r op p [14]
    if (h.station q.station).present then h.modRack (fun k => { k with waiting := k.waiting ++ [q] }) else h.rackComplete q 4 []

def opRackRead : OpSpec where
  op := .rackRead
  level := baseLevel .rackRead
  layout := exactly 8
  check := fun s _ p => rackOpCheck s p
  act := fun r p s => s.modHub (rackOpAct .rackRead r p)

def execRackRead (r : Req) (p : Bytes) (s : State) : Out := .next (opRackRead.run r p s)

def opRackWrite : OpSpec where
  op := .rackWrite
  level := baseLevel .rackWrite
  layout := fun p => decide (8 ≤ p.length) && (p.length == 8 + be16 p 2 || !inRange 1 248 (be16 p 2))
  check := fun s _ p => rackOpCheck s p
  act := fun r p s => s.modHub (rackOpAct .rackWrite r p)

def execRackWrite (r : Req) (p : Bytes) (s : State) : Out := .next (opRackWrite.run r p s)

def opRescan : OpSpec where
  op := .rescan
  level := baseLevel .rescan
  layout := exactly 4
  check := fun s _ p => firstFail [modeIs Mode.parser s, param (allZero p)]
  act := fun r p s => s.modHub (fun (h : Hub) =>
    let h := (List.range 32).foldl (fun (h : Hub) i => h.prefetchDiscard i .real) h
    if h.cfg.rack.link.enabled then (h.modRack (fun k => { k with enumerating := true })).defer r .rescan p [14]
    else h.reply r .rescan .ok (zeros 8))

def execRescan (r : Req) (p : Bytes) (s : State) : Out := .next (opRescan.run r p s)

end Sys2Proof.Machine
end

