-- ==== Sys2Proof/Machine/Time.lean ====
section
/-! DEFINITION. Time bases (chapter 02): the start marker, markers and guard alignment, steering, the RTC, the PTP trackers, TB3
and the time-bases window block. -/
namespace Sys2Proof.Machine

/-! ### Records (R56) -/

def parseTimeBase (b : Bytes) : Option TimeBaseCfg :=
  let phy := (List.range 8).map (fun i => le16 b (8 + 2 * i))
  if b.length = 24 ∧ u8 b 0 ≤ 1 ∧ (u8 b 1 = 1 ∨ u8 b 1 = 2) ∧ 1 ≤ u8 b 2 ∧ u8 b 2 ≤ 60 ∧ u8 b 3 = 0 ∧ 16 ≤ le16 b 4 ∧
      le16 b 4 ≤ 3600 ∧ le16 b 6 = 0 ∧ phy.all (fun v => decide (v ≤ 2000)) = true then
    some { steer := u8 b 0 == 1, select := u8 b 1, returnS := u8 b 2, rtcUpdateS := le16 b 4, phy := phy }
  else none

/-- A PTP_DOMAIN record with its tracker, 0 or 1. -/
def parsePtp (b : Bytes) : Option (Nat × PtpCfg) :=
  let d := toSigned 8 (u8 b 6)
  if b.length = 12 ∧ (u8 b 0 = 1 ∨ u8 b 0 = 2) ∧ u8 b 1 ≤ 127 ∧ (u8 b 2 = 1 ∨ u8 b 2 = 2) ∧ (u8 b 3 = 1 ∨ u8 b 3 = 2) ∧
      2 ≤ u8 b 4 ∧ u8 b 4 ≤ 10 ∧ 2 ≤ u8 b 5 ∧ u8 b 5 ≤ 10 ∧ -4 ≤ d ∧ d ≤ 4 ∧ u8 b 7 ≤ 3 ∧ le32 b 8 = 0 then
    some (u8 b 0 - 1, { domain := u8 b 1, p2p := u8 b 2 == 2, udp := u8 b 3 == 2, announceTimeout := u8 b 4,
                        syncTimeout := u8 b 5, logDelayReq := d, ports := u8 b 7 })
  else none

/-! ### Access -/

def Hub.modTracker (i : Fin 2) (f : Tracker → Tracker) (h : Hub) : Hub := { h with time.trackers := vmod h.time.trackers i f }

/-- S × N ns, the sentence's duration. -/
def Hub.sentenceNs (h : Hub) : Nat := h.sTicks * h.nCycles

def Tb3Ref.hasReference : Tb3Ref → Bool
  | .tb1 | .tb2 => true
  | _ => false

/-! ### Starting the tick (R32, R33) -/

/-- The start instant: at least 20 µs after the marker, on TB3's sentence grid when steering is enabled and TB3 has a reference. -/
def Hub.startInstant (h : Hub) : Nat :=
  let earliest := h.time.now + 20000
  if h.time.steerEn && h.time.tb3Ref.hasReference then
    let phase := (h.time.tb3 + 20000) % h.sentenceNs
    earliest + (h.sentenceNs - phase) % h.sentenceNs
  else earliest

/-- TICK_START_MARKER (R32): at entry to SERVICE, while the tick does not run, the start marker goes to every powered lane. The
steering accumulator starts from zero. -/
def execTickStartMarker (now : Nat) (s : State) : Out :=
  .next (if s.hub.power.mode = .service ∧ s.hub.time.running = false ∧ s.hub.time.startAt = none then
    let h := s.hub.at_ now
    let h := { h with time := { h.time with startAt := some h.startInstant, first := true, steerAcc := 0 } }
    let h := h.send (.startMarker h.startInstant)
    ({ s with hub := h }).mapLanes (fun _ l => { l with steerAcc := 0, started := false })
  else s)

/-! ### Markers and the guard (R34 to R39) -/

/-- TICK_MARKER_RECEIVED (R34): the offset d_j, corrected by the link latency; positive when lane `sender`'s tick started later. -/
def execTickMarkerReceived (lane sender : LaneId) (offset : Int) (s : State) : Out :=
  .next (if s.hub.time.running && (s.hub.laneState sender).powered && (s.hub.laneState lane).powered && sender != lane then
    s.modLane lane (fun l => { l with offsets := l.offsets.set sender (some offset) })
  else s)

/-- The contributing lanes of R35: the ACTIVE lanes; in SERVICE and SAFE the only powered lane when none is ACTIVE. -/
def Hub.contributing (h : Hub) : List LaneId :=
  if h.active.isEmpty then
    match allLanes.filter (fun l => (h.laneState l).powered) with
    | [l] => [l]
    | _ => []
  else h.active

/-- The alignment target of R35 as lane `l` computes it: its own offset is 0; a marker that has not arrived is left out. -/
def State.alignTarget (s : State) (l : LaneId) : Int :=
  median (s.hub.contributing.filterMap (fun j => if j = l then some 0 else (s.lane l).offsets[j]))

/-- s_k of R39 from the accumulator: the steering adjustment and what stays. -/
def steerStep (n : Nat) (ppb acc : Int) : Int × Int :=
  let a := acc + n * ppb
  let st := tdiv a 1000000000
  (st, a - st * 1000000000)

/-- GUARD_ALIGNMENT (R35, R38, R39): the lane computes a_k and s_k; its guard lasts 200 + s_k + a_k cycles. -/
def execGuardAlignment (lane : LaneId) (s : State) : Out :=
  .next (if s.hub.time.running && (s.lane lane).started then
    let target := s.alignTarget lane
    let a := clampInt (-32) 32 target
    s.modLane lane (fun l =>
      let st := steerStep s.hub.nCycles s.hub.time.steerPpb l.steerAcc
      { l with
        alignCycles := a, guardLen := (200 + st.1 + a).toNat, steerAcc := st.2, steerCycles := st.1, alignOffset := -target })
  else s)

/-! ### Steering (R49, R50) -/

/-- The phase error e: TB3 modulo the sentence duration, mapped into the interval from −D/2 to below +D/2. -/
def phaseError (tb3 d : Nat) : Int :=
  let m : Nat := tb3 % d
  if d ≤ 2 * m then (m : Int) - d else m

/-- STEER_RATE_UPDATE (R49): `f` is the measured rate difference in ppb over the last 16 sentences. The value acts from the next
sentence boundary on; in holdover it keeps its last value. -/
def execSteerRateUpdate (f : Int) (s : State) : Out :=
  .next (if s.hub.time.running && s.hub.tickInSentence == 0 then
    s.modHub (fun h =>
      let v := if !h.time.steerEn then 0
        else if h.time.tb3Ref.hasReference then
          clampInt (-100000) 100000 (f - tdiv (phaseError h.time.tb3 h.sentenceNs) 10)
        else h.time.steerNext
      { h with time.steerNext := v })
  else s)

/-! ### The RTC (R51) -/

/-- TB3 is written into the RTC. -/
def Hub.writeRtc (h : Hub) : Hub :=
  { h with
    backup := { h.backup with
      rtcSeconds := h.time.tb3 / 1000000000 % 2 ^ 48, rtcFraction := h.time.tb3 % 1000000000 * 32768 / 1000000000, rtcRest := 0,
      rtcValid := true }
    time.rtcWrittenAt := h.time.now }

/-- RTC_UPDATE (R51): every rtc_update_s, while TB3 has a reference. -/
def execRtcUpdate (now : Nat) (s : State) : Out :=
  .next (s.modHub (fun h =>
    let h := h.at_ now
    if h.time.tb3Ref.hasReference ∧ h.cfg.timeBase.rtcUpdateS * 1000000000 ≤ h.time.now - h.time.rtcWrittenAt then h.writeRtc
    else h))

/-! ### PTP (R42 to R45, R57) -/

/-- The start of an acquisition epoch (R44): the trackers take TB3's value and have their step available again. -/
def Hub.newEpoch (h : Hub) : Hub :=
  let fresh := fun (k : Tracker) =>
    { k with state := .notAcquired, stepUsed := false, value := h.time.tb3, frac := 0, ratePpb := 0, offsets := [], stepNs := 0 }
  { h with time.trackers := vmap fresh h.time.trackers, time.tb3Stepped := false }

/-- PTP_ANNOUNCE_RECEIVED (R44): an Announce from the master that best master selection chose, on a configured port (1 E0, 2 E1,
3 E2). -/
def execPtpAnnounceReceived (tracker : Fin 2) (now port master clockClass : Nat) (utcOffset : Int) (utcValid : Bool) (s : State) :
    Out :=
  .next (s.modHub (fun h =>
    let h := h.at_ now
    if h.cfg.ptp[tracker].isNone || !h.power.mode.parser then h else
    h.modTracker tracker (fun k =>
      let k := { k with port := port, masterId := master, clockClass := clockClass, utcOffset := utcOffset, utcValid := utcValid }
      match k.state with
      | .notAcquired | .holdover => { k with state := .acquiring, offsets := [] }
      | _ => k)))

/-- The tracker enters LOCKED: LOSS_A or LOSS_B clears and with it PTP_DOMAIN_LOSS (R57). -/
def Hub.trackerLocks (i : Fin 2) (h : Hub) : Hub :=
  (h.modTracker i (fun k => { k with state := .locked, lockedAt := h.time.now, loss := false, offsets := [] })).clearFault
    .ptpDomainLoss [i.val] id

def spread (l : List Int) : Int :=
  match l with
  | [] => 0
  | x :: xs => xs.foldl max x - xs.foldl min x

/-- Rate correction (R45): the filter is not given; its result is bounded by ±500 ppm (assumption log 1). -/
def Hub.correctRate (i : Fin 2) (h : Hub) : Hub :=
  let r := clampInt (-500000) 500000 (Config.trackerRate h.free)
  (h.modTracker i (fun k => { k with ratePpb := r })).draw

/-- PTP_SYNC_RECEIVED (R44, R45): a Sync, with its Follow_Up where two-step, completes an offset measurement: the tracker's stamp
minus the master's corrected origin time minus the mean path delay. -/
def execPtpSyncReceived (tracker : Fin 2) (now port origin : Nat) (s : State) : Out :=
  .next (s.modHub (fun h =>
    let h := h.at_ now
    if h.cfg.ptp[tracker].isNone || !h.power.mode.parser then h else
    let k := h.time.trackers[tracker]
    let off : Int := (k.value : Int) - origin - k.meanPathDelay
    let h := h.modTracker tracker (fun k => { k with lastSyncTb0 := h.tb0Now })
    match k.state with
    | .notAcquired | .holdover => h
    | .locked =>
      (h.modTracker tracker (fun k => { k with masterOffset := off, port := port })).correctRate tracker
    | .acquiring =>
      let h := h.modTracker tracker (fun k => { k with masterOffset := off, port := port })
      if k.stepUsed then
        let h := h.correctRate tracker
        if -1000 ≤ off ∧ off ≤ 1000 then h.trackerLocks tracker else h
      else
        let offs := keepLast 8 (k.offsets ++ [off])
        if offs.length = 8 ∧ spread offs ≤ 1000 then
          let mean := tdiv (sumInt offs) 8
          (h.modTracker tracker (fun k =>
            { k with value := ((k.value : Int) - mean).toNat, stepUsed := true, stepNs := -mean })).trackerLocks tracker
        else h.modTracker tracker (fun k => { k with offsets := offs })))

/-- PTP_DOMAIN_LOSS (R57) of tracker `i`; `o` tells a real loss from an injected one. -/
def Hub.ptpLoss (i : Fin 2) (o : Origin) (h : Hub) : Hub :=
  let k := h.time.trackers[i]
  let dom := match h.cfg.ptp[i] with | some c => c.domain | none => 0
  let moved := if o = .reportOnly then h else h.modTracker i (fun k =>
    { k with state := .holdover, lossCount := wrapAdd 32 k.lossCount 1, loss := true, offsets := [] })
  moved.raise .ptpDomainLoss [i.val] 0 [(1, i.val + 1), (1, dom), (8, k.masterId)] o

/-- PTP_TIMEOUT (R43, R44): no Announce, or no Sync, in time on the tracker's port. `other` is the port that still delivers the
master, 0 for none. -/
def execPtpTimeout (tracker : Fin 2) (now other : Nat) (s : State) : Out :=
  .next (s.modHub (fun h =>
    let h := h.at_ now
    match h.time.trackers[tracker].state with
    | .locked | .acquiring =>
      if other ≠ 0 then h.modTracker tracker (fun k => { k with port := other }) else h.ptpLoss tracker .real
    | _ => h))

/-- PTP_DELAY_REQ_SEND (R42): Delay_Req, or Pdelay_Req on each port used. -/
def execPtpDelayReqSend (tracker : Fin 2) (now : Nat) (s : State) : Out :=
  .next (s.modHub (fun h =>
    let h := h.at_ now
    match h.cfg.ptp[tracker] with
    | none => h
    | some c =>
      if !h.power.mode.parser then h else
      let seq := wrapAdd 16 h.time.trackers[tracker].delaySeq 1
      let h := h.modTracker tracker (fun k => { k with delaySeq := seq })
      if c.p2p then (bitsSet 2 c.ports).foldl (fun h q => h.send (.ptp 1 c.domain (q + 1) seq)) h
      else if h.time.trackers[tracker].state = .notAcquired then h
      else h.send (.ptp 0 c.domain h.time.trackers[tracker].port seq)))

/-- PTP_DELAY_RESP_RECEIVED (R42): the answer to the request of this sequence number gives the path delay. -/
def execPtpDelayRespReceived (tracker : Fin 2) (now seq delay : Nat) (s : State) : Out :=
  .next (s.modHub (fun h =>
    let h := h.at_ now
    if h.cfg.ptp[tracker].isSome ∧ h.time.trackers[tracker].delaySeq = seq then
      h.modTracker tracker (fun k => { k with meanPathDelay := delay % 2 ^ 32 })
    else h))

/-- PTP_PDELAY_REQ_RECEIVED (R42): answered on every port where a tracker uses peer-to-peer delay. -/
def execPtpPdelayReqReceived (now port domain seq : Nat) (s : State) : Out :=
  .next (s.modHub (fun h =>
    let h := h.at_ now
    let uses := h.cfg.ptp.toList.any (fun c => match c with
      | some c => c.p2p && bit c.ports (port - 1) && decide (1 ≤ port)
      | none => false)
    if uses && h.power.mode.parser then (h.send (.ptp 2 domain port seq)).send (.ptp 3 domain port seq) else h))

/-! ### TB3 (R46, R47) -/

/-- The reference of Table 2.6. A change back to the selected tracker waits until that has been LOCKED for reference_return_s. -/
def Hub.tb3Reference (h : Hub) : Tb3Ref :=
  let t := h.time
  let sel : Fin 2 := if t.select = 2 then 1 else 0
  let oth : Fin 2 := if t.select = 2 then 0 else 1
  let ref := fun (i : Fin 2) => if i = 0 then Tb3Ref.tb1 else Tb3Ref.tb2
  let lockedFor := t.now - t.trackers[sel].lockedAt
  if t.trackers[sel].state = .locked then
    if t.tb3Ref = ref oth ∧ t.trackers[oth].state = .locked ∧ lockedFor < h.cfg.timeBase.returnS * 1000000000 then ref oth
    else ref sel
  else if t.trackers[oth].state = .locked then ref oth
  else if t.tb3Ref = .seeded then .seeded else .holdover

/-- A slew offset reduced at 50 ppm of `dt` ns: the offset and the fraction left (R47). -/
def reduceSlew (slew : Int) (frac dt : Nat) : Int × Nat :=
  let v := frac + 50 * dt
  let step : Int := (v / 1000000 : Nat)
  if slew = 0 then (0, 0)
  else if 0 < slew then (max 0 (slew - step), v % 1000000)
  else (min 0 (slew + step), v % 1000000)

/-- TB3_REFERENCE_EVALUATION at a tick start (R46, R47): the one step of the epoch, a new slew at a change of reference, or the
running slew. -/
def Hub.evaluateTb3 (h : Hub) : Hub :=
  let t := h.time
  let new := h.tb3Reference
  let dt := t.now - t.slewAt
  match new with
  | .seeded | .holdover =>
    { h with time := { t with tb3Ref := new, slewAt := t.now } }
  | _ =>
    let k := t.trackers[if new = .tb1 then (0 : Fin 2) else 1]
    let base := { t with
      tb3Ref := new, slewAt := t.now, tb3Rate := k.ratePpb, utcOffset := k.utcOffset, utcValid := k.utcValid }
    if !t.tb3Stepped then
      { h with time := { base with tb3 := k.value, tb3Frac := k.frac, slew := 0, slewFrac := 0, tb3Stepped := true } }
    else if new ≠ t.tb3Ref then
      { h with time := { base with slew := (t.tb3 : Int) - k.value, slewFrac := 0 } }
    else
      let (sl, fr) := reduceSlew t.slew t.slewFrac dt
      { h with time := { base with slew := sl, slewFrac := fr, tb3 := ((k.value : Int) + sl).toNat, tb3Frac := k.frac } }

/-! ### TB_CONTROL (R48, R50, R55, R58) -/

/-- A write of SELECT; 0 and 3 leave the field unchanged. -/
def Hub.setSelect (v : Nat) (h : Hub) : Hub := if v = 1 ∨ v = 2 then { h with time.select := v } else h

def Hub.setSteerEn (b : Bool) (h : Hub) : Hub := { h with time.steerEn := b }

/-- A released write of TB_CONTROL. -/
def Hub.writeTbControl (v : Nat) (h : Hub) : Hub := (h.setSelect (bits v 0 2)).setSteerEn (bit v 4)

/-- TB3_SELECT (R48): a released write of SELECT. -/
def execTb3Select (v : Nat) (s : State) : Out := .next (s.modHub (Hub.setSelect v))

/-- STEER_ENABLE (R50): a released write of STEER_EN, in force from the next sentence boundary. -/
def execSteerEnable (on : Bool) (s : State) : Out := .next (s.modHub (Hub.setSteerEn on))

/-! ### Block 1 (R54) -/

def Hub.tbStatus (h : Hub) : Nat :=
  let t := h.time
  t.tb3Ref.code + 4 * b2n t.tb3Stepped + 8 * b2n (t.slew != 0) + 16 * b2n t.rtcHeld + 32 * b2n t.steerActive +
    64 * b2n (t.steerPpb == 100000 || t.steerPpb == -100000) + 128 * b2n t.tb4Valid + 256 * t.trackers[(0 : Fin 2)].state.code +
    1024 * t.trackers[(1 : Fin 2)].state.code + 4096 * b2n t.trackers[(0 : Fin 2)].loss + 8192 * b2n t.trackers[(1 : Fin 2)].loss +
    16384 * b2n t.utcValid

def Hub.tbControl (h : Hub) : Nat := h.time.select + 16 * b2n h.time.steerEn

/-- The registers of Table 2.11 as (width, value), in order, 64 bytes. -/
def Hub.domainFields (h : Hub) (i : Fin 2) : List (Nat × Nat) :=
  let k := h.time.trackers[i]
  let st := k.state.code + 4 * b2n k.stepUsed + 8 * k.port +
    (match h.cfg.ptp[i] with | some c => 32 * b2n c.p2p + 256 * c.domain | none => 0) + 2 ^ 16 * (k.clockClass % 256)
  [(4, st), (4, k.lossCount), (8, k.masterId), (8, ofSigned 64 k.masterOffset), (4, ofSigned 32 k.ratePpb),
   (4, k.meanPathDelay), (8, ofSigned 64 k.stepNs), (8, k.lastSyncTb0), (16, 0)]

/-- ALIGN of a lane: 0x8000 for a lane not powered. -/
def alignField (a : Option Int) : Nat :=
  match a with
  | some v => ofSigned 16 v
  | none => 0x8000

/-- Block 1 (Table 2.8) as (offset, width, value). -/
def Hub.block1 (h : Hub) : List (Nat × Nat × Nat) :=
  let t := h.time
  let al := fun (l : LaneId) => alignField t.align[l]
  [(0x00, 8, t.tick), (0x08, 8, h.sentence), (0x10, 4, h.tickInSentence), (0x14, 4, h.nCycles), (0x18, 4, h.sTicks),
   (0x1C, 4, ofSigned 32 t.steerPpb), (0x20, 8, t.tb0), (0x28, 8, t.trackers[(0 : Fin 2)].value),
   (0x30, 8, t.trackers[(1 : Fin 2)].value), (0x38, 8, t.tb3), (0x40, 8, t.tb4), (0x48, 8, ofSigned 64 t.slew),
   (0x50, 4, h.tbStatus), (0x54, 4, h.tbControl), (0x58, 4, ofSigned 32 t.utcOffset), (0x60, 4, al 0 + 2 ^ 16 * al 1),
   (0x64, 4, al 2 + 2 ^ 16 * al 3), (0x68, 8, h.backup.rtcSeconds)] ++ layFields 0x100 (h.domainFields 0) ++
    layFields 0x140 (h.domainFields 1)

/-! ### Opcodes -/

/-- SELECT_TIME_DOMAIN (R58): it takes effect at the next release. -/
def opSelectTimeDomain : OpSpec where
  op := .selectTimeDomain
  level := baseLevel .selectTimeDomain
  layout := exactly 4
  check := fun s _ p => firstFail [modeIs Mode.parser s, param (u8 p 0 == 1 || u8 p 0 == 2), param (decide (u8 p 1 ≤ 2)),
    param (allZero (slice p 2 2))]
  act := fun r p s => s.modHub (Hub.defer r .selectTimeDomain p (releaseKey 1 0x54))

/-- Its effect at the release, and its reply's parameters. -/
def Hub.applySelectTimeDomain (p : Bytes) (h : Hub) : Hub :=
  let h := h.setSelect (u8 p 0)
  match u8 p 1 with
  | 1 => h.setSteerEn true
  | 2 => h.setSteerEn false
  | _ => h

def Hub.replySelectTimeDomain (h : Hub) : Bytes :=
  beBytes 1 h.time.select ++ beBytes 1 h.time.tb3Ref.code ++ beBytes 1 (b2n h.time.steerEn) ++ [0#8] ++ beSigned 8 h.time.slew

def execSelectTimeDomain (r : Req) (p : Bytes) (s : State) : Out := .next (opSelectTimeDomain.run r p s)

/-- GET_PTP_STATUS (R59): 140 bytes taken at one tick start. -/
def opGetPtpStatus : OpSpec where
  op := .getPtpStatus
  level := baseLevel .getPtpStatus
  layout := exactly 0
  check := fun s _ _ => firstFail [modeIs Mode.parser s]
  act := fun r _ s => s.modHub (Hub.reply r .getPtpStatus .ok (beBytes 4 s.snap.tbStatus ++ beBytes 8 s.snap.time.tb3 ++
    (s.snap.domainFields 0 ++ s.snap.domainFields 1).flatMap (fun f => beBytes f.1 f.2)))

def execGetPtpStatus (r : Req) (p : Bytes) (s : State) : Out := .next (opGetPtpStatus.run r p s)

end Sys2Proof.Machine
end

