-- ==== Sys2Proof/Machine/Measure.lean ====
section
/-! DEFINITION. The measurement chain in a lane (chapter 07): the records of a tick, the calibration areas, the conversion and
auto-zero; and the records SD_CHANNEL and SD_CALIBRATION. -/
namespace Sys2Proof.Machine

/-! ### Records (R193) -/

def isFinite32 (v : Nat) : Bool := v / 2 ^ 23 % 256 != 255

def parsePoint (b : Bytes) : CalPoint :=
  { raw := toSigned 32 (le32 b 0), physical := le32 b 4, temperature := toSigned 16 (le16 b 8), load := le16 b 10,
    spread := le32 b 12 }

def CalPoint.bytesLe (p : CalPoint) : Bytes :=
  leBytes 4 (ofSigned 32 p.raw) ++ leBytes 4 p.physical ++ leBytes 2 (ofSigned 16 p.temperature) ++ leBytes 2 p.load ++
    leBytes 4 p.spread

def CalPoint.bytesBe (p : CalPoint) : Bytes :=
  beBytes 4 (ofSigned 32 p.raw) ++ beBytes 4 p.physical ++ beBytes 2 (ofSigned 16 p.temperature) ++ beBytes 2 p.load ++
    beBytes 4 p.spread

def CalSet.used (s : CalSet) : List CalPoint := s.filterMap id

/-- The used points in ascending raw order (R190). -/
def CalSet.sorted (s : CalSet) : List CalPoint := sortBy (fun a b => decide (a.raw ≤ b.raw)) s.used

/-- Neighbouring raw values at least 1,024 counts apart. -/
def gapsOk : List CalPoint → Bool
  | a :: b :: r => decide (1024 ≤ b.raw - a.raw) && gapsOk (b :: r)
  | _ => true

/-- R190 and R193: 0, 2, 3 or 4 used points, far enough apart, with finite physical values. -/
def CalSet.ok (s : CalSet) : Bool :=
  s.used.length != 1 && gapsOk s.sorted && s.used.all (fun p => isFinite32 p.physical)

/-- One channel of SD_CALIBRATION (Table 7.13). -/
def parseCalSet (b : Bytes) : Option CalSet :=
  let s : CalSet := (List.range 4).map (fun i => if bit (u8 b 0) i then some (parsePoint (slice b (4 + 16 * i) 16)) else none)
  if u8 b 0 < 16 ∧ allZero (slice b 1 3) ∧ s.ok then some s else none

def parseSdCalibration (b : Bytes) : Option (List CalSet) :=
  if b.length = 1088 then (List.range 16).mapM (fun k => parseCalSet (slice b (68 * k) 68)) else none

def parseSdChan (b : Bytes) : Option SdCfg :=
  if u8 b 0 ≤ 1 ∧ u8 b 1 ≤ 3 ∧ u8 b 2 ≤ 1 ∧ u8 b 3 ≤ 2 ∧ u8 b 4 < 64 ∧ u8 b 5 = 0 ∧ 1 ≤ le16 b 6 ∧ le32 b 8 ≤ 2 ^ 23 ∧
      le16 b 12 ≤ 32767 ∧ le16 b 14 = 0 ∧ isFinite32 (le32 b 16) ∧ isFinite32 (le32 b 20) then
    some { enabled := u8 b 0 == 1, preset := u8 b 1, skew := u8 b 2 == 1, azMode := u8 b 3, azPairs := u8 b 4, azTicks := le16 b 6,
           azLimit := le32 b 8, step := le16 b 12, gain := le32 b 16, offset := le32 b 20 }
  else none

def parseSdChannel (b : Bytes) : Option (List SdCfg) :=
  if b.length = 384 then (List.range 16).mapM (fun k => parseSdChan (slice b (24 * k) 24)) else none

/-! ### Channels -/

def Cfg.sdOf (c : Cfg) (k : Nat) : SdCfg := c.sd.getD k {}

/-- Group of a channel: 0 A (SD0 to SD7), 1 B (R171). -/
def sdGroup (k : Nat) : Nat := k / 8

/-- The enabled channels of a group. -/
def Cfg.groupChannels (c : Cfg) (g : Nat) : List Nat := (List.range 16).filter (fun k => sdGroup k == g && (c.sdOf k).enabled)

/-- Settling time of a preset in ns (Table 7.1). -/
def settlingNs (preset : Nat) : Nat :=
  match preset with | 0 => 20000 | 1 => 58000 | 2 => 222000 | _ => 2202000

/-! ### Channel state in lane store (Tables 7.5 and 7.6) -/

def chanAddr (k : Nat) : Nat := storeBase + 0x800 + 0x80 * k

structure ChanState where
  count : Nat
  azState : Nat
  azResult : Nat
  azOffset : Int
  gain : Nat
  offset : Nat
  excursion : Nat
  /-- (raw, physical) of points 0 to 3. -/
  points : List (Int × Nat)
deriving DecidableEq, Repr

def Mem.chan (m : Mem) (k : Nat) : ChanState :=
  let b := m.readN (chanAddr k) 128
  { count := u8 b 0, azState := u8 b 1, azResult := u8 b 2, azOffset := toSigned 32 (le32 b 4), gain := le32 b 8, offset := le32 b 12,
    excursion := u8 b 16,
    points := (List.range 4).map (fun i => (toSigned 32 (le32 b (32 + 16 * i)), le32 b (36 + 16 * i))) }

def Mem.setAz (k state result : Nat) (offset : Int) (m : Mem) : Mem :=
  (m.writeN (chanAddr k + 1) [BitVec.ofNat 8 state, BitVec.ofNat 8 result]).writeLe (chanAddr k + 4) 4 (ofSigned 32 offset)

def ChanState.raw (c : ChanState) (i : Nat) : Int := (c.points.getD i (0, 0)).1
def ChanState.phys (c : ChanState) (i : Nat) : Nat := (f32.convert f64 (c.points.getD i (0, 0)).2).1

/-- The segment of R187's loop. -/
def segment (c : ChanState) (x : Int) : Nat → Nat → Nat
  | 0, i => i
  | n + 1, i => if i + 2 < c.count ∧ c.raw (i + 1) < x then segment c x n (i + 1) else i

/-- The range test of R187 and R188: 0 inside, 1 below, 2 above. -/
def ChanState.side (c : ChanState) (x : Int) : Nat :=
  if c.count = 0 then 0 else if x < c.raw 0 then 1 else if c.raw (c.count - 1) < x then 2 else 0

/-- R187 in binary64, rounded once to binary32. -/
def ChanState.convert (c : ChanState) (fine : Int) : Nat :=
  let x := fine - c.azOffset
  let num := fun (i : Int) => (f64.ofInt i).1
  if c.count = 0 then
    (f64.convert f32 (f64.add (f64.mul (num x) (f32.convert f64 c.gain).1).1 (f32.convert f64 c.offset).1).1).1
  else
    let i := segment c x 4 0
    let slope := (f64.div (f64.sub (c.phys (i + 1)) (c.phys i)).1 (num (c.raw (i + 1) - c.raw i))).1
    (f64.convert f32 (f64.add (c.phys i) (f64.mul (num (x - c.raw i)) slope).1).1).1

/-- The 128 bytes that a load writes: the set, sorted, and the nominal values; `keep` are the auto-zero bytes and the excursion that
stay (none at a restart and at entry to SERVICE). -/
def chanBytes (set : CalSet) (c : SdCfg) (keep : Option ChanState) : Bytes :=
  let pts := set.sorted
  let az := match keep with
    | some k => beBytes 1 k.azState ++ beBytes 1 k.azResult ++ [0#8] ++ leBytes 4 (ofSigned 32 k.azOffset)
    | none => zeros 7
  let exc := match keep with | some k => k.excursion | none => 0
  beBytes 1 pts.length ++ az ++ leBytes 4 c.gain ++ leBytes 4 c.offset ++ beBytes 1 exc ++ zeros 15 ++
    fitBytes 64 (pts.flatMap CalPoint.bytesLe) ++ zeros 32

/-- The configuration that the active slot holds (R467): the valid generation with the higher sequence. -/
def Hub.activeGen (h : Hub) : Option ConfigGen :=
  match h.slots.active with
  | none => none
  | some a =>
    match vgetN h.slots.gens (2 * a) none, vgetN h.slots.gens (2 * a + 1) none with
    | some x, some y => if x.sequence < y.sequence then some y else some x
    | some x, none => some x
    | none, y => y

/-- The committed change set that applies: none under another APP image's measurement (R468). -/
def Hub.committed (h : Hub) : List Change :=
  match h.activeGen with
  | some g => if g.appMeasurement == h.sched.measurement then g.changes else []
  | none => []

/-- The set of a channel by R190 and whether it is the stored one. -/
def Hub.calSource (h : Hub) (k : Nat) : CalSet × Bool :=
  let stored := match h.activeGen with | some g => g.cal.getD k none | none => none
  match stored with
  | some s => (s, true)
  | none => (h.cfg.sdCal.getD k CalSet.empty, false)

/-- Load the calibration of every channel into every powered lane (R190); at a restart and at entry to SERVICE auto-zero starts
afresh (R191). -/
def State.loadCalibration (fresh : Bool) (s : State) : State :=
  let h := s.hub
  let s := s.mapLanes (fun j l =>
    if !(vgetN h.vote.laneState j .off).powered then l else
    let m := (List.range 16).foldl (fun (m : Mem) k =>
      m.writeN (chanAddr k) (chanBytes (h.calSource k).1 (h.cfg.sdOf k) (if fresh then none else some (m.chan k)))) l.mem
    if fresh then { l with mem := m, az := Vector.replicate 16 { due := true } } else { l with mem := m })
  s.modHub (fun h => { h with
    meas.set := vmapIdx (fun k _ => (h.calSource k).1) h.meas.set
    meas.stored := ofBits ((List.range 16).map (fun k => (h.calSource k).2))
    meas.loadNext := false })

/-! ### The record of a tick (R178, R181, R183, R185, R188) -/

/-- Deliver one channel's record at the tick instant. `fine` is the resampler's value. -/
def Lane.deliver (c : SdCfg) (m : Mem) (now k : Nat) (fine : Int) (x : SdIn) : SdIn × SdRec :=
  if !c.enabled then (x, {}) else
  let held := x.clockLoss || x.stuck
  let f := if held then x.fine else clampInt (-(2 ^ 23)) (2 ^ 23) fine
  let co := if held then x.coarse else x.path
  let diff := co * 256 - f
  let step : Bool := c.step != 0 && decide ((c.step : Int) * 256 < diff ∨ diff < -((c.step : Int) * 256))
  let ev := if step then some now else x.eventAt
  let unsettled := match ev with | some t => decide (now - t < settlingNs x.preset) | none => false
  let st := m.chan k
  let q := b2n unsettled + 2 * b2n (st.side (f - st.azOffset) != 0) + 4 * b2n x.clockLoss + 8 * b2n x.stuck
  ({ x with fine := f, coarse := co, eventAt := ev, stuck := false }, { fine := f, coarse := co, quality := q, tick := 0 })

/-- The records of all channels. -/
def Lane.sampleSd (cfg : Cfg) (now tick : Nat) (fines : List Int) (l : Lane) : Lane × List SdRec :=
  let both := (List.range 16).map (fun k => Lane.deliver (cfg.sdOf k) l.mem now k (fines.getD k 0) (vgetN l.sd k {}))
  ({ l with sd := vmapIdx (fun k x => (both.getD k (x, {})).1) l.sd }, both.map (fun p => { p.2 with tick := tick % 65536 }))

/-! ### Auto-zero (R191) -/

/-- Division rounded to nearest, ties to even. -/
def divEven (a : Int) (n : Nat) : Int :=
  let q := a / (n : Int)
  let r := a % (n : Int)
  if 2 * r < n then q else if (n : Int) < 2 * r then q + 1 else if q % 2 = 0 then q else q + 1

/-- All named pairs are blocked in the hub snapshot of the tick. -/
def Hub.azBlocked (snap : Hub) (c : SdCfg) : Bool := c.azPairs &&& snap.pwm.blocked == c.azPairs

/-- A bad agreed record: UNSETTLED, CLOCK_LOSS, STUCK or SPREAD. -/
def badQuality (q : Nat) : Bool := q &&& 0x1D != 0

/-- The auto-zero step of one tick: waiting, summing or the abort. -/
def Lane.azTick (c : SdCfg) (blocked : Bool) (r : SdRec) (k : Fin 16) (l : Lane) : Lane :=
  if c.azMode = 0 ∨ c.azPairs = 0 then l else
  let st := l.mem.chan k
  let z := l.az[k]
  let z := if blocked then z else { z with due := true }
  if st.azState = 1 && !z.go then
    { l with az := l.az.set k (if blocked then { z with go := true } else z) }
  else if st.azState = 1 ∨ (st.azState = 2 ∧ z.left ≠ 0) then
    if !blocked || badQuality r.quality then
      { l with mem := l.mem.setAz k 0 2 st.azOffset, az := l.az.set k { due := z.due } }
    else
      let left := if st.azState = 1 then c.azTicks else z.left
      { l with mem := l.mem.setAz k 2 st.azResult st.azOffset,
               az := l.az.set k { z with sum := z.sum + r.fine, left := left - 1, go := false } }
  else { l with az := l.az.set k z }

/-- Begin a measurement in one lane: a request while one is in progress is ignored. -/
def Lane.azStart (k : Fin 16) (l : Lane) : Lane :=
  let st := l.mem.chan k
  if st.azState = 0 then { l with mem := l.mem.setAz k 1 st.azResult st.azOffset, az := l.az.set k {} } else l

def State.powered (s : State) (l : LaneId) : Bool := (s.hub.laneState l).powered

def State.forPowered (f : LaneId → State → State) (s : State) : State :=
  (allLanes.filter (fun l => s.powered l)).foldl (fun (s : State) (l : LaneId) => f l s) s

/-- AUTOZERO_REQUEST (R191): a released AZ_REQ in mode 1; in mode 2 the blocking of all named pairs. -/
def execAutozeroRequest (channel : Fin 16) (s : State) : Out :=
  let c := s.hub.cfg.sdOf channel
  .next (if !c.enabled || c.azPairs == 0 || !s.hub.time.running then s
    else if c.azMode = 1 then s.forPowered (fun l => State.modLane l (Lane.azStart channel))
    else if c.azMode = 2 ∧ s.snap.azBlocked c = true then
      s.forPowered (fun l s => if (s.lane l).az[channel].due then s.modLane l (Lane.azStart channel) else s)
    else s)

/-- AUTOZERO_END (R191): the sum of autozero_ticks ticks is rounded and accepted, or beyond the limit. -/
def execAutozeroEnd (lane : LaneId) (channel : Fin 16) (s : State) : Out :=
  let c := s.hub.cfg.sdOf channel
  let l := s.lane lane
  let st := l.mem.chan channel
  .next (if st.azState = 2 ∧ l.az[channel].left = 0 ∧ (s.hub.laneState lane).powered = true then
    let v := divEven l.az[channel].sum c.azTicks
    let ok := decide (v.natAbs ≤ c.azLimit)
    s.modLane lane (fun l => { l with
      mem := l.mem.setAz channel 0 (if ok then 1 else 3) (if ok then v else st.azOffset)
      az := l.az.set channel {} })
  else s)

/-! ### Presets (R182) -/

/-- A released CH_CTRL setting: the filter engines switch at c = 0 of the next tick. -/
def Hub.setChannel (k : Nat) (preset : Nat) (skew : Bool) (h : Hub) : Hub :=
  { h with
    meas.preset := vmodN h.meas.preset k (fun _ => preset)
    meas.skew := vmodN h.meas.skew k (fun _ => skew)
    meas.switches := h.meas.switches ++ [(Switch.mk k (h.time.tick + 1) preset skew)] }

/-- PRESET_SELECT (R182). -/
def execPresetSelect (channel : Fin 16) (v : Fin 4) (s : State) : Out :=
  .next (s.modHub (fun h => h.setChannel channel v h.meas.skew[channel]))

/-- SKEW_REMOVE_SELECT (R182). -/
def execSkewRemoveSelect (channel : Fin 16) (on : Bool) (s : State) : Out :=
  .next (s.modHub (fun h => h.setChannel channel h.meas.preset[channel] on))

/-- One switch in a lane; a change of preset restarts the preset stage (R181). -/
def Lane.switch (now : Nat) (w : Switch) (l : Lane) : Lane :=
  { l with sd := vmodN l.sd w.channel (fun x =>
      { x with preset := w.preset, skew := w.skew, eventAt := if x.preset = w.preset then x.eventAt else some now }) }

/-- PRESET_SWITCH (R182): at c = 0, after the tick's values were delivered. -/
def execPresetSwitch (lane : LaneId) (s : State) : Out :=
  .next (if s.powered lane && s.hub.time.running then
    let due := s.hub.meas.switches.filter (fun w => w.tick == (s.lane lane).tick)
    s.modLane lane (fun l => due.foldl (fun l w => Lane.switch s.hub.time.now w l) l)
  else s)

/-- At the hub's tick start: the settings in use, and the switches done. -/
def Hub.settleSwitches (h : Hub) : Hub :=
  let done := h.meas.switches.filter (fun w => decide (w.tick ≤ h.time.tick))
  let h := { h with meas.switches := h.meas.switches.filter (fun w => decide (h.time.tick ≤ w.tick)) }
  done.foldl (fun (h : Hub) w => { h with
    meas.activePreset := vmodN h.meas.activePreset w.channel (fun _ => w.preset)
    meas.activeSkew := vmodN h.meas.activeSkew w.channel (fun _ => w.skew) }) h

end Sys2Proof.Machine
end

