-- ==== Sys2Proof/Machine/Trip.lean ====
section
/-! DEFINITION. The coarse path, the modulators' clocks and the trip path (chapters 07 and 08: R172, R180, R185, R194,
R205 to R209), and the record TRIP. -/
namespace Sys2Proof.Machine

/-! ### Record TRIP (Table 8.7) -/

def parseTripChan (b : Bytes) : Option TripChan :=
  if u8 b 4 < 64 ∧ u8 b 5 < 64 ∧ u8 b 6 < 8 ∧ u8 b 7 = 0 then
    some { lo := toSigned 16 (le16 b 0), hi := toSigned 16 (le16 b 2), loPairs := u8 b 4, hiPairs := u8 b 5,
           loOn := bit (u8 b 6) 0, hiOn := bit (u8 b 6) 1, onLoss := bit (u8 b 6) 2 }
  else none

def parseTripIn (b : Bytes) : Option (Nat × Bool) :=
  if u8 b 0 < 64 ∧ u8 b 1 ≤ 1 ∧ le16 b 2 = 0 then some (u8 b 0, u8 b 1 == 1) else none

def parseTrip (b : Bytes) : Option TripCfg :=
  match (List.range 16).mapM (fun k => parseTripChan (slice b (8 * k) 8)),
      (List.range 4).mapM (fun m => parseTripIn (slice b (128 + 4 * m) 4)) with
  | some cs, some is =>
    if b.length = 148 ∧ u8 b 144 ≤ 1 ∧ 2 ≤ u8 b 145 ∧ u8 b 145 ≤ 25 ∧ le16 b 146 = 0 then
      some { chan := cs, ins := is, twoOfThree := u8 b 144 == 1, window := u8 b 145 }
    else none
  | _, _ => none

/-! ### Sources (R205 to R208) -/

/-- The lanes that report coarse source `i`, among those that contribute. -/
def Hub.reporting (h : Hub) (i : Nat) : Nat :=
  laneMask (allLanes.filter (fun l => bit h.pwm.contrib l.val && bit h.pwm.reports[l] i))

/-- Whether a coarse source is active (R207). -/
def Hub.coarseActive (h : Hub) (i : Nat) : Bool :=
  let n := popcount 4 (h.reporting i)
  if h.cfg.trip.twoOfThree ∧ 3 ≤ popcount 4 h.pwm.contrib then decide (2 ≤ n) else decide (1 ≤ n)

/-- TRIP_IN m is in use and active after its filter (R206). -/
def Hub.inActive (h : Hub) (m : Nat) : Bool := bit h.pwm.ins m && (h.cfg.trip.ins.getD m (0, false)).1 != 0

def Hub.sourceActive (h : Hub) (i : Nat) : Bool := if i < 32 then h.coarseActive i else h.inActive (i - 32)

def Hub.sourcePairs (h : Hub) (i : Nat) : Nat :=
  if i < 32 then let c := h.cfg.trip.chan.getD (i / 2) {}; if i % 2 = 0 then c.loPairs else c.hiPairs
  else (h.cfg.trip.ins.getD (i - 32) (0, false)).1

/-- The detail of TRIP_COARSE or TRIP_EXTERNAL (Table 8.8); `x` is the channel in the lowest reporting lane. -/
def Hub.tripDetail (h : Hub) (i : Nat) (x : SdIn) : Detail :=
  let c := h.cfg.trip.chan.getD (i / 2) {}
  if i < 32 then
    [(1, i / 2), (1, i % 2), (1, h.reporting i), (1, h.sourcePairs i), (2, ofSigned 16 x.path),
     (2, ofSigned 16 (if i % 2 = 0 then c.lo else c.hi)), (1, if x.clockLoss then 1 else if x.stuck then 2 else 0)]
  else [(1, i - 32), (2, 0), (1, h.sourcePairs i)]

def tripFault (i : Nat) : FaultName := if i < 32 then .tripCoarse else .tripExternal

/-- A source latches (R208): its record, LAST_TRIP, and the trip of its pairs. -/
def Hub.latch (i : Nat) (x : SdIn) (o : Origin) (h : Hub) : Hub :=
  let pairs := h.sourcePairs i
  let h := { h with pwm := { h.pwm with
    tripLatch := setBit h.pwm.tripLatch i
    lastTrip := i + 256 * (if i < 32 then h.reporting i else 0) + 2 ^ 16 * pairs
    lastTripTb0 := h.tb0Now } }
  (h.raise (tripFault i) [i] (if i < 32 then h.reporting i else 0) (h.tripDetail i x) o).pwmHold

/-- The channel as the lowest reporting lane holds it. -/
def State.tripChannel (s : State) (i : Nat) : SdIn :=
  match bitsSet 4 (s.hub.reporting i) with
  | j :: _ => match fin? 4 j with | some l => vgetN (s.lane l).sd (i / 2) {} | none => {}
  | [] => {}

/-- Re-evaluate one source: TRIP_ACTIVE follows it, and a source that is active and not latched latches. -/
def State.evalSource (i : Nat) (o : Origin) (s : State) : State :=
  let a := s.hub.sourceActive i
  let s := s.modHub (fun h => { h with pwm.tripActive := putBit h.pwm.tripActive i a })
  if a && !bit s.hub.pwm.tripLatch i && s.hub.time.running then s.modHub (Hub.latch i (s.tripChannel i) o) else s

/-- The coarse sources after a change of the contributing lanes, which comes at a hub tick start only (R207). -/
def State.evalCoarse (s : State) : State := (List.range 32).foldl (fun (s : State) i => s.evalSource i .real) s

/-- What a lane reports of one side of a channel. -/
def TripChan.reports (c : TripChan) (hiSide : Bool) (x : SdIn) : Bool :=
  let on := if hiSide then c.hiOn else c.loOn
  let held := x.clockLoss || x.stuck
  if !on then false
  else if held && c.onLoss then true
  else if x.age < 2 then false
  else if hiSide then decide (c.hi < x.path) else decide (x.path < c.lo)

/-- A lane compares one channel with its thresholds (R205). An injection of TRIP_COARSE forces the comparison of its source
(the resource is the source number) in the named lanes (Table 8.8). -/
def State.compareChannel (l : LaneId) (k : Nat) (s : State) : State :=
  let c := s.hub.cfg.trip.chan.getD k {}
  let x := vgetN (s.lane l).sd k {}
  let side := fun (s : State) (hiSide : Bool) =>
    let i := 2 * k + b2n hiSide
    let real := c.reports hiSide x
    let arm := s.hub.armed .tripCoarse (fun a => bit a.lanes l.val && a.resource == i)
    let forced := match arm with | some a => !a.reportOnly | none => false
    let s := s.modHub (fun h => { h with pwm.reports := h.pwm.reports.set l (putBit h.pwm.reports[l] i (real || forced)) })
    let s := match arm with
      | some a => if a.reportOnly && !real && !bit s.hub.pwm.tripLatch i then
          s.modHub (Hub.raise .tripCoarse [i] (setBit 0 l.val) (s.hub.tripDetail i x) .reportOnly) else s
      | none => s
    let s := s.evalSource i (if real || arm.isNone then .real else .injected)
    match arm with | some a => s.modHub (Hub.disarmLane a l) | none => s
  side (side s false) true

/-- Every channel of a group in one lane. -/
def State.compareGroup (l : LaneId) (g : Nat) (s : State) : State :=
  (s.hub.cfg.groupChannels g).foldl (fun (s : State) (k : Nat) => s.compareChannel l k) s

/-- COARSE_DECIMATION (R180, R205): `sum` is the sinc2 output of a decimation instant, 0 to 256. A held channel keeps its value. -/
def execCoarseDecimation (lane : LaneId) (channel : Fin 16) (sum : Nat) (now : Nat) (s : State) : Out :=
  .next (if !s.hub.time.running || !(s.powered lane) || !(s.hub.cfg.sdOf channel).enabled then s else
    let s := s.modHub (Hub.at_ now)
    let v := min 32767 ((((min sum 256 : Nat) : Int) - 128) * 256)
    let s := s.modLane lane (fun l => { l with sd := vmod l.sd channel (fun x =>
      if x.clockLoss || x.stuck then x else { x with path := v, age := min 2 (x.age + 1) }) })
    s.compareChannel lane channel)

/-! ### Clocks and data lines (R172, R185, R194) -/

/-- SD_CLOCK_LOSS reported by a lane. -/
def State.clockLoss (l : LaneId) (g : Nat) (o : Origin) (s : State) : State :=
  let det : Detail := [(1, g), (1, setBit 0 l.val), (6, s.hub.time.tick)]
  let s := s.modHub (Hub.laneRaise .sdClockLoss [g] l 1 det o)
  if o = .reportOnly then s else
  let hit := s.hub.cfg.groupChannels g
  let s := s.modLane l (fun x => { x with sd := vmapIdx (fun k c => if hit.contains k then { c with clockLoss := true } else c) x.sd })
  s.compareGroup l g

/-- SD_CLOCK_LOSS (R185): a clock edge of the group missing for 200 ns in a lane. -/
def execSdClockLoss (lane : LaneId) (group : Fin 2) (now : Nat) (s : State) : Out :=
  .next (if s.hub.time.running && s.powered lane && !(s.hub.cfg.groupChannels group).isEmpty then
    (s.modHub (Hub.at_ now)).clockLoss lane group .real else s)

/-- SD_DATA_STUCK reported by a lane; `level` is the level held. -/
def State.dataStuck (l : LaneId) (k : Nat) (level : Bool) (o : Origin) (s : State) : State :=
  let s := s.modHub (Hub.laneRaise .sdDataStuck [k] l 1 [(1, k), (1, setBit 0 l.val), (1, b2n level)] o)
  if o = .reportOnly then s else
  (s.modLane l (fun x => { x with sd := vmodN x.sd k (fun c => { c with stuck := true }) })).compareChannel l k

/-- SD_DATA_STUCK (R185): 64 clock periods without a transition since the last tick instant. -/
def execSdDataStuck (lane : LaneId) (channel : Fin 16) (level : Bool) (now : Nat) (s : State) : Out :=
  .next (if s.hub.time.running && s.powered lane && (s.hub.cfg.sdOf channel).enabled then
    (s.modHub (Hub.at_ now)).dataStuck lane channel level .real else s)

/-- MODULATOR_RESTART (R172): a clock start or the end of a clock loss in a lane. Both paths start from an empty state, the settling
time begins (R181), and SD_CLOCK_LOSS clears with the last reporting lane's restart. -/
def execModulatorRestart (lane : LaneId) (group : Fin 2) (now : Nat) (s : State) : Out :=
  .next (if !s.hub.time.running || !(s.powered lane) then s else
    let s := s.modHub (Hub.at_ now)
    let hit := s.hub.cfg.groupChannels group
    let t := s.hub.time.now
    let s := s.modLane lane (fun x => { x with sd := vmapIdx (fun k c =>
      if hit.contains k then { c with clockLoss := false, age := 0, eventAt := some t } else c) x.sd })
    let still := allLanes.any (fun l => hit.any (fun k => (vgetN (s.lane l).sd k {}).clockLoss))
    let s := if still then s else s.modHub (Hub.clearFault .sdClockLoss [group.val] id)
    s.compareGroup lane group)

/-- At the hub's tick start: SD_DATA_STUCK clears in the first tick in which no lane's record carries STUCK (Table 7.14). -/
def State.clearStuck (s : State) : State :=
  let set := fun (k : Nat) => allLanes.any (fun l => s.powered l && bit ((s.lane l).own.sd.getD k {}).quality 3)
  ((List.range 16).filter (fun k => s.hub.faultActive .sdDataStuck [k] && !set k)).foldl
    (fun (s : State) (k : Nat) => s.modHub (Hub.clearFault .sdDataStuck [k] id)) s

/-! ### External inputs (R206) -/

/-- TRIP_IN_EDGE (R206): the filtered input took a level. -/
def execTripInEdge (input : Fin 4) (high : Bool) (now : Nat) (s : State) : Out :=
  .next (let s := s.modHub (Hub.at_ now)
    let a := high == (s.hub.cfg.trip.ins.getD input (0, false)).2
    (s.modHub (fun h => { h with pwm.ins := putBit h.pwm.ins input a })).evalSource (32 + input.val) .real)

/-! ### Clearing (R209, R211) -/

/-- Apply clear requests: cleared and refused sources. -/
def Hub.tripClear (mask : Nat) (h : Hub) : Hub × Nat × Nat :=
  let asked := bitsSet 36 mask
  let refused := asked.filter (fun i => h.sourceActive i)
  let cleared := asked.filter (fun i => bit h.pwm.tripLatch i && !h.sourceActive i)
  let cm := cleared.foldl setBit 0
  let rm := refused.foldl setBit 0
  let h := { h with pwm := { h.pwm with
    tripLatch := clearBits h.pwm.tripLatch cm, clearRefused := clearBits h.pwm.clearRefused cm ||| rm } }
  (cleared.foldl (fun (h : Hub) i => h.clearFault (tripFault i) [i] id) h, cm, rm)

/-- TRIP_CLEAR_REQUEST (R209): a voted write of TRIP_CLEAR at the release, in VOTED, DUPLEX and SPLIT. -/
def execTripClearRequest (mask : Nat) (s : State) : Out :=
  .next (if s.hub.power.mode.isRunning then s.modHub (fun h => (h.tripClear mask).1) else s)

end Sys2Proof.Machine
end

