-- ==== Sys2Proof/Machine/Agree.lean ====
section
/-! DEFINITION. Agreement (chapter 05: R115 to R120, R540; chapter 07: R186 to R191, R194, R196): frames, receipt vectors, selection,
and what each lane computes from the agreed values. -/
namespace Sys2Proof.Machine

/-! ### Frames and receipt vectors (R115) -/

/-- AGREEMENT_FRAME_RECEIVED: a frame is marked received when it is whole, in time, and carries the receiver's tick. -/
def execAgreementFrameReceived (lane sender : LaneId) (rx : Rx) (s : State) : Out :=
  .next (if s.linked lane sender then
    let (s, rx) := s.frameRx lane sender 0 rx
    let f := (s.lane sender).own
    if rx = .whole ∧ f.tick = (s.lane lane).tick % 65536 then
      s.modLane lane (fun l => { l with frames := l.frames.set sender (some f) })
    else s
  else s)

/-- The frames a lane holds, its own included. -/
def State.framesOf (s : State) (l : LaneId) (j : LaneId) : Option AgFrame := if j = l then some (s.lane l).own else (s.lane l).frames[j]

/-- RECEIPT_VECTOR_SEND: at c = 900. -/
def execReceiptVectorSend (lane : LaneId) (s : State) : Out :=
  .next (if s.hub.time.running && s.powered lane then
    let s := s.reportMissing lane 0
    let m := laneMask (allLanes.filter (fun j => (s.framesOf lane j).isSome))
    s.modLane lane (fun l => { l with receipts := l.receipts.set lane (some m), heard := setBit l.heard (4 + lane.val) })
  else s)

/-- RECEIPT_VECTOR_RECEIVED. -/
def execReceiptVectorReceived (lane sender : LaneId) (rx : Rx) (s : State) : Out :=
  .next (if s.linked lane sender then
    let (s, rx) := s.frameRx lane sender 4 rx
    if rx = .whole ∧ (s.lane sender).tick % 65536 = (s.lane lane).tick % 65536 then
      s.modLane lane (fun l => { l with receipts := l.receipts.set sender ((s.lane sender).receipts[sender]) })
    else s
  else s)

/-! ### Selection (R117 to R119) -/

/-- The lanes among which a lane selects: group B among itself, every other lane from the contributing lanes. -/
def State.peers (s : State) (l : LaneId) : List LaneId :=
  if s.hub.laneState l = .splitB then allLanes.filter (fun j => s.hub.laneState j == .splitB) else s.hub.contributing

/-- The lanes whose frames the lane selects from (R117). -/
def State.selection (s : State) (l : LaneId) : List LaneId :=
  let ps := s.peers l
  ps.filter (fun j => ps.all (fun i => match (s.lane l).receipts[i] with | some m => bit m j.val | none => true) &&
    (s.framesOf l j).isSome)

/-- agree_binary of R118, one bit at a time. -/
def agreeBit (v : List Bool) (safe : Bool) : Bool :=
  let ones := (v.filter id).length
  match v.length with
  | 1 => decide (ones = 1)
  | 2 => if ones = 2 then true else if ones = 0 then false else safe
  | 3 => decide (2 ≤ ones)
  | _ => if 3 ≤ ones then true else if ones = 2 then safe else false

def agreeBinary (v : List Nat) (safe : Nat) : Nat :=
  ofBits ((List.range 32).map (fun b => agreeBit (v.map (fun x => bit x b)) (bit safe b)))

/-- agree_integer of R118. -/
def agreeInteger (v : List Int) (higher : Bool) : Int :=
  let w := sortInts v
  match w.length with
  | 0 => 0
  | 1 => w.getD 0 0
  | 3 => w.getD 1 0
  | 2 => if higher then w.getD 1 0 else w.getD 0 0
  | _ => if higher then w.getD 2 0 else w.getD 1 0

/-- Stamps and counters are compared as the pseudocode's int32 values and kept as 32-bit words. -/
def agreeWord (v : List Nat) : Nat := ofSigned 32 (agreeInteger (v.map (toSigned 32)) false)

/-- A quality bit (R119): by OR for one or two records, by two of three or four. -/
def agreeQuality (v : List Nat) : Nat :=
  let need := if v.length ≤ 2 then 1 else 2
  ofBits ((List.range 4).map (fun b => decide (need ≤ (v.filter (fun q => bit q b)).length)))

/-- The agreed record of an enabled channel, SPREAD apart. -/
def agreeRecord (c : AgreeSd) (tick : Nat) (v : List SdRec) : SdRec :=
  { fine := agreeInteger (v.map (fun r => r.fine)) c.higher, coarse := agreeInteger (v.map (fun r => r.coarse)) c.higher,
    quality := agreeQuality (v.map (fun r => r.quality)), tick := tick }

def intSpread (v : List Int) : Int := match v with | [] => 0 | x :: xs => xs.foldl max x - xs.foldl min x

/-- The agreed image as bytes 0 to 399 (Table 5.3); bytes 0 and 1 are zero. -/
def AgFrame.bytes (f : AgFrame) : Bytes :=
  zeros 2 ++ leBytes 2 f.tick ++ leBytes 4 f.di ++ leBytes 4 f.wire ++ leBytes 4 f.edge ++ f.stamps.flatMap (leBytes 4) ++
    f.counters.flatMap (leBytes 4) ++ f.sd.flatMap (fun r => leBytes 4 (ofSigned 32 r.fine) ++ leBytes 2 (ofSigned 16 r.coarse) ++
      leBytes 2 r.quality ++ leBytes 2 r.tick ++ zeros 6)

/-- The selected image; SPREAD is added afterwards. -/
def Cfg.select (c : Cfg) (tick : Nat) (fs : List AgFrame) : AgFrame :=
  let t := tick % 65536
  let safe := c.agreeDi.safeValue
  { tick := t, di := agreeBinary (fs.map (fun f => f.di)) safe, wire := agreeBinary (fs.map (fun f => f.wire)) (2 ^ 32 - 1),
    edge := agreeBinary (fs.map (fun f => f.edge)) 0,
    stamps := (List.range 24).map (fun k => agreeWord (fs.map (fun f => f.stamps.getD k 0))),
    counters := (List.range 8).map (fun k => agreeWord (fs.map (fun f => f.counters.getD k 0))),
    sd := (List.range 16).map (fun k =>
      if (c.sdOf k).enabled then agreeRecord (c.agreeSd.getD k {}) t (fs.map (fun f => f.sd.getD k {})) else { tick := t }) }

/-! ### Disagreement (R120) -/

/-- An injection named for this lane's sample of a channel (R508): bit flips of one DI, by whether it is report-only. -/
def Hub.diInjected (h : Hub) (rep : Bool) (j : LaneId) (k : Nat) : Bool :=
  (h.armed .inputDisagreement (fun a => bit a.lanes j.val && a.resource == k && a.reportOnly == rep)).isSome

/-- One DI of one lane's agreement. -/
def State.diChannel (l : LaneId) (sel : List LaneId) (k : Nat) (s : State) : State :=
  let level := fun (j : LaneId) => bit ((s.framesOf l j).getD {}).di k
  let differs := fun (v : List Bool) => v.any id && v.any not
  let real := differs (sel.map level)
  let seen := differs (sel.map (fun j => level j != s.hub.diInjected false j k))
  let rep := differs (sel.map (fun j => level j != s.hub.diInjected true j k))
  let x := s.lane l
  let hit := real || seen
  let run := if hit || rep then vgetN x.diRun k 0 + 1 else 0
  let cnt := if hit then satAdd 16 (vgetN x.diCount k 0) 1 else vgetN x.diCount k 0
  let due := decide (s.hub.cfg.agreeDi.persist.getD k 8 ≤ run)
  let act := hit && (due || bit x.diActive k)
  let s := s.modLane l (fun x => { x with
    diRun := vmodN x.diRun k (fun _ => run), diCount := vmodN x.diCount k (fun _ => cnt), diActive := putBit x.diActive k act })
  if s.hub.sourceLane != some l then s
  else
    let det : Detail := [(1, k), (1, laneMask (sel.filter level)), (2, cnt)]
    let mask := laneMask sel
    if act && !s.hub.faultActive .inputDisagreement [k] then
      s.modHub (Hub.raise .inputDisagreement [k] mask det (if real then .real else .injected))
    else if rep && !hit && due then
      if s.hub.faultActive .inputDisagreement [k] then s
      else s.modHub (Hub.raise .inputDisagreement [k] mask det .reportOnly)
    else if !hit && !rep && s.hub.faultActive .inputDisagreement [k] then
      s.modHub (Hub.clearFault .inputDisagreement [k] id)
    else s

/-! ### WIRE_BREAK (R220) -/

/-- WIRE_BREAK of one channel, as the source lane's agreed status shows it. A named lane's status already carries an injection
(TICK_START), so the record is injected when only that lane's injection makes the status; a report-only one is evaluated apart. -/
def State.wireBreakOf (l : LaneId) (sel : List LaneId) (k : Nat) (s : State) : State :=
  if s.hub.sourceLane != some l || !bit s.hub.cfg.fieldIn.wire k then s else
  let vote := fun (v : List Bool) => agreeBit v true
  let own := fun (j : LaneId) => ((s.lane j).di.toList.getD k {}).wireBreak
  let status := fun (j : LaneId) => bit ((s.framesOf l j).getD {}).wire k
  let reported := fun (j : LaneId) =>
    (s.hub.armed .wireBreak (fun a => a.reportOnly && a.resource == k && bit a.lanes j.val)).isSome
  let on := vote (sel.map status)
  let rep := vote (sel.map (fun j => status j || reported j))
  let o : Origin := if vote (sel.map own) then .real else .injected
  let active := s.hub.faultActive .wireBreak [k]
  let det := fun (f : LaneId → Bool) => ([(1, k), (1, laneMask (sel.filter f))] : Detail)
  if on && !active then s.modHub (Hub.raise .wireBreak [k] (laneMask sel) (det status) o)
  else if rep && !on && !active then
    s.modHub (Hub.raise .wireBreak [k] (laneMask sel) (det (fun j => status j || reported j)) .reportOnly)
  else if !on && !rep && active then s.modHub (Hub.clearFault .wireBreak [k] id)
  else s

/-! ### SPREAD (R119, R194) -/

/-- The spread of a channel in the selection set, with an injection's tolerance + 1 added to the named lanes' values. -/
def State.spreadOf (s : State) (l : LaneId) (sel : List LaneId) (k : Nat) (inj : Armed → Bool) : Int :=
  let tol := (s.hub.cfg.agreeSd.getD k {}).tolerance
  let plus := fun (j : LaneId) => match s.hub.armed .channelSpread (fun a => inj a && bit a.lanes j.val && a.resource == k) with
    | some _ => (tol : Int) + 1 | none => 0
  intSpread (sel.map (fun j => (((s.framesOf l j).getD {}).sd.getD k {}).fine + plus j))

/-- SPREAD of one channel: the run, the bit, and CHANNEL_SPREAD as the source lane sees it. -/
def State.spreadChannel (l : LaneId) (sel : List LaneId) (k : Nat) (s : State) : State × Bool :=
  let c := s.hub.cfg.agreeSd.getD k {}
  if c.tolerance = 0 ∨ !(s.hub.cfg.sdOf k).enabled then (s, false) else
  let wide := fun (f : Armed → Bool) => decide ((c.tolerance : Int) < s.spreadOf l sel k f)
  let real := wide (fun _ => false)
  let seen := wide (fun a => !a.reportOnly)
  let rep := wide (fun a => a.reportOnly)
  let run := if real || seen || rep then vgetN (s.lane l).sdRun k 0 + 1 else 0
  let due := decide (max 1 c.spreadTicks ≤ run)
  let on := (real || seen) && due
  let s := s.modLane l (fun x => { x with sdRun := vmodN x.sdRun k (fun _ => run) })
  if s.hub.sourceLane != some l then (s, on)
  else
    let v := s.spreadOf l sel k (fun a => if real then false else a.reportOnly == !seen)
    let det : Detail := [(1, k), (1, sel.length), (2, 0), (4, ofSigned 32 v), (4, c.tolerance)]
    let active := s.hub.faultActive .channelSpread [k]
    let s := if on && !active then s.modHub (Hub.raise .channelSpread [k] (laneMask sel) det (if real then .real else .injected))
      else if rep && due && !on && !active then s.modHub (Hub.raise .channelSpread [k] (laneMask sel) det .reportOnly)
      else if !on && !(rep && due) && active then s.modHub (Hub.clearFault .channelSpread [k] id)
      else s
    (s, on)

/-! ### Edge accumulation (R540) -/

def accAddr (t : Nat) : Nat := storeBase + 0x400 + 0x80 * t

/-- OR the agreed edge bits into the accumulator of a task and note the stamps. -/
def accumulate (a : AgFrame) (m : Mem) (t : Nat) : Mem :=
  let m := m.writeLe (accAddr t) 4 (m.readLe (accAddr t) 4 ||| a.edge)
  (bitsSet 24 a.edge).foldl (fun (m : Mem) k => m.writeLe (accAddr t + 4 + 4 * k) 4 (a.stamps.getD k 0)) m

/-! ### Conversion and the excursion (R186 to R189) -/

def calMask (h : Hub) : Nat := laneMask h.active

/-- Convert one enabled channel in one lane; the source lane reports the excursion. -/
def State.convertChannel (l : LaneId) (r : SdRec) (k : Nat) (s : State) : State :=
  let x := s.lane l
  let c := x.mem.chan k
  let v := r.fine - c.azOffset
  let real := c.side v
  let arm := s.hub.armed .calExtrapolation (fun a => a.resource == k)
  let forced := match arm with | some a => !a.reportOnly | none => false
  let side := if real ≠ 0 then real else if forced then 2 else 0
  let q := clearBit (r.quality % 32) 1 + 2 * b2n (side != 0) + 32 * b2n (c.count == 0) + 64 * b2n (c.azOffset != 0)
  let s := s.modLane l (fun x => { x with mem := ((x.mem.writeLe (storeBase + 0x190 + 4 * k) 4 (c.convert r.fine)).writeLe
    (storeBase + 0x1D0 + 2 * k) 2 q).writeLe (chanAddr k + 16) 1 side })
  if s.hub.sourceLane != some l then s
  else
    let bound := if side = 1 then c.raw 0 else c.raw (c.count - 1)
    let det : Detail := [(1, k), (1, if side = 0 then 2 else side), (4, ofSigned 32 v), (4, ofSigned 32 bound)]
    let s := if side ≠ 0 ∧ c.excursion = 0 then
        s.modHub (Hub.raise .calExtrapolation [k] (calMask s.hub) det (if real ≠ 0 then .real else .injected))
      else s
    let s := match arm with
      | some a => if a.reportOnly && side == 0 then s.modHub (Hub.raise .calExtrapolation [k] (calMask s.hub) det .reportOnly) else s
      | none => s
    if side = 0 ∧ arm.isNone = true ∧ s.hub.faultActive .calExtrapolation [k] = true then
      s.modHub (Hub.clearFault .calExtrapolation [k] id) else s

/-- A calibration average takes one agreed value of the source lane (R196). -/
def Averaging.take (a : Averaging) (r : SdRec) (c : ChanState) : Averaging :=
  let v := r.fine - c.azOffset
  let first := a.left == a.ticks
  { a with
    left := a.left - 1, sum := a.sum + v, low := if first then v else min a.low v, high := if first then v else max a.high v
    az := if first then some c.azOffset else a.az
    bad := a.bad || badQuality r.quality || (!first && a.az != some c.azOffset) }

/-- The averaging step of the source lane. -/
def State.averageTick (l : LaneId) (s : State) : State :=
  match s.hub.meas.avg with
  | some a =>
    if s.hub.sourceLane = some l ∧ a.after < (s.lane l).tick ∧ a.left ≠ 0 then
      let r := (s.lane l).agreed.sd.getD a.channel {}
      s.modHub (fun h => { h with meas.avg := some (a.take r ((s.lane l).mem.chan a.channel)) })
    else s
  | none => s

/-! ### AGREEMENT_SELECTION -/

/-- The trace records of one lane's agreement: AGREE in a tick with a disagreement or a SPREAD bit, IO for every agreed DI edge. -/
def State.agreeTrace (l : LaneId) (differ k spreadMask : Nat) (a : AgFrame) (s : State) : State :=
  let tb0 := (s.lane l).tb0
  let rec_ := fun (typ : Nat) (f : List (Nat × Nat)) => TraceRec.mk typ l.val tb0 1 f
  let s := if differ = 0 ∧ spreadMask = 0 then s
    else s.modHub (Hub.emitLane l (rec_ 4 [(3, differ), (1, k), (2, spreadMask), (2, 0)]))
  (bitsSet 24 a.edge).foldl (fun (s : State) i =>
    s.modHub (Hub.emitLane l (rec_ 9 [(1, 0), (1, i), (1, b2n (bit a.di i)), (1, 0), (4, a.stamps.getD i 0)]))) s

/-- AGREEMENT_SELECTION (R118): the lane writes its agreed input image and what follows from it. -/
def execAgreementSelection (lane : LaneId) (s : State) : Out :=
  .next (if !s.hub.time.running || !(s.powered lane) then s else
    let s := s.reportMissing lane 4
    let sel := s.selection lane
    let fs := sel.filterMap (s.framesOf lane)
    let k := fs.length
    let tick := (s.lane lane).tick
    let before := s.lane lane
    let s := if k = 0 then s else
      (List.range 24).foldl (fun (s : State) i => (s.diChannel lane sel i).wireBreakOf lane sel i) s
    let (s, spread) := if k = 0 then (s, List.replicate 16 true) else
      (List.range 16).foldl (fun (p : State × List Bool) i =>
        let r := p.1.spreadChannel lane sel i
        (r.1, p.2 ++ [r.2])) (s, [])
    let base := if k = 0 then { before.agreed with tick := tick % 65536 } else s.hub.cfg.select tick fs
    let sd := mapIdxFrom (fun i (r : SdRec) => { r with
      tick := tick % 65536, quality := clearBit r.quality 4 + 16 * b2n (spread.getD i false) }) 0 base.sd
    let agreed : AgFrame := { base with sd := sd }
    let tasks := (List.range 8).filter (fun t => (s.hub.cfg.tasks.getD t {}).period != 0)
    let s := s.modLane lane (fun l => { l with
      agreed := agreed, agreedK := k
      mem := tasks.foldl (accumulate agreed) (l.mem.writeN storeBase agreed.bytes) })
    let s := ((List.range 16).filter (fun i => (s.hub.cfg.sdOf i).enabled)).foldl
      (fun (s : State) i => s.convertChannel lane (agreed.sd.getD i {}) i) s
    let s := s.averageTick lane
    let s := s.modLane lane (fun l => (List.finRange 16).foldl (fun (l : Lane) (i : Fin 16) =>
      let c := s.hub.cfg.sdOf i
      if c.enabled then l.azTick c (s.snap.azBlocked c) (agreed.sd.getD i {}) i else l) l)
    let x := s.lane lane
    let differ := ofBits ((List.range 24).map (fun i => vgetN x.diCount i 0 != vgetN before.diCount i 0))
    let spreadMask := ofBits (agreed.sd.map (fun r => bit r.quality 4))
    let s := s.agreeTrace lane differ k spreadMask agreed
    s.modHub (fun (h : Hub) =>
      let h : Hub := { h with vote.diRaw := h.vote.diRaw.set lane (x.own.di % 2 ^ 24) }
      if h.sourceLane = some lane then
        { h with vote := { h.vote with
          diAgreed := agreed.di % 2 ^ 24, diDisagree := x.diActive, diCount := x.diCount, sdSpread := spreadMask } }
      else h))

end Sys2Proof.Machine
end

