-- ==== Sys2Proof/Machine/MeasCmd.lean ====
section
/-! DEFINITION. The measurement chain's register block and opcodes (chapter 07: R192, R195 to R197), and the writing of a
configuration generation (R467, R468). -/
namespace Sys2Proof.Machine

/-! ### Configuration generations -/

/-- The highest sequence of any generation, across both slots. -/
def ConfigSlots.maxSeq (c : ConfigSlots) : Nat := maxNat (c.gens.toList.map (fun g => match g with | some x => x.sequence | none => 0))

/-- The slot that a write goes to: the active one; without one, the slot that is not confirmed (assumption log 12). -/
def ConfigSlots.target (c : ConfigSlots) : Nat :=
  match c.active with
  | some a => a
  | none => match c.confirmed with | some 0 => 1 | _ => 0

/-- Write a generation in place of the older one of its slot (R467). -/
def ConfigSlots.put (slot : Nat) (g : ConfigGen) (c : ConfigSlots) : ConfigSlots :=
  let a := vgetN c.gens (2 * slot) none
  let b := vgetN c.gens (2 * slot + 1) none
  let i := match a, b with
    | none, _ => 2 * slot
    | some _, none => 2 * slot + 1
    | some x, some y => if x.sequence < y.sequence then 2 * slot else 2 * slot + 1
  { c with gens := vmodN c.gens i (fun _ => some g), active := some slot }

/-- Write a new generation that changes the content by `f` (R468). Under another APP image's measurement the committed change set gives
way to the log. -/
def Hub.writeConfig (f : ConfigGen → ConfigGen) (h : Hub) : Hub :=
  let old : ConfigGen := match h.activeGen with
    | some g => g
    | none => { format := 0, sequence := 0, appMeasurement := h.sched.measurement, changes := [], cal := List.replicate 16 none }
  let moved := old.appMeasurement != h.sched.measurement
  let g := f (if moved then { old with changes := h.rt.log, appMeasurement := h.sched.measurement } else old)
  { h with
    slots := h.slots.put h.slots.target { g with format := h.slots.format, sequence := h.slots.maxSeq + 1 }
    rt.log := if moved then [] else h.rt.log }

/-! ### Block 3 (R192) -/

def Hub.chCtrl (h : Hub) (k : Nat) : Nat := vgetN h.meas.preset k 0 + 4 * b2n (vgetN h.meas.skew k true)

def CalSet.mask (s : CalSet) : Nat := ofBits (s.map Option.isSome)

def Hub.chStatus (h : Hub) (k : Nat) : Nat :=
  vgetN h.meas.activePreset k 0 + 4 * b2n (vgetN h.meas.activeSkew k true) +
    8 * b2n (h.meas.switches.any (fun w => w.channel == k && decide (h.time.tick < w.tick))) + 16 * b2n (h.cfg.sdOf k).enabled +
    32 * (vgetN h.meas.set k CalSet.empty).used.length + 256 * b2n (bit h.meas.stored k) +
    512 * (vgetN h.meas.pending k CalSet.empty).mask

def Hub.measStatus (h : Hub) : Nat :=
  b2n (h.time.running && !(h.cfg.groupChannels 0).isEmpty) + 2 * b2n (h.time.running && !(h.cfg.groupChannels 1).isEmpty) +
    4 * b2n (h.faultActive .sdClockLoss [0]) + 8 * b2n (h.faultActive .sdClockLoss [1])

/-- CAL_ACTIVE of a channel: count, and the points in ascending raw order. -/
def Hub.calActive (h : Hub) (k : Nat) : Bytes :=
  let p := (vgetN h.meas.set k CalSet.empty).sorted
  beBytes 1 p.length ++ zeros 31 ++ fitBytes 64 (p.flatMap CalPoint.bytesLe) ++ zeros 32

def Hub.block3 (h : Hub) : List (Nat × Nat × Nat) :=
  [(0x00, 4, h.measStatus), (0x04, 4, h.meas.lossLanes[(0 : Fin 2)] + 16 * h.meas.lossLanes[(1 : Fin 2)]),
   (0x08, 8, sumNat ((List.range 16).map (fun k => vgetN h.meas.stuckLanes k 0 * 16 ^ k))),
   (0x10, 4, ofBits ((List.range 16).map (fun k => h.faultActive .calExtrapolation [k])))] ++
  (List.range 16).map (fun k => (0x40 + 4 * k, 4, h.chCtrl k)) ++ (List.range 16).map (fun k => (0x80 + 4 * k, 4, h.chStatus k)) ++
  (List.range 16).map (fun k => (0x200 + 0x80 * k, 128, leVal (h.calActive k)))

/-! ### Opcodes (R195 to R197) -/

def Cfg.channelOk (c : Cfg) (k : Nat) : Bool := decide (k < 16) && (c.sdOf k).enabled

/-- A mask that names enabled channels only. -/
def Cfg.maskOk (c : Cfg) (m : Nat) : Bool := (bitsSet 16 m).all c.channelOk

def CalSet.bytesBe (s : CalSet) : Bytes := s.flatMap (fun p => match p with | some p => p.bytesBe | none => zeros 16)

/-- The agreed record in lane store, big-endian field by field. -/
def Mem.recordBe (m : Mem) (k : Nat) : Bytes :=
  let a := storeBase + 0x90 + 16 * k
  beBytes 4 (m.readLe a 4) ++ beBytes 2 (m.readLe (a + 4) 2) ++ beBytes 2 (m.readLe (a + 6) 2) ++ beBytes 2 (m.readLe (a + 8) 2) ++
    m.readN (a + 10) 6

/-- The points in use as a lane's channel state holds them, big-endian. -/
def Mem.pointsBe (m : Mem) (k : Nat) : Bytes :=
  (List.range 4).flatMap (fun i => (parsePoint (m.readN (chanAddr k + 32 + 16 * i) 16)).bytesBe)

def opGetChannel : OpSpec where
  op := .getChannel
  level := baseLevel .getChannel
  layout := exactly 4
  check := fun s _ p => firstFail [modeIs Mode.parser s, (s.hub.sourceLane.isSome, .resourceFault),
    param (s.hub.cfg.channelOk (u8 p 0)), param (allZero (slice p 1 3))]
  act := fun r p s => match s.hub.sourceLane with
    | none => s
    | some l =>
      let k := u8 p 0
      let h := s.hub
      let m := (s.lane l).mem
      let c := m.chan k
      let pend := vgetN h.meas.pending k CalSet.empty
      s.modHub (Hub.reply r .getChannel .ok (beBytes 1 k ++ beBytes 1 (vgetN h.meas.activePreset k 0) ++
        beBytes 1 (1 + 2 * b2n (vgetN h.meas.activeSkew k true) + 4 * b2n (bit h.meas.stored k)) ++ beBytes 1 c.azState ++
        beSigned 4 c.azOffset ++ m.recordBe k ++ beBytes 4 (m.readLe (storeBase + 0x190 + 4 * k) 4) ++
        beBytes 2 (m.readLe (storeBase + 0x1D0 + 2 * k) 2) ++ zeros 2 ++ beBytes 1 c.count ++ beBytes 1 pend.mask ++ zeros 2 ++
        m.pointsBe k ++ pend.bytesBe))

def execGetChannel (r : Req) (p : Bytes) (s : State) : Out := .next (opGetChannel.run r p s)

/-- SET_PRESET: a Parser write of CH_CTRL, applied at the next release (R22, R182). -/
def opSetPreset : OpSpec where
  op := .setPreset
  level := baseLevel .setPreset
  layout := exactly 4
  check := fun s _ p => firstFail [modeIs (fun m => m == .service || m == .safe) s, param (s.hub.cfg.maskOk (be16 p 0)),
    param (decide (u8 p 2 ≤ 3) || u8 p 2 == 0xFF), param (decide (u8 p 3 ≤ 1) || u8 p 3 == 0xFF)]
  act := fun r p s => s.modHub (Hub.defer r .setPreset p (releaseKey 3 0x40))

def execSetPreset (r : Req) (p : Bytes) (s : State) : Out := .next (opSetPreset.run r p s)

/-- Its effect at the release. -/
def Hub.applySetPreset (p : Bytes) (h : Hub) : Hub :=
  (bitsSet 16 (be16 p 0)).foldl (fun (h : Hub) k =>
    let preset := if u8 p 2 = 0xFF then vgetN h.meas.preset k 0 else u8 p 2
    let skew := if u8 p 3 = 0xFF then vgetN h.meas.skew k true else u8 p 3 == 1
    h.setChannel k preset skew) h

def Hub.replySetPreset (h : Hub) (p : Bytes) : Bytes := beBytes 2 (be16 p 0) ++ beBytes 6 (h.time.tick + 1)

def opCalibratePoint : OpSpec where
  op := .calibratePoint
  level := baseLevel .calibratePoint
  layout := exactly 12
  check := fun s _ p => firstFail [modeIs (fun m => m == .service || m.isRunning) s, (s.hub.meas.avg.isNone, .busy),
    param (s.hub.cfg.channelOk (u8 p 0)), param (decide (u8 p 1 ≤ 3)), param (decide (1 ≤ be16 p 2)), param (isFinite32 (be32 p 4)), param (allZero (slice p 10 2))]
  act := fun r p s => s.modHub (fun (h : Hub) =>
    let a : Averaging :=
      { channel := u8 p 0, index := u8 p 1, ticks := be16 p 2, left := be16 p 2, physical := be32 p 4, load := be16 p 8,
        after := h.time.tick }
    ({ h with meas.avg := some a }).defer r .calibratePoint p [0x0403])

def execCalibratePoint (r : Req) (p : Bytes) (s : State) : Out := .next (opCalibratePoint.run r p s)

/-- CALIBRATION_AVERAGING_END (R196): the averaging of the window has ended. -/
def execCalibrationAveragingEnd (s : State) : Out :=
  .next (match s.hub.meas.avg with
  | none => s
  | some a =>
    if a.left ≠ 0 then s else
    s.modHub (fun (h : Hub) =>
      let h : Hub := { h with meas.avg := none }
      let mine := fun (e : Exec) => e.op == Opcode.calibratePoint
      if a.bad then h.finish mine .resourceFault (fun _ => [])
      else
        let pt : CalPoint := { raw := divEven a.sum a.ticks, physical := a.physical, temperature := h.power.hubTemp, load := a.load,
                               spread := (a.high - a.low).toNat }
        let h : Hub := { h with
          meas.pending := vmodN h.meas.pending a.channel (fun s => modifyAt (fun _ => some pt) s a.index) }
        h.finish mine .ok (fun _ => pt.bytesBe ++ beBytes 2 a.ticks)))

/-- The set in use with each pending point in the place of its index (R197). -/
def CalSet.merge (use pend : CalSet) : CalSet := List.zipWith (fun u p => match p with | some x => some x | none => u) use pend

def Hub.mergedSet (h : Hub) (k : Nat) : CalSet :=
  (vgetN h.meas.set k CalSet.empty).merge (vgetN h.meas.pending k CalSet.empty)

def Hub.dropPending (mask : Nat) (h : Hub) : Hub :=
  { h with meas.pending := vmapIdx (fun k s => if bit mask k then CalSet.empty else s) h.meas.pending }

def opStoreCalibration : OpSpec where
  op := .storeCalibration
  level := baseLevel .storeCalibration
  layout := exactly 4
  check := fun s _ p =>
    let ks := bitsSet 16 (be16 p 0)
    firstFail [modeIs Mode.parser s, (u8 p 2 == 1 || !s.hub.power.supplyWarn, .supplyWarning), param (s.hub.cfg.maskOk (be16 p 0)),
      param (decide (u8 p 2 ≤ 2)), param (u8 p 3 == 0), param (u8 p 2 != 0 || ks.all (fun k => (s.hub.mergedSet k).ok))]
  act := fun r p s => s.modHub (fun (h : Hub) =>
    let m := be16 p 0
    let h := match u8 p 2 with
      | 0 => (h.writeConfig (fun g => { g with
          cal := mapIdxFrom (fun k c => if bit m k then some (h.mergedSet k) else c) 0 g.cal })).dropPending m
      | 1 => h.dropPending m
      | _ => h.writeConfig (fun g => { g with cal := mapIdxFrom (fun k c => if bit m k then none else c) 0 g.cal })
    let now := h.power.mode == .service && u8 p 2 != 1
    let h : Hub := if now then { h with meas.loadNext := true } else h
    h.reply r .storeCalibration .ok (beBytes 2 (if u8 p 2 = 1 then 0 else m) ++ beBytes 6 (if now then h.time.nextTick else 0)))

def execStoreCalibration (r : Req) (p : Bytes) (s : State) : Out := .next (opStoreCalibration.run r p s)

end Sys2Proof.Machine
end

