-- ==== Sys2Proof/Machine/Pwm.lean ====
section
/-! DEFINITION. The PWM units (chapter 08: R198 to R204, R210 to R215) and the record PWM_PAIR. Instants are in steps of 250 ps of
SA's time. -/
namespace Sys2Proof.Machine

/-! ### Record PWM_PAIR (R213, Table 8.6) -/

/-- T in steps: 2 × H × N (R199). -/
def PairCfg.period (c : PairCfg) (n : Nat) : Nat := 2 * c.half * n

def parsePair (n : Nat) (b : Bytes) : Option PairCfg :=
  let c : PairCfg := { mode := u8 b 0, triangle := u8 b 1 == 1, twice := u8 b 2 == 1, tripLevel := u8 b 3, half := le16 b 4,
                       dead := le16 b 6, phase := le32 b 8, minPulse := le16 b 12 }
  if u8 b 0 ≤ 2 ∧ u8 b 1 ≤ 1 ∧ u8 b 2 ≤ 1 ∧ u8 b 3 < 16 ∧ u8 b 3 % 4 ≤ 2 ∧ u8 b 3 / 4 ≤ 2 ∧ 1 ≤ c.half ∧ c.half ≤ 800 ∧
      c.dead ≤ 64000 ∧ c.minPulse ≤ 64000 ∧ le16 b 14 = 0 ∧ c.phase < c.period n ∧ !(c.mode == 1 && c.dead != 0) ∧
      !(c.twice && !c.triangle) then some c
  else none

def parsePwmPair (n : Nat) (b : Bytes) : Option (List PairCfg) :=
  if b.length = 96 then (List.range 6).mapM (fun i => parsePair n (slice b (16 * i) 16)) else none

/-- R213: no pair mask of TRIP names an UNUSED pair. -/
def tripPairsOk (pairs : List PairCfg) (t : TripCfg) : Bool :=
  let used := ofBits ((List.range 6).map (fun i => (pairs.getD i {}).mode != 2))
  t.chan.all (fun c => clearBits c.loPairs used == 0 && clearBits c.hiPairs used == 0) &&
    t.ins.all (fun i => clearBits i.1 used == 0)

def Hub.pairCfg (h : Hub) (i : Nat) : PairCfg := h.cfg.pairs.getD i {}

/-- The trip level of output `k`: 0 LOW, 1 HIGH, 2 HIGH_Z. -/
def Hub.tripLevel (h : Hub) (k : Nat) : Nat := (h.pairCfg (k / 2)).tripLevel / (if k % 2 = 0 then 1 else 4) % 4

/-- The level SA commands at an output pin: 0 LOW, 1 HIGH, 2 HIGH_Z; LOW by the pull-downs while the buffers are off (R210). -/
def Hub.pwmPin (h : Hub) (k : Nat) : Nat :=
  if h.pwm.buffersOff then 0
  else if !bit h.pwm.running (k / 2) then h.tripLevel k
  else b2n (vgetN h.pwm.outs k {}).high

/-! ### The carrier (R199, R200) -/

/-- p_n of pair i at the start of tick n. -/
def carrierPhase (c : PairCfg) (n tick : Nat) : Nat :=
  let t := c.period n
  if t = 0 then 0 else (2 * tick % c.half * (2 * n) + t - c.phase) % t

/-- The carrier position of a pair at an instant: it advances with SA's time from the tick start and holds after 4N − 1 steps. -/
def Hub.carrierAt (h : Hub) (i at_ : Nat) : Nat :=
  let t := (h.pairCfg i).period h.nCycles
  if t = 0 then 0 else (vgetN h.pwm.phase i 0 + min (at_ - 4 * h.time.tickAt) (4 * h.nCycles - 1)) % t

/-- lo of R200. -/
def PairCfg.lo (c : PairCfg) (t cmp : Nat) : Nat := if c.triangle then (t - cmp) / 2 else 0

/-- The reference at a carrier position for a compare value. -/
def PairCfg.ref (c : PairCfg) (t p cmp : Nat) : Bool :=
  let v := min cmp t
  decide (c.lo t v ≤ p ∧ p < c.lo t v + v)

/-- Steps from position `p` until the present side of the reference ends; none when it never ends. -/
def PairCfg.sideLeft (c : PairCfg) (t p cmp : Nat) (active : Bool) : Option Nat :=
  let v := min cmp t
  let lo := c.lo t v
  if active then (if v = t then none else some (lo + v - p))
  else if v = 0 then none
  else some (if p < lo then lo - p else lo + t - p)

/-! ### Edges (R202, R203) -/

/-- The compare value an output works with: the primary's in a COMPLEMENTARY pair. -/
def Hub.cmpOf (h : Hub) (k : Nat) : Nat :=
  vgetN h.pwm.active (if (h.pairCfg (k / 2)).mode = 0 then k / 2 * 2 else k) 0

def PwmOut.setSide (b : Bool) (at_ : Nat) (o : PwmOut) : PwmOut :=
  if o.side = b then o else { o with side := b, since := if b then at_ else o.since, suppressed := if b then false else o.suppressed }

/-- Evaluate one output of a running pair at an instant. `other` is the pair's other output when the two have dead time between
them. -/
def stepOut (c : PairCfg) (t p cmp at_ : Nat) (secondary : Bool) (other : Option PwmOut) (o : PwmOut) : PwmOut × Nat :=
  let r := c.ref t p cmp
  let o := o.setSide (if secondary then !r else r) at_
  let d := if other.isSome then c.dead else 0
  let otherOk := match other with | some x => !x.high && decide (x.fellAt + d ≤ at_) | none => true
  if o.high then
    if o.side then (o, 0)
    else if at_ < o.riseAt + c.minPulse then ({ o with extended := true }, if o.extended then 0 else 1)
    else ({ o with high := false, fellAt := at_, extended := false }, 0)
  else if o.side && !o.suppressed && decide (o.since + d ≤ at_) && otherOk then
    let short := match c.sideLeft t p cmp r with | some left => decide (left < c.minPulse) | none => false
    if short then ({ o with suppressed := true }, 1) else ({ o with high := true, riseAt := at_, extended := false }, 0)
  else (o, 0)

/-- Evaluate both outputs of a pair: the falling edge of one comes before the rising edge of the other. -/
def Hub.pairStep (i at_ : Nat) (h : Hub) : Hub :=
  if !bit h.pwm.running i then h else
  let c := h.pairCfg i
  let t := c.period h.nCycles
  let p := h.carrierAt i at_
  let a := vgetN h.pwm.outs (2 * i) {}
  let b := vgetN h.pwm.outs (2 * i + 1) {}
  let comp := c.mode == 0
  let other := fun (x : PwmOut) => if comp then some x else none
  let stepA := fun (b : PwmOut) => stepOut c t p (h.cmpOf (2 * i)) at_ false (other b) a
  let stepB := fun (a : PwmOut) => stepOut c t p (h.cmpOf (2 * i + 1)) at_ comp (other a) b
  let (ra, rb) := if b.high then
      let rb := stepB a
      (stepA rb.1, rb)
    else
      let ra := stepA b
      (ra, stepB ra.1)
  { h with pwm := { h.pwm with
    outs := vmodN (vmodN h.pwm.outs (2 * i) (fun _ => ra.1)) (2 * i + 1) (fun _ => rb.1)
    pulseAdjust := vmodN (vmodN h.pwm.pulseAdjust (2 * i) (satAdd 16 · ra.2)) (2 * i + 1) (satAdd 16 · rb.2) } }

/-- PWM_EDGE (R202): an instant of the pair's reference, dead time or minimum pulse. -/
def execPwmEdge (pair : Fin 6) (at_ : Nat) (s : State) : Out :=
  .next (if s.hub.time.running ∧ 4 * s.hub.time.tickAt ≤ at_ then
    s.modHub (fun h => (h.at_ (at_ / 4)).pairStep pair at_) else s)

/-- The released values reach the pending registers at 0.3 µs after the tick start (R201). -/
def Hub.settlePending (at_ : Nat) (h : Hub) : Hub :=
  if h.pwm.pendAt ≤ at_ then { h with pwm.pending := h.pwm.compare } else h

/-- CARRIER_UPDATE_POINT (R201): a carrier start, or the midpoint of a TRIANGLE carrier that updates twice. The active compare takes
the pending value; at a carrier start a pair that is neither blocked nor tripped resumes (R204). -/
def execCarrierUpdatePoint (pair : Fin 6) (mid : Bool) (at_ : Nat) (s : State) : Out :=
  let c := s.hub.pairCfg pair
  let p := s.hub.carrierAt pair at_
  let t := c.period s.hub.nCycles
  let here := p == (if mid then t / 2 else 0) || at_ == 4 * s.hub.time.tickAt
  .next (if !s.hub.time.running || decide (at_ < 4 * s.hub.time.tickAt) || c.mode == 2 || (mid && !(c.triangle && c.twice)) || !here
    then s
    else s.modHub (fun h =>
      let h := (h.at_ (at_ / 4)).settlePending at_
      let take := fun (v : Vector Nat 12) k => vmodN v k (fun _ => vgetN h.pwm.pending k 0)
      let h := { h with pwm.active := take (take h.pwm.active (2 * pair.val)) (2 * pair.val + 1) }
      let free := !bit (h.blockedPairs ||| h.trippedPairs) pair.val
      let h := if !mid && free && !bit h.pwm.running pair.val then
          let rest := fun (k : Nat) (o : PwmOut) => if h.tripLevel k = 1 then { o with fellAt := at_ } else o
          { h with pwm := { h.pwm with
            running := setBit h.pwm.running pair.val, moved := setBit h.pwm.moved pair.val
            outs := vmodN (vmodN h.pwm.outs (2 * pair.val) (rest (2 * pair.val))) (2 * pair.val + 1) (rest (2 * pair.val + 1)) } }
        else h
      h.pairStep pair at_))

/-- At the hub's tick start: BLOCKED of the last tick, the carrier phases, the contributing lanes of R207, and the edges that the new
phase brings (R199). -/
def Hub.pwmTick (h : Hub) : Hub :=
  let h := { h with pwm := { h.pwm with
    blocked := clearBits 0x3F h.pwm.moved, moved := h.pwm.running
    phase := vmapIdx (fun i _ => carrierPhase (h.pairCfg i) h.nCycles h.time.tick) h.pwm.phase
    contrib := laneMask (if h.active.isEmpty then
        (match allLanes.filter (fun l => (h.laneState l).powered) with | [l] => [l] | _ => []) else h.active) } }
  (List.range 6).foldl (fun (h : Hub) i => h.pairStep i h.steps) h

/-! ### Control (R204, R209, R212) -/

/-- A released write of PAIR_CTRL. -/
def Hub.setPairCtrl (v : Nat) (h : Hub) : Hub := { h with pwm.enable := v % 64 }.pwmHold

/-- PAIR_ENABLE (R204): the released ENABLE bits; a pair whose bit is set resumes at its next carrier start. -/
def execPairEnable (v : Nat) (s : State) : Out :=
  .next (if s.hub.power.mode.isRunning then s.modHub (Hub.setPairCtrl v) else s)

/-- PULSE_ADJUST_CLEAR (R212): COUNTER_CLEAR bit 0. -/
def execPulseAdjustClear (s : State) : Out := .next (s.modHub (fun h => { h with pwm.pulseAdjust := Vector.replicate 12 0 }))

/-- PWM_READBACK (R210): the record, the SAFE decision, and every output buffer off. -/
def Hub.pwmReadback (k read cause durationNs : Nat) (o : Origin) (h : Hub) : Hub :=
  let det : Detail := [(1, k), (1, h.pwmPin k), (1, read), (1, cause), (2, min durationNs 65535)]
  let h := if o = .reportOnly then h else
    ({ h with pwm := { h.pwm with buffersOff := true, readbackOutputs := setBit h.pwm.readbackOutputs k } }).pwmHold
  h.raise .pwmReadback [k] 0 det o

/-- PWM_READBACK (R210): SB read `read` (0 LOW, 1 HIGH, 2 HIGH_Z) at output `k` for `durationNs`, longer than readback_window. Cause
1: the pair is at its trip level by block or trip and the pin is not. -/
def execPwmReadback (output : Fin 12) (read durationNs now : Nat) (s : State) : Out :=
  .next (let s := s.modHub (Hub.at_ now)
    let h := s.hub
    if h.pwm.buffersOff || decide (durationNs ≤ 10 * h.cfg.trip.window) || read % 3 == h.pwmPin output then s
    else s.modHub (Hub.pwmReadback output (read % 3) (b2n (!bit h.pwm.running (output.val / 2))) durationNs .real))

/-! ### Block 4 (R212) -/

def Hub.pwmStatus (h : Hub) : Nat :=
  h.pwm.blocked + 2 ^ 8 * h.trippedPairs + 2 ^ 16 * h.pwm.enable + 2 ^ 24 * b2n h.modeBlock + 2 ^ 25 * b2n h.pwm.buffersOff

/-- Block 4 (Table 8.3). -/
def Hub.block4 (h : Hub) : List (Nat × Nat × Nat) :=
  let w := h.pwm
  [(0x00, 4, h.pwmStatus), (0x04, 4, w.enable), (0x08, 8, w.tripLatch), (0x10, 8, w.tripActive), (0x20, 4, w.lastTrip),
   (0x28, 8, w.lastTripTb0), (0x30, 8, w.clearRefused), (0x38, 4, w.readbackOutputs)] ++
  (List.range 12).map (fun k => (0x40 + 2 * k, 2, vgetN w.pulseAdjust k 0)) ++
  (List.range 6).map (fun i => (0x80 + 4 * i, 4, vgetN w.phase i 0)) ++
  (List.range 12).map (fun k => (0x100 + 4 * k, 4, vgetN w.compare k 0)) ++
  (List.range 12).map (fun k => (0x140 + 4 * k, 4, vgetN w.active k 0)) ++
  (List.range 16).map (fun k => let c := h.cfg.trip.chan.getD k {}
    (0x200 + 4 * k, 4, ofSigned 16 c.lo + 2 ^ 16 * ofSigned 16 c.hi))

/-! ### Opcodes (R215) -/

def opGetTripStatus : OpSpec where
  op := .getTripStatus
  level := baseLevel .getTripStatus
  layout := exactly 0
  check := fun s _ _ => firstFail [modeIs Mode.parser s]
  act := fun r _ s =>
    let h := s.snap
    let w := h.pwm
    s.modHub (Hub.reply r .getTripStatus .ok (beBytes 4 h.pwmStatus ++ beBytes 8 w.tripLatch ++ beBytes 8 w.tripActive ++
      beBytes 8 w.clearRefused ++ beBytes 4 w.lastTrip ++ beBytes 8 w.lastTripTb0 ++ w.active.toList.flatMap (beBytes 4)))

def execGetTripStatus (r : Req) (p : Bytes) (s : State) : Out := .next (opGetTripStatus.run r p s)

/-- TRIP_CLEAR: applied at the next hub tick start. -/
def opTripClear : OpSpec where
  op := .tripClear
  level := baseLevel .tripClear
  layout := exactly 8
  twoPhase := fun _ _ => true
  check := fun s _ p => firstFail [modeIs (fun m => m == .service) s, param (decide (be64 p 0 < 2 ^ 36))]
  act := fun r p s => s.modHub (Hub.defer r .tripClear p [0x0F02])

def execTripClear (r : Req) (p : Bytes) (s : State) : Out := .next (opTripClear.run r p s)

/-- Its application at the hub's tick start. -/
def Hub.applyTripClear (h : Hub) : Hub :=
  let due := h.cmd.exec.filter (fun e => e.key == [0x0F02])
  let h := { h with cmd.exec := h.cmd.exec.filter (fun e => e.key != [0x0F02]) }
  due.foldl (fun (h : Hub) (e : Exec) =>
    if h.power.mode ≠ .service then h.reply e.req e.op .wrongMode []
    else
      let (h, c, r) := h.tripClear (be64 e.params 0)
      h.reply e.req e.op .ok (beBytes 8 c ++ beBytes 8 r ++ beBytes 6 h.time.tick)) h

end Sys2Proof.Machine
end

