-- ==== Sys2Proof/Machine/Clause.lean ====
section
/-! DEFINITION. The life of a clause: its start (R88, R102), the end of each of its cycles (R63, R64, R69, R76), its completion
(R87) and the end of its budget (R88). -/
namespace Sys2Proof.Machine

/-- A lane in this state executes its schedule (Table 5.1). -/
def LaneState.executes : LaneState → Bool
  | .spareWarm | .active | .resync | .splitB => true
  | _ => false

/-- R150: in SAFE and SERVICE no clause and no transfer of a task starts. -/
def Hub.suppressed (h : Hub) (task : Nat) : Bool :=
  decide (task < 8) && (h.power.mode == .safe || h.power.mode == .service)

/-- The lane runs its schedule in this tick. -/
def State.laneRuns (s : State) (l : LaneId) : Bool :=
  s.hub.time.running && (s.lane l).started && (s.hub.laneState l).executes

/-- R102: the most recent issue of every transfer that names the clause as its consumer has completed. -/
def Lane.consumerOk (l : Lane) (sc : Schedule) (clause : Nat) : Bool :=
  let mine := (List.range sc.transfers.length).filter (fun i =>
    match sc.transfers[i]? with | some t => t.consumer == clause | none => false)
  mine.all (fun i => match l.issued.find? (fun e => e.1 == i) with | some e => e.2 | none => true)

/-- A fetch met an uncorrectable word or a corrected bit in the first bundle (R400, R401). -/
def State.startEcc (k : Site) (bundle : Nat) (ecc : Ecc) (s : State) : State :=
  let phys := s.hub.vote.engineMap[k.lane][k.eng.val]
  { s with hub := (s.hub.sramRead k.lane.val (9 + phys) (bundle / 8) (bundle % 8 * 2) 1 ecc).2 }

/-- Load a clause into its engine: budget counter, FLAGS cleared, no loop active (R61, R66, R88). -/
def Engine.startClause (clause : Nat) (c : ClauseEntry) (e : Engine) : Engine :=
  { e with
    run := some { clause := clause, budget := c.budget, start := c.start, pc := c.first, task := c.task, flags := c.flags }
    flags := 0, loops := [], bundle := {}, flight := [], mFree := 0 }

/-- CLAUSE_START (R88): a clause of this tick starts on its engine and checks its consumed transfers (R102). -/
def execClauseStart (lane : LaneId) (clause : Nat) (ecc : Ecc) (s : State) : Out :=
  .next (match s.laneSchedule lane with
  | none => s
  | some sc =>
    match sc.clauses[clause]? with
    | none => s
    | some c =>
      match fin? 8 c.engine with
      | none => s
      | some e =>
        let k : Site := ⟨lane, e⟩
        if !s.laneRuns lane || c.tick != (s.lane lane).tick % s.hub.sTicks || s.hub.suppressed c.task ||
          (s.engine k).run.isSome then s
        else
          let s := s.modEng k (Engine.startClause clause c)
          if (s.lane lane).consumerOk sc clause then s.startEcc k c.first ecc
          else match (s.engine k).run with
            | none => s
            | some r => (s.abortClause k 9 0 .real).retire k r 9)

/-- The sequential fetch beyond bundle 8191 (R69). -/
def State.fetchCheck (k : Site) (s : State) : State :=
  match (s.engine k).run with
  | none => s
  | some r => if r.issues && decide (8191 < r.pc) then s.abortClause k 8 r.pc .real else s

/-- An injection of CLAUSE_BUDGET forces the abort at the end of the present cycle (Table 3.11); a report-only one is recorded. -/
def State.budgetInjection (k : Site) (s : State) : State :=
  let e := s.engine k
  match e.run, s.hub.armed .clauseBudget (fun a => bit a.lanes k.lane.val) with
  | some r, some a =>
    if r.aborted.isSome || (r.ended && e.flight.isEmpty) then s else
    let s := s.modHub (Hub.disarmLane a k.lane)
    if a.reportOnly then
      s.modHub (Hub.laneEvent (fun _ => true) .clauseBudget [(s.lane k.lane).schedule.getD 255, r.clause] k.lane
        [(2, r.clause), (1, k.eng.val), (1, r.task), (4, r.budget), (2, r.flags)] .reportOnly)
    else (s.abortClause k 1 0 .injected).retire k r 1
  | _, _ => s

/-- OPERATION_WRITEBACK (R63, R64, R76): the end of a clause cycle. Everything due is written with its records, the store takes
effect, and the clause goes on to its next bundle. A clause that has drained stands still until CLAUSE_COMPLETE. -/
def execOperationWriteback (site : Site) (s : State) : Out :=
  let e := s.engine site
  .next (match e.run with
  | none => s
  | some r =>
    if (r.ended && e.flight.isEmpty && r.aborted.isNone) || decide (r.budget < r.cyc) then s else
    let s := s.advance site.lane r.tickCycle
    let s := match e.bundle.store with
      | none => s
      | some (a, b, _) => s.modLane site.lane (fun l =>
          ({ l with mem := l.mem.writeN (scratchBase site.eng.val + a) b }).markDirty (scratchBase site.eng.val + a) b.length)
    let s := s.modEng site (fun e => e.endCycle r)
    match r.aborted with
    | none => (s.fetchCheck site).budgetInjection site
    | some (cause, _) =>
      if (s.engine site).flight.isEmpty || decide (r.budget ≤ r.cyc) then s.retire site r cause else s)

/-- CLAUSE_COMPLETE (R87): END has issued and nothing is in flight. The active loops end (R61), PREV_ABORT clears (Table 3.4). -/
def execClauseComplete (site : Site) (s : State) : Out :=
  let e := s.engine site
  .next (match e.run with
  | none => s
  | some r =>
    if r.ended && e.flight.isEmpty && r.aborted.isNone && decide (r.cyc ≤ r.budget + 1) then
      let s := s.modEng site (fun e => { e.idle with prevAbort := false, prevCause := 0, lastClause := r.clause })
      s.clauseRecord site r 0 (r.cyc - 1)
    else s)

/-- CLAUSE_BUDGET (R88, R545): cycle B has ended without completion; the clause is aborted with cause BUDGET and what is in flight
is cancelled. -/
def execClauseBudget (site : Site) (s : State) : Out :=
  let e := s.engine site
  .next (match e.run with
  | none => s
  | some r =>
    if r.aborted.isNone && decide (r.budget < r.cyc) && !(r.ended && e.flight.isEmpty) then
      let s := (s.abortClause site 1 0 .real).retire site r 1
      match s.hub.armed .clauseBudget (fun a => bit a.lanes site.lane.val) with
      | some a => s.modHub (Hub.disarmLane a site.lane)
      | none => s
    else s)

end Sys2Proof.Machine
end

