-- ==== Sys2Proof/Machine/FieldIo.lean ====
section
/-! DEFINITION. Field inputs and outputs (chapter 09): digital inputs in the lanes, the stage with its outputs, supplies, watchdog and
faults, and the records FIELD_INPUT and FIELD_OUTPUT. -/
namespace Sys2Proof.Machine

/-! ### Records (R218, R223, R241) -/

def parseFieldInput (counters : List DiCounterCfg) (b : Bytes) : Option FieldInputCfg :=
  let deb := (List.range 24).map (fun k => le16 b (4 * k))
  let isCounter := fun (k : Nat) => counters.any (fun c => c.di == k)
  let okDeb := (List.range 24).all (fun k =>
    let d := le16 b (4 * k)
    d == 0 || decide (5 ≤ d) || ((d == 1 || d == 2) && isCounter k))
  if b.length = 104 ∧ okDeb ∧ (List.range 24).all (fun k => decide (u8 b (2 + 4 * k) ≤ 1) && u8 b (3 + 4 * k) == 0) ∧
      (List.range 6).all (fun g => decide (u8 b (96 + g) ≤ 1)) ∧ le16 b 102 = 0 then
    some { debounce := deb, wire := ofBits ((List.range 24).map (fun k => u8 b (2 + 4 * k) == 1)),
           type2 := ofBits ((List.range 6).map (fun g => u8 b (96 + g) == 1)) }
  else none

/-- R155: a counter DI has debounce off or at most 2 µs. -/
def countersOk (counters : List DiCounterCfg) (f : FieldInputCfg) : Bool :=
  counters.all (fun c => c.di == 0xFF || decide (f.debounce.getD c.di 0 ≤ 2))

def parseDo (b : Bytes) : Option DoCfg :=
  if u8 b 0 ≤ 2 ∧ u8 b 1 ≤ 2 ∧ u8 b 2 ≤ 1 ∧ u8 b 3 = 0 ∧ (u8 b 0 = 0 ∨ u8 b 2 = 0) then
    some { mode := u8 b 0, safe := u8 b 1, offpulse := u8 b 2 == 1 }
  else none

def parseFieldOutput (b : Bytes) : Option FieldOutputCfg :=
  let sos := (List.range 8).map (fun m => u8 b (64 + 4 * m))
  match (List.range 16).mapM (fun k => parseDo (slice b (4 * k) 4)) with
  | none => none
  | some dos =>
    if b.length = 100 ∧ sos.all (fun m => decide (m ≤ 2)) ∧ (List.range 8).all (fun m => allZero (slice b (65 + 4 * m) 3)) ∧
        (List.range 4).all (fun i => (sos.getD (2 * i) 0 == 1) == (sos.getD (2 * i + 1) 0 == 1)) ∧ 2 ≤ u8 b 96 ∧
        allZero (slice b 97 3) then
      some { dos := dos, sos := sos, watchdog := u8 b 96 }
    else none

/-! ### Access -/

def Cfg.doOf (c : Cfg) (k : Nat) : DoCfg := c.fieldOut.dos.getD k {}
def Cfg.soMode (c : Cfg) (m : Nat) : Nat := c.fieldOut.sos.getD m 0

/-- A channel that the stage drives and evaluates (R222). -/
def Cfg.outUsed (c : Cfg) (k : Nat) : Bool := if k < 16 then (c.doOf k).mode == 0 else c.soMode (k - 16) != 2

/-- The other member of a paired SO. -/
def Cfg.partnerOf (c : Cfg) (k : Nat) : Option Nat :=
  if 16 ≤ k ∧ c.soMode (k - 16) = 1 then some (if k % 2 = 0 then k + 1 else k - 1) else none

/-- A paired SO with its partner, or the channel alone. -/
def Cfg.members (c : Cfg) (k : Nat) : List Nat := match c.partnerOf k with | some j => [k, j] | none => [k]

/-- Supply group of a channel: 0 FS_A, 1 FS_B (Table 9.1). -/
def outGroup (k : Nat) : Nat := if k < 8 then 0 else if k < 16 then 1 else if k < 20 then 0 else 1

/-- A channel that is pulsed off (R258). -/
def Cfg.pulsed (c : Cfg) (k : Nat) : Bool := if k < 16 then (c.doOf k).mode == 0 && (c.doOf k).offpulse else c.soMode (k - 16) != 2

def Hub.out (h : Hub) (k : Nat) : OutCh := vgetN h.stage.ch k {}

def Hub.modOut (k : Nat) (f : OutCh → OutCh) (h : Hub) : Hub := { h with stage.ch := vmodN h.stage.ch k f }

/-- The IO trace record (Table 20.1): kind 1 command change, 2 latched, 3 cleared. -/
def Hub.ioRec (kind k level : Nat) (h : Hub) : Hub :=
  h.emit { typ := 9, unit := 4, tb0 := h.tb0Now, units := 1, fields := [(1, kind), (1, k), (1, level), (1, 0), (4, 0)] }

/-- Hold a switch in a state; a change restarts the evaluation of R225, and an off demand ends a pulse (R261). -/
def Hub.command (k : Nat) (on : Bool) (h : Hub) : Hub :=
  let on := on && !(h.out k).faulty
  if (h.out k).cmd = on then h else
  let t := h.time.now
  (h.modOut k (fun c => { c with cmd := on, changedAt := t, onSince := if on then t else c.onSince, pulse := none })).ioRec 1 k (b2n on)

/-! ### Digital inputs (R217 to R220, R154, R155) -/

/-- A DI whose test supply's window is open keeps its level and status (R219). -/
def Hub.diBlind (h : Hub) (k : Nat) : Bool :=
  match h.stage.window with
  | none => false
  | some tp => h.cfg.safety.any (fun f => f.task != 0xFF &&
      ((f.diA == k && f.tpA == tp) || (f.diB == k && f.tpB == tp)))

/-- DI_LEVEL_ACCEPTED (R217): the debounced level of a DI changes in one lane, `ns` after the lane's tick start. The edge is stamped
(R154) and counted (R155). -/
def execDiLevelAccepted (lane : LaneId) (channel : Fin 24) (level : Bool) (ns : Nat) (s : State) : Out :=
  .next (if !(s.hub.laneState lane).powered || s.hub.diBlind channel || (s.lane lane).di[channel].level == level then s else
    let l := s.lane lane
    let us := (l.tb0 + ns) / 1000 + 2 ^ 32 - s.hub.cfg.fieldIn.debounce.getD channel 0
    s.modLane lane (fun l => { l with
      di := vmod l.di channel (fun d => { d with level := level, stamp := us % 2 ^ 32, edge := true })
      counters := vmapIdx (fun i v =>
        let c := s.hub.cfg.diCounters.getD i {}
        if c.di = channel.val ∧ bit c.edge (if level then 0 else 1) then v + 1 else v) l.counters }))

/-- WIRE_BREAK_DETECTION (R220): the current stayed below 0.3 mA, or at or above 0.6 mA, for 5 ms. -/
def execWireBreakDetection (lane : LaneId) (channel : Fin 24) (broken : Bool) (s : State) : Out :=
  .next (if (s.hub.laneState lane).powered && bit s.hub.cfg.fieldIn.wire channel.val && !s.hub.diBlind channel then
    s.modLane lane (fun l => { l with di := vmod l.di channel (fun d => { d with wireBreak := broken }) })
  else s)

/-- DO_INPUT_SAMPLE (R222): every 50 µs; the 200 µs filter accepts a level after four equal samples (assumption log 13). -/
def execDoInputSample (channel : Fin 16) (high : Bool) (s : State) : Out :=
  .next (s.modHub (fun (h : Hub) =>
    if !h.stage.run || (h.cfg.doOf channel).mode != 1 then h else
    let n := if bit h.stage.doInput channel.val == high then 0 else h.stage.doRun[channel] + 1
    if n < 4 then { h with stage.doRun := h.stage.doRun.set channel n }
    else { h with stage.doRun := h.stage.doRun.set channel 0, stage.doInput := putBit h.stage.doInput channel.val high }))

/-! ### Latches (R232 to R238) -/

/-- Latch a channel off, both members of a paired SO (R237). -/
def Hub.latchOut (k : Nat) (ext : Bool) (h : Hub) : Hub :=
  (h.cfg.members k).foldl (fun (h : Hub) j =>
    let new := !(h.out j).faulty
    let h := h.modOut j (fun c => { c with faulty := true, ext := c.ext || ext })
    let h := h.command j false
    let h : Hub := { h with stage.test := h.stage.test.map (fun t => if t.channel = j then { t with fault := true } else t) }
    if new then h.ioRec 2 j 0 else h) h

/-- Open a group's disconnect switch. -/
def Hub.openGroup (g : Nat) (h : Hub) : Hub := { h with stage.closed := vmodN h.stage.closed g (fun _ => false) }

/-- The supply has stood at or above 16.8 V for 50 ms (R227). -/
def Hub.supplyGood (h : Hub) (g : Nat) : Bool :=
  match vgetN h.stage.goodSince g none with
  | some t => decide (t + 50000000 ≤ h.time.now)
  | none => false

/-- An external-voltage latch of a paired SO holds the group's switch open (R227). -/
def Hub.heldOpen (h : Hub) (g : Nat) : Bool :=
  (List.range 24).any (fun k => (h.out k).ext && (h.cfg.partnerOf k).isSome && outGroup k == g)

/-- Close the switches that R227 allows at a valid frame. -/
def Hub.closeGroups (h : Hub) : Hub :=
  [0, 1].foldl (fun (h : Hub) g =>
    if h.stage.run && h.stage.last.isSome && h.supplyGood g && !h.heldOpen g then { h with stage.closed := vmodN h.stage.closed g (fun _ => true) } else h) h

/-- Reclose the switches of groups that a latch held open and none holds now (R238). -/
def Hub.recloseGroups (held : List Nat) (h : Hub) : Hub :=
  held.foldl (fun (h : Hub) g =>
    if h.stage.run && h.supplyGood g && !h.heldOpen g then { h with stage.closed := vmodN h.stage.closed g (fun _ => true) } else h) h

/-- The evaluation of R225 is open: 1 ms of blanking and 1 ms of the condition since the last change, no pulse. -/
def Hub.settled (h : Hub) (k : Nat) : Bool :=
  decide ((h.out k).changedAt + 2000000 ≤ h.time.now) && (h.out k).pulse.isNone

/-- OUTPUT_OVERLOAD on a channel (R232): cause 0 current limit, 1 thermal. -/
def Hub.overload (k cause mA : Nat) (o : Origin) (h : Hub) : Hub :=
  (if o = .reportOnly then h else h.latchOut k false).raise .outputOverload [k] 0 [(1, k), (1, cause), (2, min mA 65535)] o

/-- OUTPUT_OVERLOAD (R232): in limit or shutdown for 5 ms. -/
def execOutputOverload (channel : Fin 24) (thermal : Bool) (mA now : Nat) (s : State) : Out :=
  .next (let s := s.modHub (Hub.at_ now)
    if s.hub.stage.run && (s.hub.out channel).cmd then s.modHub (Hub.overload channel (b2n thermal) mA .real) else s)

def Hub.readbackLow (k : Nat) (o : Origin) (h : Hub) : Hub :=
  let rb := (h.out k).readback
  (if o = .reportOnly then h else h.latchOut k false).raise .readbackMismatch [k] 0 [(1, k), (1, 1), (1, rb / 2)] o

/-- READBACK_MISMATCH (R233): low for 1 ms while commanded on, out of current limit. It is not evaluated while the group's supply is low
or cut (R229, Table 9.2). -/
def execReadbackMismatch (channel : Fin 24) (now : Nat) (s : State) : Out :=
  .next (let s := s.modHub (Hub.at_ now)
    let h := s.hub
    let g := outGroup channel
    if h.stage.run && (h.out channel).cmd && h.settled channel && !h.faultActive .fieldSupplyLow [g] && vgetN h.stage.closed g false then
      s.modHub (Hub.readbackLow channel .real)
    else s)

/-- The first part of R234: latch, and open the disconnect of a paired SO. -/
def Hub.extDetect (k cause : Nat) (o : Origin) (h : Hub) : Hub :=
  let paired := (h.cfg.partnerOf k).isSome
  let h := h.latchOut k true
  let h := if paired then h.openGroup (outGroup k) else h
  { h with stage.searches := h.stage.searches ++
      [(Search.mk k h.time.now cause (if paired then 2 ^ outGroup k else 0) false o)] }

/-- A detected channel is being traced already, or was named as a partner. -/
def Hub.extKnown (h : Hub) (k : Nat) : Bool := (h.out k).ext

/-- EXTERNAL_VOLTAGE_DETECTION (R234): high for 1 ms while commanded off. -/
def execExternalVoltageDetection (channel : Fin 24) (now : Nat) (s : State) : Out :=
  .next (let s := s.modHub (Hub.at_ now)
    let h := s.hub
    if h.stage.run && h.cfg.outUsed channel && !(h.out channel).cmd && h.settled channel && !h.extKnown channel then
      s.modHub (Hub.extDetect channel 0 .real)
    else s)

/-- The record of R236 and the end of a trace. -/
def Hub.extRecord (x : Search) (partner : Nat) (h : Hub) : Hub :=
  let h : Hub := { h with stage.searches := h.stage.searches.filter (fun y => y.channel != x.channel),
                          stage.extLast := x.channel + 256 * partner }
  h.raise .outputExternalVoltage [x.channel] 0
    [(1, x.channel), (1, partner), (1, x.cause), (1, x.opened), (2, min ((h.time.now - x.detectedAt) / 1000000) 65535)] x.origin

/-- SOURCE_EVALUATION (R235): 1 ms after the protective action. -/
def execSourceEvaluation (channel : Fin 24) (high : Bool) (now : Nat) (s : State) : Out :=
  .next (let s := s.modHub (Hub.at_ now)
    match s.hub.stage.searches.find? (fun x => x.channel == channel.val && !x.searching) with
    | none => s
    | some x =>
      if high then s.modHub (fun h => { h with stage.searches := h.stage.searches.map (fun y =>
        if y.channel = x.channel then { y with searching := true } else y) })
      else s.modHub (Hub.extRecord x (if (s.hub.cfg.partnerOf channel).isSome then 0xFE else channel.val)))

/-- SOURCE_SEARCH_END (R235, R236): the output in whose pulse window the readback fell and rose again, or none after 200.8 ms. The
partner is latched by the same rule and not searched again. -/
def execSourceSearchEnd (channel : Fin 24) (partner : Option (Fin 24)) (now : Nat) (s : State) : Out :=
  .next (let s := s.modHub (Hub.at_ now)
    match s.hub.stage.searches.find? (fun x => x.channel == channel.val && x.searching) with
    | none => s
    | some x =>
      match partner with
      | some j =>
        if s.hub.cfg.pulsed j && (s.hub.out j).cmd then
          s.modHub (fun (h : Hub) =>
            let paired := (h.cfg.partnerOf j).isSome
            let h := h.latchOut j true
            let h := if paired then h.openGroup (outGroup j) else h
            h.extRecord { x with opened := x.opened ||| (if paired then 2 ^ outGroup j else 0) } j.val)
        else s
      | none => if x.detectedAt + 200800000 ≤ s.hub.time.now then s.modHub (Hub.extRecord x 0xFF) else s)

/-- Clear one latched channel with its pair (R238): its latches, its records, REFUSED_CLEAR. -/
def Hub.clearOut (k : Nat) (h : Hub) : Hub × Bool :=
  if !(h.out k).faulty then (h, true)
  else if (h.out k).readback ≠ 0 then ({ h with stage.refused := setBit h.stage.refused k }, false)
  else
    let ms := h.cfg.members k
    let held := [0, 1].filter h.heldOpen
    let h := ms.foldl (fun (h : Hub) j =>
      let h := (h.modOut j (fun c => { c with faulty := false, ext := false })).ioRec 3 j 0
      let h : Hub := { h with stage.refused := clearBit h.stage.refused j }
      (h.clearFault .outputOverload [j] id).clearFault .readbackMismatch [j] id) h
    let stillExt := fun (r : FaultRec) =>
      let c := r.key.headD 0
      let p := match r.detail with | _ :: (_, p) :: _ => p | _ => 0xFF
      (h.out c).ext || (decide (p < 24) && (h.out p).ext)
    let done := (h.faults.log.filter (fun r => r.name == .outputExternalVoltage && r.active && !stillExt r)).map (fun r => r.key)
    let h := done.foldl (fun (h : Hub) key => h.clearFault .outputExternalVoltage key id) h
    (h.recloseGroups held, true)

/-- Apply CHANNEL_CLEAR (R238). A switch closes only when a latch that held it open went. -/
def Hub.channelClear (mask : Nat) (h : Hub) : Hub := (bitsSet 24 mask).foldl (fun (h : Hub) k => (h.clearOut k).1) h

/-- CHANNEL_CLEAR (R238): a voted write at the release, in VOTED, DUPLEX and SPLIT. -/
def execChannelClear (mask : Nat) (s : State) : Out :=
  .next (if s.hub.power.mode.isRunning then s.modHub (Hub.channelClear mask) else s)

/-! ### The stage (R224, R227 to R231, R542) -/

/-- The safe state of a channel (R230). -/
def Hub.safeOf (h : Hub) (k : Nat) : Bool :=
  if 16 ≤ k then false
  else match (h.cfg.doOf k).safe with
    | 0 => false
    | 1 => true
    | _ => ((h.out k).applied).getD false

/-- Apply every programmed safe state, but for an output under test. -/
def Hub.applySafe (h : Hub) : Hub :=
  let tested := fun (k : Nat) => match h.stage.test with | some t => t.channel == k | none => false
  (List.range 24).foldl (fun (h : Hub) k => h.command k (if tested k then true else h.cfg.outUsed k && h.safeOf k))
    { h with stage.safeStates := true }

/-- Apply the commands of a valid frame. -/
def Hub.applyFrame (f : StageFrame) (h : Hub) : Hub :=
  if f.safe then h.applySafe
  else
    let on := fun (k : Nat) => h.cfg.outUsed k && (if k < 16 then bit f.dos k else bit f.sos (k - 16))
    (List.range 24).foldl (fun (h : Hub) k => (h.modOut k (fun c => { c with applied := some (on k) })).command k (on k))
      { h with stage.safeStates := false }

/-- STAGE_FRAME_RECEIVED (R231): the copies from SA and SB. A frame is valid when both are whole and equal and its tick is higher than
the last valid one's; it closes the disconnect switches (R227) and commands the outputs. -/
def execStageFrameReceived (rxA rxB : Rx) (equal : Bool) (now : Nat) (s : State) : Out :=
  .next (s.modHub (fun (h : Hub) =>
    let h := h.at_ now
    match h.stage.sent with
    | none => h
    | some f =>
      let newer := match h.stage.last with | some l => decide (l.1 < f.tick) | none => true
      if !h.stage.run || h.stage.wdTripped || rxA != .whole || rxB != .whole || !equal || !newer then h
      else ((({ h with stage.last := some (f.tick, h.time.now), stage.gotFrame := true } : Hub).closeGroups).applyFrame f)))

/-- A supply sample (10 mV): since when the supply has been at or above 16.8 V. -/
def Hub.supplySample (g v : Nat) (h : Hub) : Hub :=
  let t := h.time.now
  { h with
    stage.supply := vmodN h.stage.supply g (fun _ => v)
    stage.lowest := vmodN h.stage.lowest g (fun l => min l v)
    stage.goodSince := vmodN h.stage.goodSince g (fun x => if 1680 ≤ v then (match x with | some a => some a | none => some t) else none) }

/-- STAGE_READBACK_SAMPLE (R224): once per tick; readback (0 low, 1 between, 2 high) and current in mA of every output, the supplies in
10 mV, and the test supplies that read high. It also counts the ticks without a valid frame. -/
def execStageReadbackSample (readback current : List Nat) (fsA fsB tpHigh now : Nat) (s : State) : Out :=
  .next (s.modHub (fun (h : Hub) =>
    let h := h.at_ now
    if !h.stage.run then h else
    let st := h.stage
    let run := if st.gotFrame then 0 else st.missRun + 1
    let open_ := match st.window with | some tp => 2 ^ tp | none => 0
    let off := ofBits (st.tpOff.toList.map Option.isSome)
    let h : Hub := { h with stage := { st with
      ch := vmapIdx (fun k c => { c with readback := min 2 (readback.getD k 0), current := min (current.getD k 0) 65535 }) st.ch
      missRun := run, missLongest := min 255 (max st.missLongest run)
      missCount := if st.gotFrame then st.missCount else satAdd 24 st.missCount 1, gotFrame := false
      tpPresent := st.tpPresent ||| clearBits (tpHigh % 16) (open_ ||| off) } }
    (h.supplySample 0 fsA).supplySample 1 fsB))

/-- STAGE_WATCHDOG_TRIP (R231): no valid frame for watchdog_ticks tick lengths, to 2 % by the stage's own oscillator. -/
def execStageWatchdogTrip (now : Nat) (s : State) : Out :=
  .next (s.modHub (fun (h : Hub) =>
    let h := h.at_ now
    match h.stage.last with
    | none => h
    | some l =>
      if h.stage.run && !h.stage.wdTripped && decide (98 * h.cfg.fieldOut.watchdog * h.nCycles ≤ 100 * (h.time.now - l.2)) then
        ({ h with stage.wdTripped := true } : Hub).applySafe
      else h))

/-- The stage is unpowered: everything it held is lost, every output off and both switches open (R228, R542). -/
def Hub.stageOff (h : Hub) : Hub := { h with stage := {} }

/-- The stage starts with its firmware (R228): at a boot or a wake. -/
def Hub.stageStart (h : Hub) : Hub := { h with stage := { ({} : Stage) with run := true } }

/-- A restart at an entry to SERVICE from SAFE (R542, R230). -/
def Hub.stageRestart (h : Hub) : Hub :=
  { h with stage := { h.stage with
      wdTripped := false, last := none, sent := none, missRun := 0, missLongest := 0, missCount := 0, gotFrame := false
      testResult := Vector.replicate 24 0, testOther := Vector.replicate 24 0xFF, testInjected := 0, testEvaluations := 0, run := true
      ch := vmap (fun c => { c with applied := none }) h.stage.ch } }

/-! ### Field supplies (R229) -/

def Hub.supplyLow (g v : Nat) (o : Origin) (h : Hub) : Hub :=
  h.raise .fieldSupplyLow [g] 0 [(1, g), (1, 0), (2, v)] o

/-- FIELD_SUPPLY_LOW (R229): below 16.0 V for 1 ms; `v` is the supply in 10 mV. -/
def execFieldSupplyLow (group : Fin 2) (v now : Nat) (s : State) : Out :=
  .next (s.modHub (fun (h : Hub) =>
    let h := h.at_ now
    if !h.stage.run || decide (1600 ≤ v) || h.faultActive .fieldSupplyLow [group.val] then h
    else (({ h with stage.lowest := h.stage.lowest.set group v } : Hub).supplySample group v).supplyLow group v .real))

/-- FIELD_SUPPLY_RECOVERED (R229): at or above 16.8 V for 50 ms. The record keeps the lowest voltage seen. -/
def execFieldSupplyRecovered (group : Fin 2) (now : Nat) (s : State) : Out :=
  .next (s.modHub (fun (h : Hub) =>
    let h := h.at_ now
    if !h.stage.run then h else
    let since := match h.stage.goodSince[group] with
      | some t => min t (h.time.now - 50000000) | none => h.time.now - 50000000
    let h : Hub := { h with stage.goodSince := h.stage.goodSince.set group (some since) }
    h.clearFault .fieldSupplyLow [group.val] (setDetail 2 (h.stage.lowest[group]))))

/-! ### Block 5 (R240) -/

def Hub.ioStatus (h : Hub) : Nat :=
  let st := h.stage
  b2n st.run + 2 * b2n st.wdTripped + 4 * b2n st.closed[(0 : Fin 2)] + 8 * b2n st.closed[(1 : Fin 2)] +
    16 * b2n (h.faultActive .fieldSupplyLow [0]) + 32 * b2n (h.faultActive .fieldSupplyLow [1]) + 64 * b2n st.safeStates +
    128 * b2n st.test.isSome + 256 * b2n (st.searches.any (fun x => x.searching))

def Hub.outMask (h : Hub) (lo n : Nat) (f : OutCh → Bool) : Nat := ofBits ((List.range n).map (fun i => f (h.out (lo + i))))

/-- Block 5 from 0x0000 to 0x006F as (width, value), in order. -/
def Hub.ioFields (h : Hub) : List (Nat × Nat) :=
  let st := h.stage
  [(4, h.ioStatus), (4, h.safety.doCmd), (4, h.safety.soCmd), (4, h.outMask 0 16 (fun c => c.readback == 2)),
   (4, h.outMask 16 8 (fun c => c.readback == 2)), (4, st.doInput), (4, h.outMask 0 24 (fun c => c.faulty)), (4, 0),
   (4, ofBits ((List.range 24).map (fun k => h.faultActive .wireBreak [k]))),
   (4, st.supply[(0 : Fin 2)] % 65536 + 65536 * (st.supply[(1 : Fin 2)] % 65536)), (4, st.extLast),
   (4, st.missLongest + 256 * st.missCount), (4, st.refused), (12, 0)] ++ (List.range 24).map (fun k => (2, (h.out k).current))

def Hub.block5 (h : Hub) : List (Nat × Nat × Nat) := layFields 0 h.ioFields

/-! ### Opcodes (R243, R244) -/

def opGetIoStatus : OpSpec where
  op := .getIoStatus
  level := baseLevel .getIoStatus
  layout := exactly 0
  check := fun s _ _ => firstFail [modeIs Mode.parser s]
  act := fun r _ s => s.modHub (Hub.reply r .getIoStatus .ok (s.snap.ioFields.flatMap (fun f => beBytes f.1 f.2)))

def execGetIoStatus (r : Req) (p : Bytes) (s : State) : Out := .next (opGetIoStatus.run r p s)

/-- The reply of TEST_OUTPUT. -/
def Hub.testReply (h : Hub) (k result : Nat) : Bytes :=
  beBytes 1 k ++ beBytes 1 (b2n ((h.out k).readback == 2)) ++ beBytes 2 (h.out k).current ++ beBytes 1 result

def opTestOutput : OpSpec where
  op := .testOutput
  level := fun _ p => if 16 ≤ u8 p 0 then 4 else 3
  layout := exactly 8
  check := fun s _ p => firstFail [modeIs (fun m => m == .service) s, (s.hub.stage.test.isNone, .busy), param (decide (u8 p 0 < 24)),
    param (s.hub.cfg.outUsed (u8 p 0)), param (decide (u8 p 1 ≤ 1)),
    param (u8 p 1 == 1 || (decide (1 ≤ be16 p 2) && decide (be16 p 2 ≤ 10000))), param (allZero (slice p 4 4))]
  act := fun r p s => s.modHub (fun (h : Hub) =>
    let k := u8 p 0
    if u8 p 1 = 1 then
      let (h, ok) := h.clearOut k
      h.reply r .testOutput .ok (h.testReply k (if ok then 0 else 2))
    else
      let t : OutTest := { channel := k, endAt := h.time.now + be16 p 2 * 1000000, fault := (h.out k).faulty }
      let h : Hub := { h with stage.test := some t }
      let h := if h.stage.run && !h.stage.wdTripped then h.command k true else h
      h.defer r .testOutput p [0x0602])

def execTestOutput (r : Req) (p : Bytes) (s : State) : Out := .next (opTestOutput.run r p s)

/-- The test of an output ends: the switch returns to its safe state and the reply is sent. -/
def Hub.endTest (h : Hub) : Hub :=
  match h.stage.test with
  | none => h
  | some t =>
    let rep := h.testReply t.channel (b2n t.fault)
    let h : Hub := { h with stage.test := none }
    (h.command t.channel (h.safeOf t.channel)).finish (fun (e : Exec) => e.key == [0x0602]) .ok (fun _ => rep)

/-- TEST_OUTPUT_END (R244). -/
def execTestOutputEnd (now : Nat) (s : State) : Out :=
  .next (s.modHub (fun (h : Hub) =>
    let h := h.at_ now
    match h.stage.test with
    | none => h
    | some t => if t.endAt ≤ h.time.now then h.endTest else h))

end Sys2Proof.Machine
end

