-- ==== Sys2Proof/Machine/SafetyFn.lean ====
section
/-! DEFINITION. Safety functions (chapter 10): the records, the monitor step, sensor supply test pulses, off-pulses, block 6 and
GET_SAFETY_STATUS. -/
namespace Sys2Proof.Machine

/-! ### Records (R270) -/

def parseSafetyFn (b : Bytes) : Option SafetyCfg :=
  let opt := fun (v n : Nat) => decide (v < n) || v == 0xFF
  let kind := u8 b 1
  let ok := (decide (u8 b 0 < 8) || u8 b 0 == 0xFF) && decide (1 ≤ kind ∧ kind ≤ 3) && decide (u8 b 2 < 24) &&
    (if u8 b 0 = 0xFF then opt (u8 b 3) 24 else if kind = 1 then u8 b 3 == 0xFF else decide (u8 b 3 < 24)) && opt (u8 b 4) 4 && opt (u8 b 5) 4 && decide (u8 b 6 ≤ 1) &&
    opt (u8 b 7) 24 && decide (10 ≤ le16 b 8 ∧ le16 b 8 ≤ 10000) && opt (u8 b 10) 4 && decide (2 ≤ u8 b 11 ∧ u8 b 11 ≤ 100) &&
    allZero (slice b 16 8)
  if ok then
    some { task := u8 b 0, kind := kind, diA := u8 b 2, diB := u8 b 3, tpA := u8 b 4, tpB := u8 b 5, startup := u8 b 6 == 1,
           resetDi := u8 b 7, discMs := le16 b 8, pair := u8 b 10, outDiscMs := u8 b 11, request := le32 b 12 }
  else none

def parseSafety (b : Bytes) : Option (List SafetyCfg) :=
  if b.length = 192 then (List.range 8).mapM (fun n => parseSafetyFn (slice b (24 * n) 24)) else none

def parseSafetyGlobal (b : Bytes) : Option Nat :=
  if b.length = 4 ∧ 100 ≤ le16 b 0 ∧ le16 b 0 ≤ 800 ∧ le16 b 2 = 0 then some (le16 b 0) else none

def SafetyCfg.used (f : SafetyCfg) : Bool := f.task != 0xFF

/-- The DIs a function uses as channels and reset input. -/
def SafetyCfg.dis (f : SafetyCfg) : List Nat :=
  if f.used then [f.diA] ++ (if f.kind = 1 then [] else [f.diB]) ++ (if f.resetDi = 0xFF then [] else [f.resetDi]) else []

/-- The test supply of a DI, if it is a channel with one. -/
def Cfg.supplyOf (c : Cfg) (k : Nat) : Option Nat :=
  c.safety.findSome? (fun f =>
    if f.used && f.diA == k && f.tpA != 0xFF then some f.tpA
    else if f.used && f.kind != 1 && f.diB == k && f.tpB != 0xFF then some f.tpB else none)

/-- The function that uses a DI as a channel. -/
def Cfg.functionOf (c : Cfg) (k : Nat) : Nat :=
  ((List.range 8).find? (fun n => match c.safety[n]? with
    | some f => f.used && (f.diA == k || (f.kind != 1 && f.diB == k)) | none => false)).getD 0xFF

/-- The refusals of R270 that concern several fields, tasks or regions; `n` is N. -/
def Cfg.safetyOk (c : Cfg) (n : Nat) : Bool :=
  let fs := c.safety.filter SafetyCfg.used
  let pairs : List Nat := (fs.filter (fun f => f.pair != 0xFF)).map (fun f => f.pair)
  let enabled := fun (f : SafetyCfg) => (c.tasks.getD f.task {}).period != 0
  let inRegion := fun (f : SafetyCfg) => c.regions.any (fun r =>
    r.kind == 2 && r.task == f.task && decide (r.address ≤ f.request ∧ f.request < r.address + r.length))
  fs.all (fun f => enabled f && !(f.startup && (f.tpA != 0xFF || f.tpB != 0xFF)) && !(f.kind != 1 && f.tpA != 0xFF && f.tpA == f.tpB) &&
    (f.pair == 0xFF || c.soMode (2 * f.pair) == 1) && inRegion f &&
    (f.resetDi == 0xFF || decide ((c.tasks.getD f.task {}).period * n ≤ 50000000))) &&
  decide ((fs.flatMap SafetyCfg.dis).Nodup) && decide pairs.Nodup

/-! ### The function state area (R249) -/

def sfArea (n : Nat) : Nat := storeBase + 0x1000 + 128 * n

/-- What a function keeps; its layout in lane store is the model's own. Times are T_CYCLE in ns, stamps in µs. -/
structure SfState where
  state : Nat := 0
  openSeen : Bool := false
  inDisc : Bool := false
  outDisc : Bool := false
  stuck : Bool := false
  pending : Bool := false
  /-- A rising edge was seen; the press, the level's start while ON, and while OFF. -/
  pressed : Bool := false
  inRun : Bool := false
  outRun : Bool := false
  onKnown : Bool := false
  offKnown : Bool := false
  inStart : Nat := 0
  outStart : Nat := 0
  press : Nat := 0
  lastPress : Nat := 0
  onAt : Nat := 0
  offAt : Nat := 0
  timer : Nat := 0
deriving DecidableEq, Repr

def SfState.load (m : Mem) (n : Nat) : SfState :=
  let a := sfArea n
  let f := m.readLe (a + 4) 4
  { state := m.readLe a 4, openSeen := bit f 0, inDisc := bit f 1, outDisc := bit f 2, stuck := bit f 3, pending := bit f 4,
    pressed := bit f 5, inRun := bit f 6, outRun := bit f 7, onKnown := bit f 8, offKnown := bit f 9,
    inStart := m.readLe (a + 8) 8, outStart := m.readLe (a + 16) 8, press := m.readLe (a + 24) 4, lastPress := m.readLe (a + 28) 4,
    onAt := m.readLe (a + 32) 4, offAt := m.readLe (a + 36) 4, timer := m.readLe (a + 40) 4 }

def SfState.store (n : Nat) (x : SfState) (m : Mem) : Mem :=
  let flags := ofBits [x.openSeen, x.inDisc, x.outDisc, x.stuck, x.pending, x.pressed, x.inRun, x.outRun, x.onKnown, x.offKnown]
  m.writeN (sfArea n) (leBytes 4 x.state ++ leBytes 4 flags ++ leBytes 8 x.inStart ++ leBytes 8 x.outStart ++ leBytes 4 x.press ++
    leBytes 4 x.lastPress ++ leBytes 4 x.onAt ++ leBytes 4 x.offAt ++ leBytes 4 x.timer)

/-- Inputs of a function as the input step of tick b captured them (R248). -/
structure SfIn where
  di : Nat
  wire : Nat
  test : Nat
  tp : Nat
  /-- SO_CMD after SF_OUT, and SO_READBACK. -/
  so : Nat
  readback : Nat
deriving DecidableEq, Repr

def SfIn.load (m : Mem) (n : Nat) : SfIn :=
  let a := sfArea n + 64
  { di := m.readLe a 4, wire := m.readLe (a + 4) 4, test := m.readLe (a + 8) 8, tp := m.readLe (a + 16) 4,
    so := m.readLe (a + 20) 4, readback := m.readLe (a + 24) 4 }

/-- SO_CMD after SF_OUT: SF_OUT takes precedence for every pair assigned to a function (R250). -/
def Hub.soEffective (h : Hub) : Nat :=
  ofBits ((List.range 8).map (fun m =>
    match (List.range 8).find? (fun n => match h.cfg.safety[n]? with
        | some f => f.used && f.pair == m / 2 | none => false) with
    | some n => bit h.safety.sfOut n
    | none => bit h.safety.soCmd m))

/-- TEST_RESULT and TP_STATUS (Table 10.5). -/
def Hub.testResults (h : Hub) : Nat := sumNat ((List.range 24).map (fun k => vgetN h.stage.testResult k 0 * 4 ^ k))

def Hub.tpStatus (h : Hub) : Nat := h.stage.tpPresent % 16 + 16 * (h.stage.tpLimit % 16)

/-- The input step's part of R248: what the monitor step of this cycle will use. -/
def Lane.captureSafety (snap : Hub) (n : Nat) (l : Lane) : Lane :=
  let rb := ofBits ((List.range 8).map (fun m => (snap.out (16 + m)).readback == 2))
  { l with mem := l.mem.writeN (sfArea n + 64) (leBytes 4 l.agreed.di ++ leBytes 4 l.agreed.wire ++ leBytes 8 snap.testResults ++
      leBytes 4 snap.tpStatus ++ leBytes 4 snap.soEffective ++ leBytes 4 rb) }

/-- The state of every configured function at T_a (R252, R257). -/
def Lane.startSafety (c : Cfg) (l : Lane) : Lane :=
  (List.range 8).foldl (fun (l : Lane) n =>
    let f := c.safety.getD n {}
    if !f.used then l else
    let x : SfState := if f.startup then { state := 1, pending := true } else { state := 2, openSeen := true }
    { l with mem := x.store n l.mem }) l

/-! ### The monitor step (R251 to R253, R262, R263) -/

/-- Level of a channel (R251), and whether a wire break or a test result, or an absent supply, holds it at its demand level. -/
def SfIn.channel (x : SfIn) (di tp : Nat) (demand : Bool) : Bool × Bool × Bool :=
  let fault := bit x.wire di || decide (2 ≤ bits x.test (2 * di) 2)
  let absent := tp != 0xFF && !bit x.tp tp
  (if fault || absent then demand else bit x.di di, fault, absent)

/-- Input conditions (Table 10.1). -/
inductive SfCond where
  | closed | open_ | mixed
deriving DecidableEq, Repr

/-- The condition, the levels of a and b, TEST_FAULT and TP_ABSENT. -/
def SfIn.condition (f : SafetyCfg) (x : SfIn) : SfCond × Bool × Bool × Bool × Bool :=
  let a := x.channel f.diA f.tpA false
  let b := x.channel f.diB f.tpB (f.kind == 3)
  match f.kind with
  | 1 => (if a.1 then .closed else .open_, a.1, a.1, a.2.1, a.2.2)
  | _ =>
    let want := f.kind != 3
    let c := if a.1 && b.1 == want then .closed else if !a.1 && b.1 != want then .open_ else .mixed
    (c, a.1, b.1, a.2.1 || b.2.1, a.2.2 || b.2.2)

/-- What an injection makes of a monitor step: discrepancy, stuck comparison, open test. -/
structure SfForce where
  disc : Bool := false
  stuck : Bool := false
  notOpen : Bool := false
deriving DecidableEq, Repr

/-- The commands of the pair's members are equal and their readback differs (R253). -/
def SfIn.outDiffer (f : SafetyCfg) (i : SfIn) : Bool :=
  f.pair != 0xFF && bit i.so (2 * f.pair) == bit i.so (2 * f.pair + 1) && bit i.readback (2 * f.pair) != bit i.readback (2 * f.pair + 1)

/-- A start that lies a limit earlier when an injection adds that limit to the timer (R271); times are taken modulo 2^64. -/
def addLimit (inj : Bool) (start limitMs : Nat) : Nat :=
  if inj then (start + 2 ^ 64 - limitMs * 1000000) % 2 ^ 64 else start

/-- What a timer shows. -/
def timerSince (tc start : Nat) : Nat := (tc + 2 ^ 64 - start) % 2 ^ 64

/-- The two discrepancy timers (R253). `tc` is T_CYCLE. -/
def SfState.timers (f : SafetyCfg) (i : SfIn) (c : SfCond) (tc : Nat) (inj : SfForce) (x : SfState) : SfState :=
  let x :=
    if c = .mixed then
      let start := addLimit inj.disc (if x.inRun then x.inStart else tc) f.discMs
      let t := timerSince tc start
      { x with inRun := true, inStart := start, timer := min 65535 (t / 1000000),
               inDisc := x.inDisc || decide (f.discMs * 1000000 ≤ t) }
    else { x with inRun := false }
  if i.outDiffer f then
    let start := addLimit (inj.disc && c != .mixed) (if x.outRun then x.outStart else tc) f.outDiscMs
    { x with outRun := true, outStart := start, outDisc := x.outDisc || decide (f.outDiscMs * 1000000 ≤ timerSince tc start) }
  else { x with outRun := false }

/-- A difference of two 32-bit stamps in µs. -/
def stampSince (now then_ : Nat) : Nat := (now % 2 ^ 32 + 2 ^ 32 - then_) % 2 ^ 32

/-- A release in this cycle that R262 accepts. -/
def SfState.validRelease (stamp : Nat) (release : Bool) (x : SfState) : Bool :=
  release && x.pressed && decide (100000 ≤ stampSince stamp x.press ∧ stampSince stamp x.press ≤ 3000000) && !x.stuck

/-- The edge seen in this cycle, a press or a release. -/
def SfState.takeEdge (press release : Bool) (stamp : Nat) (x : SfState) : SfState :=
  if press then { x with pressed := true, press := stamp, onKnown := true, onAt := stamp, offKnown := false }
  else if release then
    { x with
      lastPress := if x.pressed then min 65535 (stampSince stamp x.press / 1000) else x.lastPress
      pressed := false, onKnown := false, offKnown := true, offAt := stamp }
  else x

/-- A level seen without its edge stands since this cycle. -/
def SfState.takeLevel (level : Bool) (us : Nat) (x : SfState) : SfState :=
  if level && !x.onKnown then { x with onKnown := true, onAt := us % 2 ^ 32, offKnown := false }
  else if !level && !x.offKnown then { x with offKnown := true, offAt := us % 2 ^ 32, onKnown := false }
  else x

/-- RESET_STUCK (R263). -/
def SfState.takeStuck (level : Bool) (us : Nat) (inj : SfForce) (x : SfState) : SfState :=
  if level && (inj.stuck || decide (3000000 < stampSince us x.onAt)) then { x with stuck := true }
  else if x.stuck && !level && decide (1000000 ≤ stampSince us x.offAt) then { x with stuck := false }
  else x

/-- The reset input (R262, R263): the next state and whether this cycle holds a valid release. `edge` and `stamp` come from the
task's edge image, `us` is T_CYCLE in µs. -/
def SfState.reset (f : SafetyCfg) (level edge : Bool) (stamp us : Nat) (inj : SfForce) (x : SfState) : SfState × Bool :=
  if f.resetDi = 0xFF then (x, false)
  else (((x.takeEdge (edge && level) (edge && !level) stamp).takeLevel level us).takeStuck level us inj,
    x.validRelease stamp (edge && !level))

/-- Table 10.2: at most one transition. -/
def SfState.transit (f : SafetyCfg) (c : SfCond) (valid request notOpen : Bool) (x : SfState) : SfState :=
  let demand := { x with state := 2, openSeen := decide (c = .open_) }
  match x.state with
  | 1 => if c = .open_ ∧ notOpen = false then { x with state := 2, openSeen := true, pending := false } else x
  | 2 => match c with
    | .open_ => { x with openSeen := true }
    | .mixed => { x with openSeen := false }
    | .closed => if x.openSeen then { x with state := if f.resetDi = 0xFF then 4 else 3 } else x
  | 3 => if c ≠ .closed then demand else if valid then { x with state := 4 } else x
  | 4 => if c ≠ .closed then demand else if request then { x with state := 5 } else x
  | 5 => if c ≠ .closed then demand else if !request then { x with state := 4 } else x
  | _ => x

/-- SF_STATE (Table 10.7). -/
def SfState.word (x : SfState) (request closed absent fault : Bool) : Bytes :=
  let low := x.state + ofBits [false, false, false, false, request, closed, x.openSeen, absent, fault, x.inDisc, x.outDisc, x.stuck,
    x.pending] + 65536 * x.timer
  leBytes 4 low ++ leBytes 4 x.lastPress

/-- A force that the table holds on a byte, applied to it (R161): entries of the given kind. -/
def forceByte (m : Mem) (kind a : Nat) (v : Byte) : Byte :=
  (List.range 256).foldl (fun (v : Byte) i =>
    let e := storeBase + 0x2000 + 32 * i
    let fl := m.readLe (e + 4) 4
    let addr := m.readLe e 4
    if bit fl 24 && fl / 256 % 256 == kind && decide (addr ≤ a ∧ a < addr + fl % 256) then
      let k := m.read (e + 8 + (a - addr))
      (v &&& ~~~ k) ||| (m.read (e + 16 + (a - addr)) &&& k)
    else v) v

/-- The request bit with its force (R248). -/
def SafetyCfg.requestBit (f : SafetyCfg) (m : Mem) : Bool := (forceByte m 2 f.request (m.read f.request)).getLsbD 0

/-- A write of the lane's runtime through the hub frame. -/
def Lane.frameWrite (off : Nat) (b : Bytes) (l : Lane) : Lane := { l with outFrame := l.outFrame ++ [(off, b)] }

/-- What one evaluation of the monitor step makes of a function, without and with an injection. -/
def Lane.monitorEval (f : SafetyCfg) (n : Nat) (inj : SfForce) (l : Lane) : SfState × Bytes × Detail :=
  let m := l.mem
  let i := SfIn.load m n
  let c := i.condition f
  let tc := m.readLe (storeBase + 0x200 + 32 * f.task + 24) 8
  let edges := storeBase + 0x1800 + 0x80 * f.task
  let edge := bit (m.readLe edges 4) f.resetDi
  let stamp := m.readLe (edges + 4 + 4 * f.resetDi) 4
  let x0 := SfState.load m n
  let r := x0.reset f (bit i.di f.resetDi) edge stamp (tc / 1000) inj
  let x1 := r.1.timers f i c.1 tc inj
  let req := f.requestBit m
  let x := x1.transit f c.1 r.2 req inj.notOpen
  (x, x.word req (decide (c.1 = .closed)) c.2.2.2.2 c.2.2.2.1, [(1, b2n c.2.1), (1, b2n c.2.2.1)])

/-- The injections under way for a function (R271): they act in every lane that executes the main schedule. -/
def Hub.sfForce (h : Hub) (n : Nat) (rep : Bool) : SfForce :=
  let on := fun (name : FaultName) => (h.armed name (fun a => a.resource == n && a.reportOnly == rep)).isSome
  { disc := on .channelDiscrepancy, stuck := on .resetStuck, notOpen := on .startupTestPending }

/-- Flags of a function that raise a fault, with the fault. -/
def SfState.faults (x : SfState) : List FaultName :=
  (if x.inDisc || x.outDisc then [.channelDiscrepancy] else []) ++ (if x.stuck then [.resetStuck] else []) ++
    (if x.pending then [.startupTestPending] else [])

/-- The detail of a fault of this chapter that the hub raises from a function (Table 10.11); the source lane's area gives what
SF_STATE does not hold. -/
def Hub.sfDetail (h : Hub) (n : Nat) (name : FaultName) (m : Mem) : Detail :=
  let f := h.cfg.safety.getD n {}
  let x := SfState.load m n
  let i := SfIn.load m n
  match name with
  | .channelDiscrepancy =>
    if x.inDisc then
      let c := i.condition f
      [(1, n), (1, 0), (1, b2n c.2.1), (1, b2n c.2.2.1), (2, x.timer)]
    else
      let tc := m.readLe (storeBase + 0x200 + 32 * f.task + 24) 8
      [(1, n), (1, 1), (1, b2n (bit i.readback (2 * f.pair))), (1, b2n (bit i.readback (2 * f.pair + 1))),
       (2, min 65535 (timerSince tc x.outStart / 1000000))]
  | .resetStuck =>
    let tc := m.readLe (storeBase + 0x200 + 32 * f.task + 24) 8
    [(1, n), (1, f.resetDi), (4, stampSince (tc / 1000) x.onAt / 1000)]
  | _ => [(1, n)]

/-- MONITOR_STEP (R248, R252): in the last tick of a cycle of the owning task, in a lane that runs it. -/
def execMonitorStep (lane : LaneId) (func : Fin 8) (s : State) : Out :=
  let f := s.hub.cfg.safety.getD func {}
  let p := (s.hub.cfg.tasks.getD f.task {}).period
  let tick := (s.lane lane).tick
  .next (if !f.used || !s.laneRuns lane || s.hub.suppressed f.task || p == 0 || decide (tick < s.hub.power.tA) ||
      (tick - s.hub.power.tA) % p != p - 1 then s
  else
    let l := s.lane lane
    let real := (l.monitorEval f func {}).1
    let e := l.monitorEval f func (s.hub.sfForce func false)
    let rep := (l.monitorEval f func (s.hub.sfForce func true)).1
    let s := s.modLane lane (fun (l : Lane) =>
      let m := e.1.store func l.mem
      let out := ofBits ((List.range 8).map (fun n =>
        (s.hub.cfg.safety.getD n {}).used && (SfState.load m n).state == 5))
      (({ l with mem := m } : Lane).frameWrite (0x60020 + 8 * func.val) e.2.1).frameWrite 0x60004 (leBytes 4 out))
    let i := SfIn.load l.mem func
    let seen := (if (i.condition f).1 = .mixed || i.outDiffer f then [FaultName.channelDiscrepancy] else []) ++
      (if (SfState.load l.mem func).state = 1 then [FaultName.startupTestPending] else []) ++
      (if f.resetDi != 0xFF && bit i.di f.resetDi then [FaultName.resetStuck] else [])
    let s := s.modHub (fun (h : Hub) => { h with safety.evaluated := seen.map (fun n => (n.code, func.val)) ++ h.safety.evaluated })
    if s.hub.sourceLane != some lane then s
    else
      let inj := (e.1.faults.filter (fun n => !real.faults.contains n)).map (fun n => (n.code, func.val))
      let s := s.modHub (fun (h : Hub) => { h with safety.injected := inj ++ h.safety.injected })
      (rep.faults.filter (fun n => !e.1.faults.contains n && !s.hub.faultActive n [func.val])).foldl (fun (s : State) n =>
        s.modHub (Hub.raise n [func.val] 0 (s.hub.sfDetail func n (rep.store func (s.lane lane).mem)) .reportOnly)) s)

/-- The hub raises and clears the faults of R271 from a function's released SF_STATE; `old` is what was released before. -/
def Hub.sfFaults (n old : Nat) (m : Mem) (h : Hub) : Hub :=
  let w := vgetN h.safety.sfState n 0
  let set := fun (name : FaultName) (on : Bool) (h : Hub) =>
    if on && !h.faultActive name [n] then
      let inj := h.safety.injected.contains (name.code, n)
      ({ h with safety.injected := h.safety.injected.filter (fun e => e != (name.code, n)) } : Hub).raise name [n] 0
        (h.sfDetail n name m) (if inj then .injected else .real)
    else if !on && h.faultActive name [n] && name != .channelDiscrepancy then h.clearFault name [n] id else h
  let disc := (bit w 9 && !bit old 9) || (bit w 10 && !bit old 10)
  ((set .channelDiscrepancy disc h) |> set .resetStuck (bit w 11)) |> set .startupTestPending (bit w 12)

/-! ### Sensor supply test pulses (R254, R255) -/

/-- TEST_PULSE_START: SB pulses TPk low and its window opens, for a present TP. -/
def execTestPulseStart (tp : Fin 4) (s : State) : Out :=
  .next (s.modHub (fun (h : Hub) =>
    if h.stage.run && bit h.stage.tpPresent tp.val then { h with stage.window := some tp.val } else h))

/-- The result of one DI in a window of `tp`: 1 passed, 2 cross-short, 3 short to supply; none when it is not evaluated. -/
def windowResult (own tp : Nat) (before during after : Bool) : Option Nat :=
  if !before then none
  else if own = tp then some (if during then 3 else 1)
  else some (if !during && after then 2 else 1)

/-- One DI in a window: `s3` gives the samples of each controller. -/
def Hub.evalWindow (tp k own : Nat) (before during after : List Nat) (h : Hub) : Hub :=
  let res := fun (force : Bool) (c : Nat) =>
    windowResult own tp (bit (before.getD c 0) k) (bit (during.getD c 0) k && !force) (bit (after.getD c 0) k)
  let worst := fun (force : Bool) => max ((res force 0).getD 0) ((res force 1).getD 0)
  let arm := fun (rep : Bool) => (h.armed .crossShortInput (fun a => a.resource == k && a.reportOnly == rep)).isSome && own != tp && decide (1 ≤ worst false)
  let real := worst false
  let seen := if arm false then worst true else real
  let h := if arm true && decide (seen < 2) && decide (2 ≤ worst true) then
      h.raise .crossShortInput [k] 0 [(1, k), (1, 0), (1, own), (1, tp), (1, h.cfg.functionOf k)] .reportOnly
    else h
  let h := if arm false || arm true then h.disarm .crossShortInput else h
  if 2 ≤ vgetN h.stage.testResult k 0 ∨ seen = 0 then h
  else { h with
    stage.testResult := vmodN h.stage.testResult k (fun _ => seen)
    stage.testOther := vmodN h.stage.testOther k (fun o => if seen = 2 then tp else o)
    stage.testInjected := putBit h.stage.testInjected k (decide (2 ≤ seen) && decide (real < 2)) }

/-- TEST_WINDOW_EVALUATION (R255): the samples "before", "during" and "after" of each controller, a mask of DIs each. The window
closes. -/
def execTestWindowEvaluation (tp : Fin 4) (before during after : List Nat) (s : State) : Out :=
  .next (s.modHub (fun (h : Hub) =>
    if h.stage.window != some tp.val then h else
    let tested := (List.range 24).filterMap (fun k => (h.cfg.supplyOf k).map (fun own => (k, own)))
    let any := tested.any (fun e => bit (before.getD 0 0) e.1 || bit (before.getD 1 0) e.1)
    let h := tested.foldl (fun (h : Hub) e => h.evalWindow tp.val e.1 e.2 before during after) h
    { h with
      stage.window := none
      stage.testEvaluations := if any then satAdd 32 h.stage.testEvaluations 1 else h.stage.testEvaluations }))

/-- TP_ABSENT_DETECTION (R254): low for 1 ms outside the supply's own window. -/
def execTpAbsentDetection (tp : Fin 4) (s : State) : Out :=
  .next (s.modHub (fun (h : Hub) =>
    if h.stage.run && h.stage.window != some tp.val then { h with stage.tpPresent := clearBit h.stage.tpPresent tp.val } else h))

/-- TP_CURRENT_LIMIT (R254): in limit for 5 ms; the supply is switched off for 1 s. -/
def execTpCurrentLimit (tp : Fin 4) (now : Nat) (s : State) : Out :=
  .next (s.modHub (fun (h : Hub) =>
    let h := h.at_ now
    if h.stage.run && h.stage.tpOff[tp].isNone then
      { h with stage.tpOff := h.stage.tpOff.set tp (some h.time.now), stage.tpLimit := setBit h.stage.tpLimit tp.val }
    else h))

/-- TP_RETRY (R254). -/
def execTpRetry (tp : Fin 4) (now : Nat) (s : State) : Out :=
  .next (s.modHub (fun (h : Hub) =>
    let h := h.at_ now
    match h.stage.tpOff[tp] with
    | some t => if t + 1000000000 ≤ h.time.now then
        { h with stage.tpOff := h.stage.tpOff.set tp none, stage.tpLimit := clearBit h.stage.tpLimit tp.val } else h
    | none => h))

/-! ### Off-pulses (R258 to R261) -/

/-- OFF_PULSE_START: at the channel's slot of the 200 ms pattern, at least 200 ms after the turn-on. -/
def execOffPulseStart (channel : Fin 24) (now : Nat) (s : State) : Out :=
  .next (s.modHub (fun (h : Hub) =>
    let h := h.at_ now
    let c := h.out channel
    if h.stage.run && h.cfg.pulsed channel && c.cmd && c.pulse.isNone && decide (c.onSince + 200000000 ≤ h.time.now) then
      h.modOut channel (fun c => { c with pulse := some h.time.now })
    else h))

/-- A failed pulse: cause 0 late fall, 1 intermediate level. -/
def Hub.offPulseFail (k cause fallUs : Nat) (o : Origin) (h : Hub) : Hub :=
  h.raise .offPulseFail [k] 0 [(1, k), (1, cause), (2, fallUs), (2, h.cfg.offpulseUs)] o

/-- OFF_PULSE_END (R260): `left` says that the readback left the high level, `fallUs` when it reached low (0xFFFF: not by the end).
The output is on again. A pulse that an off demand ended is evaluated no more (R261). -/
def execOffPulseEnd (channel : Fin 24) (left : Bool) (fallUs now : Nat) (s : State) : Out :=
  .next (s.modHub (fun (h : Hub) =>
    let h := h.at_ now
    let k := channel.val
    match (h.out k).pulse with
    | none => h
    | some t =>
      let w := h.cfg.offpulseUs
      if h.time.now < t + 1000 * w then h else
      let h := h.modOut k (fun c => { c with pulse := none })
      if !left then (if h.extKnown k then h else h.extDetect k 1 .real)
      else
        let passes := decide (2 * fallUs ≤ w)
        let cause := if fallUs = 0xFFFF then 1 else 0
        let arm := h.armed .offPulseFail (fun a => a.resource == k)
        let h := if arm.isSome then h.disarm .offPulseFail else h
        let injected := match arm with | some a => !a.reportOnly | none => false
        let failed := !passes || injected
        let h : Hub := { h with stage.offFailed := putBit h.stage.offFailed k failed }
        if !passes then h.offPulseFail k cause fallUs .real
        else if injected then h.offPulseFail k 0 0xFFFF .injected
        else match arm with
          | some _ => h.offPulseFail k 0 0xFFFF .reportOnly
          | none => h))

/-! ### Block 6 (R269) and GET_SAFETY_STATUS (R272) -/

def Hub.sfSummary (h : Hub) : Nat :=
  let st := fun n => vgetN h.safety.sfState n 0 % 16
  ofBits ((List.range 8).map (fun n => st n == 5)) +
    256 * ofBits ((List.range 8).map (fun n => decide (1 ≤ st n ∧ st n ≤ 3))) +
    65536 * ofBits ((List.range 8).map (fun n => st n == 3)) +
    2 ^ 24 * ofBits ((List.range 8).map (fun n => h.faultActive .startupTestPending [n]))

/-- Block 6 as (width, value), in order. -/
def Hub.safetyFields (h : Hub) : List (Nat × Nat) :=
  [(4, h.sfSummary), (4, h.safety.sfOut), (8, h.testResults), (4, h.tpStatus), (4, h.stage.offFailed),
   (4, h.safety.saUsed + 16 * h.safety.sbUsed + 256 * b2n h.safety.halvesAgree), (4, 0)] ++
  h.safety.sfState.toList.map (fun w => (8, w)) ++ [(4, h.stage.testEvaluations)]

def Hub.block6 (h : Hub) : List (Nat × Nat × Nat) := layFields 0 h.safetyFields

def opGetSafetyStatus : OpSpec where
  op := .getSafetyStatus
  level := baseLevel .getSafetyStatus
  layout := exactly 0
  check := fun s _ _ => firstFail [modeIs Mode.parser s]
  act := fun r _ s => s.modHub (Hub.reply r .getSafetyStatus .ok (s.snap.safetyFields.flatMap (fun f => beBytes f.1 f.2)))

def execGetSafetyStatus (r : Req) (p : Bytes) (s : State) : Out := .next (opGetSafetyStatus.run r p s)

end Sys2Proof.Machine
end

