-- ==== Sys2Proof/Machine/Window.lean ====
section
/-! DEFINITION. Block 2 and the runtime area of block 0: registers as (offset, width, value). -/
namespace Sys2Proof.Machine

/-! ### Block 2 (R140) -/

def Hub.laneStatesReg (h : Hub) : Nat := h.laneStatesWord

def Hub.voteStatus (h : Hub) : Nat :=
  let v := h.vote
  let target := match v.copy with | some c => 2 ^ c.target.val | none => 0
  let kind := match v.copy with | some c => c.shown | none => 0
  v.verdicts % 65536 + 2 ^ 16 * b2n v.selftestTick + 2 ^ 17 * b2n v.selftestOk + 2 ^ 18 * b2n (v.latentPending != 0) +
    2 ^ 19 * target + 2 ^ 23 * kind + 2 ^ 26 * v.split.code

/-- Byte j of LATENT_COUNT: events of lane j in its record of R131. -/
def Hub.latentCount (h : Hub) : Nat := sumNat (allLanes.map (fun j => min 7 (h.vote.latentLog[j].length) * 256 ^ j.val))

def Hub.block2 (h : Hub) : List (Nat × Nat × Nat) :=
  let v := h.vote
  let map := fun (j : LaneId) => sumNat ((List.range 8).map (fun k => vgetN (v.engineMap[j]) k k * 16 ^ k))
  let lc := fun (j : LaneId) => v.liveCount[j] % 65536
  [(0x00, 4, h.laneStatesReg), (0x04, 4, h.voteStatus), (0x08, 8, v.splitTarget)] ++
  allLanes.map (fun j => (0x10 + 4 * j.val, 4, map j)) ++
  [(0x20, 4, lc 0 + 65536 * lc 1), (0x24, 4, lc 2 + 65536 * lc 3), (0x28, 4, h.latentCount), (0x2C, 4, v.linkActive)] ++
  (List.range 10).map (fun i => (0x30 + 2 * i, 2, vgetN v.linkErrors i 0)) ++
  [(0x48, 4, v.selftestCount), (0x4C, 4, v.lastMismatch), (0x50, 8, v.lastMismatchTick), (0x58, 8, v.sigMajority),
   (0x60, 8, v.sigMinority), (0x80, 4, v.diAgreed), (0x84, 4, v.diDisagree)] ++
  allLanes.map (fun j => (0x88 + 4 * j.val, 4, v.diRaw[j])) ++
  (List.range 24).map (fun k => (0xA0 + 2 * k, 2, vgetN v.diCount k 0)) ++ [(0xE0, 4, v.sdSpread)]

/-! ### The runtime area of block 0 (R167) -/

/-- RT_REQUEST (Table 6.10). -/
def RtReq.bytes (r : RtReq) : Bytes :=
  leBytes 4 r.seq ++ leBytes 1 r.kind ++ leBytes 1 r.task ++ leBytes 2 r.index ++ leBytes 8 r.cycle ++ leBytes 4 r.address ++
    leBytes 2 r.value.length ++ zeros 2 ++ fitBytes 8 r.mask ++ fitBytes 64 r.value

/-- The retained copies that are complete for the loaded image (R166). -/
def Hub.retainedTotal (h : Hub) : Nat :=
  match h.mainSchedule.bind h.schedule with
  | none => 0
  | some sc => match sc.images.find? (fun i => i.kind == 3) with | some i => i.total | none => 0

def Hub.retainedOk (h : Hub) (c : Option Retained) : Option Retained :=
  match c with
  | some r => if r.image == h.sched.measurement.take 8 && r.total == h.retainedTotal && crc32 r.data == r.crc then some r else none
  | none => none

/-- The newest complete copy (R166). -/
def Hub.newestRetained (h : Hub) : Option Retained :=
  match h.retainedOk h.rt.copyA, h.retainedOk h.rt.copyB with
  | some a, some b => some (if a.sequence < b.sequence then b else a)
  | some a, none => some a
  | none, b => b

def Hub.blockRt (h : Hub) : List (Nat × Nat × Nat) :=
  let req := match h.rt.present with | some r => leVal r.bytes | none => 0
  let seq := match h.newestRetained with | some r => r.sequence | none => 0
  let st := ofBits [(h.retainedOk h.rt.copyA).isSome, (h.retainedOk h.rt.copyB).isSome, h.rt.copying.isSome, h.rt.notTaken]
  [(0x8000, 96, req), (0x8060, 4, h.rt.applied), (0x8064, 4, h.rt.result), (0x8080, 4, h.rt.status), (0x8084, 4, seq), (0x8088, 4, st)] ++
  (List.range 8).map (fun t => (0x8100 + 16 * t, 16, vgetN h.rt.taskStatus t 0))

end Sys2Proof.Machine
end

