-- ==== Sys2Proof/Machine/Runtime.lean ====
section
/-! DEFINITION. The cyclic control runtime (chapter 06): its records, the steps of a cycle, online change, forcing, restart and the
retained copies. -/
namespace Sys2Proof.Machine

/-! ### Records (Tables 6.8, 6.9 and 6.12) -/

/-- TASK; `s` is the sentence length S. -/
def parseTask (s : Nat) (b : Bytes) : Option TaskCfg :=
  let p := le32 b 0
  if (p = 0 ∨ (p ≤ s ∧ s % p = 0) ∨ (p % s = 0 ∧ 2 ≤ p / s ∧ p / s ≤ 255)) ∧ 1 ≤ u8 b 4 ∧ allZero (slice b 5 3) then
    some { period := p, limit := u8 b 4 }
  else none

def parseTasks (s : Nat) (b : Bytes) : Option (List TaskCfg) :=
  if b.length = 64 then (List.range 8).mapM (fun t => parseTask s (slice b (8 * t) 8)) else none

def overlaps (a n b m : Nat) : Bool := decide (a < b + m) && decide (b < a + n)

/-- An address range wholly inside the scratchpads, lane store or DRAM. -/
def inLaneMemory (a n : Nat) : Bool :=
  (List.range 9).any (fun k => (Port.scratch k).holds a n) || decide (storeBase ≤ a ∧ a + n ≤ storeBase + storeSize) ||
    Port.dram.holds a n

def parseRegion (tasks : List TaskCfg) (b : Bytes) : Option Region :=
  let a := le32 b 0
  let n := le32 b 4
  if a % 4 = 0 ∧ n % 4 = 0 ∧ 1 ≤ u8 b 8 ∧ u8 b 8 ≤ 4 ∧ (tasks.getD (u8 b 9) {}).period ≠ 0 ∧ u8 b 9 < 8 ∧ le16 b 10 = 0 ∧
      inLaneMemory a n then
    some { address := a, length := n, kind := u8 b 8, task := u8 b 9 }
  else none

/-- VARIABLE_REGIONS; `retained` are the regions of the RETAINED image. -/
def parseRegions (tasks : List TaskCfg) (retained : List (Nat × Nat)) (b : Bytes) : Option (List Region) :=
  let k := b.length / 12
  if b.length % 12 ≠ 0 ∨ k = 0 ∨ 1024 < k then none else
  match (List.range k).mapM (fun i => parseRegion tasks (slice b (12 * i) 12)) with
  | none => none
  | some rs =>
    let pairOk := fun (i j : Nat) => match rs[i]?, rs[j]? with
      | some x, some y => !overlaps x.address x.length y.address y.length | _, _ => true
    let apart := (List.range k).all (fun i => (List.range i).all (fun j => pairOk i j))
    let edges := rs.all (fun r => !overlaps r.address r.length (storeBase + 0x1800) 0x400)
    let keep := rs.all (fun r => r.kind != 4 || retained.all (fun e => !overlaps r.address r.length e.1 e.2))
    if apart && edges && keep then some rs else none

def parseDiCounters (b : Bytes) : Option (List DiCounterCfg) :=
  let one := fun (i : Nat) =>
    if (u8 b (4 * i) < 24 ∨ u8 b (4 * i) = 0xFF) ∧ 1 ≤ u8 b (4 * i + 1) ∧ u8 b (4 * i + 1) ≤ 3 ∧ le16 b (4 * i + 2) = 0 then
      some ({ di := u8 b (4 * i), edge := u8 b (4 * i + 1) } : DiCounterCfg)
    else none
  if b.length = 32 then (List.range 8).mapM one else none

/-! ### Tasks and cycles -/

def Cfg.period (c : Cfg) (t : Nat) : Nat := (c.tasks.getD t {}).period

def Cfg.enabledTasks (c : Cfg) : List Nat := (List.range 8).filter (fun t => c.period t != 0)

/-- The region that holds `n` bytes at an address wholly. -/
def Cfg.regionAt (c : Cfg) (a n : Nat) : Option Region :=
  c.regions.find? (fun r => decide (r.address ≤ a ∧ a + n ≤ r.address + r.length))

/-- The lane executes steps of this task in this tick (R146, R150): its cycle and the tick in it. -/
def State.taskTick (s : State) (l : LaneId) (t : Nat) : Option (Nat × Nat) :=
  let p := s.hub.cfg.period t
  let tick := (s.lane l).tick
  if p = 0 ∨ s.laneRuns l = false ∨ s.hub.suppressed t = true ∨ tick < s.hub.power.tA then none
  else some ((tick - s.hub.power.tA) / p, (tick - s.hub.power.tA) % p)

/-! ### The force table (R161, R162) -/

def forceAddr (i : Nat) : Nat := storeBase + 0x2000 + 32 * i

/-- An entry of the table as lane store holds it (Table 6.5). -/
structure ForceRec where
  address : Nat
  length : Nat
  kind : Nat
  task : Nat
  used : Bool
  changed : Bool
  mask : Bytes
  value : Bytes
  shadow : Bytes
deriving DecidableEq, Repr

def ForceRec.load (m : Mem) (i : Nat) : ForceRec :=
  let a := forceAddr i
  let fl := (m.read (a + 7)).toNat
  { address := m.readLe a 4, length := (m.read (a + 4)).toNat, kind := (m.read (a + 5)).toNat, task := (m.read (a + 6)).toNat,
    used := bit fl 0, changed := bit fl 1, mask := m.readN (a + 8) 8, value := m.readN (a + 16) 8, shadow := m.readN (a + 24) 8 }

def ForceRec.store (i : Nat) (f : ForceRec) (m : Mem) : Mem :=
  m.writeN (forceAddr i) (leBytes 4 f.address ++ leBytes 1 f.length ++ leBytes 1 f.kind ++ leBytes 1 f.task ++
    leBytes 1 (b2n f.used + 2 * b2n f.changed) ++ fitBytes 8 f.mask ++ fitBytes 8 f.value ++ fitBytes 8 f.shadow)

/-- Entries in use, with their indexes. -/
def Mem.forces (m : Mem) : List (Nat × ForceRec) :=
  ((List.range 256).map (fun i => (i, ForceRec.load m i))).filter (fun e => e.2.used)

def mixByte (mask old new : Byte) : Byte := (old &&& ~~~ mask) ||| (new &&& mask)

/-- The bytes of `new` under a mask, the others of `old`. -/
def mixBytes : Bytes → Bytes → Bytes → Bytes
  | k :: ks, o :: os, n :: ns => mixByte k o n :: mixBytes ks os ns
  | _, os, _ => os

/-- Write an entry's forced bits where it points. -/
def ForceRec.apply (f : ForceRec) (m : Mem) : Mem :=
  m.writeN f.address (mixBytes f.mask (m.readN f.address f.length) f.value)

/-- The input step's forces of a task (Table 6.7): INPUT_IMAGE, VARIABLE and CONSTANT. -/
def Mem.inputForces (t : Nat) (m : Mem) : Mem :=
  m.forces.foldl (fun (m : Mem) e => if e.2.task = t ∧ e.2.kind ≠ 2 then e.2.apply m else m) m

/-- One byte of a change on forced bits (R162): the byte written and the entry's shadow byte. -/
def Mem.changeByte (a : Nat) (v : Byte) (m : Mem) : Mem × Bool :=
  match m.forces.find? (fun e => decide (e.2.address ≤ a ∧ a < e.2.address + e.2.length)) with
  | none => (m.write a v, false)
  | some (i, f) =>
    let k := a - f.address
    let mask := f.mask.getD k 0#8
    let m := m.write a (mixByte mask v (m.read a))
    if mask = 0#8 then (m, false)
    else ({ f with changed := true, shadow := modifyAt (fun o => mixByte mask o v) f.shadow k }.store i m, true)

/-- WRITE_VARIABLE or CHANGE_CONSTANT: whether a force shadows it. -/
def Mem.changeBytes : Mem → Nat → Bytes → Mem × Bool
  | m, _, [] => (m, false)
  | m, a, v :: vs =>
    let r := m.changeByte a v
    let q := Mem.changeBytes r.1 (a + 1) vs
    (q.1, r.2 || q.2)

/-- A new or replaced entry (R161). -/
def Mem.setForce (r : RtReq) (kind : Nat) (m : Mem) : Mem :=
  let n := r.value.length
  let old := ForceRec.load m r.index
  let cur := fitBytes 8 (m.readN r.address n)
  let same := old.used && old.address == r.address && old.length == n
  let f : ForceRec :=
    { address := r.address, length := n, kind := kind, task := r.task, used := true, changed := same && old.changed,
      mask := fitBytes 8 r.mask, value := r.value, shadow := if same then mixBytes old.mask cur old.shadow else cur }
  f.store r.index m

/-- The end of an entry (R162, Table 6.7). -/
def Mem.unforce (i : Nat) (m : Mem) : Mem :=
  let f := ForceRec.load m i
  let back := f.kind == 4 || ((f.kind == 2 || f.kind == 3) && f.changed)
  let m := if back then m.writeN f.address (mixBytes f.mask (m.readN f.address f.length) f.shadow) else m
  m.writeN (forceAddr i) (zeros 32)

/-! ### RUNTIME_STATUS and FORCE_ACTIVE -/

def Hub.runtimeStatus (h : Hub) (count : Nat) : Nat :=
  1 + 2 * b2n h.rt.warm + 4 * b2n (count != 0) + 256 * count + 2 ^ 17 * ofBits ((List.range 8).map (fun t => h.cfg.period t != 0))

/-- After a step changed the force table: the voted write of RUNTIME_STATUS, and FORCE_ACTIVE as the source lane sees it. -/
def State.forcesChanged (l : LaneId) (s : State) : State :=
  let fs := (s.lane l).mem.forces
  let s := s.modLane l (Lane.frameWrite 0x8080 (leBytes 4 (s.hub.runtimeStatus fs.length)))
  if s.hub.sourceLane != some l then s
  else match fs with
    | [] => s.modHub (Hub.clearFault .forceActive [] id)
    | (_, f) :: _ =>
      if s.hub.faultActive .forceActive [] then s
      else s.modHub (Hub.raise .forceActive [] 0 [(2, fs.length), (1, f.kind), (1, f.task)] .real)

/-! ### APPLY_STEP (R159) -/

/-- The lane's check and the effect of a request: its memory, the removals it leaves for input steps, and RT_RESULT. -/
def Lane.applyRequest (c : Cfg) (tA : Nat) (r : RtReq) (l : Lane) : Lane × Nat :=
  let region := match c.regionAt r.address r.value.length with
    | some g => if g.task = r.task then some g.kind else none
    | none => none
  match r.kind with
  | 1 | 2 =>
    let ok := match region with | some k => if r.kind = 1 then k == 2 || k == 3 else k == 4 | none => false
    if !ok then (l, 2)
    else
      let w := l.mem.changeBytes r.address r.value
      ({ l with mem := w.1 }, b2n w.2)
  | 3 => match region with
    | some k => ({ l with mem := l.mem.setForce r k }, 0)
    | none => (l, 2)
  | 4 => if (ForceRec.load l.mem r.index).used then ({ l with rt.unforce := (r.index, r.cycle) :: l.rt.unforce }, 0) else (l, 2)
  | 5 =>
    let marks := l.mem.forces.map (fun e => (e.1, (l.tick - tA) / max 1 (c.period e.2.task) + 1))
    ({ l with rt.unforce := marks ++ l.rt.unforce }, 0)
  | _ => (l, 2)

/-- APPLY_STEP (R146, R159): in the last tick of a cycle, after the release step, the request presented in this tick's snapshot. -/
def execApplyStep (lane : LaneId) (task : Fin 8) (s : State) : Out :=
  .next (match s.taskTick lane task, s.snap.rt.present with
  | some (j, i), some r =>
    if i ≠ s.hub.cfg.period task - 1 ∨ r.task ≠ task.val ∨ r.cycle ≠ j + 1 then s else
    let res := ({ s.lane lane with mem := (s.lane lane).mem.writeN (storeBase + 0x300) r.bytes } : Lane).applyRequest s.hub.cfg
      s.hub.power.tA r
    let s := s.modLane lane (fun _ => (res.1.frameWrite 0x8060 (leBytes 4 r.seq)).frameWrite 0x8064 (leBytes 4 res.2))
    if r.kind = 3 ∧ res.2 = 0 then s.forcesChanged lane else s
  | _, _ => s)

/-! ### INPUT_STEP (R146, R540) -/

/-- The part of the input step that changes the runtime's own data. -/
def Lane.inputStep (snap : Hub) (t j : Nat) (l : Lane) : Lane :=
  let acc := storeBase + 0x400 + 0x80 * t
  let edges := l.mem.readN acc 0x80
  let m := (l.mem.writeN (storeBase + 0x1800 + 0x80 * t) edges).writeN acc (zeros 0x80)
  let mine := l.rt.unforce.filter (fun e => e.2 == j && (ForceRec.load m e.1).task == t)
  let m := mine.foldl (fun (m : Mem) e => m.unforce e.1) m
  let m := m.inputForces t
  let fl := clearBits (m.readLe (tcbAddr t + 16) 4) 0x301 + 256 * b2n (m.forces.any (fun e => e.2.task == t)) + 512 * b2n (j == 0)
  let m := ((m.writeLe (tcbAddr t) 8 (j % 2 ^ 48)).writeLe (tcbAddr t + 16) 4 fl).writeLe (tcbAddr t + 24) 8 l.tb0
  let l := { l with mem := m, rt.unforce := l.rt.unforce.filter (fun e => !mine.contains e) }
  (List.range 8).foldl (fun (l : Lane) n => if (snap.cfg.safety.getD n {}).task = t then l.captureSafety snap n else l) l

/-! ### RELEASE_STEP (R146, R157, R165) -/

/-- A copy of the work output image with the forces of OUTPUT_IMAGE regions applied to the release image. -/
def Lane.releaseMove (c : Cfg) (t : Nat) (l : Lane) (v : Nat × Nat × Nat) : Lane :=
  let (src, dst, n) := v
  let ok := match c.regionAt src n with | some r => r.kind == 2 && r.task == t | none => false
  if ok && inLaneMemory dst n then
    { l with mem := l.mem.writeN dst (mapIdxFrom (fun i b => forceByte l.mem 2 (src + i) b) 0 (l.mem.readN src n)) }
  else l

/-- A write of the release image through the hub frame: lane address, window offset, length. -/
def Lane.releaseFrame (l : Lane) (v : Nat × Nat × Nat) : Lane :=
  let (src, off, n) := v
  if inLaneMemory src n && decide (off + n ≤ windowSize) then l.frameWrite off (l.mem.readN src n) else l

/-- The reports of an overrun and what the majority of the contributing lanes makes of them (R157). -/
def State.reportOverrun (o : Overrun) (origin : Origin) (s : State) : State :=
  if s.hub.laneState o.lane ≠ .active ∨ (s.hub.rt.overruns.any (fun x => x.task == o.task && x.lane == o.lane)) = true then s else
  let s := s.modHub (fun (h : Hub) => { h with rt.overruns := o :: h.rt.overruns })
  let n := (s.hub.rt.overruns.filter (fun x => x.task == o.task)).length
  if n ≠ min 2 s.hub.active.length then s
  else s.modHub (fun (h : Hub) =>
    let limit := (h.cfg.tasks.getD o.task {}).limit
    let h := h.event .taskOverrun [o.task] 0
      [(1, o.task), (1, o.cause), (2, o.clause), (6, o.cycle), (1, o.consecutive)] origin
    let det : Detail := [(1, o.task), (1, limit), (2, 0), (6, o.cycle)]
    let arm := h.armed .overrunLimit (fun a => a.resource == o.task)
    let h := if arm.isSome then h.disarm .overrunLimit else h
    if limit ≤ o.consecutive then h.raise .overrunLimit [o.task] 0 det .real
    else match arm with
      | some a => h.raise .overrunLimit [o.task] 0 det a.origin
      | none => h)

/-- Freeze the RETAINED regions at the end of a task-0 cycle (R165). -/
def State.freeze (l : LaneId) (j : Nat) (s : State) : State :=
  match s.laneSchedule l with
  | none => s
  | some sc =>
    match sc.images.find? (fun i => i.kind == 3) with
    | none => s
    | some img =>
      if s.hub.laneState l ≠ .active then s else
      let tick := (s.lane l).tick
      let busy := match s.hub.rt.copying with | some (_, t) => t != tick | none => false
      let data := img.regions.flatMap (fun r => (s.lane l).mem.readN r.1 r.2)
      let s := if busy then s else s.modLane l (fun x => { x with frozen := data })
      if s.hub.sourceLane != some l then s
      else s.modHub (fun (h : Hub) =>
        if busy then
          ({ h with rt.notTaken := true } : Hub).event .retainCopyFailed [2] 0 [(1, 2), (3, 0), (6, j)] .real
        else { h with rt.copying := some (j, tick), rt.notTaken := false })

/-- The end of a cycle in the task control block, and TASK_STATUS: consecutive, overruns, flags. -/
def Lane.endCycle (t j : Nat) (aborted : Bool) (l : Lane) : Lane :=
  let a := tcbAddr t
  let cons := if aborted then min 255 ((l.mem.read (a + 22)).toNat + 1) else 0
  let n := if aborted then satAdd 16 (vgetN l.rt.overruns t 0) 1 else vgetN l.rt.overruns t 0
  let fl := l.mem.readLe (a + 16) 4
  ({ l with mem := l.mem.writeLe (a + 22) 1 cons, rt.overruns := vmodN l.rt.overruns t (fun _ => n) } : Lane).frameWrite
    (0x8100 + 16 * t) (leBytes 8 j ++ leBytes 2 cons ++ leBytes 2 n ++ leBytes 4 fl)

/-- RELEASE_STEP (R146): in tick b + P − 1, after the task's last clause. -/
def execReleaseStep (lane : LaneId) (task : Fin 8) (moves frame : List (Nat × Nat × Nat)) (s : State) : Out :=
  .next (match s.taskTick lane task with
  | some (j, i) =>
    if i ≠ s.hub.cfg.period task - 1 then s else
    let t := task.val
    let real := bit ((s.lane lane).mem.readLe (tcbAddr t + 16) 4) 0
    let arm := s.hub.armed .taskOverrun (fun a => a.resource == t && (a.lanes == 0 || bit a.lanes lane.val))
    let s := match arm with
      | some a => if a.reportOnly then s else s.modLane lane (Lane.setAborted t 0 0)
      | none => s
    let aborted := bit ((s.lane lane).mem.readLe (tcbAddr t + 16) 4) 0
    let s := s.modLane lane (fun (l : Lane) =>
      let l := if aborted then l else frame.foldl Lane.releaseFrame (moves.foldl (Lane.releaseMove s.hub.cfg t) l)
      l.endCycle t j aborted)
    let m := (s.lane lane).mem
    let rep : Overrun :=
      { task := t, lane := lane, cause := bits (m.readLe (tcbAddr t + 16) 4) 4 4, clause := m.readLe (tcbAddr t + 20) 2,
        cycle := j, consecutive := (m.read (tcbAddr t + 22)).toNat }
    let s := if aborted then s.reportOverrun rep (if real then .real else .injected)
      else match arm with
        | some _ => s.reportOverrun { rep with consecutive := 0 } .reportOnly
        | none => s
    if t = 0 ∧ aborted = false then s.freeze lane j else s
  | none => s)

/-- RETAINED_COPY_COMPLETE (R165): the hub has read the frozen data of the source lane. -/
def execRetainedCopyComplete (s : State) : Out :=
  .next (match s.hub.rt.copying, s.hub.sourceLane with
  | some (j, tick), some l =>
    let data := (s.lane l).frozen
    let crc := crc32 data
    let votes := (s.hub.active.filter (fun k => crc32 (s.lane k).frozen == crc)).length
    s.modHub (fun (h : Hub) =>
      let h : Hub := { h with rt.copying := none }
      if votes < 2 then h.event .retainCopyFailed [1] 0 [(1, 1), (3, 0), (6, j)] .real
      else
        let new := h.newestRetained
        let seq := match new with | some r => r.sequence + 1 | none => 1
        let r : Retained := { total := h.retainedTotal, sequence := seq, cycle := j, tick := tick, image := h.sched.measurement.take 8,
                              crc := crc, data := data }
        if new.isSome && h.retainedOk h.rt.copyA == new then { h with rt.copyB := some r } else { h with rt.copyA := some r })
  | _, _ => s)

/-! ### Cold and warm restart (R163) and APPLICATION_START -/

/-- A committed change entry without its CRC (Table 6.6). -/
def Change.body (c : Change) : Bytes × Bytes :=
  (leBytes 4 c.address ++ leBytes 1 c.value.length ++ leBytes 1 c.kind ++ leBytes 1 c.task ++ zeros 1, fitBytes 64 c.value)

def Change.sum (c : Change) : Nat := crc32 (c.body.1 ++ c.body.2)

/-- The entry may be applied: its CRC holds and its range is in a region of its kind. -/
def Change.ok (cfg : Cfg) (c : Change) : Bool :=
  c.sum == c.crc && (match cfg.regionAt c.address c.value.length with | some r => r.kind == c.kind | none => false)

/-- One lane's preparation (R163). -/
def Lane.prepare (cfg : Cfg) (sc : Schedule) (changes : List Change) (retained : Option Retained) (l : Lane) : Lane :=
  let l := { l with eng := vmap (fun (e : Engine) =>
    { e with regs := Vector.replicate 64 0#32, preds := 1#8, lc0 := 0#32, lc1 := 0#32, loops := [] }) l.eng }
  let l := l.load sc
  let m := changes.foldl (fun (m : Mem) c => if c.ok cfg then m.writeN c.address c.value else m) l.mem
  let m := match retained, sc.images.find? (fun i => i.kind == 3) with
    | some r, some img => (img.regions.foldl (fun (e : Mem × Bytes) (g : Nat × Nat) => (e.1.writeN g.1 (e.2.take g.2), e.2.drop g.2)) (m, r.data)).1
    | _, _ => m
  let m := ((m.writeN (storeBase + 0x2000) (zeros 0x2000)).writeN (storeBase + 0x400) (zeros 0x400)).writeN (storeBase + 0x200) (zeros 0x100)
  let m := (List.range 8).foldl (fun (m : Mem) t => m.writeLe (tcbAddr t + 12) 4 (cfg.period t)) m
  ({ l with mem := m, rt := {}, schedule := some sc.number } : Lane).startSafety cfg

/-- APPLICATION_START (R145, R484): the preparation has ended and the sentence boundary T_a has come. The outputs keep the state that they
have until the first release (R148). -/
def execApplicationStart (s : State) : Out :=
  .next (match s.hub.power.pending, s.hub.sched.selMain.bind s.hub.schedule with
  | some p, some sc =>
    if !s.hub.atBoundary || s.hub.power.mode != .service then s else
    let changes := s.hub.committed
    let kept := if p.warm then s.hub.newestRetained else none
    let s := (List.range changes.length).foldl (fun (s : State) i => match changes[i]? with
      | some c => if c.ok s.hub.cfg then s
                  else s.modHub (Hub.event .retainCopyFailed [3, i] 0 [(1, 3), (3, 0), (6, i)] .real)
      | none => s) s
    let s := allLanes.foldl (fun (s : State) (l : LaneId) =>
      let st := s.hub.laneState l
      if !st.powered || st == .outvoted then s
      else (s.setLaneState l (if bit p.mask l.val then .active else .spareWarm) 0x0102).modLane l
        (Lane.prepare s.hub.cfg sc changes kept)) s
    let s := s.loadCalibration true
    s.modHub (fun (h : Hub) =>
      let enabled := ofBits ((List.range 8).map (fun t => h.cfg.period t != 0))
      let h : Hub := { h with
        power := { h.power with pending := none, tA := h.time.tick, restartWarm := p.warm }
        sched := { h.sched with running := some sc.number }
        safety := { h.safety with
          doCmd := ofBits (((List.range 16).map (fun k => (vgetN h.stage.ch k {}).cmd))), soCmd := 0, sfOut := 0 }
        rt := { h.rt with forces := [], log := [], queue := [], present := none, warm := p.warm, taskStatus := Vector.replicate 8 0,
                          status := 1 + 2 * b2n p.warm + 2 ^ 17 * enabled } }
      let h := (List.range 8).foldl (fun (h : Hub) n =>
        let f := h.cfg.safety.getD n {}
        if !f.used then h else
        let w := if f.startup then 1 + 2 ^ 12 else 2 + 2 ^ 6
        let h : Hub := { h with safety.sfState := vmodN h.safety.sfState n (fun _ => w) }
        if f.startup && !h.faultActive .startupTestPending [n] then h.raise .startupTestPending [n] 0 [(1, n)] .real else h) h
      let h := h.clearFault .forceActive [] id
      let h := ((h.dropLocks (fun k => k.owner == 1)).mbClear (fun m => m.sideA == 1)).setMode p.target 0x0102
      h.finish (fun (e : Exec) => e.op == Opcode.setMode && e.key == [1]) .ok
        (fun _ => beBytes 1 p.target.code ++ beBytes 6 h.time.tick))
  | _, _ => s)

/-! ### The Parser's part (R158 to R162) -/

/-- The first tick of a task's cycle is b; the request is presented in tick b − 1, at least 2 ticks after acceptance, in a tick of
its own. -/
def Hub.applyTick (h : Hub) (task cycle : Nat) : Nat := h.power.tA + cycle * h.cfg.period task - 1

def Hub.tickFree (h : Hub) (tick : Nat) : Bool :=
  decide (h.time.tick + 2 ≤ tick) && h.rt.queue.all (fun r => r.applyTick != tick)

/-- The cycle that a request takes effect in: the named one, or the first possible one. -/
def Hub.targetCycle (h : Hub) (task named : Nat) : Option Nat :=
  let p := h.cfg.period task
  if p = 0 then none
  else if named ≠ 0 then (if h.tickFree (h.applyTick task named) then some named else none)
  else
    let first := (h.time.tick + 3 - h.power.tA + p - 1) / p
    ((List.range 18).map (fun i => first + i)).find? (fun j => decide (1 ≤ j) && h.tickFree (h.applyTick task j))

def Hub.nextSeq (h : Hub) : Nat := h.rt.seq % (2 ^ 32 - 1) + 1

/-- Queue a request and keep its packet in execution. -/
def Hub.enqueue (r : Req) (op : Opcode) (p : Bytes) (q : RtReq) (h : Hub) : Hub :=
  ({ h with rt.seq := q.seq, rt.queue := h.rt.queue ++ [q] } : Hub).defer r op p [6, q.seq]

/-- The change log is full (R160): logged and queued changes to other places. -/
def Hub.logFull (h : Hub) (a n : Nat) : Bool :=
  let keys := h.rt.log.map (fun c => (c.address, c.value.length)) ++
    (h.rt.queue.filter (fun r => decide (r.kind ≤ 2))).map (fun r => (r.address, r.value.length))
  !keys.contains (a, n) && decide (256 ≤ keys.eraseDups.length)

def runningMode (s : State) : Bool × Status := modeIs Mode.isRunning s

/-- A change of the application's state is refused on a STANDBY (Table 15.3). -/
def notStandby (s : State) : Bool × Status := (s.hub.roleCode != 2, .roleStandby)

/-- WRITE_VARIABLE (kind 1) and CHANGE_CONSTANT (kind 2). -/
def opChange (op : Opcode) (kind : Nat) : OpSpec where
  op := op
  level := baseLevel op
  layout := fun p => decide (16 ≤ p.length) && p.length == 16 + be16 p 4
  twoPhase := fun _ _ => true
  check := fun s _ p =>
    let n := be16 p 4
    let g := s.hub.cfg.regionAt (be32 p 0) n
    firstFail [runningMode s, notStandby s, (decide (s.hub.rt.queue.length < 16), .busy), (!s.hub.logFull (be32 p 0) n, .resourceFault),
      param (decide (1 ≤ n ∧ n ≤ 64)), param (allZero (slice p 12 4)),
      param (match g with | some g => if kind = 1 then g.kind == 2 || g.kind == 3 else g.kind == 4 | none => false),
      param (match g with | some g => (s.hub.targetCycle g.task (be48 p 6)).isSome | none => false)]
  act := fun r p s => match s.hub.cfg.regionAt (be32 p 0) (be16 p 4) with
    | none => s
    | some g => match s.hub.targetCycle g.task (be48 p 6) with
      | none => s
      | some j => s.modHub (fun (h : Hub) => h.enqueue r op p
          { seq := h.nextSeq, kind := kind, task := g.task, index := 0, cycle := j, address := be32 p 0, value := p.drop 16,
            applyTick := h.applyTick g.task j })

def execWriteVariable (r : Req) (p : Bytes) (s : State) : Out := .next ((opChange .writeVariable 1).run r p s)
def execChangeConstant (r : Req) (p : Bytes) (s : State) : Out := .next ((opChange .changeConstant 2).run r p s)

/-- The index of a FORCE: its own entry's, or the lowest free one; none when it overlaps otherwise. -/
def Hub.forceIndex (h : Hub) (a n : Nat) : Option (Option Nat) :=
  match h.rt.forces.find? (fun e => e.address == a && e.length == n) with
  | some e => some (some e.index)
  | none =>
    if h.rt.forces.any (fun e => overlaps e.address e.length a n) then none
    else some ((List.range 256).find? (fun i => h.rt.forces.all (fun e => e.index != i)))

def opForce : OpSpec where
  op := .force
  level := baseLevel .force
  layout := exactly 32
  twoPhase := fun _ _ => true
  check := fun s _ p =>
    let n := u8 p 4
    let g := s.hub.cfg.regionAt (be32 p 0) n
    let ix := s.hub.forceIndex (be32 p 0) n
    firstFail [runningMode s, notStandby s, (decide (s.hub.rt.queue.length < 16), .busy), (ix != some none, .resourceFault),
      param (decide (1 ≤ n ∧ n ≤ 8)), param (allZero (slice p 5 3) && allZero (slice p 14 2)), param g.isSome, param ix.isSome,
      param (match g with | some g => (s.hub.targetCycle g.task (be48 p 8)).isSome | none => false)]
  act := fun r p s =>
    let n := u8 p 4
    match s.hub.cfg.regionAt (be32 p 0) n, s.hub.forceIndex (be32 p 0) n with
    | some g, some (some i) => match s.hub.targetCycle g.task (be48 p 8) with
      | none => s
      | some j => s.modHub (fun (h : Hub) =>
          let e : ForceEnt := { index := i, address := be32 p 0, length := n, kind := g.kind, task := g.task }
          let h : Hub := { h with rt.forces := e :: h.rt.forces.filter (fun x => x.index != i) }
          h.enqueue r .force p
            { seq := h.nextSeq, kind := 3, task := g.task, index := i, cycle := j, address := be32 p 0, mask := (slice p 16 8).take n,
              value := (slice p 24 8).take n, applyTick := h.applyTick g.task j })
    | _, _ => s

def execForceCmd (r : Req) (p : Bytes) (s : State) : Out := .next (opForce.run r p s)

/-- The apply step that takes an UNFORCE of every entry: the earliest one of any task. -/
def Hub.unforceAllAt (h : Hub) : Option (Nat × Nat) :=
  let opts := h.cfg.enabledTasks.filterMap (fun t => (h.targetCycle t 0).map (fun j => (t, j)))
  opts.foldl (fun (b : Option (Nat × Nat)) e => match b with
    | none => some e
    | some x => if h.applyTick e.1 e.2 < h.applyTick x.1 x.2 then some e else b) none

def opUnforce : OpSpec where
  op := .unforce
  level := baseLevel .unforce
  layout := exactly 8
  check := fun s _ p =>
    let i := be16 p 0
    let e := s.hub.rt.forces.find? (fun e => e.index == i)
    firstFail [runningMode s, notStandby s, (decide (s.hub.rt.queue.length < 16), .busy), (decide (256 ≤ i) || e.isSome, .notFound),
      param (decide (i < 256) || i == 0xFFFF), param (i != 0xFFFF || be48 p 2 == 0),
      param (match e with
        | some e => (s.hub.targetCycle e.task (be48 p 2)).isSome
        | none => s.hub.rt.forces.isEmpty || s.hub.unforceAllAt.isSome)]
  act := fun r p s =>
    match s.hub.rt.forces.find? (fun e => e.index == be16 p 0) with
    | some e => match s.hub.targetCycle e.task (be48 p 2) with
      | none => s
      | some j => s.modHub (fun (h : Hub) => h.enqueue r .unforce p
          { seq := h.nextSeq, kind := 4, task := e.task, index := e.index, cycle := j, applyTick := h.applyTick e.task j })
    | none =>
      if s.hub.rt.forces.isEmpty then s.modHub (Hub.reply r .unforce .ok (zeros 8))
      else match s.hub.unforceAllAt with
        | none => s
        | some (t, j) => s.modHub (fun (h : Hub) => h.enqueue r .unforce p
            { seq := h.nextSeq, kind := 5, task := t, index := 0, cycle := j, applyTick := h.applyTick t j })

def execUnforce (r : Req) (p : Bytes) (s : State) : Out := .next (opUnforce.run r p s)

/-- Cycle of effect of an UNFORCE of every entry: the latest (R170). -/
def Hub.unforceAllCycle (h : Hub) (q : RtReq) : Nat :=
  maxNat (h.rt.forces.map (fun e => (q.applyTick - h.power.tA) / max 1 (h.cfg.period e.task) + 1))

/-- A change enters the log in place of one to the same address and length (R160). -/
def logChange (c : Change) (l : List Change) : List Change :=
  l.filter (fun x => !(x.address == c.address && x.value.length == c.value.length)) ++ [c]

/-- The release has applied RT_APPLIED and RT_RESULT: the Parser answers (R159). -/
def Hub.rtApplied (h : Hub) : Hub :=
  match h.rt.queue.find? (fun q => q.seq == h.rt.applied) with
  | none => h
  | some q =>
    let res := h.rt.result % 256
    let kind := match h.cfg.regionAt q.address q.value.length with | some g => g.kind | none => 0
    let all := h.unforceAllCycle q
    let c : Change := { address := q.address, kind := kind, task := q.task, crc := 0, value := q.value }
    let rt := { h.rt with queue := h.rt.queue.filter (fun x => x.seq != q.seq) }
    let rt := if res = 2 then (if q.kind = 3 then { rt with forces := rt.forces.filter (fun e => e.index != q.index) } else rt)
      else match q.kind with
        | 1 | 2 => { rt with log := logChange { c with crc := c.sum } rt.log }
        | 4 => { rt with forces := rt.forces.filter (fun e => e.index != q.index) }
        | 5 => { rt with forces := [] }
        | _ => rt
    let h : Hub := { h with rt := rt }
    let st : Status := if res = 2 then .badParameter else if res = 1 then .okShadowedByForce else .ok
    let body := match q.kind with
      | 1 | 2 => beBytes 1 q.task ++ zeros 1 ++ beBytes 6 q.cycle
      | 3 => beBytes 2 q.index ++ beBytes 6 q.cycle
      | 4 => beBytes 2 rt.forces.length ++ beBytes 6 q.cycle
      | _ => beBytes 2 rt.forces.length ++ beBytes 6 all
    h.finish (fun (e : Exec) => e.key == [6, q.seq]) st (fun _ => if res = 2 then [] else body)

/-- The request presented at a tick start (R159 step 2). -/
def Hub.presentRequest (h : Hub) : Hub := { h with rt.present := h.rt.queue.find? (fun q => q.applyTick == h.time.tick) }

/-! ### READ_VARIABLE, COMMIT_CHANGES and LIST_FORCES (Table 6.14) -/

def opReadVariable : OpSpec where
  op := .readVariable
  level := baseLevel .readVariable
  layout := exactly 6
  check := fun s _ p =>
    let a := be32 p 0
    let n := be16 p 4
    firstFail [modeIs Mode.parser s, (s.hub.sourceLane.isSome, .resourceFault), param (decide (1 ≤ n ∧ n ≤ 1024)),
      param ((s.hub.cfg.regionAt a n).isSome || decide (storeBase ≤ a ∧ a + n ≤ storeBase + 0x190))]
  act := fun r p s => match s.hub.sourceLane with
    | none => s
    | some l => s.modHub (Hub.reply r .readVariable .ok (beBytes 6 s.hub.time.tick ++ beBytes 2 (be16 p 4) ++
        (s.lane l).mem.readN (be32 p 0) (be16 p 4)))

def execReadVariable (r : Req) (p : Bytes) (s : State) : Out := .next (opReadVariable.run r p s)

/-- The committed set with the log merged into it. -/
def Hub.mergedChanges (h : Hub) : List Change :=
  h.rt.log.foldl (fun (l : List Change) c => logChange c l) h.committed

def opCommitChanges : OpSpec where
  op := .commitChanges
  level := baseLevel .commitChanges
  layout := exactly 4
  check := fun s _ p => firstFail [modeIs (fun m => m.isRunning || m == .safe) s, notStandby s, (!s.hub.power.deferred, .supplyWarning),
    (u8 p 0 == 1 || decide (s.hub.mergedChanges.length ≤ 1024), .resourceFault), param (decide (u8 p 0 ≤ 1)),
    param (allZero (slice p 1 3))]
  act := fun r p s => s.modHub (fun (h : Hub) =>
    let set := if u8 p 0 = 1 then [] else h.mergedChanges
    let h := h.writeConfig (fun g => { g with changes := set })
    let h : Hub := if u8 p 0 = 1 then h else { h with rt.log := [] }
    h.reply r .commitChanges .ok (beBytes 2 set.length))

def execCommitChanges (r : Req) (p : Bytes) (s : State) : Out := .next (opCommitChanges.run r p s)

def ForceRec.bytesBe (i : Nat) (f : ForceRec) : Bytes :=
  beBytes 2 i ++ beBytes 4 f.address ++ beBytes 1 f.length ++ beBytes 1 f.kind ++ beBytes 1 f.task ++
    beBytes 1 (b2n f.used + 2 * b2n f.changed) ++ f.mask ++ f.value ++ f.shadow

def opListForces : OpSpec where
  op := .listForces
  level := baseLevel .listForces
  layout := exactly 4
  check := fun s _ p => firstFail [modeIs (fun m => m.isRunning || m == .safe) s, (s.hub.sourceLane.isSome, .resourceFault),
    param (allZero (slice p 2 2))]
  act := fun r p s => match s.hub.sourceLane with
    | none => s
    | some l =>
      let fs := (s.lane l).mem.forces
      let out := (fs.filter (fun e => decide (be16 p 0 ≤ e.1))).take 40
      s.modHub (Hub.reply r .listForces .ok (beBytes 2 fs.length ++ out.flatMap (fun e => e.2.bytesBe e.1)))

def execListForces (r : Req) (p : Bytes) (s : State) : Out := .next (opListForces.run r p s)

end Sys2Proof.Machine
end

