-- ==== Sys2Proof/Machine/Yebor.lean ====
section
/-! DEFINITION. The Yebor bus (chapter 13): frames, the cycle, clock synchronisation, node states, the guardian, claims, the dynamic
segment and block 17. -/
namespace Sys2Proof.Machine

def Hub.modYb (f : Yebor → Yebor) (h : Hub) : Hub := { h with yb := f h.yb }
def Hub.ybc (h : Hub) : YbCluster := h.cfg.yb.cluster

/-- C in macroticks (R330). -/
def Hub.ybCycle (h : Hub) : Nat := h.ybc.cycleTicks * h.nCycles / 1000

def Hub.ybSlot (h : Hub) (s : Nat) : Option YbSlot := h.cfg.yb.slots.find? (fun x => x.slot == s)

/-- Owner of a minislot, and the route of its received frames. -/
def Hub.minislotOwner (h : Hub) (k : Nat) : Option Nat :=
  if k < 64 then some k else (h.cfg.yb.dynamic.find? (fun d => d.minislot == k)).map YbDynamic.owner

def Hub.minislotRoute (h : Hub) (k : Nat) : Nat :=
  match h.cfg.yb.dynamic.find? (fun d => d.minislot == k) with | some d => d.route | none => 0

/-- Who sends in a static slot: its owner, or the holder of its claim. -/
def Hub.slotSender (h : Hub) (x : YbSlot) : Option Nat :=
  if x.owner = 0xFE then (h.yb.held.find? (fun p => p.1 == x.slot)).map Prod.snd else some x.owner

/-- The module's own sync slot. -/
def Hub.ybSyncSlot (h : Hub) : Option YbSlot := h.cfg.yb.slots.find? (fun x => x.sync && x.owner == h.ybc.node)

/-- Index of the own claim that holds a slot. -/
def Hub.claimOf (h : Hub) (slot : Nat) : Option Nat := (List.range 4).find? (fun i => vgetN h.yb.claims i 0 == slot && slot != 0)

/-! ### Frames (R333, R334) -/

/-- The flags nibble (SYNC, STARTUP, NULL, CLAIM from bit 3 down), SLOT_ID, CYCLE, NODE and payload of a frame, built with both CRCs. -/
def ybFrame (flags slot cycle node : Nat) (data : Bytes) : Bytes :=
  let h5 := beBytes 2 (flags * 4096 + slot % 1024) ++ beBytes 1 (cycle * 4) ++ beBytes 1 node ++ beBytes 1 data.length
  let h7 := h5 ++ beBytes 2 (crc16 h5)
  h7 ++ data ++ beBytes 4 (crc32 (h7 ++ data))

/-- Header CRC and zero fields hold. -/
def ybHeaderOk (b : Bytes) : Bool :=
  decide (7 ≤ b.length) && be16 b 5 == crc16 (b.take 5) && bits (u8 b 0) 2 2 == 0 && u8 b 2 % 4 == 0 && decide (u8 b 3 < 64) &&
    decide (u8 b 4 ≤ 64)

/-- Both CRCs and the lengths hold. -/
def ybFrameOk (b : Bytes) : Bool :=
  let n := 7 + u8 b 4
  ybHeaderOk b && b.length == n + 4 && be32 b n == crc32 (b.take n)

def ybCopy (b : Bytes) (deviation : Int) (stamp : Nat) : YbCopy :=
  { flags := u8 b 0 / 16, slot := be16 b 0 % 1024, cycle := u8 b 2 / 4, node := u8 b 3, data := slice b 7 (u8 b 4),
    deviation := deviation, stamp := stamp }

def YbCopy.sync (x : YbCopy) : Bool := bit x.flags 3
def YbCopy.startup (x : YbCopy) : Bool := bit x.flags 2 && bit x.flags 3
def YbCopy.null (x : YbCopy) : Bool := bit x.flags 1
def YbCopy.claim (x : YbCopy) : Bool := bit x.flags 0

/-- The frame of the present slot: A's copy when valid, else B's; and whether the payloads differ (R334). -/
def Hub.ybTaken (h : Hub) : Option YbCopy × Bool :=
  match h.yb.copies[(0 : Fin 2)], h.yb.copies[(1 : Fin 2)] with
  | some a, some b => (some a, a.data != b.data)
  | some a, none => (some a, false)
  | none, b => (b, false)

/-! ### States (R342) -/

/-- The drivers may be enabled now: the node state, the guardian and the role (R342, R345, R349). -/
def Hub.ybDrivers (h : Hub) : Bool :=
  (h.yb.state == .coldstart || h.yb.state == .normal) && h.yb.agree && h.yb.tableOk && h.yb.roleOk

/-- LISTEN: own claims dropped, the timeout started. -/
def Hub.ybListen (h : Hub) : Hub :=
  (h.modYb (fun y => { y with
    state := .listen, timeoutAt := h.time.now, tentative := none, cycles := 0, inState := 0, heard := false, cleanRun := 0, lossRun := 0,
    disagreeRun := 0, agree := false, claims := Vector.replicate 4 0, claiming := none, observed := 0, latches := [],
    copies := Vector.replicate 2 none, minislot := none, dev := [], prevDev := [], offset := 0, rate := 0,
    collisionsNow := if y.state = .off then 0 else y.collisionsNow })).clearFault .nodePassive [] id

/-- OFF: the drivers are disabled. -/
def Hub.ybOff (h : Hub) : Hub :=
  (h.modYb (fun y => { y with state := .off, agree := false, driven := false, minislot := none })).clearFault .nodePassive [] id

/-- A tentative timing from a startup frame. -/
def Hub.ybTentative (x : YbCopy) (h : Hub) : Hub :=
  let t : YbTentative := { node := x.node, slot := x.slot, cycle := x.cycle, stamp := x.stamp }
  h.modYb (fun y => { y with tentative := some t, timeoutAt := h.time.now })

/-- Entry to a state with timing: cycle `counter` started `us` macroticks before the first bit stamped `stamp`. -/
def Hub.ybAdopt (st : YbState) (counter us stamp : Nat) (h : Hub) : Hub :=
  let tb0 := stamp - us * 1000
  let back := h.tb0Now - tb0
  h.modYb (fun y => { y with
    state := st, counter := counter % 64, cycles := 0, inState := 0, heard := false, cleanRun := 0, lossRun := 0, disagreeRun := 0
    startTb0 := tb0, startAt := h.time.now - back, tb4Base := counter % 64 * h.ybCycle * 1000, tentative := none, dev := []
    prevDev := [], offset := 0, rate := 0, agree := st == .coldstart, sent := [], busy := [], named := [], won := [], claiming := none
    integrations := if st = .integrating then satAdd 8 y.integrations 1 else y.integrations })

/-- Action point of a slot in macroticks from the cycle start (R331). -/
def Hub.ybAction (h : Hub) (slot : Nat) : Nat := (slot - 1) * h.ybc.slotUs + h.ybc.action

/-- NORMAL: observation starts, and the guardian takes the engine's cycle start. -/
def Hub.ybNormal (h : Hub) : Hub :=
  let h := (h.modYb (fun y => { y with state := .normal, cleanRun := 0, lossRun := 0, disagreeRun := 0, observed := 0, agree := true }))
  (h.clearFault .syncLost [] id).clearFault .nodePassive [] id

/-- SYNC_LOST (R342): back to LISTEN, but for a report. -/
def Hub.ybSyncLost (cause : Nat) (o : Origin) (h : Hub) : Hub :=
  let before := h.yb.state.code
  let h := h.raise .syncLost [] 0 [(1, cause), (1, h.yb.prevDev.length), (1, h.ybc.minSync), (1, before)] o
  if o = .reportOnly then h else h.ybListen

/-- GUARDIAN_BLOCK (R344, R345). -/
def Hub.guardianBlock (cause channels slot : Nat) (ns : Int) (o : Origin) (h : Hub) : Hub :=
  let h := if o = .reportOnly then h else h.modYb (fun y => { y with blocks := satAdd 32 y.blocks 1 })
  h.raiseEvent (fun _ => true) .guardianBlock [cause, slot] 0 [(1, cause), (1, channels), (2, slot), (4, ofSigned 32 ns)] o

/-! ### Claims (R346 to R348) -/

def Hub.claimable (h : Hub) : List Nat :=
  sortNats ((h.cfg.yb.slots.filter (fun x => x.owner == 0xFE)).map YbSlot.slot)

/-- The lowest empty claimable slot that another node does not hold. -/
def Hub.emptySlot (h : Hub) : Option Nat :=
  h.claimable.find? (fun s => decide (8 ≤ lookupD h.yb.empty s 0) && !h.yb.held.any (fun p => p.1 == s && p.2 != h.ybc.node) &&
    (h.claimOf s).isNone)

/-- The own claim that is to be made next. -/
def Hub.nextClaim (h : Hub) : Option Nat := (List.range (min 4 h.ybc.claimSlots)).find? (fun i => vgetN h.yb.claims i 0 == 0)

/-- A valid claim frame of a node names a slot: the first of the cycle for a slot that no other node holds wins (R347). -/
def Hub.claimHeard (slot node : Nat) (h : Hub) : Hub :=
  if !h.claimable.contains slot then h
  else h.modYb (fun y => { y with
    named := slot :: y.named
    won := if y.won.any (fun p => p.1 == slot) || y.held.any (fun p => p.1 == slot && p.2 != node) then y.won else (slot, node) :: y.won })

/-- CLAIM_CONFLICT: winner, and the next empty slot. -/
def Hub.claimConflict (i slot winner : Nat) (o : Origin) (h : Hub) : Hub :=
  let next := match h.emptySlot with | some s => s | none => 0
  h.event .claimConflict [slot] 0 [(2, slot), (1, winner), (1, i), (2, next)] o

/-- Slots that became held count in class 8, whose threshold is also reached when every claimable slot is held (Table 16.3). -/
def Hub.claimWear (won : List (Nat × Nat)) (before : List (Nat × Nat)) (h : Hub) : Hub :=
  let n := (won.filter (fun w => !before.any (fun p => p.1 == w.1))).length
  if n = 0 then h else
  let h := h.wearHit 8 4 0 (some n)
  if h.claimable.all (fun s => h.yb.held.any (fun p => p.1 == s)) then h.wearForce 8 4 0 .real else h

/-- The claims of the cycle that ends: winners hold their slots from this cycle start on, and emptiness is counted. -/
def Hub.ybClaims (h : Hub) : Hub :=
  let won := h.yb.won
  let before := h.yb.held
  let busy := h.yb.busy ++ h.yb.named
  let me := h.ybc.node
  let own := h.yb.claiming
  let h := h.modYb (fun y => { y with
    held := won ++ y.held.filter (fun p => !won.any (fun w => w.1 == p.1))
    silent := y.silent.filter (fun p => !won.any (fun w => w.1 == p.1))
    empty := h.claimable.map (fun s => (s, if busy.contains s then 0 else lookupD y.empty s 0 + 1))
    won := [], busy := [], named := [], claiming := none })
  let h := h.claimWear won before
  match own with
  | none => h
  | some (i, slot, injected) =>
    let winner := match won.find? (fun p => p.1 == slot) with
      | some p => p.2
      | none => match h.yb.held.find? (fun p => p.1 == slot) with | some p => p.2 | none => 0xFF
    if winner = me ∧ injected = false then h.modYb (fun y => { y with claims := vmodN y.claims i (fun _ => slot) })
    else if winner ≠ me then h.claimConflict i slot winner .real
    else (h.modYb (fun y => { y with held := y.held.filter (fun p => p.1 != slot) })).claimConflict i slot 0xFF .injected

/-- CLAIM_RELEASE (R348). -/
def execClaimRelease (slot : Nat) (s : State) : Out :=
  .next (s.modHub (fun (h : Hub) =>
    if h.yb.held.any (fun p => p.1 == slot) && decide (h.ybc.claimRelease ≤ lookupD h.yb.silent slot 0) then
      h.modYb (fun y => { y with
        held := y.held.filter (fun p => p.1 != slot), silent := y.silent.filter (fun p => p.1 != slot)
        claims := vmap (fun c => if c = slot then 0 else c) y.claims })
    else h))

/-! ### The cycle start (R331, R341, R342, R345) -/

/-- What the end of the previous cycle decides. -/
def Hub.ybCycleEnd (h : Hub) : Hub :=
  let y := h.yb
  let h := h.modYb (fun z => { z with inState := z.inState + 1, observed := z.observed + 1 })
  match y.state with
  | .coldstart =>
    if 7 ≤ y.inState ∧ y.heard = true then h.ybNormal
    else if 31 ≤ y.inState then (h.modYb (fun z => { z with aborts := satAdd 8 z.aborts 1 })).ybListen
    else h
  | .integrating =>
    if 2 ≤ y.cleanRun then h.ybNormal else if 16 ≤ y.inState + 1 then h.ybListen else h
  | .normal | .passive =>
    let r := h.takeArm .syncLost (fun _ => true)
    let h := r.2
    if h.ybc.syncLoss ≤ y.lossRun then h.ybSyncLost 0 .real
    else if 8 ≤ y.disagreeRun then h.ybSyncLost 1 .real
    else
      let h := match r.1 with | some o => h.ybSyncLost 0 o | none => h
      if h.yb.state = .passive ∧ 2 ≤ y.cleanRun then
        (h.modYb (fun z => { z with state := .normal, cleanRun := 0, observed := 0 })).clearFault .nodePassive [] id
      else h
  | _ => h

/-- YB_CYCLE_START (R331): `diff` is the engine's cycle start minus the guardian's expected one, ns. -/
def execYbCycleStart (diff : Int) (now : Nat) (s : State) : Out :=
  .next (s.modHub (fun (h : Hub) =>
    let h := h.at_ now
    if !h.yb.state.timed then h
    else
      let before := h.yb.state
      let h := h.ybCycleEnd.ybClaims
      if !h.yb.state.timed then h
      else
        let t := h.tb0Now
        let len := h.ybCycle * 1000
        let h := h.modYb (fun y => { y with
          counter := (y.counter + 1) % 64, cycles := satAdd 24 y.cycles 1, startTb0 := t, startAt := h.time.now
          tb4Base := (y.tb4Base + len) % 2 ^ 64, sent := [], drivenLast := y.driven, driven := false, roleOk := h.roleCode != 2 })
        let taken := h.yb.state == .normal && (before == .integrating || before == .coldstart)
        if taken ∨ h.yb.state = .integrating then h
        else
          let r := h.takeArm .guardianBlock (fun _ => true)
          let h := r.2
          let real := decide (2000 < diff.natAbs)
          let bad := real || r.1 == some .injected
          let h := h.modYb (fun y => { y with agree := !bad, disagreeRun := if bad then y.disagreeRun + 1 else 0 })
          if bad then h.guardianBlock 1 h.ybc.channels 0 diff (if real then .real else .injected)
          else if r.1 = some .reportOnly then h.guardianBlock 1 h.ybc.channels 0 diff .reportOnly else h))

/-! ### Static slots (R332, R335, R336) -/

/-- The transmit buffer of a slot that the module sends in. -/
def Hub.ybTxBuffer (h : Hub) (x : YbSlot) : Nat :=
  match h.claimOf x.slot with | some i => h.ybc.claimBuffer + i | none => x.txBuffer

/-- NULL_MODE (R335). -/
def Hub.ybNullMode (h : Hub) : Bool := h.power.mode == .service || h.power.mode == .safe

/-- The transmit data of a slot as released now: NULL, payload. -/
def Hub.ybReleased (h : Hub) (x : YbSlot) : Bool × Bytes :=
  let b := h.ybTxBuffer x
  if h.ybNullMode || !bit h.yb.txValid b then (true, zeros x.length)
  else (false, h.yb.tx.readN (0x100 + 0x40 * b) x.length)

/-- YB_TRANSMIT_LATCH (R332): at AP − 3 µs. -/
def execYbTransmitLatch (slot : Nat) (s : State) : Out :=
  .next (s.modHub (fun (h : Hub) => match h.ybSlot slot with
    | some x =>
      if h.yb.state.timed && h.slotSender x == some h.ybc.node then
        h.modYb (fun y => { y with latches := insertKey slot (h.ybReleased x) y.latches })
      else h
    | none => h))

/-- An own frame read back otherwise than sent: `channel` and the bit from the frame start. -/
def Hub.ybReadback (channel pos : Nat) (o : Origin) (h : Hub) : Hub :=
  let collide := fun (h : Hub) =>
    h.event .startupCollision [] 0 [(1, channel), (2, pos), (1, min 255 h.yb.collisionsNow)] o
  if h.yb.state = .coldstart then
    if o = .reportOnly then collide h
    else (collide (h.modYb (fun y => { y with
      collisions := satAdd 8 y.collisions 1, collisionsNow := y.collisionsNow + 1 }))).ybListen
  else h.modYb (fun y => { y with mismatches := satAdd 16 y.mismatches 1 })

/-- YB_STATIC_SLOT_SEND (R335): at the action point of an own or held slot; `mismatch` is a channel and the first bit whose readback
differs. -/
def execYbStaticSlotSend (slot : Nat) (mismatch : Option (Nat × Nat)) (now : Nat) (s : State) : Out :=
  .next (s.modHub (fun (h : Hub) =>
    let h := h.at_ now
    match h.ybSlot slot with
    | none => h
    | some x =>
      let c := h.ybc
      let cold := h.yb.state == .coldstart
      let own := x.sync && x.owner == c.node
      if !h.ybDrivers || h.slotSender x != some c.node || (cold && !own) then h
      else
        let data := match h.yb.latches.find? (fun l => l.1 == slot) with | some l => l.2 | none => h.ybReleased x
        let flags := 8 * b2n own + 4 * b2n (own && c.coldstart) + 2 * b2n data.1
        let h := h.modYb (fun y => { y with
          driven := true, latches := y.latches.filter (fun l => l.1 != slot)
          silent := insertKey slot 0 y.silent, busy := if x.owner = 0xFE then slot :: y.busy else y.busy
          dev := if own then (c.node, 0) :: y.dev else y.dev })
        let h := h.send (.yebor (x.channels &&& c.channels) (ybFrame flags slot h.yb.counter c.node data.2))
        let r := if cold then h.takeArm .startupCollision (fun _ => true) else (none, h)
        match mismatch, r.1 with
        | some (ch, b), _ => r.2.ybReadback ch b .real
        | none, some o => r.2.draw.ybReadback 0 (Config.ybInjectedBit r.2.free % (120 + 10 * x.length)) o
        | none, none => r.2))

/-- YB_SLOT trace record (Table 20.1); `status` as in Table 13.9. -/
def Hub.ybRec (slot valid status : Nat) (x : Option YbCopy) (h : Hub) : Hub :=
  let f := h.trace.filter
  if slot < f.ybFirst ∨ f.ybLast < slot then h else
  let g := fun (k : YbCopy → Nat) (d : Nat) => match x with | some c => k c | none => d
  h.emit { typ := 8, unit := 4, tb0 := g YbCopy.stamp h.tb0Now, units := 1, fields :=
    [(2, slot), (1, valid), (1, g YbCopy.cycle h.yb.counter), (1, g YbCopy.node 0xFF), (1, status), (1, g (fun c => c.data.length) 0),
     (1, 0)] }

/-- A receive buffer at an occurrence of its slot (R336). -/
def YbRx.update (valid : Nat) (differ : Bool) (x : Option YbCopy) (b : YbRx) : YbRx :=
  match x with
  | none => { b with status := (b.status &&& 4) + 8, missed := satAdd 32 b.missed 1 }
  | some c =>
    let st := valid + 16 * b2n differ
    if c.null then { b with status := st + 4, missed := 0 }
    else { status := st, cycle := c.cycle, node := c.node, length := c.data.length, missed := 0, stamp := c.stamp, data := c.data }

/-- The valid frame of a slot is taken: a sync frame's deviation, DIFFER, and that another node was heard. -/
def Hub.ybTake (x : YbCopy) (differ : Bool) (h : Hub) : Hub :=
  h.modYb (fun y => { y with
    heard := y.heard || x.node != h.ybc.node
    differ := if differ then satAdd 16 y.differ 1 else y.differ
    dev := if x.sync && x.node != h.ybc.node then y.dev.filter (fun d => d.1 != x.node) ++ [(x.node, x.deviation)] else y.dev })

/-- YB_SLOT_END (R336): `activity` says that some channel carried activity in the slot. -/
def execYbSlotEnd (slot : Nat) (activity : Bool) (now : Nat) (s : State) : Out :=
  .next (s.modHub (fun (h : Hub) =>
    let h := h.at_ now
    if !h.yb.state.timed then h
    else
      let t := h.ybTaken
      let valid := ofBits (h.yb.copies.toList.map Option.isSome)
      let h := h.modYb (fun y => { y with copies := Vector.replicate 2 none })
      let h := match t.1 with | some x => h.ybTake x t.2 | none => h
      match h.ybSlot slot with
      | none => h
      | some c =>
        let quiet := lookupD h.yb.silent slot 0 + 1
        let sentHere := c.owner == 0xFE && h.slotSender c == some h.ybc.node && h.ybDrivers
        let h := if c.owner = 0xFE then h.modYb (fun y => { y with
            silent := if (y.held.any (fun p => p.1 == slot)) && !sentHere then insertKey slot (if t.1.isSome then 0 else quiet) y.silent
              else y.silent
            busy := if activity || t.1.isSome then slot :: y.busy else y.busy }) else h
        let h := if c.rxBuffer < 128 then h.modYb (fun y => { y with
            buffers := vmodN y.buffers c.rxBuffer (YbRx.update valid t.2 t.1) }) else h
        let st := match t.1 with | some x => valid + 4 * b2n x.null + 16 * b2n t.2 | none => 8
        h.ybRec slot valid st t.1))

/-! ### Reception (R334, R342, R343) -/

/-- A copy heard in LISTEN, and a startup frame heard in COLDSTART. -/
def Hub.ybHear (b : Bytes) (x : YbCopy) (h : Hub) : Hub :=
  if !ybHeaderOk b then h
  else
    let h := if h.yb.state = .listen then h.modYb (fun y => { y with timeoutAt := h.time.now }) else h
    if !(ybFrameOk b && x.startup) then h
    else if h.yb.state = .coldstart then
      if x.node < h.ybc.node then (h.ybListen).ybTentative x else h
    else match h.yb.tentative with
      | some t =>
        let want := t.stamp + h.ybCycle * 1000
        let dev : Int := (x.stamp : Int) - want
        if t.node = x.node ∧ t.slot = x.slot ∧ x.cycle = (t.cycle + 1) % 64 ∧ dev.natAbs ≤ h.ybc.windowNs then
          h.ybAdopt .integrating x.cycle (h.ybAction x.slot) x.stamp
        else if x.stamp < t.stamp + h.ybCycle * 500 then h
        else h.ybTentative x
      | none => h.ybTentative x

/-- The conditions of R334 on the content of a copy for a slot (513 + k: minislot k). -/
def Hub.ybExpected (h : Hub) (slot : Nat) (b : Bytes) (x : YbCopy) : Bool :=
  let sender := if 513 ≤ slot then h.minislotOwner (slot - 513) else (h.ybSlot slot).bind h.slotSender
  let length := if 513 ≤ slot then true else match h.ybSlot slot with | some c => x.data.length == c.length | none => false
  ybFrameOk b && x.slot == slot && x.cycle == h.yb.counter && sender == some x.node && length

/-- YB_FRAME_RECEIVED (R334): a copy on a channel in the slot that the engine's timing names: its bytes from the header to the CRC, whether
the coding is correct and the frame ends within the slot, its first bit against the expected action point, and its stamp. -/
def execYbFrameReceived (channel : Fin 2) (slot : Nat) (frame : Bytes) (coding inSlot : Bool) (deviation : Int) (stamp now : Nat)
    (s : State) : Out :=
  .next (s.modHub (fun (h : Hub) =>
    let h := h.at_ now
    let c := channel.val
    let stamp := stamp % 2 ^ 64
    let x := ybCopy frame deviation stamp
    if h.yb.state = .off ∨ bit h.ybc.channels c = false then h
    else if h.yb.state = .listen then (if coding then h.ybHear frame x else h)
    else
      let r := h.takeArm .slotBoundaryViolation (fun a => a.resource == slot)
      let h := r.2
      let w : Int := h.ybc.windowNs
      let out := decide (w < deviation.natAbs)
      let moved := deviation + w + 100
      let outInj := decide (w < moved.natAbs)
      let act := r.1 == some .injected && outInj && !out
      let content := coding && h.ybExpected slot frame x && inSlot
      let report := fun (o : Origin) (d : Int) (h : Hub) =>
        let node := if coding && ybHeaderOk frame then x.node else 0xFF
        h.raiseEvent (fun _ => true) .slotBoundaryViolation [slot, c] 0 [(2, slot), (1, c), (1, node), (4, ofSigned 32 d)] o
      let bad := out || act
      let h := if out then report .real deviation h
        else if act then report .injected moved h
        else if r.1 = some .reportOnly ∧ outInj = true then report .reportOnly moved h else h
      let h := if h.yb.state = .coldstart ∧ coding = true then h.ybHear frame x else h
      if h.yb.state = .listen then h
      else if content && !bad then
        (h.modYb (fun y => { y with copies := vmodN y.copies c (fun _ => some x) })).count 0xF009 (byMask 0 c)
      else h.modYb (fun y => { y with
        errors := vmodN y.errors c (satAdd 16 · 1)
        violations := if bad then vmodN y.violations c (satAdd 16 · 1) else y.violations })))

/-! ### The dynamic segment (R337, R338) -/

/-- Does the module own a minislot, and is an entry well-formed for it. -/
def Hub.ybEntryOk (h : Hub) (k len : Nat) : Bool :=
  decide (k ≤ 510) && h.minislotOwner k == some h.ybc.node && decide (len ≤ 64)

/-- The voted doorbell of Q40. -/
def Hub.ybBell (v : Bytes) (h : Hub) : Hub :=
  let first := u8 v 0
  let n := u8 v 1
  let slots := (List.range n).map (fun i => (first + i) % 8)
  let at_ := fun (i : Nat) => h.yb.tx.readN (0x4000 + 72 * i) 72
  let bad := slots.any (fun i => !h.ybEntryOk (le16 (at_ i) 0) (u8 (at_ i) 3) || h.yb.queue.any (fun e => !e.parser && e.index == i))
  if bit h.ybc.dynQueues 0 = false ∨ 8 ≤ first ∨ n = 0 ∨ 8 < n ∨ bad = true then h.bellReject
  else
    let entry := fun (i : Nat) => ({ minislot := le16 (at_ i) 0, channels := u8 (at_ i) 2 % 4, data := slice (at_ i) 8 (u8 (at_ i) 3),
                                     parser := false, index := i } : YbEntry)
    ((h.modQueue 40 (fun s => { s with bell := le32 v 0 })).queueRec 40 0 (le32 v 0)).modYb (fun y =>
      { y with queue := y.queue ++ slots.map entry })

/-- The voted doorbell of Q41. -/
def Hub.ybRxBell (v : Bytes) (h : Hub) : Hub :=
  if bit h.ybc.dynQueues 0 then (h.modQueue 41 (fun s => { s with bell := le32 v 0 })).queueRec 41 0 (le32 v 0) else h.bellReject

/-- A descriptor of Q42 or Q43. -/
def Hub.ybDesc (q : Nat) (h : Hub) (d : Desc) : Hub :=
  let (h, i) := h.pushDesc q h.ybc.ringLog2 d
  if !bit d.flags 0 then h
  else if q = 42 then
    let k := le16 d.frame 0
    let n := u8 d.frame 3
    if h.ybEntryOk k n && d.length == 8 + n then
      h.modYb (fun y => { y with queue := y.queue ++
        [{ minislot := k, channels := u8 d.frame 2 % 4, data := slice d.frame 8 n, parser := true, index := i }] })
    else h.complete q 1 i none
  else h.modQueue q (fun s => { s with posted := s.posted ++ [(i, d.buffer, d.length)] })

/-- A received dynamic frame goes to Q41 or Q43 by its minislot's route. -/
def Hub.ybRoute (k valid : Nat) (x : YbCopy) (h : Hub) : Hub :=
  let entry := leBytes 2 x.slot ++ leBytes 1 x.node ++ leBytes 1 x.data.length ++ leBytes 1 valid ++ leBytes 1 x.cycle ++ zeros 2 ++
    leBytes 8 x.stamp ++ fitBytes 64 x.data
  match h.minislotRoute k with
  | 1 =>
    let st := h.queue 41
    if 32 ≤ (st.count + 2 ^ 32 - st.bell) % 2 ^ 32 then (h.queueDrop 41).1
    else
      let h := h.modYb (fun y => { y with rx := y.rx.writeN (0x5000 + 80 * (st.count % 32)) entry })
      (h.modQueue 41 (fun s => { s with count := wrapAdd 32 s.count 1 })).queueRec 41 1 st.count
  | 2 =>
    match (h.queue 43).posted with
    | [] => (h.queueDrop 43).1
    | (i, buf, size) :: rest =>
      let n := 16 + x.data.length
      if size < n then (h.queueDrop 43).1
      else (({ h with net.dram := h.net.dram.writeN buf (entry.take n) } : Hub).modQueue 43
        (fun s => { s with posted := rest })).complete 43 0 i (some (n, 0))
  | _ => h

/-- The frame of the minislot that ends. -/
def Hub.ybCloseMinislot (h : Hub) : Hub :=
  match h.yb.minislot with
  | none => h
  | some k =>
    let t := h.ybTaken
    let valid := ofBits (h.yb.copies.toList.map Option.isSome)
    let h := h.modYb (fun y => { y with copies := Vector.replicate 2 none, minislot := none })
    match t.1 with
    | none => h
    | some x =>
      let h := (h.ybTake x t.2).ybRec (513 + k) valid (valid + 4 * b2n x.null + 16 * b2n t.2) (some x)
      if x.claim then h.claimHeard (be16 x.data 0) x.node else h.ybRoute k valid x

/-- The own claim frame of a cycle (R346): the slot claimed and the claim's index. -/
def Hub.ybClaim (h : Hub) (k : Nat) : Option (Nat × Nat) :=
  if k ≠ h.ybc.node ∨ h.yb.observed < 8 then none
  else match h.nextClaim, h.emptySlot with
    | some i, some s => if h.yb.busy.contains s then none else some (i, s)
    | _, _ => none

/-- A frame of `n` payload bytes started 1 µs after the minislot at grid position `j` ends 1 µs before the segment does. -/
def Hub.ybFits (h : Hub) (j n : Nat) : Bool := decide (2 * j + 1 + 12 + n + 1 ≤ 2 * h.ybc.minislots)

/-- What the module sends in its minislot. -/
def Hub.ybDynSend (k j : Nat) (mismatch : Bool) (h : Hub) : Hub :=
  let c := h.ybc
  if h.yb.state ≠ .normal ∨ h.ybDrivers = false ∨ h.minislotOwner k ≠ some c.node ∨ h.yb.sent.contains k = true then h
  else
    let out := fun (channels flags : Nat) (data : Bytes) (h : Hub) =>
      let h := (h.modYb (fun y => { y with driven := true, sent := k :: y.sent })).send
        (.yebor (channels &&& c.channels) (ybFrame flags (513 + k) h.yb.counter c.node data))
      if mismatch then h.modYb (fun y => { y with mismatches := satAdd 16 y.mismatches 1 }) else h
    match (if h.ybFits j 4 then h.ybClaim k else none) with
    | some (i, s) =>
      let r := h.takeArm .claimConflict (fun _ => true)
      let h := if r.1 = some .reportOnly then r.2.claimConflict i s 0xFF .reportOnly else r.2
      let h := out 3 1 (beBytes 2 s ++ beBytes 1 i ++ zeros 1) h
      (h.claimHeard s c.node).modYb (fun y => { y with claiming := some (i, s, r.1 == some .injected) })
    | none =>
      match h.yb.queue.find? (fun e => e.minislot == k) with
      | none => h
      | some e =>
        if !h.ybFits j e.data.length then h
        else
          let h := out e.channels 0 e.data (h.modYb (fun y => { y with queue := y.queue.erase e }))
          if e.parser then h.complete 42 0 e.index none
          else (h.modQueue 40 (fun s => { s with count := wrapAdd 32 s.count 1 })).queueRec 40 1 e.index

/-- YB_MINISLOT (R337): minislot `k` starts at D + 2j µs; the module's own frame in it, if any, and whether its readback differs. -/
def execYbMinislot (k j : Nat) (mismatch : Bool) (now : Nat) (s : State) : Out :=
  .next (s.modHub (fun (h : Hub) =>
    let h := (h.at_ now).ybCloseMinislot
    if !h.yb.state.timed then h
    else (h.modYb (fun y => { y with minislot := some k })).ybDynSend k j mismatch))

/-! ### Clock synchronisation (R339, R340) -/

/-- The fault-tolerant midpoint of R339. -/
def ftm (v : List Int) : Int :=
  let l := sortInts v
  let k := l.length
  let t := if k ≤ 2 then 0 else if k ≤ 7 then 1 else 2
  tdiv (l.getD t 0 + l.getD (k - 1 - t) 0) 2

/-- NODE_PASSIVE (R340, R342). -/
def Hub.ybPassive (cause : Nat) (v : Int) (h : Hub) : Hub :=
  (h.modYb (fun y => { y with state := .passive, passives := satAdd 8 y.passives 1, cleanRun := 0 })).raise .nodePassive [] 0
    [(1, cause), (3, 0), (4, ofSigned 32 v)] .real

/-- A rate in ns per cycle as ppb. -/
def Hub.ybPpb (h : Hub) (rate : Int) : Int := tdiv (rate * 1000000) h.ybCycle

/-- YB_NETWORK_IDLE_TIME (R339): `tableOk` says that the guardian's copy of the records holds its CRC (R344). -/
def execYbNetworkIdleTime (tableOk : Bool) (now : Nat) (s : State) : Out :=
  .next (s.modHub (fun (h : Hub) =>
    let h := (h.at_ now).ybCloseMinislot
    if !h.yb.state.timed then h
    else
      let c := h.ybc
      let dev := h.yb.dev
      let k := dev.length
      let enough := decide (c.minSync ≤ k)
      let o := if enough then ftm (dev.map Prod.snd) else 0
      let both := dev.filterMap (fun (d : Nat × Int) => (h.yb.prevDev.find? (fun p => p.1 == d.1)).map (fun (p : Nat × Int) => d.2 - p.2))
      let r := if enough && !both.isEmpty then tdiv (ftm both) 2 else 0
      let rate := h.yb.rate + r
      let oLim : Int := c.offsetLimit
      let rLim : Int := (c.rateLimit * h.ybCycle / 1000 : Nat)
      let oBad := decide (oLim < o.natAbs)
      let rBad := decide (rLim < rate.natAbs)
      let clean := enough && !oBad && !rBad
      let h := h.modYb (fun y => { y with
        offset := clampInt (-oLim) oLim o, rate := clampInt (-rLim) rLim rate, dev := [], prevDev := dev
        syncNodes := if enough then ofBits ((List.range 64).map (fun n => dev.any (fun d => d.1 == n))) else 0
        syncUsed := if enough then min k 15 else 0
        cleanRun := if clean then y.cleanRun + 1 else 0, lossRun := if enough then 0 else y.lossRun + 1 })
      let h := if h.yb.state = .normal ∧ oBad = true then h.ybPassive 0 o
        else if h.yb.state = .normal ∧ rBad = true then h.ybPassive 1 (h.ybPpb rate) else h
      if tableOk then h else (h.modYb (fun y => { y with tableOk := false })).guardianBlock 2 c.channels 0 0 .real))

/-- YB_LISTEN_TIMEOUT (R343): a coldstart node places cycle 0 so that its sync slot's action point is now. -/
def execYbListenTimeout (now : Nat) (s : State) : Out :=
  .next (s.modHub (fun (h : Hub) =>
    let h := h.at_ now
    let c := h.ybc
    match h.ybSyncSlot with
    | some x =>
      if h.yb.state = .listen ∧ c.coldstart = true ∧ h.yb.timeoutAt + (2 * h.ybCycle + 80 * c.node) * 1000 ≤ h.time.now then
        (h.ybAdopt .coldstart 0 (h.ybAction x.slot) h.tb0Now).modYb (fun y => { y with roleOk := h.roleCode != 2 })
      else h
    | none => h))

/-- GUARDIAN_BLOCK (R344): a frame of the module met a closed window; `ns` is the length cut. -/
def execGuardianBlock (channels slot : Nat) (ns : Int) (now : Nat) (s : State) : Out :=
  .next (s.modHub (fun (h : Hub) => (h.at_ now).guardianBlock 0 (channels % 4) slot ns .real))

/-! ### Start, stop and the tick (R329, R341, R354) -/

/-- Entry to SERVICE: LISTEN, but an exit from SAFE leaves an engine that runs as it is (R329). -/
def Hub.ybService (fromSafe : Bool) (h : Hub) : Hub :=
  if !h.ybc.enabled ∨ (fromSafe = true ∧ h.yb.state ≠ .off) then h else h.ybListen

/-- A module reset. -/
def Hub.ybBoot (h : Hub) : Hub := { h with yb := {} }

/-- TB4 now (R341). -/
def Hub.ybTb4 (h : Hub) : Nat :=
  let len : Int := h.ybCycle * 1000
  let whole := len + h.yb.offset + h.yb.rate
  let run := if 0 < whole then ((h.time.now - h.yb.startAt : Nat) * len / whole).toNat else 0
  (h.yb.tb4Base + run) % 2 ^ 64

/-- The tick start: YB_RESTART acts, and TB4 is shown. -/
def Hub.ybTick (h : Hub) : Hub :=
  let due := h.cmd.exec.filter (fun e => e.op == Opcode.ybRestart && e.key == [13])
  let h := due.foldl (fun (h : Hub) e =>
    let h := h.ybOff
    let h := if u8 e.params 0 = 0 ∧ h.ybc.enabled = true then h.ybListen else h
    h.finish (fun x => x == e) .ok (fun _ => beBytes 1 h.yb.state.code ++ beBytes 6 h.time.tick)) h
  let valid := h.yb.state == .normal || h.yb.state == .passive
  { h with time.tb4 := if h.yb.state.timed then h.ybTb4 else h.time.tb4, time.tb4Valid := valid }

/-! ### Block 17 (R351) -/

/-- Table 13.7. -/
def Hub.ybStatus (h : Hub) : Nat :=
  let y := h.yb
  y.state.code + 8 * b2n y.drivenLast + 16 * (h.ybc.channels % 4) + 64 * b2n y.agree + 128 * b2n y.tableOk + 256 * b2n h.ybNullMode +
    512 * b2n (h.anyActive .syncLost) + 1024 * y.syncUsed

/-- The registers from 0x0000 to 0x007F, (width, value). -/
def Hub.ybRegs (h : Hub) : List (Nat × Nat) :=
  let y := h.yb
  let wait := fun (i : Nat) => decide (i < h.ybc.claimSlots) && vgetN y.claims i 0 == 0 && y.state == .normal && decide (8 ≤ y.observed) &&
    h.emptySlot.isNone
  let claim := fun (i : Nat) => (vgetN y.claims i 0 % 1024 + 2 ^ 15 * b2n (wait i)) * 2 ^ (16 * i)
  [(4, h.ybStatus), (4, y.counter + 256 * y.cycles), (4, ofSigned 32 y.offset), (4, ofSigned 32 (h.ybPpb y.rate)), (8, y.syncNodes),
   (8, y.startTb0), (4, y.violations[(0 : Fin 2)] + 65536 * y.violations[(1 : Fin 2)]),
   (4, y.errors[(0 : Fin 2)] + 65536 * y.errors[(1 : Fin 2)]), (4, y.blocks),
   (4, y.collisions + 2 ^ 8 * y.aborts + 2 ^ 16 * y.integrations + 2 ^ 24 * y.passives), (4, y.mismatches + 65536 * y.differ), (4, 0),
   (8, sumNat ((List.range 4).map claim)), (64, ofBits ((List.range 512).map (fun s => y.held.any (fun p => p.1 == s))))]

/-- A receive buffer's bytes (Table 13.9). -/
def YbRx.bytes (b : YbRx) : Bytes :=
  leBytes 1 b.status ++ leBytes 1 b.cycle ++ leBytes 1 b.node ++ leBytes 1 b.length ++ leBytes 4 b.missed ++ leBytes 8 b.stamp ++
    fitBytes 64 b.data

def Hub.block17 (h : Hub) : List (Nat × Nat × Nat) :=
  layFields 0 h.ybRegs ++ [(0x80, 4, h.yb.txValid)] ++
    (List.range 128).map (fun r => (0x1000 + 0x50 * r, 80, leVal (vgetN h.yb.buffers r {}).bytes))

/-- A byte of TX_BUFFER, DYN_TX_SLOTS or DYN_RX_SLOTS. -/
def Hub.ybMemByte (h : Hub) (off : Nat) : Byte := if off < 0x5000 then h.yb.tx.read off else h.yb.rx.read off

/-- A released byte for block 17: TX_VALID, a transmit buffer or a Q40 slot. -/
def Hub.ybWrite (off : Nat) (b : Byte) (h : Hub) : Hub :=
  if 0x80 ≤ off ∧ off < 0x84 then
    let i := off - 0x80
    h.modYb (fun y => { y with txValid := clearBits y.txValid (255 * 256 ^ i) + b.toNat * 256 ^ i })
  else if (0x100 ≤ off ∧ off < 0x900) ∨ (0x4000 ≤ off ∧ off < 0x4240) then h.modYb (fun y => { y with tx := y.tx.write off b })
  else h

/-! ### Records (R352) -/

def parseYbCluster (b : Bytes) : Option YbCluster :=
  let c : YbCluster :=
    { enabled := u8 b 0 == 1, node := u8 b 1, channels := u8 b 2, sync := bit (u8 b 3) 0, coldstart := bit (u8 b 3) 1,
      cycleTicks := le16 b 4, staticSlots := le16 b 6, slotUs := le16 b 8, minislots := le16 b 10, action := u8 b 12,
      minSync := u8 b 13, windowNs := le16 b 14, offsetLimit := le16 b 16, rateLimit := le16 b 18, syncLoss := u8 b 20,
      claimSlots := u8 b 21, claimBuffer := u8 b 22, claimRelease := u8 b 23, dynQueues := u8 b 24, ringLog2 := u8 b 25 }
  if b.length == 32 && decide (u8 b 0 ≤ 1) && decide (c.node ≤ 63) && decide (c.channels ≤ 3) && decide (u8 b 3 ≤ 3) &&
      inRange 4 400 c.cycleTicks && inRange 1 512 c.staticSlots && inRange 16 1024 c.slotUs && decide (c.minislots ≤ 511) &&
      inRange 1 8 c.action && inRange 1 15 c.minSync && inRange 300 3000 c.windowNs && inRange 500 12000 c.offsetLimit &&
      inRange 50 500 c.rateLimit && inRange 2 64 c.syncLoss && decide (c.claimSlots ≤ 4) && decide (c.claimBuffer ≤ 31) &&
      decide (8 ≤ c.claimRelease) && decide (c.dynQueues ≤ 3) &&
      (if bit c.dynQueues 1 then inRange 4 20 c.ringLog2 else c.ringLog2 == 0) && allZero (slice b 26 6) then some c
  else none

def parseYbSlot (b : Bytes) : Option YbSlot :=
  let x : YbSlot := { slot := le16 b 0, owner := u8 b 2, channels := u8 b 3, sync := u8 b 4 == 1, length := u8 b 5, txBuffer := u8 b 6,
                      rxBuffer := u8 b 7 }
  if 1 ≤ x.slot ∧ (x.owner ≤ 63 ∨ x.owner = 0xFE) ∧ x.channels ≤ 3 ∧ u8 b 4 ≤ 1 ∧ x.length ≤ 64 ∧ (x.txBuffer ≤ 31 ∨ x.txBuffer = 0xFF) ∧
      (x.rxBuffer ≤ 127 ∨ x.rxBuffer = 0xFF) then some x else none

def parseYbDynamic (b : Bytes) : Option YbDynamic :=
  let d : YbDynamic := { minislot := le16 b 0, owner := u8 b 2, route := u8 b 3 }
  if d.minislot ≤ 510 ∧ d.owner ≤ 63 ∧ d.route ≤ 2 ∧ (d.minislot < 64 → d.owner = d.minislot) then some d else none

/-- The refusals of R352 that concern several entries; `n` is N. -/
def Cfg.ybOk (c : Cfg) (n : Nat) : Bool :=
  let k := c.yb.cluster
  let cyc := k.cycleTicks * n / 1000
  let slots := c.yb.slots
  let nums : List Nat := slots.map YbSlot.slot
  let own := slots.filter (fun x => x.owner == k.node)
  let tx : List Nat := (slots.filter (fun x => x.txBuffer != 0xFF)).map YbSlot.txBuffer
  let rx : List Nat := (slots.filter (fun x => x.rxBuffer != 0xFF)).map YbSlot.rxBuffer
  let mine := own.filter YbSlot.sync
  let claims := (List.range k.claimSlots).map (fun i => k.claimBuffer + i)
  let dyn : List Nat := c.yb.dynamic.map YbDynamic.minislot
  !k.enabled ||
    (k.cycleTicks * n % 1000 == 0 && decide (cyc ≤ 10000) && decide (k.staticSlots * k.slotUs + 2 * k.minislots + 20 ≤ cyc) &&
     slots.all (fun x => decide (x.slot ≤ k.staticSlots) && decide (k.action + 14 + x.length ≤ k.slotUs)) && decide nums.Nodup &&
     decide (k.offsetLimit ≤ 12 * cyc) && decide ((slots.filter YbSlot.sync).length ≤ 15) && (!k.coldstart || k.sync) &&
     (!k.sync || mine.length == 1) && (k.claimSlots == 0 || decide (k.node < k.minislots)) && decide tx.Nodup && decide rx.Nodup &&
     own.all (fun x => x.txBuffer != 0xFF) && slots.all (fun x => x.owner == k.node || x.txBuffer == 0xFF) &&
     claims.all (fun b => decide (b ≤ 31) && !own.any (fun x => x.txBuffer == b)) && decide dyn.Nodup)

/-! ### Opcodes (R354) -/

def opGetYbStatus : OpSpec where
  op := .getYbStatus
  level := baseLevel .getYbStatus
  layout := exactly 0
  check := fun s _ _ => firstFail [modeIs Mode.parser s]
  act := fun r _ s => s.modHub (Hub.reply r .getYbStatus .ok (s.snap.ybRegs.flatMap (fun (f : Nat × Nat) => beBytes f.1 f.2)))

def execGetYbStatus (r : Req) (p : Bytes) (s : State) : Out := .next (opGetYbStatus.run r p s)

def opYbRestart : OpSpec where
  op := .ybRestart
  level := baseLevel .ybRestart
  layout := exactly 4
  check := fun s _ p => firstFail [modeIs Mode.parser s, param (decide (u8 p 0 ≤ 1) && allZero (slice p 1 3))]
  act := fun r p s => s.modHub (Hub.defer r .ybRestart p [13])

def execYbRestart (r : Req) (p : Bytes) (s : State) : Out := .next (opYbRestart.run r p s)

end Sys2Proof.Machine
end

