-- ==== Sys2Proof/Machine/Partner.lean ====
section
/-! DEFINITION. Partner modules (chapter 15): frames, roles and the role epoch, state copy, supervision, switchover and block 19. -/
namespace Sys2Proof.Machine

/-- P0 in ticks and P0 × τ in ns of the hub clock. -/
def Hub.p0 (h : Hub) : Nat := h.cfg.period 0
def Hub.p0Ns (h : Hub) : Nat := h.p0 * h.nCycles

def Hub.linkCount (h : Hub) : Nat := popcount 2 h.linksUp

/-- Epoch a is higher than b (R380). -/
def epochHigher (a b : Nat) : Bool := inRange 1 (2 ^ 31 - 1) ((a + 2 ^ 32 - b) % 2 ^ 32)

/-! ### Frames (R379) -/

/-- Payload lengths that fit a type (Table 15.1). -/
def partnerLengthOk (type n : Nat) : Bool :=
  match type with
  | 1 => n == 12
  | 2 => n == 24
  | 3 => inRange 5 4096 n
  | 4 => n == 12
  | 5 => n == 16
  | 6 => inRange 1 4096 n
  | 7 => decide (n ≤ 4096)
  | _ => false

def partnerFrameOk (b : Bytes) : Bool :=
  let n := be16 b 2
  b.length == 16 + n && be32 b (12 + n) == crc32 (b.take (12 + n)) && partnerLengthOk (u8 b 0) n

def partnerPayload (b : Bytes) : Bytes := slice b 12 (be16 b 2)

/-! ### Roles (R380, R381, R384) -/

/-- PARTNER_LOST, and the partner's locks are freed (R412). -/
def Hub.partnerLost (cause : Nat) (o : Origin) (h : Hub) : Hub :=
  let up := if cause = 0 then 0 else h.linksUp
  let h := if h.anyActive .partnerLost && o == .real then h else
    h.raise .partnerLost [] 0 [(1, cause), (1, h.roleCode), (1, up), (1, 0), (4, h.partner.partnerEpoch)] o
  if o = .reportOnly then h else h.dropLocks (fun k => k.owner == 3)

/-- A transition to be made at a later tick start. -/
def Hub.planRole (r : Role) (tick : Nat) (promote : Bool) (counts : Nat) (h : Hub) : Hub :=
  h.modPartner (fun p => { p with roleNext := some { role := r, tick := tick, promote := promote, counts := counts } })

/-- The transition to STANDBY with DUAL_ACTIVE; a second cause in one tick is recorded and makes no second transition (R388). -/
def Hub.dualActive (cause : Nat) (o : Origin) (h : Hub) : Hub :=
  let h := h.event .dualActive [cause] 0 [(1, cause), (3, 0), (4, h.partner.epoch), (4, h.partner.partnerEpoch)] o
  if o = .reportOnly then h
  else (h.modPartner (fun p => { p with dualSeen := true })).planRole .standby (h.time.tick + 1) false 0

/-- A role takes effect: suppression follows the role, and an entry to STANDBY clears COPY_HELD. -/
def Hub.setRole (r : Role) (promote : Bool) (counts : Nat) (h : Hub) : Hub :=
  let h := h.modPartner (fun p => { p with
    role := r, roleNext := none, epoch := if promote then wrapAdd 32 p.epoch 1 else p.epoch, changedTb0 := h.tb0Now
    copyHeld := if r = .standby then false else p.copyHeld, missCopies := 0, missAcks := 0, ackRun := 0, awaited := none
    headerAt := h.time.now, counted := 0, out := none, in_ := none, kept := if r = .standby then none else p.kept
    takeovers := if counts = 1 then satAdd 16 p.takeovers 1 else p.takeovers
    switchovers := if counts = 2 then satAdd 16 p.switchovers 1 else p.switchovers })
  let answers := r == .active || (r == .standby && h.partner.partnerRole != 3)
  let h := if answers then h.clearFault .partnerLost [] id else h
  let h := (h.canListen).pwmHold
  let h := if r = .standby ∧ counts ≠ 2 then
      (h.modPartner (fun p => { p with switching := false })).finish (fun e => e.op == .switchover) .resourceFault (fun _ => [])
    else h
  let h := if counts = 2 then h.finish (fun e => e.op == .switchover) .ok (fun _ => beBytes 6 h.time.tick ++ beBytes 4 h.partner.epoch) else h
  h.emit (h.stateRec 0)

/-- ROLE_CHANGE (R381): the planned transition, at its tick start. -/
def execRoleChange (s : State) : Out :=
  .next (s.modHub (fun (h : Hub) => match h.partner.roleNext with
    | some n => if n.tick ≤ h.time.tick then h.setRole n.role n.promote n.counts else h
    | none => h))

/-- PARTNER_LANE_STATE (R378). -/
def execPartnerLaneState (lane : Fin 2) (up : Bool) (now : Nat) (s : State) : Out :=
  .next (s.modHub (fun (h : Hub) =>
    let on := up && h.cfg.partner.enabled && bit h.cfg.partner.lanes lane.val && !h.partner.down[lane]
    (h.at_ now).modPartner (fun p => { p with up := p.up.set lane on })))

/-! ### Handshake (R381) -/

/-- Role code that a module reports in HELLO: 3 while it is new. -/
def Hub.helloRole (h : Hub) : Nat := if h.partner.handshake then 3 else h.roleCode

/-- HELLO_SEND (R381): every 1 ms of the handshake. -/
def execHelloSend (now : Nat) (s : State) : Out :=
  .next (s.modHub (fun (h : Hub) =>
    let h := h.at_ now
    if !h.partner.handshake || decide (h.time.now < h.partner.helloAt + 1000000) then h
    else (h.modPartner (fun p => { p with helloAt := h.time.now })).partnerSend 1
      (beBytes 8 h.otp.serial ++ beBytes 1 h.helloRole ++ beBytes 1 h.partner.preference ++ beBytes 1 h.power.mode.code ++ zeros 1)))

/-- Strength of a preference: ACTIVE, none, STANDBY. -/
def prefRank (p : Nat) : Nat := if p = 1 then 2 else if p = 0 then 1 else 0

/-- The handshake ends with a role. -/
def Hub.handshakeRole (h : Hub) : Hub :=
  let h := h.modPartner (fun p => { p with handshake := false })
  match h.partner.heard with
  | none => (h.setRole .alone false 0).partnerLost 3 .real
  | some x =>
    let h := h.modPartner (fun p => { p with
      epoch := if epochHigher p.partnerEpoch p.epoch then p.partnerEpoch else p.epoch, partnerSerial := x.serial })
    let mine := prefRank h.partner.preference
    let his := prefRank x.preference
    if x.role = 0 ∨ x.role = 1 then h.setRole .standby false 0
    else if his < mine ∨ (his = mine ∧ h.otp.serial < x.serial) then h.setRole .active false 0
    else h.setRole .standby false 0

/-- Module reset: link state and policy as configured; the epoch stays in MRAM, and held-down lanes in the wear table. -/
def Hub.partnerBoot (h : Hub) : Hub :=
  let c := h.cfg.partner
  { h with partner := { ({} : Partner) with
      epoch := h.partner.epoch, down := h.partner.down, preference := c.preference, missLimit := c.missLimit, auto := c.autoTakeover } }

/-! ### The common part of a received frame (R379, Table 15.2) -/

/-- Role byte and serial of a frame that carries them. -/
def frameRole (type : Nat) (p : Bytes) : Option Nat :=
  match type with | 1 => some (u8 p 8) | 2 => some (u8 p 13) | 5 => some (u8 p 13) | _ => none

def frameSerial (type : Nat) (p : Bytes) : Option Nat :=
  match type with | 1 => some (be64 p 0) | 2 => some (be64 p 16) | _ => none

/-- Whether the module yields to a partner that acts: higher epoch, or equal epochs and the own serial is the higher. -/
def Hub.yields (h : Hub) (role epoch : Nat) : Bool :=
  h.partner.role != .standby && decide (role ≤ 1) &&
    (epochHigher epoch h.partner.epoch || (epoch == h.partner.epoch && decide (h.partner.partnerSerial < h.otp.serial)))

/-- A frame is taken: discarded and counted when invalid, else the partner's role, epoch and serial are noted and the epoch rule
applies. -/
def Hub.partnerTake (lane : Nat) (b : Bytes) (h : Hub) : Hub × Bool :=
  if vgetN h.partner.up lane false = false then (h, false)
  else if !partnerFrameOk b then
    ((h.modPartner (fun p => { p with linkErrors := vmodN p.linkErrors lane (satAdd 16 · 1) })).wearHit 6 4 lane (some 1), false)
  else
    let p := partnerPayload b
    let epoch := be32 b 4
    let role := (frameRole (u8 b 0) p).getD h.partner.partnerRole
    let h := h.modPartner (fun x => { x with
      partnerEpoch := epoch, partnerRole := if role ≤ 2 then role else x.partnerRole
      partnerSerial := (frameSerial (u8 b 0) p).getD x.partnerSerial })
    if h.partner.handshake then
      let heard : Heard := { role := role, preference := if u8 b 0 = 1 then u8 p 9 else 0, serial := h.partner.partnerSerial }
      let note := u8 b 0 == 1 || ((frameRole (u8 b 0) p).isSome && decide (role ≤ 1) && h.partner.heard.isNone)
      (if note then h.modPartner (fun x => { x with heard := some heard }) else h, true)
    else
      let r := h.takeArm .dualActive (fun _ => true)
      let h := r.2
      let noted := h.faults.log.any (fun f => f.name == .dualActive && f.key == [1] && f.lastTick == h.time.tick)
      if h.yields role epoch then (if noted then h else h.dualActive 1 .real, true)
      else match r.1 with
        | some o => if h.partner.role = .standby then (h, true) else (h.dualActive 1 o, true)
        | none => (h, true)

/-! ### Sending copies (R382, R387) -/

/-- The PARTNER image of a lane as it stands. -/
def State.partnerImage (s : State) (l : LaneId) : Bytes :=
  match (s.hub.mainSchedule.bind s.hub.schedule).bind (fun sc => sc.images.find? (fun i => i.kind == 2)) with
  | some i => i.regions.flatMap (fun (r : Nat × Nat) => (s.lane l).mem.readN r.1 r.2)
  | none => []

def Hub.partnerTotal (h : Hub) : Nat :=
  match (h.mainSchedule.bind h.schedule).bind (fun sc => sc.images.find? (fun i => i.kind == 2)) with
  | some i => i.total
  | none => 0

/-- STATE_COPY_LATE; side 0 sender, 1 receiver. -/
def Hub.copyLate (side cycle moved : Nat) (o : Origin) (h : Hub) : Hub :=
  let h := if o = .reportOnly then h else h.modPartner (fun p => { p with late := satAdd 32 p.late 1 })
  h.event .stateCopyLate [side] 0 [(1, side), (1, h.linkCount), (6, cycle), (4, moved)] o

/-- The copy being sent is abandoned when its source lane has left (R382). -/
def Hub.copyAbandon (h : Hub) : Hub :=
  match h.partner.out with
  | some c => if h.sourceLane = some c.source then h else h.modPartner (fun p => { p with out := none })
  | none => h

/-- COPY_HEADER_SEND (R382): at the release instant of a task-0 cycle. A handover makes the module STANDBY (R387). -/
def execCopyHeaderSend (now : Nat) (s : State) : Out :=
  let h := (s.hub.at_ now).copyAbandon
  let s := { s with hub := h }
  let d := h.time.tick - h.power.tA
  let app := h.power.mode.isRunning
  .next (
    if !h.cfg.partner.enabled || h.partner.role == .standby || h.p0 == 0 || decide (h.time.tick ≤ h.power.tA) || d % h.p0 != 0 ||
        !(app || h.power.mode == .safe) then s
    else
      let cycle := d / h.p0 - 1
      let r := if h.partner.out.isSome then (none, h) else h.takeArm .stateCopyLate (fun _ => true)
      let s := { s with hub := r.2 }
      let busy := h.partner.out.isSome || r.1 == some .injected
      let hand := h.partner.switching && app
      let follows := app && (!busy || hand)
      let moved := match h.partner.out with
        | some c => min c.data.length ((h.time.now - c.startAt) * h.linkCount / 4)
        | none => 0
      let late := fun (h : Hub) => if busy && app && !hand then
          h.copyLate 0 cycle moved (if h.partner.out.isSome then .real else .injected)
        else if r.1 = some .reportOnly then h.copyLate 0 cycle moved .reportOnly else h
      let flags := b2n follows + 2 * b2n (h.power.mode == .safe) + 4 * b2n (h.anyActive .supplyWarning) + 8 * b2n hand
      let seq := h.partner.seq
      let header := beBytes 8 (cycle % 2 ^ 48) ++ beBytes 4 h.partnerTotal ++ beBytes 1 flags ++ beBytes 1 h.roleCode ++ zeros 2 ++
        beBytes 8 h.otp.serial
      let out := match h.sourceLane with
        | some l => if follows then some ({ cycle := cycle, startAt := h.time.now, source := l, data := s.partnerImage l } : CopyOut)
                    else h.partner.out
        | none => none
      s.modHub (fun (h : Hub) =>
        let h := (late h).partnerSend 2 header
        let h := h.modPartner (fun p => { p with out := out, awaited := some (seq, h.time.now) })
        if hand then (h.modPartner (fun p => { p with switching := false })).setRole .standby true 2 else h))

/-- The COPY_DATA frames of an image, from an offset. -/
def copyFrames (fuel off : Nat) (d : Bytes) : List Bytes :=
  match fuel with
  | 0 => []
  | n + 1 => if d.length ≤ off then [] else (beBytes 4 off ++ slice d off 4092) :: copyFrames n (off + 4092) d

/-- COPY_DATA_SENT (R382): the image has been read and sent, and COPY_END follows. -/
def execCopyDataSent (now : Nat) (s : State) : Out :=
  .next (s.modHub (fun (h : Hub) =>
    let h := (h.at_ now).copyAbandon
    match h.partner.out with
    | none => h
    | some c =>
      let h := (copyFrames (c.data.length / 4092 + 1) 0 c.data).foldl (fun (h : Hub) x => h.partnerSend 3 x) h
      let h := h.partnerSend 4 (beBytes 8 (c.cycle % 2 ^ 48) ++ beBytes 4 (crc32 c.data))
      h.modPartner (fun p => { p with out := none, lastSent := c.cycle % 2 ^ 48, copyUs := (h.time.now - c.startAt) / 1000 })))

/-! ### Receiving copies (R383, R385) -/

/-- PROMOTABLE in an ACK. -/
def Hub.canPromote (h : Hub) : Bool := h.partner.copyHeld && h.partner.auto && h.power.mode.isRunning

/-- The takeover conditions after a copy miss (Table 15.2). -/
def Hub.afterCopyMiss (h : Hub) : Hub :=
  if h.partner.missCopies < h.partner.missLimit then h
  else if h.canPromote then h.planRole .alone (h.time.tick + 1) true 1
  else
    let r := h.takeArm .partnerLost (fun _ => true)
    r.2.partnerLost 2 .real

/-- A COPY_HEADER at a STANDBY: ACK, the copy that was not complete, the miss count, and a handover. -/
def Hub.copyHeader (b : Bytes) (h : Hub) : Hub :=
  let p := partnerPayload b
  let flags := u8 p 12
  if h.partner.role ≠ .standby ∨ h.partner.handshake = true then h
  else
    let safe := bit flags 1
    let data := bit flags 0
    let h := h.clearFault .partnerLost [] id
    let r := h.takeArm .stateCopyLate (fun _ => true)
    let h := match h.partner.in_ with
      | some c =>
        let h := r.2
        h.copyLate 1 c.cycle (sumNat (c.data.map (fun (d : Nat × Bytes) => d.2.length))) .real
      | none => h
    let h := h.modPartner (fun x => { x with
      in_ := if data then some { cycle := be48 p 2, total := be32 p 8 } else none, headerAt := h.time.now, counted := 0
      partnerSafe := safe, partnerSupply := bit flags 2, promotable := h.canPromote
      missCopies := if safe && !data then min 255 (x.missCopies + 1) else 0 })
    let ackFlags := b2n h.canPromote + 2 * b2n h.partner.copyHeld + 4 * b2n (h.power.mode == .safe) + 8 * b2n (h.anyActive .supplyWarning)
    let last := match h.partner.kept with | some k => k.1 | none => h.partner.lastApplied
    let h := h.partnerSend 5 (beBytes 4 (be32 b 8) ++ beBytes 8 last ++ beBytes 1 ackFlags ++ beBytes 1 h.roleCode ++ zeros 2)
    let h := if safe && !data then h.afterCopyMiss else h
    if bit flags 3 then h.planRole .active (h.time.tick + (if h.time.now = h.time.tickAt then 2 else 3)) true 2 else h

/-- COPY_DATA of the copy under way. -/
def Hub.copyData (b : Bytes) (h : Hub) : Hub :=
  let p := partnerPayload b
  h.modPartner (fun x => { x with in_ := x.in_.map (fun c =>
    if be32 p 0 + (p.length - 4) ≤ c.total then { c with data := c.data.filter (fun d => d.1 != be32 p 0) ++ [(be32 p 0, p.drop 4)] }
    else c) })

/-- The bytes from an offset on, when every byte has arrived. -/
def assemble (fuel off total : Nat) (parts : List (Nat × Bytes)) : Option Bytes :=
  match fuel with
  | 0 => if off = total then some [] else none
  | n + 1 =>
    if off = total then some []
    else match parts.find? (fun p => p.1 == off && !p.2.isEmpty) with
      | some p => (assemble n (off + p.2.length) total parts).map (fun r => p.2 ++ r)
      | none => none

/-- COPY_END: a complete copy is kept (R383); an injection makes the check report it incomplete. -/
def Hub.copyEnd (b : Bytes) (h : Hub) : Hub :=
  let p := partnerPayload b
  match h.partner.in_ with
  | none => h
  | some c =>
    if h.partner.role ≠ .standby ∨ be48 p 2 ≠ c.cycle then h
    else match assemble (c.data.length + 1) 0 c.total c.data with
      | none => h
      | some d =>
        if crc32 d ≠ be32 p 8 then h
        else
          let r := h.takeArm .stateCopyLate (fun _ => true)
          match r.1 with
          | some .reportOnly => (r.2.copyLate 1 c.cycle d.length .reportOnly).modPartner (fun x => { x with in_ := none, kept := some (c.cycle, d) })
          | some o => (r.2.copyLate 1 c.cycle d.length o).modPartner (fun x => { x with in_ := none })
          | none => h.modPartner (fun x => { x with in_ := none, kept := some (c.cycle, d) })

/-- COPY_HEADER_RECEIVED (R383). -/
def execCopyHeaderReceived (lane : Fin 2) (frame : Bytes) (now : Nat) (s : State) : Out :=
  .next (s.modHub (fun (h : Hub) =>
    if u8 frame 0 ≠ 2 then h else
    let r := (h.at_ now).partnerTake lane frame
    if r.2 then r.1.copyHeader frame else r.1))

/-- COPY_END_RECEIVED (R383). -/
def execCopyEndReceived (lane : Fin 2) (frame : Bytes) (now : Nat) (s : State) : Out :=
  .next (s.modHub (fun (h : Hub) =>
    if u8 frame 0 ≠ 4 then h else
    let r := (h.at_ now).partnerTake lane frame
    if r.2 then r.1.copyEnd frame else r.1))

/-- Put an image into its regions. -/
def putRegions : List (Nat × Nat) → Bytes → Mem → Mem
  | [], _, m => m
  | (a, n) :: r, d, m => putRegions r (d.drop n) (m.writeN a (d.take n))

/-- COPY_APPLY (R383): at the start of a task-0 cycle, before the input step, in every lane that executes the main schedule. -/
def execCopyApply (s : State) : Out :=
  let h := s.hub
  let d := h.time.tick - h.power.tA
  .next (match h.partner.kept, (h.mainSchedule.bind h.schedule).bind (fun sc => sc.images.find? (fun i => i.kind == 2)) with
  | some (cycle, data), some i =>
    if h.partner.role ≠ .standby ∨ h.p0 = 0 ∨ h.time.tick < h.power.tA ∨ d % h.p0 ≠ 0 ∨ h.power.mode.isRunning = false ∨
        data.length ≠ i.total then s
    else
      let s := s.mapLanes (fun l x =>
        let runs : Bool := match fin? 4 l with
          | some j => h.laneState j == .active || h.laneState j == .spareWarm
          | none => false
        if runs then { x with mem := putRegions i.regions data x.mem } else x)
      s.modHub (fun (h : Hub) => h.modPartner (fun p => { p with kept := none, copyHeld := true, lastApplied := cycle }))
  | _, _ => s)

/-- COPY_MISS (R385): an expected instant plus τ has passed without a valid header. -/
def execCopyMiss (now : Nat) (s : State) : Out :=
  .next (s.modHub (fun (h : Hub) =>
    let h := h.at_ now
    let p := h.partner
    if p.role ≠ .standby ∨ h.p0 = 0 ∨ h.time.now < p.headerAt + (p.counted + 1) * h.p0Ns + h.nCycles then h
    else (h.modPartner (fun x => { x with counted := x.counted + 1, missCopies := min 255 (x.missCopies + 1) })).afterCopyMiss))

/-! ### ACKs (R385) -/

/-- A valid ACK. -/
def Hub.takeAck (b : Bytes) (h : Hub) : Hub :=
  let p := partnerPayload b
  match h.partner.awaited with
  | none => h
  | some (seq, _) =>
    if be32 p 0 ≠ seq ∨ h.partner.role = .standby then h
    else
      let flags := u8 p 12
      let run := if u8 p 13 = 2 then h.partner.ackRun + 1 else 0
      let h := h.modPartner (fun x => { x with
        awaited := none, missAcks := 0, ackRun := run, promotable := bit flags 0, partnerSafe := bit flags 2
        partnerSupply := bit flags 3 })
      if h.partner.role = .alone ∧ 2 ≤ run then h.planRole .active (h.time.tick + 1) false 0 else h

/-- ACK_RECEIVED (R385). -/
def execAckReceived (lane : Fin 2) (frame : Bytes) (now : Nat) (s : State) : Out :=
  .next (s.modHub (fun (h : Hub) =>
    if u8 frame 0 ≠ 5 then h else
    let r := (h.at_ now).partnerTake lane frame
    if r.2 then r.1.takeAck frame else r.1))

/-- ACK_MISS (R385): no valid ACK by the header's send instant plus τ. -/
def execAckMiss (now : Nat) (s : State) : Out :=
  .next (s.modHub (fun (h : Hub) =>
    let h := h.at_ now
    match h.partner.awaited with
    | none => h
    | some (_, at_) =>
      if h.partner.role = .standby ∨ h.time.now < at_ + h.nCycles then h
      else
        let h := h.modPartner (fun p => { p with awaited := none, missAcks := min 255 (p.missAcks + 1), ackRun := 0, switching := false })
        let h := h.finish (fun e => e.op == .switchover) .resourceFault (fun _ => [])
        if h.partner.role ≠ .active ∨ h.partner.missAcks < h.partner.missLimit + 1 then h
        else
          let r := h.takeArm .partnerLost (fun _ => true)
          let h := r.2
          let up := h.linksUp != 0
          let down := r.1 == some .injected
          let h := if r.1 = some .reportOnly ∧ up = true then h.partnerLost 0 .reportOnly else h
          if up && !down && h.partner.promotable then h.dualActive 0 .real
          else
            let o : Origin := if up && down then .injected else .real
            (h.partnerLost (if up && !down then 1 else 0) o).planRole .alone (h.time.tick + 1) false 0))

/-! ### Opcodes and block 19 (R389, R392) -/

def Hub.partnerStatus (h : Hub) : Nat :=
  let p := h.partner
  p.role.code + 4 * p.partnerRole +
    16 * ofBits [vgetN p.up 0 false, vgetN p.up 1 false, p.copyHeld, p.promotable, h.anyActive .partnerLost, p.partnerSafe, p.partnerSupply,
      p.switching, p.dualSeen]

def Hub.partnerRegs (h : Hub) : List (Nat × Nat) :=
  let p := h.partner
  [(4, h.partnerStatus), (4, p.epoch), (4, p.partnerEpoch), (4, p.missCopies + 256 * p.missAcks), (8, p.lastSent), (8, p.lastApplied),
   (4, h.partnerTotal), (4, p.copyUs), (4, p.late), (4, vgetN p.linkErrors 0 0 + 65536 * vgetN p.linkErrors 1 0),
   (4, p.takeovers + 65536 * p.switchovers), (4, 0), (8, p.partnerSerial), (8, p.changedTb0)]

def Hub.block19 (h : Hub) : List (Nat × Nat × Nat) := layFields 0 h.partnerRegs

/-- The tick start: a policy takes effect at a task-0 cycle start. -/
def Hub.partnerTick (h : Hub) : Hub :=
  match h.partner.policyNext with
  | some (pref, limit, auto) =>
    if h.p0 ≠ 0 ∧ h.power.mode.isRunning = true ∧ (h.time.tick - h.power.tA) % h.p0 = 0 then
      h.modPartner (fun p => { p with preference := pref, missLimit := limit, auto := auto, policyNext := none })
    else h
  | none => h

def opGetPartnerStatus : OpSpec where
  op := .getPartnerStatus
  level := baseLevel .getPartnerStatus
  layout := exactly 0
  check := fun s _ _ => firstFail [modeIs Mode.parser s]
  act := fun r _ s => s.modHub (Hub.reply r .getPartnerStatus .ok (s.snap.partnerRegs.flatMap (fun (f : Nat × Nat) => beBytes f.1 f.2)))

def execGetPartnerStatus (r : Req) (p : Bytes) (s : State) : Out := .next (opGetPartnerStatus.run r p s)

def opSwitchover : OpSpec where
  op := .switchover
  level := baseLevel .switchover
  layout := exactly 4
  twoPhase := fun _ _ => true
  check := fun s _ p =>
    let h := s.hub
    let x := h.partner
    let lost := h.anyActive .partnerLost
    firstFail [modeIs Mode.isRunning s, (h.cfg.partner.enabled && x.role != .alone, .resourceFault),
      (x.role != .standby || lost, .roleStandby),
      (!x.switching && !(h.cmd.exec.any (fun e => e.op == .switchover)) && h.vote.split != .pending && h.vote.split != .loading &&
        h.vote.split != .joinPending, .busy),
      (if x.role = .active then x.promotable && h.linksUp != 0 else x.copyHeld, .resourceFault), param (allZero p)]
  act := fun r p s => s.modHub (fun (h : Hub) =>
    let h := h.defer r .switchover p [15]
    if h.partner.role = .active then h.modPartner (fun x => { x with switching := true })
    else h.planRole .alone (h.time.tick + 1) true 2)

def execSwitchover (r : Req) (p : Bytes) (s : State) : Out := .next (opSwitchover.run r p s)

/-- The values a request asks for: preference, miss_limit, auto_takeover. -/
def Hub.policyOf (h : Hub) (p : Bytes) : Nat × Nat × Bool :=
  let cur := h.partner.policyNext.getD (h.partner.preference, h.partner.missLimit, h.partner.auto)
  (if u8 p 0 = 0xFF then cur.1 else u8 p 0, if u8 p 1 = 0xFF then cur.2.1 else u8 p 1, if u8 p 2 = 0xFF then cur.2.2 else u8 p 2 == 1)

def opSetRolePolicy : OpSpec where
  op := .setRolePolicy
  level := baseLevel .setRolePolicy
  layout := exactly 4
  check := fun s _ p => firstFail [modeIs Mode.parser s, param (decide (u8 p 0 ≤ 2) || u8 p 0 == 0xFF),
    param ((inRange 2 8 (u8 p 1) && decide (u8 p 1 * s.hub.p0 ≤ 3200)) || u8 p 1 == 0xFF),
    param (decide (u8 p 2 ≤ 1) || u8 p 2 == 0xFF), param (u8 p 3 == 0)]
  act := fun r p s => s.modHub (fun (h : Hub) =>
    let v := h.policyOf p
    (h.modPartner (fun x => { x with policyNext := some v })).reply r .setRolePolicy .ok
      (beBytes 1 v.1 ++ beBytes 1 v.2.1 ++ beBytes 1 (b2n v.2.2)))

def execSetRolePolicy (r : Req) (p : Bytes) (s : State) : Out := .next (opSetRolePolicy.run r p s)

/-! ### Record (R390) -/

def parsePartner (b : Bytes) : Option PartnerCfg :=
  let c : PartnerCfg := { enabled := u8 b 0 == 1, missLimit := u8 b 1, preference := u8 b 2, autoTakeover := u8 b 3 == 1, lanes := u8 b 4,
                          handshakeMs := le16 b 6 }
  if b.length == 8 && decide (u8 b 0 ≤ 1) && inRange 2 8 c.missLimit && decide (c.preference ≤ 2) && decide (u8 b 3 ≤ 1) &&
      decide (c.lanes ≤ 3) && u8 b 5 == 0 && inRange 100 10000 c.handshakeMs then some c else none

/-- The refusals of R390 that concern the image; `declared` says that a PARTNER state image is. -/
def Cfg.partnerOk (c : Cfg) (declared : Bool) : Bool :=
  !c.partner.enabled || (c.period 0 != 0 && declared && decide (c.partner.missLimit * c.period 0 ≤ 3200))

end Sys2Proof.Machine
end

