-- ==== Sys2Proof/Machine/Queues.lean ====
section
/-! DEFINITION. The doorbells of the queue fabric as a whole (R294, R297 to R299): the Parser's, and the lanes' for the queues of other
chapters. -/
namespace Sys2Proof.Machine

/-- A queue whose ring the Parser owns (R294, R310, R355, R370). -/
def Hub.parserRing (h : Hub) (q : Nat) : Bool :=
  let c := (q - 32) / 2
  if 32 ≤ q ∧ q < 40 then (if q % 2 = 0 then (h.canCfg c).txOwner == 1 else (h.canCfg c).rxOwner == 1)
  else if q = 42 ∨ q = 43 then bit h.ybc.dynQueues 1
  else if q = 46 ∨ q = 47 then bit h.cfg.rack.link.queues 1
  else if 40 ≤ q ∧ q < 56 then false
  else (h.cfg.queueOf q).direction != 0 && (h.cfg.queueOf q).owner == 1

def Hub.ringLog2 (h : Hub) (q : Nat) : Nat :=
  if 32 ≤ q ∧ q < 40 then (h.canCfg ((q - 32) / 2)).ringLog2
  else if q = 42 ∨ q = 43 then h.ybc.ringLog2
  else if q = 46 ∨ q = 47 then h.cfg.rack.link.ringLog2
  else (h.cfg.queueOf q).ringLog2

/-- One descriptor of a PARSER queue in ring order; one that meets an uncorrectable codeword completes with ERROR (R399). -/
def Hub.ringDesc (q : Nat) (h : Hub) (d : Desc) : Hub :=
  match d.bad with
  | some a =>
    let (h, i) := h.pushDesc q (h.ringLog2 q) d
    ((h.dramRead 4 a 0 [{ addr := a / 32 * 32, bytes := 5 }] (zeros 1)).1).complete q 1 i none
  | none =>
    if 32 ≤ q ∧ q < 40 then h.canDesc q d
    else if q = 42 ∨ q = 43 then h.ybDesc q d
    else if q = 46 ∨ q = 47 then h.rackDesc q d
    else h.takeDesc q d

/-- The Parser consumes the oldest completions of a queue (R297). -/
def Hub.consume (q n : Nat) (h : Hub) : Hub :=
  let mine := (h.net.completions.filter (fun c => c.queue == q)).take n
  { h with net.completions := mine.foldl (fun (l : List Completion) c => l.erase c) h.net.completions }

/-- PARSER_DOORBELL (R294): the new producer index of a queue's ring, with the descriptors that the Parser has handed over since, and
how many completions of the queue it has consumed. -/
def execParserDoorbell (queue : Fin 64) (value : Nat) (descs : List Desc) (consumed now : Nat) (s : State) : Out :=
  .next (s.modHub (fun (h : Hub) =>
    let h := h.at_ now
    let q := queue.val
    if !h.parserRing q then h.bellReject
    else
      let h := ((h.consume q consumed).modQueue q (fun x => { x with bell := value % 2 ^ 32 })).queueRec q 0 (value % 2 ^ 32)
      descs.foldl (Hub.ringDesc q) h))

/-- A voted doorbell of the queues Q32 to Q55. -/
def Hub.busBell (q : Nat) (v : Bytes) (h : Hub) : Hub :=
  let c := (q - 32) / 2
  if 32 ≤ q ∧ q < 40 then (if q % 2 = 0 then h.canBell c v else h.canRxBell c v)
  else if q = 40 then h.ybBell v
  else if q = 41 then h.ybRxBell v
  else if q = 44 then h.rackBell v
  else if q = 45 then h.rackRxBell v
  else h.bellReject

/-- Direction of a queue Q32 to Q55 as block 7 shows it: 1 transmit, 2 receive, 0 not in use. -/
def Hub.busDirection (h : Hub) (q : Nat) : Nat :=
  let c := (q - 32) / 2
  let dir := 1 + q % 2
  if 32 ≤ q ∧ q < 40 then (if q % 2 = 0 then (if (h.canCfg c).txOwner = 0 then 0 else dir) else (if (h.canCfg c).rxOwner = 0 then 0 else dir))
  else if 40 ≤ q ∧ q < 44 then (if bit h.ybc.dynQueues ((q - 40) / 2) then dir else 0)
  else if 44 ≤ q ∧ q < 48 then (if bit h.cfg.rack.link.queues ((q - 44) / 2) then dir else 0)
  else if q = 52 then 1
  else 0

end Sys2Proof.Machine
end

