-- ==== Sys2Proof/Machine/Mailbox.lean ====
section
/-! DEFINITION. The mailboxes (chapter 17: R438 to R448, R451 to R454): writes and takes, mailbox traffic with stations and the partner,
the no-progress timer, block 21, the record MAILBOX and MB_STATUS. -/
namespace Sys2Proof.Machine

def Hub.box (h : Hub) (n : Nat) : Mailbox := vgetN h.mb.box n {}
def Hub.modBox (n : Nat) (f : Mailbox → Mailbox) (h : Hub) : Hub := { h with mb.box := vmodN h.mb.box n f }

/-- A queue: direction 0 A→B, 1 B→A. -/
def Mailbox.queue (m : Mailbox) (dir : Nat) : List Word := if dir = 0 then m.a2b else m.b2a

/-! ### Payloads (Table 17.9) -/

def mbPayload (box op number : Nat) (words : List Word) : Bytes :=
  beBytes 1 box ++ beBytes 1 op ++ beBytes 1 (if op = 1 then words.length else 0) ++ beBytes 1 (number % 256) ++
    words.flatMap (fun w => beBytes 4 w.toNat)

/-- Send a message to side B: a frame to the partner at once, a packet to a station at its next host poll. -/
def Hub.mbSend (n op number : Nat) (words : List Word) (h : Hub) : Hub :=
  match (h.box n).sideB with
  | 4 => h.partnerSend 7 (mbPayload n op number words)
  | 3 => h.modBox n (fun m => { m with outgoing := m.outgoing ++ [(op, number, words)] })
  | _ => h

/-- The words of A→B not yet sent go to a PARTNER side B (R442); a station's wait for the host poll. -/
def Hub.mbForward (n : Nat) (h : Hub) : Hub :=
  let m := h.box n
  let new := m.a2b.drop m.sent
  if m.sideB ≠ 4 ∨ new = [] ∨ h.linksUp = 0 then h
  else (h.mbSend n 1 (m.a2bTaken + m.sent) new).modBox n (fun m => { m with sent := m.a2b.length, sentAt := h.time.now })

/-! ### Writes (R439) -/

/-- MB_WRITE_FULL: writer as a side code, words rejected, level at the write. -/
def Hub.mbWriteFull (n dir writer rejected level lanes : Nat) (o : Origin) (h : Hub) : Hub :=
  let h := if o = .reportOnly then h else
    ({ h with mb.fullEvents := satAdd 32 h.mb.fullEvents 1 } : Hub).modBox n (fun m =>
      if dir = 0 then { m with rejectedA := satAdd 16 m.rejectedA rejected } else m)
  h.eventPerTick .mbWriteFull [n, dir] lanes [(1, n), (1, dir), (1, writer), (1, rejected), (1, level)] o

/-- The injection of a full queue (resource: mailbox + 256 × direction; assumption log 67). -/
def Hub.takeFull (n dir : Nat) (h : Hub) : Option Origin × Hub := h.takeArm .mbWriteFull (fun a => a.resource == n + 256 * dir)

/-- A write of words into a queue: those that fit are accepted in order, and their number is answered. -/
def Hub.mbPush (n dir writer : Nat) (words : List Word) (h : Hub) : Hub × Nat :=
  let level := ((h.box n).queue dir).length
  let (arm, h) := h.takeFull n dir
  let real := 8 - level
  let room := match arm with | some .injected => if real < words.length then real else 0 | _ => real
  let k := min room words.length
  let h := h.modBox n (Mailbox.append dir (words.take k) h.time.now)
  let h := if k < words.length then
      h.mbWriteFull n dir writer (words.length - k) level 0 (if real < words.length then .real else .injected)
    else match arm with
      | some .reportOnly => h.mbWriteFull n dir writer words.length level 0 .reportOnly
      | _ => h
  (if dir = 0 then h.mbForward n else h, k)

/-! ### Takes (R442, R443, R448) -/

/-- `k` words leave a queue: the timer restarts, MB_NO_PROGRESS clears, and a queue that becomes empty notifies its writer. -/
def Hub.mbTake (n dir k : Nat) (h : Hub) : Hub × List Word :=
  let m := h.box n
  let w := (m.queue dir).take k
  if w.isEmpty then (h, []) else
  let t := h.time.now
  let h := h.modBox n (fun m =>
    let m := { m with timerAt := t, noProgress := false }
    if dir = 0 then { m with a2b := m.a2b.drop k, a2bTaken := wrapAdd 32 m.a2bTaken w.length, sent := m.sent - w.length
                             a2bEmptied := if m.a2b.length ≤ k then wrapAdd 32 m.a2bEmptied 1 else m.a2bEmptied }
    else { m with b2a := m.b2a.drop k, b2aConsumed := wrapAdd 32 m.b2aConsumed w.length })
  let h := h.clearFault .mbNoProgress [n] id
  (if dir = 1 ∧ (h.box n).b2a.isEmpty = true then h.mbSend n 4 0 [] else h, w)

/-- B2A_CONSUMED (R442): the total number of words the application has consumed, at the release. -/
def Hub.consumeB2A (n v : Nat) (h : Hub) : Hub :=
  let m := h.box n
  let k := (v + 2 ^ 32 - m.b2aConsumed) % 2 ^ 32
  if m.sideA ≠ 1 ∨ m.b2a.length < k then h.modBox n (fun m => { m with ignored := satAdd 16 m.ignored 1 })
  else (h.mbTake n 1 k).1

/-- B2A_CONSUMED: a released write. MB0's replies follow as room becomes free (R449). -/
def execB2aConsumed (n : Fin 16) (v : Nat) (s : State) : Out :=
  .next (s.modHub (fun (h : Hub) => (h.consumeB2A n (v % 2 ^ 32)).mb0Fill))

/-! ### The application's writes (R440, R441) -/

/-- One lane's write of words to MB_PUSH of a mailbox: the accepted words are kept for the release; `eng` is the engine that learns of a
rejection (R441). The contributing lanes report a rejection once in a tick. -/
def State.laneMbPush (l : LaneId) (n : Nat) (words : List Word) (eng : EngineId) (s : State) : State :=
  let m := s.hub.box n
  if m.sideA ≠ 1 then s.modHub (Hub.modBox n (fun m => { m with ignored := satAdd 16 m.ignored 1 }))
  else
    let level := (s.snap.box n).a2b.length
    let arm := s.hub.armed .mbWriteFull (fun a => a.resource == n)
    let injected := match arm with | some a => !a.reportOnly | none => false
    let real := 8 - level - (m.pushed[l]).length
    let k := min (if injected then 0 else real) words.length
    let s := s.modHub (Hub.modBox n (fun m => { m with pushed := m.pushed.set l (m.pushed[l] ++ words.take k) }))
    let rejected := words.length - k
    let det : Detail := [(1, n), (1, 0), (1, 1), (1, rejected), (1, level)]
    let report := fun (o : Origin) (h : Hub) =>
      let joins := h.faults.log.any (fun r => r.same .mbWriteFull [n, 0] o && r.lastTick == h.time.tick && r.lastLanes &&& 2 ^ l.val == 0)
      if !h.active.contains l then h else
      let h : Hub := if o = .reportOnly ∨ joins = true then h else
        ({ h with mb.fullEvents := satAdd 32 h.mb.fullEvents 1 } : Hub).modBox n (fun m =>
          { m with rejectedA := satAdd 16 m.rejectedA rejected })
      h.laneEvent (fun r => r.lastTick == h.time.tick) .mbWriteFull [n, 0] l det o
    if rejected = 0 then (match arm with | some _ => s.modHub (report .reportOnly) | none => s)
    else
      let s := s.modHub (report (if real < words.length then .real else .injected))
      s.modLane l (Lane.modEng eng (fun e => { e with mbFull := true }))

/-- MB_PUSH (R440): a lane's transfer to MB_PUSH completes. -/
def execMbPush (lane : LaneId) (n : Fin 16) (words : List Word) (eng : EngineId) (s : State) : Out :=
  .next (if s.hub.time.running && (s.hub.laneState lane).powered then s.laneMbPush lane n words eng else s)

/-- The accepted words that at least `need` of the used lanes hold alike, in order. -/
def agreedWords (need : Nat) (vs : List (List Word)) : List Word :=
  (List.range (maxNat (vs.map List.length))).filterMap (fun i =>
    let ws := vs.filterMap (fun v => v[i]?)
    ws.find? (fun w => decide (need ≤ (ws.filter (fun x => x == w)).length)))

/-- The release of a tick's pushes (R440), and the end of injections into the application's writes. -/
def Hub.mbRelease (used : List LaneId) (need : Nat) (h : Hub) : Hub :=
  let h := (List.range 16).foldl (fun (h : Hub) n =>
    let m := h.box n
    let w := agreedWords need (used.map (fun l => m.pushed[l]))
    let h := h.modBox n (fun m => { m with pushed := Vector.replicate 4 [] })
    if w.isEmpty then h
    else (h.modBox n (Mailbox.append 0 w h.time.now)).mbForward n) h
  { h with inject.armed := h.inject.armed.filter (fun a => !(a.detector == .mbWriteFull && decide (a.resource < 256))) }

/-! ### Mailbox traffic (R445, R446) -/

/-- The distance from number b to number a, modulo 256. -/
def ahead (a b : Nat) : Nat := (a + 256 - b % 256) % 256

/-- Words from a remote side B: numbers already accepted are discarded, the rest is appended until the queue is full; and whether every
new word was taken. -/
def Hub.mbKeep (n number : Nat) (words : List Word) (h : Hub) : Hub × Bool :=
  let m := h.box n
  let old := ahead m.nextIn number
  let new := if old < 128 then words.drop old else []
  let r := h.mbPush n 1 m.sideB new
  (r.1.modBox n (fun m => { m with nextIn := (m.nextIn + r.2) % 256 }), r.2 == new.length && decide (old < 128))

/-- The receiver's answer: ACCEPTED when every new word was taken, else NACK. -/
def Hub.mbWords (n number : Nat) (words : List Word) (h : Hub) : Hub :=
  let r := h.mbKeep n number words
  r.1.mbSend n (if r.2 then 2 else 3) (r.1.box n).nextIn []

/-- ACCEPTED or NACK: the words below the number have been taken. -/
def Hub.mbAccepted (n number : Nat) (h : Hub) : Hub :=
  let m := h.box n
  let k := ahead number m.a2bTaken
  if m.a2b.length < k then h else (h.mbTake n 0 k).1

/-- A MAILBOX payload from the partner (station none) or a station. -/
def Hub.mbReceive (station : Option Nat) (b : Bytes) (h : Hub) : Hub :=
  let n := u8 b 0
  let op := u8 b 1
  let words := (List.range (u8 b 2)).map (fun i => BitVec.ofNat 32 (be32 b (4 + 4 * i)))
  let m := h.box n
  let mine := match station with | some st => m.sideB == 3 && m.station == st | none => m.sideB == 4
  let owner := if station.isSome then 2 else 3
  let lock := fun (i : Fin 32) (h : Hub) =>
    if op = 5 then h.lockRead i owner (station.getD 0)
    else let h := h.lockRelease i owner; (h, h.locks.lock[i].value false)
  if op = 5 ∨ op = 6 then
    match fin? 32 (u8 b 3) with
    | none => h
    | some i =>
      let r := lock i h
      let answer := mbPayload n 7 i.val [BitVec.ofNat 32 r.2]
      match station with
      | none => r.1.partnerSend 7 answer
      | some st => r.1.modStation st (fun x => { x with replies := x.replies ++ [(0x0B, answer)] })
  else if !mine || decide (16 ≤ n) then h
  else match op with
    | 1 => if words.length = 0 ∨ 8 < words.length ∨ b.length < 4 + 4 * words.length then h else h.mbWords n (u8 b 3) words
    | 2 | 3 => h.mbAccepted n (u8 b 3)
    | _ => h

/-- MAILBOX_FRAME_RECEIVED (R446): a payload from a host station, or from the partner. In LOAD a frame of the partner is answered NACK
with count 0 (R444). -/
def execMailboxFrameReceived (station : Option (Fin 32)) (payload : Bytes) (now : Nat) (s : State) : Out :=
  .next (s.modHub (fun (h : Hub) =>
    let h := h.at_ now
    match station with
    | none => if h.power.mode = .load then h.partnerSend 7 (mbPayload (u8 payload 0) 3 0 []) else
        if h.power.mode.parser then h.mbReceive none payload else h
    | some st => if h.power.mode.parser then h.mbReceive (some st.val) payload else h))

/-- MAILBOX_RESEND (R446): 1 ms after words were sent to the partner and not accepted. -/
def execMailboxResend (n : Fin 16) (now : Nat) (s : State) : Out :=
  .next (s.modHub (fun (h : Hub) =>
    let h := h.at_ now
    let m := h.box n
    if m.sideB = 4 ∧ m.sent ≠ 0 ∧ m.sentAt + 1000000 ≤ h.time.now then (h.modBox n (fun m => { m with sent := 0 })).mbForward n else h))

/-! ### No progress (R448) -/

/-- The timer's value in ms. -/
def Hub.mbTimer (h : Hub) (n : Nat) : Nat :=
  let m := h.box n
  if m.a2b.isEmpty && m.b2a.isEmpty then 0 else (h.time.now - m.timerAt) / 1000000

def Hub.mbNoProgress (n : Nat) (o : Origin) (h : Hub) : Hub :=
  let m := h.box n
  let det : Detail := [(1, n), (1, m.a2b.length), (1, m.b2a.length), (1, 0), (4, min (h.mbTimer n) (2 ^ 32 - 1))]
  let h := if o = .reportOnly then h else (h.modBox n (fun m => { m with noProgress := true })).mbSend n 8 0 []
  h.raise .mbNoProgress [n] 0 det o

/-- MB_NO_PROGRESS: the timer reaches no_progress_ms. -/
def execMbNoProgress (n : Fin 16) (now : Nat) (s : State) : Out :=
  .next (s.modHub (fun (h : Hub) =>
    let h := h.at_ now
    let m := h.box n
    if m.noProgressLimit ≠ 0 ∧ m.noProgress = false ∧ (m.a2b ≠ [] ∨ m.b2a ≠ []) ∧ m.noProgressLimit ≤ h.mbTimer n then
      h.mbNoProgress n .real else h))

/-! ### Block 21 (R451) -/

/-- Side B can be reached. -/
def Hub.remoteUp (h : Hub) (m : Mailbox) : Bool :=
  match m.sideB with
  | 2 => h.power.mode.parser
  | 3 => (h.station m.station).present
  | 4 => h.linksUp != 0
  | _ => false

def Hub.mbState (h : Hub) (n : Nat) : Nat :=
  let m := h.box n
  m.a2b.length + 16 * m.b2a.length + 256 * m.sideA + 2048 * m.sideB + 2 ^ 14 * b2n m.noProgress + 2 ^ 15 * b2n (h.remoteUp m) +
    2 ^ 16 * m.station

def Hub.block21 (h : Hub) : List (Nat × Nat × Nat) :=
  let bit_ := fun (f : Mailbox → Bool) => ofBits (h.mb.box.toList.map f)
  [(0x00, 4, bit_ (fun m => !m.b2a.isEmpty) + 65536 * bit_ (fun m => m.noProgress)), (0x04, 4, h.mb.fullEvents)] ++
  (List.range 16).flatMap (fun n =>
    let m := h.box n
    let o := 0x100 + 0x80 * n
    [(o, 4, h.mbState n), (o + 4, 4, m.a2bAccepted), (o + 8, 4, m.a2bTaken), (o + 12, 4, m.a2bEmptied), (o + 16, 4, m.b2aAccepted),
     (o + 20, 4, m.b2aConsumed), (o + 24, 4, m.rejectedA + 65536 * m.ignored), (o + 28, 4, min (h.mbTimer n) (2 ^ 32 - 1))] ++
    mapIdxFrom (fun i (w : Word) => (o + 0x40 + 4 * i, 4, w.toNat)) 0 m.b2a)

/-! ### Record MAILBOX (R452) -/

/-- Sides that Table 17.8 allows a mailbox. -/
def mbSidesOk (n a b : Nat) : Bool :=
  if n < 4 then a == 1 && b == 2
  else if n < 8 then a == 2 && b == 3
  else if n < 12 then (a == 1 || a == 2) && b == 4
  else (a == 0 && b == 0) || (a == 1 && (b == 2 || b == 3 || b == 4)) || (a == 2 && (b == 3 || b == 4))

/-- MAILBOX: the mailboxes and app_authority; `hosts` are the stations with the host flag. MB4 to MB7 may leave the station open
(assumption log 68). -/
def parseMailbox (hosts : List Nat) (partner declared : Bool) (b : Bytes) : Option (List Mailbox × Nat) :=
  let one := fun (n : Nat) =>
    let o := 8 * n
    let a := u8 b o
    let side := u8 b (o + 1)
    let st := u8 b (o + 2)
    let ok := mbSidesOk n a side && (if side = 3 then hosts.contains st else st == 0) && u8 b (o + 3) == 0 &&
      decide (le16 b (o + 4) ≤ 60000) && le16 b (o + 6) == 0 && (side != 4 || partner || (!declared && n < 12))
    if ok then some ({ sideA := a, sideB := side, station := st, noProgressLimit := le16 b (o + 4) } : Mailbox) else none
  if b.length = 132 ∧ 1 ≤ u8 b 128 ∧ u8 b 128 ≤ 3 ∧ allZero (slice b 129 3) then
    ((List.range 16).mapM one).map (fun l => (l, u8 b 128))
  else none

/-! ### MB_STATUS (R454) -/

/-- The queue towards PARSER of a mailbox with a PARSER side. -/
def Mailbox.toParser (m : Mailbox) : Option Nat := if m.sideA = 2 then some 1 else if m.sideB = 2 then some 0 else none

def opMbStatus : OpSpec where
  op := .mbStatus
  level := fun _ p => if u8 p 1 = 0 then 1 else 2
  layout := fun p => decide (4 ≤ p.length) && (if u8 p 1 = 2 then (p.length - 4) % 4 == 0 else p.length == 4)
  check := fun s _ p =>
    let n := u8 p 0
    let act := u8 p 1
    let c := u8 p 2
    firstFail [modeIs Mode.parser s, param (decide (n < 16)), param (decide (act ≤ 2)), param (u8 p 3 == 0),
      param (if act = 0 then c == 0 else decide (1 ≤ c ∧ c ≤ 8)), param (act != 2 || p.length == 4 + 4 * c),
      param (act == 0 || (n != 0 && ((s.hub.box n).toParser).isSome))]
  act := fun r p s => s.modHub (fun (h : Hub) =>
    let n := u8 p 0
    let dir := ((h.box n).toParser).getD 0
    let words := (List.range (u8 p 2)).map (fun i => BitVec.ofNat 32 (be32 p (4 + 4 * i)))
    let (h, k, w) := match u8 p 1 with
      | 1 => let x := h.mbTake n dir (u8 p 2); (x.1, x.2.length, x.2)
      | 2 => let x := h.mbPush n (1 - dir) 2 words; (x.1, x.2, [])
      | _ => (h, 0, [])
    h.reply r .mbStatus .ok (beBytes 4 (h.mbState n) ++ beBytes 4 (h.box n).a2bEmptied ++ beBytes 4 (min (h.mbTimer n) (2 ^ 32 - 1)) ++
      beBytes 1 k ++ zeros 3 ++ w.flatMap (fun (x : Word) => beBytes 4 x.toNat)))

def execMbStatus (r : Req) (p : Bytes) (s : State) : Out := .next (opMbStatus.run r p s)

end Sys2Proof.Machine
end

