-- ==== Sys2Proof/Machine/Container.lean ====
section
/-! DEFINITION. The container of the APP image (R105 to R109) and its load-time checks (R103, Table 4.4). -/
namespace Sys2Proof.Machine

/-! ### Sections (Tables 4.5 to 4.7) -/

structure Sec where
  type : Nat
  sched : Nat
  engine : Nat
  offset : Nat
  length : Nat
  crc : Nat
  data : Bytes
deriving DecidableEq, Repr

def dirEntry (b : Bytes) (i : Nat) : Sec :=
  let o := 32 + 16 * i
  { type := le16 b o, sched := u8 b (o + 2), engine := u8 b (o + 3), offset := le32 b (o + 4), length := le32 b (o + 8),
    crc := le32 b (o + 12), data := slice b (le32 b (o + 4)) (le32 b (o + 8)) }

/-- The sections of a container whose header, lengths and CRCs hold (check 1). -/
def sections (b : Bytes) : Option (List Sec) :=
  let k := le16 b 8
  let dir := slice b 32 (16 * k)
  if 32 ≤ b.length ∧ u8 b 0 = 0x59 ∧ u8 b 1 = 0x53 ∧ u8 b 2 = 1 ∧ le32 b 4 = Config.hwType ∧ 1 ≤ k ∧ k ≤ 1024 ∧
      le32 b 12 = b.length ∧ 32 + 16 * k ≤ b.length ∧ le32 b 16 = crc32 (b.take 16 ++ dir) then
    let s := (List.range k).map (dirEntry b)
    if s.all (fun x => decide (x.offset + x.length ≤ b.length) && x.crc == crc32 x.data && decide (1 ≤ x.type ∧ x.type ≤ 9)) then some s
    else none
  else none

def secOf (s : List Sec) (type sched : Nat) : Bytes := match s.find? (fun x => x.type == type && x.sched == sched) with | some x => x.data | none => []

/-- The schedules named by headers, in rising order of their numbers. -/
def schedNumbers (s : List Sec) : List Nat := (List.range 256).filter (fun n => s.any (fun x => x.type == 1 && x.sched == n))

/-- The section counts of Table 4.7, a MAIN schedule, and no number twice (check 1). -/
def countsOk (s : List Sec) : Bool :=
  let ns := schedNumbers s
  let n := fun (t k : Nat) => (s.filter (fun x => x.type == t && x.sched == k)).length
  let heads := s.filter (fun x => x.type == 1)
  let numbers : List Nat := heads.map (fun x => u8 x.data 0)
  ns.all (fun k => n 1 k == 1 && n 2 k == 1 && n 3 k == 1 && n 7 k == 1 && n 8 k == 1 && decide (n 6 k ≤ 1) &&
      (List.range 256).all (fun e => decide ((s.filter (fun x => x.type == 4 && x.sched == k && x.engine == e)).length ≤ 1))) &&
    s.all (fun x => x.type == 9 || x.type == 5 || ns.contains x.sched) && (s.filter (fun x => x.type == 9)).length == 1 &&
    heads.any (fun x => u8 x.data 1 == 0) && decide numbers.Nodup

/-! ### Tables -/

def entries {α : Type} (size : Nat) (f : Bytes → α) (b : Bytes) : List α := (List.range (b.length / size)).map (fun i => f (slice b (size * i) size))

def parseClause (b : Bytes) : ClauseEntry :=
  { tick := le16 b 0, engine := u8 b 2, flags := u8 b 3, start := le32 b 4, budget := le32 b 8, first := le16 b 12, count := le16 b 14,
    task := u8 b 16, loopBound := le16 b 18, reserved := !(u8 b 17 == 0 && le32 b 20 == 0) }

def parseTransfer (b : Bytes) : TransferEntry :=
  { tick := le16 b 0, ctx := u8 b 2, flags := u8 b 3, start := le32 b 4, src := le32 b 8, dst := le32 b 12, len := le32 b 16,
    consumer := le16 b 20, paramEngine := u8 b 22, paramSlot := u8 b 23, srcPort := u8 b 24, dstPort := u8 b 25, task := u8 b 26,
    completion := le32 b 28, reserved := u8 b 27 != 0 }

def parseGate (b : Bytes) : GateEntry := { tick := le16 b 0, gates := u8 b 2, ports := u8 b 3, cycle := le32 b 4 }

def parseLive (b : Bytes) : LiveEntry := { engine := u8 b 0, preds := u8 b 2, loops := u8 b 3, regs := le64 b 8 }

/-- Chunks of an INITIAL_DATA section; none when one is not well formed. -/
def parseChunks : Nat → Bytes → Option (List (Nat × Bytes))
  | _, [] => some []
  | 0, _ => none
  | k + 1, b =>
    let n := le32 b 4
    let pad := (4 - n % 4) % 4
    if b.length < 8 + n + pad then none
    else (parseChunks k (b.drop (8 + n + pad))).map (fun l => (le32 b 0, slice b 8 n) :: l)

/-- State image declarations (R106), each with its reserved byte. -/
def parseImages : Nat → Bytes → Option (List (ImageDecl × Nat))
  | _, [] => some []
  | 0, _ => none
  | k + 1, b =>
    let n := le16 b 2
    if b.length < 8 + 8 * n then none
    else
      let d : ImageDecl := { kind := u8 b 0, total := le32 b 4,
                             regions := (List.range n).map (fun i => (le32 b (8 + 8 * i), le32 b (12 + 8 * i))) }
      (parseImages k (b.drop (8 + 8 * n))).map (fun l => (d, u8 b 1) :: l)

/-- The sections of one schedule, read without checks. -/
def parseSchedule (s : List Sec) (n : Nat) : Schedule :=
  let h := secOf s 1 n
  { number := u8 h 0, kind := u8 h 1, revision := le16 h 2, n := le32 h 4, s := le16 h 8, enginesUsed := le16 h 10,
    compilerBuild := le32 h 20, clauses := entries 24 parseClause (secOf s 2 n), transfers := entries 32 parseTransfer (secOf s 3 n),
    gates := entries 8 parseGate (secOf s 6 n), liveness := entries 16 parseLive (secOf s 7 n)
    images := ((parseImages (secOf s 8 n).length (secOf s 8 n)).getD []).map Prod.fst
    code := (s.filter (fun x => x.type == 4 && x.sched == n)).map (fun x => (x.engine, x.data))
    data := (s.filter (fun x => x.type == 5 && x.sched == n)).flatMap (fun x => (parseChunks x.data.length x.data).getD []) }

/-- Section lengths as their tables give them (check 1, assumption log 78): headers, clause and transfer tables by their counts,
whole gate entries and state image declarations, nine liveness entries, code in whole bundles up to 128 KiB. -/
def lengthsOk (s : List Sec) : Bool :=
  s.all (fun x => match x.type with
    | 1 => x.length == 32
    | 2 => x.length == 24 * le32 (secOf s 1 x.sched) 12
    | 3 => x.length == 32 * le32 (secOf s 1 x.sched) 16
    | 4 => x.length % 16 == 0 && decide (x.length ≤ imemSize)
    | 6 => x.length % 8 == 0
    | 7 => x.length == 144
    | 8 => (parseImages x.length x.data).isSome
    | _ => true)

/-! ### Checks 2 to 14 (Table 4.4) -/

def risingBy (key : α → Nat) : List α → Bool
  | a :: b :: r => decide (key a ≤ key b) && risingBy key (b :: r)
  | _ => true

/-- Check 2. -/
def check2 (l : List Schedule) : Bool :=
  l.all (fun x => x.revision == 0 && inRange 10000 250000 x.n && inRange 1 4096 x.s &&
    (match l with | y :: _ => x.n == y.n && x.s == y.s | [] => true))

def ClauseEntry.ok (x : Schedule) (c : ClauseEntry) : Bool :=
  decide (c.tick < x.s) && decide (c.engine ≤ 7) && decide (c.flags < 4) && decide (1 ≤ c.budget) && inRange 1 8192 c.count &&
    (decide (c.task ≤ 7) || c.task == 0xFF) && (bit c.flags 0 || c.loopBound == 0) && !c.reserved

def TransferEntry.ok (x : Schedule) (t : TransferEntry) : Bool :=
  decide (t.tick < x.s) && decide (t.ctx ≤ 63) && decide (t.flags ≤ 1) && (t.consumer == 0xFFFF || decide (t.consumer < x.clauses.length)) &&
    (if t.param then decide (t.paramEngine ≤ 7) && decide (t.paramSlot ≤ 63) else t.paramEngine == 0 && t.paramSlot == 0) &&
    (Port.ofCode t.srcPort).isSome && (Port.ofCode t.dstPort).isSome && (decide (t.task ≤ 7) || t.task == 0xFF) && !t.reserved

/-- Check 3 for the container's directory: reserved bytes, schedule and engine fields, offsets. -/
def dirOk (b : Bytes) (s : List Sec) : Bool :=
  u8 b 3 == 0 && le16 b 10 == 0 && allZero (slice b 20 12) && s.all (fun x =>
    x.offset % 16 == 0 && (if x.type = 9 then x.sched == 0xFF else decide (x.sched ≤ 7)) &&
    (if x.type = 4 then decide (x.engine ≤ 7) else x.engine == 0xFF) &&
    (if x.type = 5 then (match parseChunks x.data.length x.data with
      | some l => l.all (fun c => inLaneMemory c.1 c.2.length)
      | none => false) else true))

/-- Check 3 for one schedule; `n` is the number of its directory entries. -/
def check3 (s : List Sec) (n : Nat) (x : Schedule) : Bool :=
  let h := secOf s 1 n
  let lv := secOf s 7 n
  let zero8 := fun (k : Nat) => u8 lv (16 * k) == k && u8 lv (16 * k + 1) == 0 && le32 lv (16 * k + 4) == 0
  x.number == n && decide (x.number ≤ 7) && decide (x.kind ≤ 1) && allZero (slice h 24 8) &&
  inRange 1 65536 (le32 h 12) && decide (le32 h 16 ≤ 65536) &&
  x.clauses.all (ClauseEntry.ok x) && x.enginesUsed == x.clauses.foldl (fun m c => setBit m c.engine) 0 &&
  risingBy (fun (c : ClauseEntry) => (c.tick * 2 ^ 32 + c.start) * 8 + c.engine) x.clauses &&
  x.transfers.all (TransferEntry.ok x) && risingBy (fun (t : TransferEntry) => t.tick * 2 ^ 32 + t.start) x.transfers &&
  (List.range 9).all zero8 && allZero (slice lv 129 15) && x.liveness.all (fun e => decide (e.loops < 4)) &&
  decide (x.gates.length ≤ 256) &&
  x.gates.all (fun g => decide (g.tick < x.s) && decide (g.ports < 8) && decide (g.cycle < x.n)) &&
  risingBy (fun (g : GateEntry) => g.tick * 2 ^ 32 + g.cycle) x.gates &&
  (match parseImages (secOf s 8 n).length (secOf s 8 n) with
   | some l => l.all (fun (d : ImageDecl × Nat) => inRange 1 3 d.1.kind && d.2 == 0)
   | none => false)

/-- Every pair of elements, the earlier one first. -/
def pairs (p : α → α → Bool) : List α → Bool
  | [] => true
  | a :: r => r.all (p a) && pairs p r

/-- Check 4 (R91). -/
def check4 (x : Schedule) : Bool :=
  x.clauses.all (fun c => decide (1200 ≤ c.start) && decide (c.start + c.budget - 1 + 1201 ≤ x.n)) &&
  pairs (fun (a b : ClauseEntry) => a.tick != b.tick || a.engine != b.engine || decide (a.start + a.budget ≤ b.start)) x.clauses

/-- Check 5 (R93). -/
def check5 (x : Schedule) : Bool := x.clauses.all (fun c => decide (c.first + c.count ≤ 8192))

/-- The port that serves a write of a hub window address: the hub link for MB_PUSH and doorbells (R21), else the hub frame. -/
def hubWritePort (a : Nat) : Port :=
  let off := a - windowBase
  let box := (off - 0x150100) % 0x80
  if 0x180000 ≤ off ∨ (0x150100 ≤ off ∧ off < 0x150900 ∧ 0x20 ≤ box ∧ box < 0x40) then .hubLink else .hubFrame

/-- Whether a range lies in the part of a port's region that the transfer may use. -/
def portOk (p : Port) (a len : Nat) (param write : Bool) : Bool :=
  if param then a == p.region.1 && decide (len ≤ p.region.2)
  else p.holds a len && (!(write && (p == .hubLink || p == .hubFrame)) || (hubWritePort a == p && hubWritePort (a + len - 1) == p))

/-- Check 6 (R19, R95, R97, R101). -/
def check6 (x : Schedule) : Bool :=
  x.transfers.all (fun t =>
    match Port.ofCode t.srcPort, Port.ofCode t.dstPort with
    | some sp, some dp =>
      let al := match dp with | .imem _ => 16 | _ => 4
      let spare := fun (p : Port) => p == .scratch 8 || p == .imem 8
      !spare sp && !spare dp && (setupCycles sp dp).isSome && inRange 4 4194304 t.len && t.len % al == 0 && t.src % al == 0 && t.dst % al == 0 &&
        portOk sp t.src t.len t.param false && portOk dp t.dst t.len t.param true
    | _, _ => false)

/-- Check 7 (R96, R97). -/
def check7 (x : Schedule) : Bool :=
  x.transfers.all (fun t =>
    match Port.ofCode t.srcPort, Port.ofCode t.dstPort with
    | some sp, some dp => completionCycle sp dp t.start t.src t.dst t.len t.param == some t.completion && decide (1200 ≤ t.start) &&
        decide (t.completion + 1201 ≤ x.n)
    | _, _ => false)

/-- Check 8. -/
def check8 (x : Schedule) : Bool := pairs (fun (a b : TransferEntry) => a.tick != b.tick || a.start != b.start) x.transfers

/-- Check 9 (R98). -/
def check9 (x : Schedule) : Bool :=
  pairs (fun (a b : TransferEntry) =>
    let shares := a.ctx == b.ctx || a.srcPort == b.srcPort || a.srcPort == b.dstPort || a.dstPort == b.srcPort || a.dstPort == b.dstPort
    a.tick != b.tick || !shares || decide (a.completion < b.start) || decide (b.completion < a.start)) x.transfers

/-- Check 10 (R98): no owned cycle c with c mod 2,500 ≥ 2,250. -/
def check10 (x : Schedule) : Bool :=
  x.transfers.all (fun t => (t.srcPort != 0x30 && t.dstPort != 0x30) ||
    (decide (t.start % 2500 < 2250) && decide (t.completion < t.start / 2500 * 2500 + 2250)))

/-- Check 11 (R99, R20). -/
def check11 (x : Schedule) : Bool :=
  let touches := fun (n a len : Nat) => decide (a < windowBase + (n + 1) * 65536) && decide (windowBase + n * 65536 < a + len)
  x.transfers.all (fun t =>
    decide (sumNat ((x.transfers.filter (fun u => u.tick == t.tick && u.dstPort == 0x41)).map TransferEntry.len) ≤ 256) &&
    (t.param || (!((t.dstPort == 0x40 || t.dstPort == 0x41) && touches 23 t.dst t.len) && !(t.srcPort == 0x40 && touches 24 t.src t.len))))

/-- Check 12. -/
def check12 (x : Schedule) : Bool :=
  x.transfers.all (fun t =>
    match Port.ofCode t.dstPort with
    | some (.imem k) =>
      let lo := if t.param then 0 else (t.dst - imemBase k) / 16
      let n := if t.param then 8192 else t.len / 16
      x.clauses.all (fun c => c.engine != k || c.tick != t.tick || decide (t.completion < c.start) || decide (c.start + c.budget ≤ t.start) ||
        decide (lo + n ≤ c.first) || decide (c.first + c.count ≤ lo))
    | _ => true)

/-- Check 13 (R102). -/
def check13 (x : Schedule) : Bool :=
  x.transfers.all (fun t =>
    match x.clauses[t.consumer]? with
    | some c => t.consumer == 0xFFFF || c.tick != t.tick || decide (c.start < t.start) || decide (t.completion < c.start)
    | none => true)

/-- Whether regions cover 0x1000_0000 to 0x1000_3FFF (R151): every 64-byte block of it lies in one. -/
def coversRuntime (r : List (Nat × Nat)) : Bool :=
  (List.range 256).all (fun i => r.any (fun e => decide (e.1 ≤ storeBase + 64 * i) && decide (storeBase + 64 * i + 64 ≤ e.1 + e.2)))

/-- Check 14 (R106, Table 4.11, R151); `p0` is the task-0 period in ticks. -/
def check14 (p0 : Nat) (x : Schedule) : Bool :=
  let kinds : List Nat := x.images.map ImageDecl.kind
  decide kinds.Nodup && x.images.all (fun d =>
    (x.kind == 0 || d.kind == 1) && d.total == sumNat (d.regions.map Prod.snd) &&
    (match d.kind with
     | 1 => decide (d.total ≤ 16 * 2 ^ 20) && coversRuntime d.regions
     | 2 => decide (d.total ≤ 2 * 2 ^ 20) && decide (20 * d.total ≤ 6 * p0 * x.n)
     | _ => decide (d.total ≤ 512 * 1024)) &&
    d.regions.all (fun r => r.1 % 64 == 0 && r.2 % 64 == 0 && r.2 != 0 && inLaneMemory r.1 r.2) && areasApart d.regions)

/-! ### Configuration records (R109) -/

def splitRecords : Nat → Bytes → Option (List (Nat × Bytes))
  | _, [] => some []
  | 0, _ => none
  | k + 1, b =>
    let n := le16 b 2
    let pad := (4 - n % 4) % 4
    if b.length < 4 + n + pad ∨ !allZero (slice b (4 + n) pad) then none
    else (splitRecords k (b.drop (4 + n + pad))).map (fun l => (le16 b 0, slice b 4 n) :: l)

def recordTypes : List Nat :=
  [0x0140, 0x0240, 0x0241, 0x0242, 0x0340, 0x0341, 0x0342, 0x0440, 0x0441, 0x0540, 0x0541, 0x0542, 0x0543, 0x0544, 0x0545, 0x0546, 0x0547] ++
  [0x0640, 0x0641, 0x0740, 0x0840, 0x0940, 0x0A40, 0x0A41, 0x0B40, 0x0C40, 0x0C41, 0x0D40, 0x0D41, 0x0D42, 0x0E40, 0x0E41, 0x0E42, 0x0E43] ++
  [0x0F40, 0x0F41, 0x1040, 0x1041, 0x1140]

/-- Known types in ascending order, one of each, but for the two PTP_DOMAIN records (R56). -/
def recordsOk (rs : List (Nat × Bytes)) : Bool :=
  rs.all (fun r => recordTypes.contains r.1 && decide ((rs.filter (fun x => x.1 == r.1)).length ≤ (if r.1 = 0x0541 then 2 else 1))) &&
    risingBy (fun (r : Nat × Bytes) => r.1) rs

/-- Record SYSTEM (R495). -/
def parseSystem (b : Bytes) : Option SystemCfg :=
  let lanes := (List.range 4).map (fun i => u8 b i)
  if b.length = 16 ∧ lanes.all (fun a => a == 1 || a == 3) ∧ 2 ≤ (lanes.filter (fun a => a == 1)).length ∧ 0x0600 ≤ le16 b 4 ∧
      le16 b 6 = 0 then
    some { bootLanes := lanes, wakeEthertype := le16 b 4, wakePattern := slice b 8 8 }
  else none

def parseAgreeDi (b : Bytes) : Option AgreeDi :=
  let persist := (List.range 24).map (fun k => u8 b (4 + k))
  if b.length = 28 ∧ le32 b 0 < 2 ^ 24 ∧ persist.all (fun v => v != 0) then some { safeValue := le32 b 0, persist := persist } else none

def parseAgreeSd (b : Bytes) : Option (List AgreeSd) :=
  let one := fun (c : Bytes) =>
    if le32 c 0 < 2 ^ 31 ∧ 1 ≤ u8 c 4 ∧ u8 c 5 ≤ 1 ∧ le16 c 6 = 0 then
      some ({ tolerance := le32 c 0, spreadTicks := u8 c 4, higher := u8 c 5 == 1 } : AgreeSd)
    else none
  if b.length = 128 then (List.range 16).mapM (fun k => one (slice b (8 * k) 8)) else none

def parseVotePolicy (s : Nat) (b : Bytes) : Option VotePolicy :=
  if b.length = 8 ∧ le16 b 0 < s ∧ 1 ≤ u8 b 2 ∧ allZero (slice b 3 5) then some { selftestTick := some (le16 b 0), linkFaultTicks := u8 b 2 } else none

def parseCommandKey (b : Bytes) : Option CommandKey :=
  if u8 b 0 < 32 ∧ 1 ≤ u8 b 1 ∧ u8 b 1 ≤ 4 ∧ le16 b 2 = 0 then some { slot := u8 b 0, level := u8 b 1, key := slice b 4 32 } else none

/-- The filter of Table 20.4, from little-endian bytes (record) or, with `v16` and its fellows, any other order. -/
def traceFilter (v16 v32 v64 : Bytes → Nat → Nat) (b : Bytes) : Option TraceFilter :=
  let f : TraceFilter :=
    { typeMask := v16 b 0, laneMask := u8 b 2, engineMask := u8 b 3, clauseMode := u8 b 4, portMask := u8 b 5, canMask := u8 b 6,
      ringMode := u8 b 7, queueMask := v64 b 8, ybFirst := v16 b 16, ybLast := v16 b 18, streamIp := v32 b 20, streamPort := v16 b 24 }
  if b.length = 32 ∧ f.laneMask < 16 ∧ f.clauseMode ≤ 1 ∧ f.portMask < 16 ∧ f.canMask < 16 ∧ f.ringMode ≤ 1 ∧ 1 ≤ f.ybFirst ∧
      f.ybFirst ≤ f.ybLast ∧ f.ybLast ≤ 1023 ∧ 1 ≤ f.streamPort ∧ allZero (slice b 26 6) then some f else none

/-- An event of Table 20.2. -/
def counterEventOk (e : Nat) : Bool := e == 0 || inRange 0xF001 0xF00C e || (FaultName.ofCode e).isSome

def parseCounters (b : Bytes) : Option (List (Nat × Nat)) :=
  let l := (List.range 48).map (fun n => (le16 b (4 * n), le16 b (4 * n + 2)))
  if b.length = 192 ∧ l.all (fun e => counterEventOk e.1) then some l else none

/-- The live bit of a detector (Table 20.6). -/
def liveBit (code : Nat) : Nat := 16 * (code / 256 - 1) + (code % 256 - 16)

def parseInjection (b : Bytes) : Option Nat :=
  let v := leVal b
  let all := FaultName.all.foldl (fun m f => if f.isDetector then setBit m (liveBit f.code) else m) 0
  if b.length = 36 ∧ clearBits v all = 0 then some v else none

/-- One record's value: the default where the image has none. -/
def record {α : Type} (rs : List (Nat × Bytes)) (type : Nat) (dflt : α) (f : Bytes → Option α) : Option α :=
  match rs.find? (fun r => r.1 == type) with
  | none => some dflt
  | some r => f r.2

/-- The PTP_DOMAIN records (R56). -/
def parsePtps (rs : List (Nat × Bytes)) : Option (Vector (Option PtpCfg) 2) :=
  match (rs.filter (fun r => r.1 == 0x0541)).mapM (fun r => parsePtp r.2) with
  | none => none
  | some [] => some (Vector.replicate 2 none)
  | some [a] => some (vmodN (Vector.replicate 2 none) a.1 (fun _ => some a.2))
  | some (a :: b :: _) =>
    if a.1 ≠ b.1 ∧ a.2.domain ≠ b.2.domain then
      some (vmodN (vmodN (Vector.replicate 2 none) a.1 (fun _ => some a.2)) b.1 (fun _ => some b.2))
    else none

/-- The records of chapters 5 to 10, 2 and 19. -/
def readCfg1 (rs : List (Nat × Bytes)) (n s : Nat) (retained : List (Nat × Nat)) (c : Cfg) : Option Cfg := do
  let system ← record rs 0x0140 {} parseSystem
  let agreeDi ← record rs 0x0240 {} parseAgreeDi
  let agreeSd ← record rs 0x0241 c.agreeSd parseAgreeSd
  let vote ← record rs 0x0242 {} (parseVotePolicy s)
  let tasks ← record rs 0x0340 c.tasks (parseTasks s)
  let regions ← record rs 0x0341 [] (parseRegions tasks retained)
  let counters ← record rs 0x0342 c.diCounters parseDiCounters
  let sd ← record rs 0x0440 c.sd parseSdChannel
  let cal ← record rs 0x0441 c.sdCal parseSdCalibration
  let tb ← record rs 0x0540 {} parseTimeBase
  let ptp ← parsePtps rs
  let fin ← record rs 0x0640 {} (parseFieldInput counters)
  let fout ← record rs 0x0641 {} parseFieldOutput
  let pairs ← record rs 0x0F40 c.pairs (parsePwmPair n)
  let trip ← record rs 0x0F41 {} parseTrip
  let safety ← record rs 0x1040 c.safety parseSafety
  let off ← record rs 0x1041 300 parseSafetyGlobal
  some { c with
    system := system, agreeDi := agreeDi, agreeSd := agreeSd, votePolicy := vote, tasks := tasks, regions := regions, diCounters := counters,
    sd := sd, sdCal := cal, timeBase := tb, ptp := ptp, fieldIn := fin, fieldOut := fout, pairs := pairs, trip := trip, safety := safety,
    offpulseUs := off }

/-- The records of chapters 11, 12, 13 and 14. -/
def readCfg2 (rs : List (Nat × Bytes)) (c : Cfg) : Option Cfg := do
  let network ← record rs 0x0542 none (fun b => (parseNetwork b).map some)
  let queues ← record rs 0x0543 c.net.queues parseQueues
  let rules ← record rs 0x0544 [] (parseEntries 24 256 parseRule)
  let pubs ← record rs 0x0545 [] (parseEntries 24 1024 parsePub)
  let subs ← record rs 0x0546 [] (parseEntries 24 1024 parseSub)
  let dests ← record rs 0x0547 [] (parseEntries 12 256 parseDest)
  let ctl ← record rs 0x0C40 c.can.ctl parseCans
  let filters ← record rs 0x0C41 [] (parseEntries 16 256 parseCanFilter)
  let cluster ← record rs 0x0D40 {} parseYbCluster
  let slots ← record rs 0x0D41 [] (parseEntries 8 512 parseYbSlot)
  let dynamic ← record rs 0x0D42 [] (parseEntries 4 511 parseYbDynamic)
  let link ← record rs 0x0E40 {} parseRackLink
  let stations ← record rs 0x0E41 [] (parseEntries 16 30 parseStation)
  let windows ← record rs 0x0E42 [] (parseEntries 12 128 parseRackWindow)
  let subst ← record rs 0x0E43 [] (parseEntries 252 30 parseSubstitute)
  some { c with
    net := { c.net with network := network, queues := queues, rules := rules, pubs := pubs, subs := subs, dests := dests }
    can := { c.can with ctl := ctl, filters := filters }
    yb := { c.yb with cluster := cluster, slots := slots, dynamic := dynamic }
    rack := { c.rack with link := link, stations := stations, windows := windows, substitutes := subst } }

/-- The records of chapters 15, 16, 17, 18 and 20. -/
def readCfg3 (rs : List (Nat × Bytes)) (c : Cfg) : Option Cfg := do
  let partner ← record rs 0x0740 {} parsePartner
  let wear ← record rs 0x0840 {} parseMemWear
  let keys ← record rs 0x0940 [] (parseEntries 36 32 parseCommandKey)
  let trace ← record rs 0x0A40 {} (traceFilter le16 le32 le64)
  let events ← record rs 0x0A41 c.counters parseCounters
  let live ← record rs 0x0B40 0 parseInjection
  let hosts := (c.rack.stations.filter StationCfg.host).map StationCfg.station
  let boxes ← record rs 0x1140 (c.boxes, 2) (parseMailbox hosts partner.enabled (rs.any (fun r => r.1 == 0x0740)))
  some { c with
    partner := partner, memWear := wear, keys := keys, trace := trace, counters := events, live := live, boxes := boxes.1,
    appAuthority := boxes.2 }

/-- The refusals that concern several records or the schedules. -/
def cfgOk (rs : List (Nat × Bytes)) (l : List Schedule) (n s : Nat) (c : Cfg) : Bool :=
  let enabled := fun (t : Nat) => t == 0xFF || c.period t != 0
  let slots : List Nat := c.keys.map CommandKey.slot
  let declared := l.any (fun x => x.kind == 0 && x.images.any (fun d => d.kind == 2))
  l.all (fun x => x.clauses.all (fun e => enabled e.task) && x.transfers.all (fun e => enabled e.task)) &&
    (c.enabledTasks.isEmpty || (rs.any (fun r => r.1 == 0x0340) && rs.any (fun r => r.1 == 0x0341))) &&
    countersOk c.diCounters c.fieldIn && tripPairsOk c.pairs c.trip && c.safetyOk n && c.netOk && c.canOk && c.ybOk n && c.rackOk n s &&
    c.partnerOk declared && decide slots.Nodup

/-- Check 15. -/
def check15 (b : Bytes) (l : List Schedule) : Option Cfg :=
  let n := match l with | x :: _ => x.n | [] => 25000
  let s := match l with | x :: _ => x.s | [] => 1
  let retained := (l.filter (fun x => x.kind == 0)).flatMap (fun x => (x.images.filter (fun d => d.kind == 3)).flatMap ImageDecl.regions)
  match splitRecords b.length b with
  | none => none
  | some rs =>
    if recordsOk rs then
      match ((readCfg1 rs n s retained {}).bind (readCfg2 rs)).bind (readCfg3 rs) with
      | some c => if cfgOk rs l n s c then some c else none
      | none => none
    else none

/-! ### The image -/

structure App where
  schedules : List Schedule
  cfg : Cfg
deriving DecidableEq, Repr

/-- The task-0 period as check 14 needs it: that of the TASK record. -/
def taskPeriod0 (b : Bytes) (s : Nat) : Nat :=
  match (splitRecords b.length b).bind (fun rs => record rs 0x0340 [] (parseTasks s)) with
  | some ts => (ts.getD 0 {}).period
  | none => 0

/-- R103: the first failing check's code, or the image. -/
def loadApp (b : Bytes) : Except Nat App :=
  match sections b with
  | none => .error 1
  | some s =>
    let ns := schedNumbers s
    let l := ns.map (parseSchedule s)
    let recs := secOf s 9 0xFF
    let p0 := taskPeriod0 recs (match l with | x :: _ => x.s | [] => 1)
    if !(countsOk s && lengthsOk s) then .error 1
    else if !check2 l then .error 2
    else if !(dirOk b s && ns.all (fun n => check3 s n (parseSchedule s n))) then .error 3
    else match [(4, check4), (5, check5), (6, check6), (7, check7), (8, check8), (9, check9), (10, check10), (11, check11), (12, check12),
        (13, check13), (14, check14 p0)].find? (fun (c : Nat × (Schedule → Bool)) => !l.all c.2) with
      | some c => .error c.1
      | none =>
        match check15 recs l with
        | some c => .ok { schedules := l, cfg := c }
        | none => .error 15

end Sys2Proof.Machine
end

