-- ==== Sys2Proof/Machine/Hss.lean ====
section
/-! DEFINITION. Verification of HSS signatures to RFC 8554 and NIST SP 800-208 with the parameter sets of R457. The algorithms are those of
the published standards. -/
namespace Sys2Proof.Machine

/-- An LMOTS type (R457): n, w, p and ls. -/
structure OtsType where
  n : Nat
  w : Nat
  p : Nat
  ls : Nat
deriving DecidableEq, Repr

def otsType (code : Nat) : Option OtsType :=
  match code with
  | 1 => some ⟨32, 1, 265, 7⟩
  | 2 => some ⟨32, 2, 133, 6⟩
  | 3 => some ⟨32, 4, 67, 4⟩
  | 4 => some ⟨32, 8, 34, 0⟩
  | 5 => some ⟨24, 1, 200, 8⟩
  | 6 => some ⟨24, 2, 101, 6⟩
  | 7 => some ⟨24, 4, 51, 4⟩
  | 8 => some ⟨24, 8, 26, 0⟩
  | _ => none

/-- An LMS type (R457): m (equal to n) and the tree height h. -/
def lmsType (code : Nat) : Option (Nat × Nat) :=
  if 5 ≤ code ∧ code ≤ 9 then some (32, 5 * (code - 4))
  else if 10 ≤ code ∧ code ≤ 14 then some (24, 5 * (code - 9))
  else none

/-- An LMS public key: its types, I and root. -/
structure LmsKey where
  h : Nat
  ots : OtsType
  id : Bytes
  root : Bytes
deriving DecidableEq, Repr

/-- An LMS public key and the rest of the bytes. -/
def parseLmsKey (b : Bytes) : Option (LmsKey × Bytes) :=
  match lmsType (be32 b 0), otsType (be32 b 4) with
  | some (m, h), some o =>
    if m = o.n ∧ 24 + m ≤ b.length then
      some ({ h := h, ots := o, id := slice b 8 16, root := slice b 24 m }, b.drop (24 + m))
    else none
  | _, _ => none

def hashN (n : Nat) (b : Bytes) : Bytes := (sha256 b).take n

/-- coef(S, i, w) of RFC 8554. -/
def coef (s : Bytes) (i w : Nat) : Nat := u8 s (i * w / 8) / 2 ^ (8 - (w * (i % (8 / w)) + w)) % 2 ^ w

def otsChecksum (o : OtsType) (q : Bytes) : Nat :=
  sumNat ((List.range (8 * o.n / o.w)).map (fun i => 2 ^ o.w - 1 - coef q i o.w)) * 2 ^ o.ls % 65536

/-- Steps `j` to 2^w − 2 of one chain; `fuel` counts them. -/
def otsChain (o : OtsType) (pre : Bytes) : Nat → Nat → Bytes → Bytes
  | 0, _, t => t
  | k + 1, j, t => otsChain o pre k (j + 1) (hashN o.n (pre ++ beBytes 1 j ++ t))

/-- The candidate LMOTS public key of a signature (C, then y). -/
def otsCandidate (o : OtsType) (id : Bytes) (q : Nat) (c y msg : Bytes) : Bytes :=
  let d := hashN o.n (id ++ beBytes 4 q ++ [0x81#8, 0x81#8] ++ c ++ msg)
  let s := d ++ beBytes 2 (otsChecksum o d)
  let z := (List.range o.p).flatMap (fun i =>
    let a := coef s i o.w
    otsChain o (id ++ beBytes 4 q ++ beBytes 2 i) (2 ^ o.w - 1 - a) a (slice y (o.n * i) o.n))
  hashN o.n (id ++ beBytes 4 q ++ [0x80#8, 0x80#8] ++ z)

/-- The root that a leaf and its path give. -/
def lmsClimb (m : Nat) (id : Bytes) : Nat → Nat → Bytes → Bytes → Bytes
  | 0, _, t, _ => t
  | k + 1, node, t, path =>
    let sib := path.take m
    let pair := if node % 2 = 1 then sib ++ t else t ++ sib
    lmsClimb m id k (node / 2) (hashN m (id ++ beBytes 4 (node / 2) ++ [0x83#8, 0x83#8] ++ pair)) (path.drop m)

/-- Bytes of an LMS signature under a key. -/
def LmsKey.sigLength (k : LmsKey) : Nat := 12 + k.ots.n * (1 + k.ots.p) + k.ots.n * k.h

/-- Verify the LMS signature at the start of `b`; both type codes must be the key's. -/
def LmsKey.verify (k : LmsKey) (lmsCode otsCode : Nat) (msg b : Bytes) : Bool :=
  let n := k.ots.n
  let q := be32 b 0
  let at_ := 8 + n * (1 + k.ots.p)
  let kc := otsCandidate k.ots k.id q (slice b 8 n) (slice b (8 + n) (n * k.ots.p)) msg
  let leaf := hashN n (k.id ++ beBytes 4 (2 ^ k.h + q) ++ [0x82#8, 0x82#8] ++ kc)
  decide (k.sigLength ≤ b.length) && be32 b 4 == otsCode && be32 b at_ == lmsCode && decide (q < 2 ^ k.h) &&
    lmsClimb n k.id k.h (2 ^ k.h + q) leaf (slice b (at_ + 4) (n * k.h)) == k.root

/-- The levels below the first: each signs the next level's public key; one n throughout (R457). -/
def hssLevels : Nat → Bytes → Bytes → Bytes → Bool
  | 0, key, sig, msg =>
    match parseLmsKey key with
    | some (k, _) => k.sigLength == sig.length && k.verify (be32 key 0) (be32 key 4) msg sig
    | none => false
  | l + 1, key, sig, msg =>
    match parseLmsKey key with
    | some (k, _) =>
      let next := sig.drop k.sigLength
      match parseLmsKey next with
      | some (k2, rest) =>
        k2.ots.n == k.ots.n && k.verify (be32 key 0) (be32 key 4) (next.take (24 + k2.ots.n)) sig && hssLevels l next rest msg
      | none => false
    | none => false

/-- R457: an HSS public key (RFC 8554 encoding), a message and a signature. -/
def hssVerify (key msg sig : Bytes) : Bool :=
  let l := be32 key 0
  match parseLmsKey (key.drop 4) with
  | some (_, rest) =>
    decide (1 ≤ l ∧ l ≤ 3) && rest.isEmpty && be32 sig 0 == l - 1 && hssLevels (l - 1) (key.drop 4) (sig.drop 4) msg
  | none => false

end Sys2Proof.Machine
end

