-- ==== Sys2Proof/Machine/Boot.lean ====
section
/-! DEFINITION. Module reset, images and their checks, configuration slots, command keys in force, and the boot sequence (chapter 18:
R455 to R464, R467 to R471, R476 to R478; chapter 19: R483, R487, R490, R493; chapter 15: R381; chapter 10: R264). -/
namespace Sys2Proof.Machine

/-! ### Images (R459 to R461) -/

def imageMagic : Bytes := [0x59#8, 0x49#8, 0x4D#8, 0x47#8]

/-- The largest payload of a type (Table 18.2). -/
def maxPayload (t : Nat) : Nat :=
  match t with
  | 1 => 2 ^ 25
  | 2 => 2 ^ 24
  | 3 => 2 ^ 22
  | _ => 2 ^ 29

def imagePayload (b : Bytes) : Bytes := slice b 128 (be32 b 24)

/-- The measurement (R460). -/
def measurement (b : Bytes) : Bytes := sha256 (b.take 128)

/-- Cause 2: the header (Table 18.3), its binding (R460), and a stored length that is the one the header gives. -/
def Hub.headerOk (h : Hub) (t : Nat) (b : Bytes) : Bool :=
  b.take 4 == imageMagic && u8 b 4 == 1 && u8 b 5 == t && allZero (slice b 82 46) && decide (be32 b 24 ≤ maxPayload t) &&
    inRange 8 65536 (be32 b 28) && be32 b 8 == Config.hwType && (be64 b 16 == 0 || be64 b 16 == h.otp.serial) &&
    (if t = 1 then be16 b 6 != 0 && decide (be32 b 66 ≤ be32 b 70) && decide (be32 b 74 ≤ be32 b 78)
     else be16 b 6 == 0 && allZero (slice b 64 18)) &&
    b.length == 128 + be32 b 24 + be32 b 28

/-- Cause 3. -/
def hashOk (b : Bytes) : Bool := sha256 (imagePayload b) == slice b 32 32

/-- The signature block: the public key and what follows it. -/
def signatureKey (b : Bytes) : Option (Bytes × Bytes) :=
  let blk := b.drop (128 + be32 b 24)
  let k := be32 blk 0
  if 4 + k ≤ blk.length then some (slice blk 4 k, blk.drop (4 + k)) else none

/-- Cause 4 (R456). -/
def Hub.rootOk (h : Hub) (t : Nat) (b : Bytes) : Bool :=
  match signatureKey b with
  | some k => if t = 4 then h.otp.rootProgrammed && sha256 k.1 == h.otp.operatorRoot else sha256 k.1 == h.otp.vendorRoot
  | none => false

/-- Cause 5: the signature fills the rest of the block and verifies over header bytes 0 to 127. -/
def signatureOk (b : Bytes) : Bool :=
  match signatureKey b with
  | some k => k.2.length == 4 + be32 k.2 0 && decide (4 ≤ k.2.length) && hssVerify k.1 (b.take 128) (k.2.drop 4)
  | none => false

/-- Cause 6: the check code of R103, 0 when it passes. -/
def appCode (b : Bytes) : Nat := match loadApp (imagePayload b) with | .error c => c | .ok _ => 0

/-- Cause 7: `fw` is the running PARSER_FW. -/
def versionOk (t : Nat) (fw b : Bytes) : Bool :=
  match t with
  | 1 => decide (be16 b 64 ≤ be16 b 6)
  | 2 => inRange (be32 fw 66) (be32 fw 70) (be32 b 12)
  | 3 => inRange (be32 fw 74) (be32 fw 78) (be32 b 12)
  | _ => true

/-- Causes 1 to 7 of one copy in order (Table 18.4): the first that fails with its check code; `sigFails` makes cause 5 fail. -/
def Hub.imageCause (h : Hub) (t : Nat) (fw : Bytes) (sigFails : Bool) (img : Option Bytes) : Nat × Nat :=
  match img with
  | none => (1, 0)
  | some b =>
    if !h.headerOk t b then (2, 0)
    else if !hashOk b then (3, 0)
    else if !h.rootOk t b then (4, 0)
    else if sigFails || !signatureOk b then (5, 0)
    else
      let code := if t = 4 then appCode b else 0
      if code ≠ 0 then (6, code)
      else if versionOk t fw b then (0, 0) else (7, 0)

/-- The copy that NAND device `d` holds of a type's slot; a retired device is not read (R405). -/
def Hub.imageCopy (h : Hub) (d t : Nat) : Option Bytes :=
  if bit h.mem.nandRetired d then none else vgetN (vgetN h.boot.images.dev d (Vector.replicate 4 none)) (t - 1) none

/-- What boot finds in a slot: cause and check code, the device named (0, 1, 2 both), and the copy that passed. -/
structure ImageFound where
  cause : Nat := 0
  code : Nat := 0
  device : Nat := 0
  image : Option Bytes := none
deriving DecidableEq, Repr

/-- The two copies of a slot (R463): device 1 serves when device 0 fails cause 1, 3 or 5. -/
def Hub.findImage (h : Hub) (t : Nat) (fw : Bytes) (sigFails : Bool) : ImageFound :=
  let a := h.imageCopy 0 t
  let b := h.imageCopy 1 t
  let ca := h.imageCause t fw sigFails a
  if ca.1 = 0 then { image := a }
  else if [1, 3, 5].contains ca.1 then
    let cb := h.imageCause t fw sigFails b
    if cb.1 = 0 then { device := 1, image := b } else { cause := ca.1, code := ca.2, device := 2 }
  else { cause := ca.1, code := ca.2 }

/-- Put an image, or nothing, into a type's slot on one device. -/
def Hub.putImage (d t : Nat) (img : Option Bytes) (h : Hub) : Hub :=
  { h with boot.images.dev := vmodN h.boot.images.dev d (fun v => vmodN v (t - 1) (fun _ => img)) }

def Hub.verifyRecord (t : Nat) (f : ImageFound) (o : Origin) (h : Hub) : Hub :=
  let version := match h.imageCopy (if f.device = 1 then 1 else 0) t with | some b => be32 b 12 | none => 0
  h.event .imageVerifyFailed [t] 0 [(1, t), (1, f.cause), (1, f.code), (1, f.device), (4, version)] o

/-- One image through its causes at boot. An injection makes its signature check report failure (R481). A copy rewritten from device 1
raises no fault. -/
def Hub.bootImage (t : Nat) (fw : Bytes) (h : Hub) : Hub × ImageFound :=
  let arm := h.takeArm .imageVerifyFailed (fun a => a.resource == t)
  let h := arm.2
  let clean := h.findImage t fw false
  let failed := h.findImage t fw true
  if clean.cause ≠ 0 then (h.verifyRecord t clean .real, clean)
  else
    match arm.1 with
    | some .injected => (h.verifyRecord t failed .injected, failed)
    | some _ => (h.verifyRecord t failed .reportOnly, clean)
    | none => (if clean.device = 1 then h.putImage 0 t clean.image else h, clean)

/-! ### Command keys (R471) -/

/-- Level and key in force of a slot; level 0 is none. In LOAD no APP image is loaded, so steps 1 and 3 remain. -/
def Hub.keyInForce (h : Hub) (n : Nat) : Nat × Bytes :=
  let e := vgetN h.boot.keys n {}
  if e.byCommand && e.crcOk then (e.level, e.key)
  else match h.cfg.keys.find? (fun k => k.slot == n) with
    | some k => (k.level, k.key)
    | none => if n = 31 ∧ h.otp.factoryRetired = false then (4, h.otp.factoryKey) else (0, [])

/-- Every slot takes its key in force; a slot whose CRC fails opens no session again. -/
def Hub.setKeys (h : Hub) : Hub :=
  let slot := fun (n : Nat) (k : KeySlot) =>
    let f := h.keyInForce n
    { k with level := f.1, key := f.2, highestSession := if (vgetN h.boot.keys n {}).crcOk then k.highestSession else 2 ^ 32 - 1 }
  { h with cmd.keys := vmapIdx slot h.cmd.keys }

/-! ### Module reset -/

/-- What MRAM keeps of memory supervision. -/
def Memory.kept (m : Memory) : Memory :=
  { ({} : Memory) with
    sparePages := m.sparePages, spareRows := m.spareRows, nandBlocks := m.nandBlocks, nandRetired := m.nandRetired
    nandSeq := m.nandSeq, wear := m.wear, order := m.order, remapped := m.remapped.filter (fun r => r.1.1 == 1 || r.1.1 == 2) }

/-- The hub after a module reset, at its release: what OTP, MRAM, NAND and the backup domain keep, the supply and temperature as they
are, and an injection into the next boot's image checks (R481); everything else is at reset. -/
def Hub.afterReset (h : Hub) : Hub :=
  { ({} : Hub) with
    time := { now := h.time.now }
    backup := h.backup
    faults := { log := h.faults.log, seq := h.faults.seq }
    inject := { armed := h.inject.armed.filter (fun a => a.detector == .imageVerifyFailed) }
    power := { held := false, booting := true, resetAt := h.time.now, vinMv := h.power.vinMv, holdup := h.power.holdup
               goodSince := h.power.goodSince, hubTemp := h.power.hubTemp, hubTempMax := h.power.hubTemp }
    rt := { copyA := h.rt.copyA, copyB := h.rt.copyB }
    slots := { gens := h.slots.gens, confirmed := h.slots.confirmed }
    cmd := { keys := vmap (fun (k : KeySlot) => { highestSession := k.highestSession }) h.cmd.keys }
    otp := h.otp
    boot := {
      images := { dev := h.boot.images.dev }
      sign := { copyA := h.boot.sign.copyA, copyB := h.boot.sign.copyB, certKey := h.boot.sign.certKey, certSig := h.boot.sign.certSig }
      keys := h.boot.keys, count := h.boot.count, lastEnd := h.boot.lastEnd, failedType := h.boot.failedType, cause := h.boot.cause }
    mem := h.mem.kept
    partner := { epoch := h.partner.epoch, down := h.partner.down }
    outbox := h.outbox
    free := h.free }

/-- A module reset: the image transfer under way is abandoned and its slot stays empty (R466), every lane loses its state, and the boot
sequence follows. -/
def State.moduleReset (s : State) : State :=
  let h := s.hub.afterReset
  { s with hub := h, snap := h, lanes := Vector.replicate 4 {} }

/-- The module is held in reset until the power-on row of Table 19.1. -/
def State.holdInReset (s : State) : State :=
  s.moduleReset.modHub (fun h => { h with power := { h.power with held := true, booting := false } })

/-! ### Phases 1 to 3 -/

/-- The leaf counter (R476): the higher of the valid copies. -/
def Signing.counter (s : Signing) : Nat :=
  match s.copyA, s.copyB with
  | some a, some b => max a b
  | some a, none => a
  | none, some b => b
  | none, none => 1048576

def Signing.left (s : Signing) : Nat := 1048576 - s.next

/-- SIGNATURE_RESERVE_LOW (R478): once per boot, at boot or after a signature. -/
def Hub.reserveCheck (h : Hub) : Hub :=
  let det := [(4, h.boot.sign.left), (4, h.boot.sign.next)]
  let arm := h.takeArm .signatureReserveLow (fun _ => true)
  let h := match arm.1 with
    | some o => arm.2.raise .signatureReserveLow [] 0 det o
    | none => h
  if h.boot.sign.left ≤ 20971 ∧ h.boot.sign.low = false then
    ({ h with boot.sign.low := true } : Hub).raise .signatureReserveLow [] 0 det .real
  else h

/-- TAMPER (R493). -/
def Hub.tamperRaise (o : Origin) (h : Hub) : Hub :=
  h.event .tamper [] 0 [(4, h.backup.tamperTime % 2 ^ 32), (4, h.backup.tamperCount)] o

/-- Hub start: the boot is counted, active records are closed (R539), TB3 is seeded from the RTC (R52), an acquisition epoch starts
(R44), the leaf counter is read (R476), and openings while the hub was off are raised (R493). -/
def Hub.hubStart (h : Hub) : Hub :=
  let b := h.backup
  let seed := if b.rtcValid then b.rtcSeconds * 1000000000 + b.rtcFraction * 1000000000 / 32768 else 0
  let h : Hub := { h with
    boot := { h.boot with count := wrapAdd 32 h.boot.count 1, sign := { h.boot.sign with next := h.boot.sign.counter } }
    faults.log := h.faults.log.map (fun r => { r with active := false })
    time := { h.time with tb3 := seed, tb3Frac := 0, tb3Ref := .seeded, rtcHeld := b.rtcValid }
    backup := { b with vbatOk := !b.vbatLost, vbatLost := false, tamperUnraised := false } }
  let h := h.newEpoch
  let h := if b.tamperUnraised then h.tamperRaise .real else h
  h.reserveCheck

/-! ### LOAD -/

/-- The resident loader takes over the hub (R463): lanes, stage and PHYs stay in reset. -/
def Hub.enterLoad (failed cause : Nat) (h : Hub) : Hub :=
  (({ h with
    boot := { h.boot with lastEnd := 1, failedType := failed, cause := cause, images := { h.boot.images with failed := failed } }
    power.booting := false } : Hub).setKeys).setMode .load 0x0910

/-- A reset into LOAD: the loader only (Table 19.1). -/
def State.resetToLoad (s : State) : State :=
  let s := s.moduleReset.modHub (fun h => h.hubStart.enterLoad 0 0)
  { s with snap := s.hub }

/-! ### Configuration slots (R467, R469) -/

/-- A slot's content: its valid generation with the higher sequence. -/
def ConfigSlots.content (c : ConfigSlots) (slot : Nat) : Option ConfigGen :=
  match vgetN c.gens (2 * slot) none, vgetN c.gens (2 * slot + 1) none with
  | some x, some y => if x.sequence < y.sequence then some y else some x
  | some x, none => some x
  | none, y => y

/-- The slot with the higher sequence among those whose content satisfies a test. -/
def ConfigSlots.newest (c : ConfigSlots) (p : ConfigGen → Bool) : Option (Nat × ConfigGen) :=
  match (c.content 0).filter p, (c.content 1).filter p with
  | some x, some y => if x.sequence < y.sequence then some (1, y) else some (0, x)
  | some x, none => some (0, x)
  | none, some y => some (1, y)
  | none, none => none

/-- At the first boot with no slot confirmed, the active slot becomes confirmed (R469). -/
def ConfigSlots.confirmFirst (c : ConfigSlots) : ConfigSlots := if c.confirmed.isNone then { c with confirmed := c.active } else c

/-- The active slot is chosen, by conversion where no slot has the running format. A conversion keeps every change entry and every
calibration set. Without a confirmed slot it writes the slot it did not read (assumption log 72). -/
def Hub.chooseSlot (h : Hub) : Hub :=
  let c := h.slots
  match c.newest (fun g => g.format == c.format) with
  | some (k, _) => { h with slots := { c with active := some k }.confirmFirst }
  | none =>
    match c.newest (fun g => inRange c.convertsFrom c.format g.format) with
    | none => { h with slots := { c with active := none } }
    | some (k, g) =>
      let to_ := match c.confirmed with | some x => 1 - x | none => 1 - k
      let new := { g with format := c.format, sequence := c.maxSeq + 1 }
      ({ h with slots := (c.put to_ new).confirmFirst } : Hub).event .configConverted [to_] 0
        [(1, to_), (1, 0), (2, g.format), (2, c.format), (2, g.changes.length)] .real

/-! ### Phase 4 -/

/-- What the APP image's records and schedules set at the start, before the configuration slot is chosen. -/
def Hub.loadApplication (fw img : Bytes) (a : App) (h : Hub) : Hub :=
  let numbers := fun (kind : Nat) => ((a.schedules.filter (fun x => x.kind == kind)).map Schedule.number).min?
  let c := a.cfg
  let h : Hub := { h with
    cfg := c
    sched := { schedules := a.schedules, selMain := numbers 0, selAlt := numbers 1, measurement := measurement img }
    slots := { h.slots with format := be16 fw 6, convertsFrom := be16 fw 64 }
    trace := { h.trace with filter := c.trace }
    counters := vmapIdx (fun i _ => let e := c.counters.getD i (0, 0); { event := e.1, qualifier := e.2 }) h.counters
    mb := { h.mb with box := vmapIdx (fun i _ => c.boxes.getD i {}) h.mb.box, appAuthority := c.appAuthority }
    time := { h.time with select := c.timeBase.select, steerEn := c.timeBase.steer }
    meas := { h.meas with
      preset := vmapIdx (fun k _ => (c.sdOf k).preset) h.meas.preset, skew := vmapIdx (fun k _ => (c.sdOf k).skew) h.meas.skew
      activePreset := vmapIdx (fun k _ => (c.sdOf k).preset) h.meas.activePreset
      activeSkew := vmapIdx (fun k _ => (c.sdOf k).skew) h.meas.activeSkew } }
  h.setKeys.netBoot.canBoot.ybBoot.rackBoot.partnerBoot

/-! ### Phases 5 and 6 -/

/-- A lane at boot by its boot_lanes code (1 on, 3 cold spare): one that is on is loaded from the copies of R464. -/
def Lane.bootLane (h : Hub) (code : Nat) : Lane :=
  let start := fun (k : Nat) (x : SdIn) =>
    { x with preset := vgetN h.meas.activePreset k 0, skew := vgetN h.meas.activeSkew k true, eventAt := some h.time.now }
  let fresh : Lane := { sd := vmapIdx start (Vector.replicate 16 {}) }
  if code ≠ 1 then {} else
  match h.sched.selMain.bind h.schedule with
  | some sc => { fresh.load sc with schedule := some sc.number }
  | none => fresh

/-- CAN controllers at a wake start integration again and keep their counters (R308). -/
def Hub.canWake (h : Hub) : Hub :=
  ({ h with can.ctl := vmapIdx (fun c (x : CanCtl) =>
    { x with on := (h.canCfg c).enabled, integrating := (h.canCfg c).enabled, joined := false, recovering := false }) h.can.ctl } : Hub).canListen

/-- Phase 6: entry to SERVICE. Every lane of the boot power set that is on is ACTIVE (R484); the tick starts with the start marker. -/
def State.enterService (wake : Bool) (s : State) : State :=
  let code := fun (l : Nat) => s.hub.cfg.system.bootLanes.getD l 1
  let h : Hub := { s.hub with
    vote := { s.hub.vote with
      laneState := vmapIdx (fun l _ => if code l = 1 then LaneState.active else .spareCold) s.hub.vote.laneState
      nextLane := Vector.replicate 4 none, nextMode := none, copy := none, selfTests := [], split := .none, groupB := 0, toJoin := 0
      toPower := 0, joined := 0, engineCopy := [], forcedLive := 0, forcedMissing := 0, votedTick := none, decided := none
      framesSA := Vector.replicate 4 none, framesSB := Vector.replicate 4 none, vecsSA := Vector.replicate 4 none
      vecsSB := Vector.replicate 4 none, latentPending := 0, misaligned := 0, parserWrites := [] }
    power := { s.hub.power with booting := false, pending := none, modeAt := none, restartWarm := false }
    boot := { s.hub.boot with lastEnd := 0, failedType := 0, cause := 0, wake := false, handshake := false }
    time := { s.hub.time with running := false, startAt := none, first := true }
    sched := { s.hub.sched with running := none, runningB := none } }
  let h := h.stageStart.netService
  let h := if wake then h.canWake else h.canService
  let h := (h.ybService false).rackService.setMode .service 0
  let s := { s with hub := h, lanes := vmapIdx (fun l _ => Lane.bootLane h (code l)) s.lanes }
  let s := s.loadCalibration true
  { s with snap := s.hub }

/-- Phase 5 where the APP image enables PARTNER, else phase 6. -/
def State.partnerPhase (wake : Bool) (s : State) : State :=
  if s.hub.cfg.partner.enabled then
    s.modHub (fun (h : Hub) =>
      ({ h with boot.handshake := true } : Hub).modPartner (fun p => { p with handshake := true, handshakeAt := h.time.now, heard := none }))
  else s.enterService wake

/-- The boot sequence (Table 18.5) up to phase 5. -/
def State.runBoot (s : State) : State :=
  let fail := fun (h : Hub) (t : Nat) (f : ImageFound) => (let h := h.enterLoad t f.cause; ({ s with hub := h, snap := h } : State))
  let fw := s.hub.hubStart.bootImage 1 []
  match fw.2.image with
  | none => fail fw.1 1 fw.2
  | some p =>
    let h : Hub := { fw.1 with boot.images.running := fw.1.boot.images.running.set 0 (some p) }
    let lane := h.setKeys.bootImage 2 p
    match lane.2.image with
    | none => fail lane.1 2 lane.2
    | some q =>
      let io := ({ lane.1 with boot.images.running := lane.1.boot.images.running.set 1 (some q) } : Hub).bootImage 3 p
      match io.2.image with
      | none => fail io.1 3 io.2
      | some r =>
        let app := ({ io.1 with boot.images.running := io.1.boot.images.running.set 2 (some r) } : Hub).bootImage 4 p
        match app.2.image, app.2.image.map (fun b => loadApp (imagePayload b)) with
        | some b, some (.ok a) =>
          let h : Hub := { app.1 with boot.images.running := app.1.boot.images.running.set 3 (some b) }
          ({ s with hub := (h.loadApplication p b a).chooseSlot } : State).partnerPhase false
        | _, _ => fail app.1 4 app.2

/-! ### Rows -/

/-- POWER_ON (R483, R493): VIN at or above 16.8 V for 100 ms after the holdup rail was below 14.0 V. -/
def execPowerOn (now : Nat) (s : State) : Out :=
  .next (if s.hub.power.held ∧ s.hub.power.mode = .off then
    s.modHub (fun h => (let h := h.at_ now; { h with
      backup.powerCycles := wrapAdd 32 h.backup.powerCycles 1
      power := { h.power with held := false, booting := true, resetAt := h.time.now } } : Hub))
  else s)

/-- BOOT (R462): after a release of reset. -/
def execBoot (now : Nat) (s : State) : Out :=
  .next (if s.hub.power.booting ∧ s.hub.power.mode = .off ∧ s.hub.boot.handshake = false then (s.modHub (Hub.at_ now)).runBoot else s)

/-- PARTNER_HANDSHAKE_END (R381): the role follows from the HELLO frames heard, and phase 6 follows. -/
def execPartnerHandshakeEnd (now : Nat) (s : State) : Out :=
  .next (let s := s.modHub (Hub.at_ now)
    if s.hub.boot.handshake ∧ s.hub.partner.handshakeAt + s.hub.cfg.partner.handshakeMs * 1000000 ≤ s.hub.time.now then
      (s.modHub Hub.handshakeRole).enterService s.hub.boot.wake
    else s)

/-- A wake source of Table 19.3 has been accepted in DORMANT. -/
def Hub.wakeUp (h : Hub) : Hub := if h.power.mode = .dormant then { h with boot.wake := true } else h

/-- WAKE_N_LOW (R483, R487): WAKE_N low for 10 ms, in OFF with the supply present, or in DORMANT. -/
def execWakeNLow (now : Nat) (s : State) : Out :=
  .next (s.modHub (fun h =>
    let h := h.at_ now
    if h.power.mode = .off ∧ h.power.held = false ∧ h.power.booting = false then
      { h with power := { h.power with booting := true, resetAt := h.time.now } }
    else h.wakeUp))

/-- WAKE_FRAME (R487): port 0 is E3 and 1 is E0; Ethertype, destination and the first 8 payload bytes must match. -/
def execWakeFrame (port : Fin 2) (frame : Bytes) (now : Nat) (s : State) : Out :=
  .next (s.modHub (fun h =>
    let h := h.at_ now
    let mac := h.ifMac (if port = 0 then 1 else 0)
    match parseEth frame with
    | some e =>
      if h.power.watchPort = port.val ∧ e.dst = mac ∧ e.type = h.cfg.system.wakeEthertype ∧ e.body.take 8 = h.cfg.system.wakePattern then
        h.wakeUp
      else h
    | none => h))

/-- DORMANT_WAKE (R487): full clock, a new acquisition epoch, and phases 4 to 6 from the copies of R464. -/
def execDormantWake (now : Nat) (s : State) : Out :=
  .next (if s.hub.power.mode = .dormant ∧ s.hub.boot.wake ∧ s.hub.boot.handshake = false then
    (s.modHub (fun h => ((h.at_ now).newEpoch.setKeys).chooseSlot)).partnerPhase true
  else s)

/-- RST_N_LOW (R264, R493): RST_N was low for `durationNs` and rose at `now`. It acts only while the main converters run; the hold timer
records it. Between 4 µs and 5 µs the outcome is free. -/
def execRstNLow (durationNs now : Nat) (s : State) : Out :=
  .next (
    let seen := decide (5000 ≤ durationNs) || (decide (4000 ≤ durationNs) && Config.rstSeen s.hub.free)
    let s := s.modHub (fun h => (let h := h.at_ now; if 4000 ≤ durationNs ∧ durationNs < 5000 then h.draw else h))
    if !seen then s else
    let s := s.modHub (fun h => { h with backup.rstHoldMs := min (2 ^ 32 - 1) (durationNs / 1000000) })
    if s.hub.power.held || (s.hub.power.mode == .off && !s.hub.power.booting) then s else s.moduleReset)

/-- HOLDUP_COLLAPSE (R490): the record is written unless RST_N is low (Table 21.12) or the hub does not run. -/
def execHoldupCollapse (now : Nat) (rstLow : Bool) (s : State) : Out :=
  .next (
    let s := s.modHub (Hub.at_ now)
    if s.hub.power.held then s
    else if s.hub.power.mode = .off ∨ rstLow = true then s.holdInReset
    else
      let h := s.hub
      (s.modHub (Hub.event .supplyReset [] 0 [(2, h.power.vinMv / 10), (2, h.power.holdup), (1, h.power.mode.code)] .real)).holdInReset)

end Sys2Proof.Machine
end

