-- ==== Sys2Proof/Machine/EngineA.lean ====
section
/-! DEFINITION. The A-slot operations (Table 3.7) and the rows that issue nothing. -/
namespace Sys2Proof.Machine

/-- ADD: d ← a + b (R77). -/
def execAdd (site : Site) (slot : ASlot) (f : RegSyl) (s : State) : Out :=
  .next (s.aBin site slot f (· + ·))

/-- SUB: d ← a − b (R77). -/
def execSub (site : Site) (slot : ASlot) (f : RegSyl) (s : State) : Out :=
  .next (s.aBin site slot f (· - ·))

/-- AND (R77). -/
def execAndOp (site : Site) (slot : ASlot) (f : RegSyl) (s : State) : Out :=
  .next (s.aBin site slot f (· &&& ·))

/-- OR (R77). -/
def execOrOp (site : Site) (slot : ASlot) (f : RegSyl) (s : State) : Out :=
  .next (s.aBin site slot f (· ||| ·))

/-- XOR (R77). -/
def execXorOp (site : Site) (slot : ASlot) (f : RegSyl) (s : State) : Out :=
  .next (s.aBin site slot f (· ^^^ ·))

/-- ANDN: d ← a & ~b (R77). -/
def execAndn (site : Site) (slot : ASlot) (f : RegSyl) (s : State) : Out :=
  .next (s.aBin site slot f (fun a b => a &&& ~~~ b))

/-- SHL (R77). -/
def execShl (site : Site) (slot : ASlot) (f : RegSyl) (s : State) : Out :=
  .next (s.aBin site slot f (fun a b => a <<< (b.toNat % 32)))

/-- SHR (R77). -/
def execShr (site : Site) (slot : ASlot) (f : RegSyl) (s : State) : Out :=
  .next (s.aBin site slot f (fun a b => a >>> (b.toNat % 32)))

/-- SAR (R77). -/
def execSar (site : Site) (slot : ASlot) (f : RegSyl) (s : State) : Out :=
  .next (s.aBin site slot f (fun a b => a.sshiftRight (b.toNat % 32)))

/-- ROR (R77). -/
def execRor (site : Site) (slot : ASlot) (f : RegSyl) (s : State) : Out :=
  .next (s.aBin site slot f (fun a b => a.rotateRight (b.toNat % 32)))

/-- MIN, signed (R77). -/
def execMin (site : Site) (slot : ASlot) (f : RegSyl) (s : State) : Out :=
  .next (s.aBin site slot f (fun a b => if a.slt b then a else b))

/-- MAX, signed (R77). -/
def execMax (site : Site) (slot : ASlot) (f : RegSyl) (s : State) : Out :=
  .next (s.aBin site slot f (fun a b => if a.slt b then b else a))

/-- MINU (R77). -/
def execMinu (site : Site) (slot : ASlot) (f : RegSyl) (s : State) : Out :=
  .next (s.aBin site slot f (fun a b => if a < b then a else b))

/-- MAXU (R77). -/
def execMaxu (site : Site) (slot : ASlot) (f : RegSyl) (s : State) : Out :=
  .next (s.aBin site slot f (fun a b => if a < b then b else a))

/-- SEL: X names the predicate (R77). -/
def execSel (site : Site) (slot : ASlot) (f : RegSyl) (s : State) : Out :=
  .next (s.aReg site slot f true (.reg f.dst) (fun e =>
    (if e.pred f.x then e.reg f.sa else e.reg f.sb).zeroExtend 64))

/-- ADDI (R74, R77). -/
def execAddi (site : Site) (slot : ASlot) (f : ImmSyl) (s : State) : Out :=
  .next (s.aImm site slot f true (· + ·))

/-- ANDI (R74, R77). -/
def execAndi (site : Site) (slot : ASlot) (f : ImmSyl) (s : State) : Out :=
  .next (s.aImm site slot f true (· &&& ·))

/-- ORI (R74, R77). -/
def execOri (site : Site) (slot : ASlot) (f : ImmSyl) (s : State) : Out :=
  .next (s.aImm site slot f true (· ||| ·))

/-- XORI (R74, R77). -/
def execXori (site : Site) (slot : ASlot) (f : ImmSyl) (s : State) : Out :=
  .next (s.aImm site slot f true (· ^^^ ·))

/-- SHLI: a shift immediate from 0 to 31 (R75, R77). -/
def execShli (site : Site) (slot : ASlot) (f : ImmSyl) (s : State) : Out :=
  .next (s.aImm site slot f f.okShift (fun a b => a <<< b.toNat))

/-- SHRI: a shift immediate from 0 to 31 (R75, R77). -/
def execShri (site : Site) (slot : ASlot) (f : ImmSyl) (s : State) : Out :=
  .next (s.aImm site slot f f.okShift (fun a b => a >>> b.toNat))

/-- SARI: a shift immediate from 0 to 31 (R75, R77). -/
def execSari (site : Site) (slot : ASlot) (f : ImmSyl) (s : State) : Out :=
  .next (s.aImm site slot f f.okShift (fun a b => a.sshiftRight b.toNat))

/-- RORI: a shift immediate from 0 to 31 (R75, R77). -/
def execRori (site : Site) (slot : ASlot) (f : ImmSyl) (s : State) : Out :=
  .next (s.aImm site slot f f.okShift (fun a b => a.rotateRight b.toNat))

/-- CMPEQ (R77). -/
def execCmpeq (site : Site) (slot : ASlot) (f : RegSyl) (s : State) : Out :=
  .next (s.aCmp site slot f (fun a b => a == b))

/-- CMPNE (R77). -/
def execCmpne (site : Site) (slot : ASlot) (f : RegSyl) (s : State) : Out :=
  .next (s.aCmp site slot f (fun a b => a != b))

/-- CMPLT (R77). -/
def execCmplt (site : Site) (slot : ASlot) (f : RegSyl) (s : State) : Out :=
  .next (s.aCmp site slot f (fun a b => a.slt b))

/-- CMPLTU (R77). -/
def execCmpltu (site : Site) (slot : ASlot) (f : RegSyl) (s : State) : Out :=
  .next (s.aCmp site slot f (fun a b => a.ult b))

/-- CMPLE (R77). -/
def execCmple (site : Site) (slot : ASlot) (f : RegSyl) (s : State) : Out :=
  .next (s.aCmp site slot f (fun a b => a.sle b))

/-- CMPLEU (R77). -/
def execCmpleu (site : Site) (slot : ASlot) (f : RegSyl) (s : State) : Out :=
  .next (s.aCmp site slot f (fun a b => a.ule b))

/-- CMPEQI (R77). -/
def execCmpeqi (site : Site) (slot : ASlot) (f : ImmSyl) (s : State) : Out :=
  .next (s.aCmpImm site slot f (fun a b => a == b))

/-- CMPLTI (R77). -/
def execCmplti (site : Site) (slot : ASlot) (f : ImmSyl) (s : State) : Out :=
  .next (s.aCmpImm site slot f (fun a b => a.slt b))

/-- PAND (R77). -/
def execPand (site : Site) (slot : ASlot) (f : RegSyl) (s : State) : Out :=
  .next (s.aPred site slot f (fun a b => a && b))

/-- POR (R77). -/
def execPor (site : Site) (slot : ASlot) (f : RegSyl) (s : State) : Out :=
  .next (s.aPred site slot f (fun a b => a || b))

/-- PXOR (R77). -/
def execPxor (site : Site) (slot : ASlot) (f : RegSyl) (s : State) : Out :=
  .next (s.aPred site slot f (fun a b => a != b))

/-- PANDN (R77). -/
def execPandn (site : Site) (slot : ASlot) (f : RegSyl) (s : State) : Out :=
  .next (s.aPred site slot f (fun a b => a && !b))

/-- MFS: an index above 0x0C is undefined (R65). -/
def execMfs (site : Site) (slot : ASlot) (f : RegSyl) (s : State) : Out :=
  .next (s.issue site f.n f.p (f.x == 0#3 && f.sb == 0#6 && decide (f.sa.toNat ≤ 0x0C)) noCause (fun e r g =>
    addOp slot.num 1 (.reg f.dst) ((special s site e r f.sa.toNat).zeroExtend 64) 0 f.d r g))

/-- MFSD: an index other than 0x00 or 0x02 is undefined (R65). -/
def execMfsd (site : Site) (slot : ASlot) (f : RegSyl) (s : State) : Out :=
  .next (s.issue site f.n f.p (f.x == 0#3 && f.sb == 0#6 && isPair f.dst && (f.sa == 0#6 || f.sa == 2#6)) noCause (fun _ r g =>
    addOp slot.num 1 (.pair f.dst) (special64 s site r f.sa.toNat) 0 f.d r g))

/-- MTS: FLAGS and CLAUSE_STATUS only, bits written as 1 are cleared; D and DST are zero (R65, R66, R73). -/
def execMts (site : Site) (slot : ASlot) (f : RegSyl) (s : State) : Out :=
  .next (s.issue site f.n f.p (f.x == 0#3 && f.dst == 0#6 && !f.d && (f.sa == 9#6 || f.sa == 10#6)) noCause (fun e _ g b =>
    let v := (e.reg f.sb).toNat
    if !g then b
    else if f.sa = 9#6 then { b with clearFlags := b.clearFlags ||| v % 64 }
    else { b with clearMbFull := b.clearMbFull || bit v 1 }))

/-- MOVD: SB zero (R77). -/
def execMovd (site : Site) (slot : ASlot) (f : RegSyl) (s : State) : Out :=
  .next (s.aReg site slot f (f.x == 0#3 && f.sb == 0#6 && isPair f.dst && isPair f.sa) (.pair f.dst) (fun e => e.pair f.sa))

/-- CLZ: leading zeros, 0 to 32 (R77). -/
def execClz (site : Site) (slot : ASlot) (f : RegSyl) (s : State) : Out :=
  .next (s.aUn site slot f (fun a => BitVec.ofNat 32 (32 - bitLen a.toNat)))

/-- POPC (R77). -/
def execPopc (site : Site) (slot : ASlot) (f : RegSyl) (s : State) : Out :=
  .next (s.aUn site slot f (fun a => BitVec.ofNat 32 (popcount 32 a.toNat)))

/-- ADDD, modulo 2^64 (R77). -/
def execAddd (site : Site) (slot : ASlot) (f : RegSyl) (s : State) : Out :=
  .next (s.aPair site slot f (· + ·))

/-- SUBD, modulo 2^64 (R77). -/
def execSubd (site : Site) (slot : ASlot) (f : RegSyl) (s : State) : Out :=
  .next (s.aPair site slot f (· - ·))

/-- FNEG: the sign bit only (R77). -/
def execFneg (site : Site) (slot : ASlot) (f : RegSyl) (s : State) : Out :=
  .next (s.aUn site slot f (fun a => a ^^^ 0x80000000#32))

/-- FABS: the sign bit only (R77). -/
def execFabs (site : Site) (slot : ASlot) (f : RegSyl) (s : State) : Out :=
  .next (s.aUn site slot f (fun a => a &&& 0x7FFFFFFF#32))

/-- The fetch of a bundle (R69, R400, R401): physical engine p's instruction memory is macro 9 + p; a slot's word is the first or
the second of the bundle. -/
def State.fetchEcc (k : Site) (slot : Slot) (ecc : Ecc) (s : State) : Ecc × State :=
  match (s.engine k).run with
  | none => (ecc, s)
  | some r =>
    let phys := s.hub.vote.engineMap[k.lane][k.eng.val]
    let half := match slot with | .a0 | .a1 => 0 | .m | .l => 1
    let f := s.hub.sramRead k.lane.val (9 + phys) (r.pc / 8) (r.pc % 8 * 2 + half) 1 ecc
    (f.1, { s with hub := f.2 })

/-- NOP, or a syllable whose opcode is listed for no operation of its slot, an undefined encoding (R70, R75). A bundle fetched with
an uncorrectable word issues as four NOPs (R401). -/
def execNop (site : Site) (slot : Slot) (raw : Word) (ecc : Ecc) (s : State) : Out :=
  let f := s.fetchEcc site slot ecc
  let ok := match f.1 with | .uncorrectable _ => true | _ => raw == 0#32
  .next (f.2.issue site false 0#3 ok noCause (fun _ _ _ b => b))

end Sys2Proof.Machine
end

