-- ==== Sys2Proof/Machine/EngineL.lean ====
section
/-! DEFINITION. The L-slot operations (Table 3.9). -/
namespace Sys2Proof.Machine

/-- Extension of the bytes a load read. -/
def sext (w v : Nat) : DWord := ((BitVec.ofNat w v).signExtend 32).zeroExtend 64
def zext (v : Nat) : DWord := BitVec.ofNat 64 v

/-- LDW (R67, R68, R79). -/
def execLdw (site : Site) (f : ImmSyl) (ecc : Ecc) (s : State) : Out :=
  .next (s.load site f.d f.n f.p true (eaImm f) 4 (.reg f.dst) zext ecc)

/-- LDH (R67, R68, R79). -/
def execLdh (site : Site) (f : ImmSyl) (ecc : Ecc) (s : State) : Out :=
  .next (s.load site f.d f.n f.p true (eaImm f) 2 (.reg f.dst) (sext 16) ecc)

/-- LDHU (R67, R68, R79). -/
def execLdhu (site : Site) (f : ImmSyl) (ecc : Ecc) (s : State) : Out :=
  .next (s.load site f.d f.n f.p true (eaImm f) 2 (.reg f.dst) zext ecc)

/-- LDB (R67, R68, R79). -/
def execLdb (site : Site) (f : ImmSyl) (ecc : Ecc) (s : State) : Out :=
  .next (s.load site f.d f.n f.p true (eaImm f) 1 (.reg f.dst) (sext 8) ecc)

/-- LDBU (R67, R68, R79). -/
def execLdbu (site : Site) (f : ImmSyl) (ecc : Ecc) (s : State) : Out :=
  .next (s.load site f.d f.n f.p true (eaImm f) 1 (.reg f.dst) zext ecc)

/-- LDD (R67, R68, R79). -/
def execLdd (site : Site) (f : ImmSyl) (ecc : Ecc) (s : State) : Out :=
  .next (s.load site f.d f.n f.p (isPair f.dst) (eaImm f) 8 (.pair f.dst) zext ecc)

/-- STW (R67, R68, R79). -/
def execStw (site : Site) (f : ImmSyl) (ecc : Ecc) (s : State) : Out :=
  .next (s.store site f.d f.n f.p true (eaImm f) 4 (fun e => (e.reg f.dst).toNat) ecc)

/-- STH (R67, R68, R79). -/
def execSth (site : Site) (f : ImmSyl) (ecc : Ecc) (s : State) : Out :=
  .next (s.store site f.d f.n f.p true (eaImm f) 2 (fun e => (e.reg f.dst).toNat) ecc)

/-- STB (R67, R68, R79). -/
def execStb (site : Site) (f : ImmSyl) (ecc : Ecc) (s : State) : Out :=
  .next (s.store site f.d f.n f.p true (eaImm f) 1 (fun e => (e.reg f.dst).toNat) ecc)

/-- STD (R67, R68, R79). -/
def execStd (site : Site) (f : ImmSyl) (ecc : Ecc) (s : State) : Out :=
  .next (s.store site f.d f.n f.p (isPair f.dst) (eaImm f) 8 (fun e => (e.pair f.dst).toNat) ecc)

/-- LDWX (R67, R68, R79). -/
def execLdwx (site : Site) (f : RegSyl) (ecc : Ecc) (s : State) : Out :=
  .next (s.load site f.d f.n f.p (f.x == 0#3) (eaReg f) 4 (.reg f.dst) zext ecc)

/-- LDDX (R67, R68, R79). -/
def execLddx (site : Site) (f : RegSyl) (ecc : Ecc) (s : State) : Out :=
  .next (s.load site f.d f.n f.p (f.x == 0#3 && isPair f.dst) (eaReg f) 8 (.pair f.dst) zext ecc)

/-- STWX (R67, R68, R79). -/
def execStwx (site : Site) (f : RegSyl) (ecc : Ecc) (s : State) : Out :=
  .next (s.store site f.d f.n f.p (f.x == 0#3) (eaReg f) 4 (fun e => (e.reg f.dst).toNat) ecc)

/-- STDX (R67, R68, R79). -/
def execStdx (site : Site) (f : RegSyl) (ecc : Ecc) (s : State) : Out :=
  .next (s.store site f.d f.n f.p (f.x == 0#3 && isPair f.dst) (eaReg f) 8 (fun e => (e.pair f.dst).toNat) ecc)

/-- BR: taken when its guard is true (R83, R86). -/
def execBr (site : Site) (f : TgtSyl) (s : State) : Out :=
  .next (s.issue site f.n f.p (!f.d && f.rest == 0#8) (branchCause (fun _ => f.target.toNat)) (fun _ _ g b =>
    if g then { b with branch := some f.target.toNat } else b))

/-- BRI: DST, SB and X zero; a taken target above 8191 is FETCH_RANGE (R83, R86). -/
def execBri (site : Site) (f : RegSyl) (s : State) : Out :=
  .next (s.issue site f.n f.p (!f.d && f.dst == 0#6 && f.sb == 0#6 && f.x == 0#3) (branchCause (fun e => (e.reg f.sa).toNat))
    (fun e _ g b => if g then { b with branch := some (e.reg f.sa).toNat } else b))

/-- LOOPI: CNT iterations (R84, R85). -/
def execLoopi (site : Site) (f : LpSyl) (s : State) : Out :=
  .next (s.startLoop site f true (fun _ => f.cnt.zeroExtend 32))

/-- LOOPR: g[CNT[20:15]] iterations, CNT[14] zero (R84, R85). -/
def execLoopr (site : Site) (f : LpSyl) (s : State) : Out :=
  .next (s.startLoop site f (!f.cnt.getLsbD 0) (fun e => e.reg ((f.cnt >>> 1).truncate 6)))

/-- END: all other bits zero (R79, R87). -/
def execEndOp (site : Site) (rest : BitVec 26) (s : State) : Out :=
  .next (s.issue site false 0#3 (rest == 0#26) noCause (fun _ _ _ b => { b with ends := true }))

/-- XSET: parameter slot DST ← source g[SA], destination g[SB]; X and D zero (R73, R80). -/
def execXset (site : Site) (f : RegSyl) (s : State) : Out :=
  .next (s.issue site f.n f.p (!f.d && f.x == 0#3) noCause (fun e _ g b =>
    if g then { b with xset := some (f.dst, e.reg f.sa, e.reg f.sb) } else b))

end Sys2Proof.Machine
end

