-- ==== Sys2Proof/Machine/EngineM.lean ====
section
/-! DEFINITION. The M-slot operations (Table 3.8). -/
namespace Sys2Proof.Machine

/-- MUL: bits 31:0 of the product (R78). -/
def execMul (site : Site) (f : RegSyl) (s : State) : Out :=
  .next (s.mInt site f 3 false (fun a b => (a * b, 0)))

/-- MULHS: bits 63:32, signed (R78). -/
def execMulhs (site : Site) (f : RegSyl) (s : State) : Out :=
  .next (s.mInt site f 3 false (fun a b => (BitVec.ofInt 32 (a.toInt * b.toInt / 2 ^ 32), 0)))

/-- MULHU: bits 63:32, unsigned (R78). -/
def execMulhu (site : Site) (f : RegSyl) (s : State) : Out :=
  .next (s.mInt site f 3 false (fun a b => (BitVec.ofNat 32 (a.toNat * b.toNat / 2 ^ 32), 0)))

/-- MULWS: signed 64-bit product (R78). -/
def execMulws (site : Site) (f : RegSyl) (s : State) : Out :=
  .next (s.mOp site f (isPair f.dst) 3 false (.pair f.dst) (fun e =>
    (BitVec.ofInt 64 ((e.reg f.sa).toInt * (e.reg f.sb).toInt), 0)))

/-- MULWU (R78). -/
def execMulwu (site : Site) (f : RegSyl) (s : State) : Out :=
  .next (s.mOp site f (isPair f.dst) 3 false (.pair f.dst) (fun e =>
    (BitVec.ofNat 64 ((e.reg f.sa).toNat * (e.reg f.sb).toNat), 0)))

/-- DIVS (R78, R81). -/
def execDivs (site : Site) (f : RegSyl) (s : State) : Out :=
  .next (s.mInt site f 18 true divS)

/-- DIVU (R78, R81). -/
def execDivu (site : Site) (f : RegSyl) (s : State) : Out :=
  .next (s.mInt site f 18 true divU)

/-- REMS (R78, R81). -/
def execRems (site : Site) (f : RegSyl) (s : State) : Out :=
  .next (s.mInt site f 18 true remS)

/-- REMU (R78, R81). -/
def execRemu (site : Site) (f : RegSyl) (s : State) : Out :=
  .next (s.mInt site f 18 true remU)

/-- FADD.S (R78, R82). -/
def execFaddS (site : Site) (f : RegSyl) (s : State) : Out :=
  .next (s.mF32 site f (true) 4 false (fun a b _ => f32.add a b))

/-- FSUB.S (R78, R82). -/
def execFsubS (site : Site) (f : RegSyl) (s : State) : Out :=
  .next (s.mF32 site f (true) 4 false (fun a b _ => f32.sub a b))

/-- FMUL.S (R78, R82). -/
def execFmulS (site : Site) (f : RegSyl) (s : State) : Out :=
  .next (s.mF32 site f (true) 4 false (fun a b _ => f32.mul a b))

/-- FMA.S (R78, R82). -/
def execFmaS (site : Site) (f : RegSyl) (s : State) : Out :=
  .next (s.mF32 site f (true) 4 false (fun a b d => f32.fma false a b d))

/-- FNMA.S (R78, R82). -/
def execFnmaS (site : Site) (f : RegSyl) (s : State) : Out :=
  .next (s.mF32 site f (true) 4 false (fun a b d => f32.fma true a b d))

/-- FMIN.S (R78, R82). -/
def execFminS (site : Site) (f : RegSyl) (s : State) : Out :=
  .next (s.mF32 site f (true) 4 false (fun a b _ => f32.minMax false a b))

/-- FMAX.S (R78, R82). -/
def execFmaxS (site : Site) (f : RegSyl) (s : State) : Out :=
  .next (s.mF32 site f (true) 4 false (fun a b _ => f32.minMax true a b))

/-- FDIV.S (R78, R82). -/
def execFdivS (site : Site) (f : RegSyl) (s : State) : Out :=
  .next (s.mF32 site f (true) 12 true (fun a b _ => f32.div a b))

/-- FSQRT.S (R78, R82). -/
def execFsqrtS (site : Site) (f : RegSyl) (s : State) : Out :=
  .next (s.mF32 site f (f.sb == 0#6) 12 true (fun a _ _ => f32.sqrt a))

/-- FCMPEQ.S (R78, R82). -/
def execFcmpeqS (site : Site) (f : RegSyl) (s : State) : Out :=
  .next (s.mCmp32 site f f32.cmpEq)

/-- FCMPLT.S (R78, R82). -/
def execFcmpltS (site : Site) (f : RegSyl) (s : State) : Out :=
  .next (s.mCmp32 site f f32.cmpLt)

/-- FCMPLE.S (R78, R82). -/
def execFcmpleS (site : Site) (f : RegSyl) (s : State) : Out :=
  .next (s.mCmp32 site f f32.cmpLe)

/-- FCMPUN.S (R78, R82). -/
def execFcmpunS (site : Site) (f : RegSyl) (s : State) : Out :=
  .next (s.mCmp32 site f f32.cmpUn)

/-- FADD.D (R78, R82). -/
def execFaddD (site : Site) (f : RegSyl) (s : State) : Out :=
  .next (s.mF64 site f (isPair f.sb) 5 false (fun a b _ => f64.add a b))

/-- FSUB.D (R78, R82). -/
def execFsubD (site : Site) (f : RegSyl) (s : State) : Out :=
  .next (s.mF64 site f (isPair f.sb) 5 false (fun a b _ => f64.sub a b))

/-- FMUL.D (R78, R82). -/
def execFmulD (site : Site) (f : RegSyl) (s : State) : Out :=
  .next (s.mF64 site f (isPair f.sb) 5 false (fun a b _ => f64.mul a b))

/-- FMA.D (R78, R82). -/
def execFmaD (site : Site) (f : RegSyl) (s : State) : Out :=
  .next (s.mF64 site f (isPair f.sb) 6 false (fun a b d => f64.fma false a b d))

/-- FNMA.D (R78, R82). -/
def execFnmaD (site : Site) (f : RegSyl) (s : State) : Out :=
  .next (s.mF64 site f (isPair f.sb) 6 false (fun a b d => f64.fma true a b d))

/-- FMIN.D (R78, R82). -/
def execFminD (site : Site) (f : RegSyl) (s : State) : Out :=
  .next (s.mF64 site f (isPair f.sb) 5 false (fun a b _ => f64.minMax false a b))

/-- FMAX.D (R78, R82). -/
def execFmaxD (site : Site) (f : RegSyl) (s : State) : Out :=
  .next (s.mF64 site f (isPair f.sb) 5 false (fun a b _ => f64.minMax true a b))

/-- FDIV.D (R78, R82). -/
def execFdivD (site : Site) (f : RegSyl) (s : State) : Out :=
  .next (s.mF64 site f (isPair f.sb) 20 true (fun a b _ => f64.div a b))

/-- FSQRT.D (R78, R82). -/
def execFsqrtD (site : Site) (f : RegSyl) (s : State) : Out :=
  .next (s.mF64 site f (f.sb == 0#6) 20 true (fun a _ _ => f64.sqrt a))

/-- FCMPEQ.D (R78, R82). -/
def execFcmpeqD (site : Site) (f : RegSyl) (s : State) : Out :=
  .next (s.mCmp64 site f f64.cmpEq)

/-- FCMPLT.D (R78, R82). -/
def execFcmpltD (site : Site) (f : RegSyl) (s : State) : Out :=
  .next (s.mCmp64 site f f64.cmpLt)

/-- FCMPLE.D (R78, R82). -/
def execFcmpleD (site : Site) (f : RegSyl) (s : State) : Out :=
  .next (s.mCmp64 site f f64.cmpLe)

/-- FCMPUN.D (R78, R82). -/
def execFcmpunD (site : Site) (f : RegSyl) (s : State) : Out :=
  .next (s.mCmp64 site f f64.cmpUn)

/-- FCVT.S.W (R78, R82). -/
def execFcvtSW (site : Site) (f : RegSyl) (s : State) : Out :=
  .next (s.mOp site f (f.sb == 0#6) 4 false (.reg f.dst) (fun e =>
    let v := (e.reg f.sa).toNat
    let r := f32.ofInt (BitVec.ofNat 32 v).toInt
    (BitVec.ofNat 64 r.1, r.2)))

/-- FCVTN.W.S (R78, R82). -/
def execFcvtnWS (site : Site) (f : RegSyl) (s : State) : Out :=
  .next (s.mOp site f (f.sb == 0#6) 4 false (.reg f.dst) (fun e =>
    let v := (e.reg f.sa).toNat
    let r := f32.toInt true v
    (BitVec.ofNat 64 r.1, r.2)))

/-- FCVTZ.W.S (R78, R82). -/
def execFcvtzWS (site : Site) (f : RegSyl) (s : State) : Out :=
  .next (s.mOp site f (f.sb == 0#6) 4 false (.reg f.dst) (fun e =>
    let v := (e.reg f.sa).toNat
    let r := f32.toInt false v
    (BitVec.ofNat 64 r.1, r.2)))

/-- FCVT.D.W (R78, R82). -/
def execFcvtDW (site : Site) (f : RegSyl) (s : State) : Out :=
  .next (s.mOp site f (f.sb == 0#6 && isPair f.dst) 5 false (.pair f.dst) (fun e =>
    let v := (e.reg f.sa).toNat
    let r := f64.ofInt (BitVec.ofNat 32 v).toInt
    (BitVec.ofNat 64 r.1, r.2)))

/-- FCVTN.W.D (R78, R82). -/
def execFcvtnWD (site : Site) (f : RegSyl) (s : State) : Out :=
  .next (s.mOp site f (f.sb == 0#6 && isPair f.sa) 5 false (.reg f.dst) (fun e =>
    let v := (e.pair f.sa).toNat
    let r := f64.toInt true v
    (BitVec.ofNat 64 r.1, r.2)))

/-- FCVTZ.W.D (R78, R82). -/
def execFcvtzWD (site : Site) (f : RegSyl) (s : State) : Out :=
  .next (s.mOp site f (f.sb == 0#6 && isPair f.sa) 5 false (.reg f.dst) (fun e =>
    let v := (e.pair f.sa).toNat
    let r := f64.toInt false v
    (BitVec.ofNat 64 r.1, r.2)))

/-- FCVT.D.S (R78, R82). -/
def execFcvtDS (site : Site) (f : RegSyl) (s : State) : Out :=
  .next (s.mOp site f (f.sb == 0#6 && isPair f.dst) 5 false (.pair f.dst) (fun e =>
    let v := (e.reg f.sa).toNat
    let r := f32.convert f64 v
    (BitVec.ofNat 64 r.1, r.2)))

/-- FCVT.S.D (R78, R82). -/
def execFcvtSD (site : Site) (f : RegSyl) (s : State) : Out :=
  .next (s.mOp site f (f.sb == 0#6 && isPair f.sa) 5 false (.reg f.dst) (fun e =>
    let v := (e.pair f.sa).toNat
    let r := f64.convert f32 v
    (BitVec.ofNat 64 r.1, r.2)))

end Sys2Proof.Machine
end

