-- ==== Sys2Proof/Machine/Images.lean ====
section
/-! DEFINITION. Writing an image, image and identity queries, attestation and command keys (chapter 18: R465, R466, R469, R472 to R482). -/
namespace Sys2Proof.Machine

def loaderOrParser (s : State) : Bool × Status := modeIs (fun m => m == .load || m.parser) s

def parserMode (s : State) : Bool × Status := modeIs Mode.parser s

/-! ### Writing an image (R465, R466) -/

/-- Put an image, or nothing, into a type's slot on both devices; a retired device is not programmed (R405). -/
def Hub.fillSlot (t : Nat) (img : Option Bytes) (h : Hub) : Hub :=
  [0, 1].foldl (fun (h : Hub) d => if bit h.mem.nandRetired d then h else h.putImage d t img) h

def Hub.transferIs (h : Hub) (p : Bytes) : Bool :=
  match h.boot.images.transfer with
  | some x => x.id == be32 p 0
  | none => false

def opBeginImage : OpSpec where
  op := .beginImage
  level := baseLevel .beginImage
  layout := exactly 12
  check := fun s _ p => firstFail [loaderOrParser s, (s.hub.boot.images.transfer.isNone, .busy), param (inRange 1 4 (u8 p 0)),
    param (allZero (slice p 1 3)), param (inRange 136 (128 + maxPayload (u8 p 0) + 65536) (be32 p 4))]
  act := fun r p s => s.modHub (fun (h : Hub) =>
    let id := (Config.transferId h.free).toNat
    let t : ImageTransfer := { id := id, type := u8 p 0, total := be32 p 4, crc := be32 p 8, at_ := h.time.now }
    let h := h.draw.fillSlot (u8 p 0) none
    let h : Hub := { h with boot.images.transfer := some t, boot.images.written := vmodN h.boot.images.written (u8 p 0 - 1) (fun _ => false) }
    h.reply r .beginImage .ok (beBytes 4 id ++ beBytes 2 1408))

def execBeginImage (r : Req) (p : Bytes) (s : State) : Out := .next (opBeginImage.run r p s)

/-- The chunk repeats the last one (Table 18.12). -/
def ImageTransfer.repeats (t : ImageTransfer) (p : Bytes) : Bool := t.last == some (be32 p 4, be32 p 8)

/-- The chunk continues the transfer. -/
def ImageTransfer.takes (t : ImageTransfer) (p : Bytes) : Bool :=
  be32 p 4 == t.data.length && decide (t.data.length + (p.length - 12) ≤ t.total)

/-- Program a chunk on both devices and answer. -/
def Hub.imageChunk (r : Req) (p : Bytes) (h : Hub) : Hub :=
  match h.boot.images.transfer with
  | none => h.reply r .imageData .notFound []
  | some t =>
    if t.repeats p then h.reply r .imageData .ok (beBytes 4 t.data.length)
    else if t.takes p then
      let d := t.data ++ p.drop 12
      ({ h with boot.images.transfer := some { t with data := d, last := some (be32 p 4, be32 p 8), at_ := h.time.now } } : Hub).reply r
        .imageData .ok (beBytes 4 d.length)
    else h.reply r .imageData .badParameter []

/-- A chunk that arrives during SUPPLY_WARNING waits for the end of the deferral. -/
def opImageData : OpSpec where
  op := .imageData
  level := baseLevel .imageData
  layout := fun p => inRange 13 1420 p.length
  check := fun s _ p => firstFail [loaderOrParser s, (!s.hub.cmd.exec.any (fun e => e.op == Opcode.imageData), .busy),
    (s.hub.transferIs p, .notFound), param (crc32 (p.drop 12) == be32 p 8),
    param (match s.hub.boot.images.transfer with | some t => t.repeats p || t.takes p | none => false)]
  act := fun r p s => s.modHub (fun (h : Hub) =>
    if h.power.deferred then
      ({ h with boot.images.transfer := h.boot.images.transfer.map (fun t => { t with at_ := h.time.now }) } : Hub).defer r .imageData p [18]
    else h.imageChunk r p)

def execImageData (r : Req) (p : Bytes) (s : State) : Out := .next (opImageData.run r p s)

/-- The held chunk is programmed when the deferral ends. -/
def Hub.heldChunks (h : Hub) : Hub :=
  let held := h.cmd.exec.filter (fun e => e.op == Opcode.imageData)
  held.foldl (fun (h : Hub) e => h.imageChunk e.req e.params)
    { h with cmd.exec := h.cmd.exec.filter (fun e => e.op != Opcode.imageData) }

/-- END_IMAGE's verdict: cause and check code. An image whose length or CRC-32 is not the announced one is not complete (cause 1). -/
def Hub.endCause (h : Hub) (t : ImageTransfer) : Nat × Nat :=
  if t.data.length ≠ t.total ∨ crc32 t.data ≠ t.crc then (1, 0)
  else if !h.headerOk t.type t.data then (2, 0)
  else if !hashOk t.data then (3, 0)
  else if t.type = 4 ∧ h.power.mode ≠ .load ∧ appCode t.data ≠ 0 then (6, appCode t.data)
  else (0, 0)

def opEndImage : OpSpec where
  op := .endImage
  level := baseLevel .endImage
  layout := exactly 4
  check := fun s _ p => firstFail [loaderOrParser s, (s.hub.transferIs p, .notFound)]
  act := fun r _ s => s.modHub (fun (h : Hub) =>
    match h.boot.images.transfer with
    | none => h
    | some t =>
      let c := h.endCause t
      let h : Hub := { h with boot.images.transfer := none }
      let h := if c.1 = 0 then
          ({ h with boot.images.written := vmodN h.boot.images.written (t.type - 1) (fun _ => true) } : Hub).fillSlot t.type (some t.data)
        else h
      h.reply r .endImage (if c.1 = 0 then .ok else .imageRejected) (beBytes 1 c.1 ++ beBytes 1 c.2 ++ zeros 2 ++ measurement t.data))

def execEndImage (r : Req) (p : Bytes) (s : State) : Out := .next (opEndImage.run r p s)

/-- IMAGE_TRANSFER_ABANDON (R466): 60 s without an IMAGE_DATA. -/
def execImageTransferAbandon (now : Nat) (s : State) : Out :=
  .next (s.modHub (fun (h : Hub) =>
    let h := h.at_ now
    match h.boot.images.transfer with
    | some t => if t.at_ + 60000000000 ≤ h.time.now then { h with boot.images.transfer := none } else h
    | none => h))

/-- CONFIRM_IMAGE (R469). Without an active slot there is nothing to confirm. -/
def opConfirmImage : OpSpec where
  op := .confirmImage
  level := baseLevel .confirmImage
  layout := exactly 0
  check := fun s _ _ => firstFail [parserMode s, (s.hub.slots.active.isSome, .resourceFault)]
  act := fun r _ s => s.modHub (fun (h : Hub) =>
    ({ h with slots.confirmed := h.slots.active } : Hub).reply r .confirmImage .ok (beBytes 1 (h.slots.active.getD 0) ++ beBytes 1 1))

def execConfirmImage (r : Req) (p : Bytes) (s : State) : Out := .next (opConfirmImage.run r p s)

/-! ### GET_IMAGES (Table 18.12) -/

/-- The slot's present content. -/
def Hub.slotImage (h : Hub) (t : Nat) : Option Bytes := (h.imageCopy 0 t).or (h.imageCopy 1 t)

/-- The image of a type that runs: in LOAD none of types 2 to 4. -/
def Hub.runningImage (h : Hub) (t : Nat) : Option Bytes :=
  if h.power.mode = .load ∧ t ≠ 1 then none else vgetN h.boot.images.running (t - 1) none

def Hub.imageState (h : Hub) (t : Nat) : Nat :=
  if (h.slotImage t).isNone then 0
  else if vgetN h.boot.images.written (t - 1) false then 1
  else if h.boot.images.failed = t then 3
  else if (h.runningImage t).isSome then 2
  else 4

def Hub.imageEntry (h : Hub) (t : Nat) : Bytes :=
  let b := (h.slotImage t).getD []
  let m := fun (i : Option Bytes) => match i with | some b => measurement b | none => zeros 32
  beBytes 1 t ++ beBytes 1 (h.imageState t) ++ beBytes 1 (b2n (h.slots.active.isSome && h.slots.active == h.slots.confirmed)) ++ zeros 1 ++
    beBytes 4 (be32 b 12) ++ beBytes 4 (be32 b 24) ++ beBytes 8 (be64 b 16) ++ m (h.slotImage t) ++ m (h.runningImage t)

def Hub.slotEntry (h : Hub) (k : Nat) : Bytes :=
  match h.slots.content k with
  | none => beBytes 1 k ++ zeros 15
  | some g => beBytes 1 k ++ beBytes 1 (b2n (h.slots.active == some k) + 2 * b2n (h.slots.confirmed == some k)) ++ beBytes 2 g.format ++
      beBytes 8 g.sequence ++ beBytes 2 g.changes.length ++ beBytes 2 (ofBits (g.cal.map Option.isSome))

def opGetImages : OpSpec where
  op := .getImages
  level := baseLevel .getImages
  layout := exactly 0
  check := fun s _ _ => firstFail [loaderOrParser s]
  act := fun r _ s => s.modHub (fun (h : Hub) => h.reply r .getImages .ok
    (h.imageEntry 1 ++ h.imageEntry 2 ++ h.imageEntry 3 ++ h.imageEntry 4 ++ h.slotEntry 0 ++ h.slotEntry 1))

def execGetImages (r : Req) (p : Bytes) (s : State) : Out := .next (opGetImages.run r p s)

/-! ### Unit identity (R475 to R479) -/

/-- A calibration set as a configuration slot holds it (Table 7.13). -/
def calSlotBytes (c : Option CalSet) : Bytes :=
  match c with
  | none => zeros 68
  | some l => beBytes 1 (ofBits (l.map Option.isSome)) ++ zeros 3 ++
      fitBytes 64 (l.flatMap (fun p => match p with | some x => x.bytesLe | none => zeros 16))

/-- A generation as NAND holds it (Table 18.6). -/
def ConfigGen.bytes (g : ConfigGen) : Bytes :=
  let entry := fun (c : Change) => c.body.1 ++ leBytes 4 c.crc ++ c.body.2
  let data := g.changes.flatMap entry ++ (List.range 16).flatMap (fun k => calSlotBytes (g.cal.getD k none))
  let head := [0x59#8, 0x43#8, 0x46#8, 0x47#8] ++ leBytes 2 g.format ++ zeros 2 ++ leBytes 8 g.sequence ++ fitBytes 32 g.appMeasurement ++
    leBytes 2 g.changes.length ++ leBytes 2 (ofBits (g.cal.map Option.isSome)) ++ leBytes 4 data.length ++ leBytes 4 (crc32 data)
  head ++ leBytes 4 (crc32 head) ++ data

/-- The attestation statement (Table 18.9) for leaf q. -/
def Hub.statement (h : Hub) (q : Nat) (nonce : Bytes) : Bytes :=
  let m := fun (t : Nat) => match h.runningImage t with | some b => measurement b | none => zeros 32
  let slot := match h.activeGen with | some g => sha256 g.bytes | none => (List.range 32).map Config.noSlotHash
  [0x59#8, 0x41#8, 0x54#8, 0x54#8, 1#8] ++ zeros 3 ++ beBytes 4 Config.hwType ++ beBytes 4 Config.build ++ beBytes 8 h.otp.serial ++
    beBytes 4 q ++ beBytes 1 h.power.mode.code ++ beBytes 1 h.roleCode ++ zeros 2 ++ beBytes 4 h.partner.epoch ++ zeros 4 ++
    beBytes 8 (h.time.tick % 2 ^ 48) ++ beBytes 8 h.time.tb3 ++ fitBytes 32 nonce ++ m 1 ++ m 2 ++ m 3 ++ m 4 ++ slot ++
    fitBytes 32 h.otp.vendorRoot ++ (if h.otp.rootProgrammed then fitBytes 32 h.otp.operatorRoot else zeros 32)

/-- `sign` of R476 after its first two tests: the reservation, the leaf used, and the check of R478. -/
def Hub.useLeaf (h : Hub) : Hub :=
  let g := h.boot.sign
  let end_ := if g.next = g.counter then min (g.next + 64) 1048576 else g.counter
  let g := if g.next = g.counter then { g with copyA := some end_, copyB := some end_ } else g
  ({ h with boot.sign := { g with next := g.next + 1 } } : Hub).reserveCheck

/-- ATTEST (R479), answered in one step (assumption log 73). -/
def opAttest : OpSpec where
  op := .attest
  level := baseLevel .attest
  layout := exactly 32
  check := fun s _ _ => firstFail [parserMode s, (decide (s.hub.boot.sign.next < 1048576), .signaturesExhausted),
    (!s.hub.power.deferred, .supplyWarning), (!s.hub.boot.sign.ended, .resourceFault)]
  act := fun r p s => s.modHub (fun (h : Hub) =>
    let q := h.boot.sign.next
    let m := h.statement q p
    h.useLeaf.reply r .attest .ok (m ++ beBytes 4 5076 ++ fitBytes 5076 (Config.identitySignature q m)))

def execAttest (r : Req) (p : Bytes) (s : State) : Out := .next (opAttest.run r p s)

/-- The identity public key (R475): L = 2, LMS_SHA256_M32_H10, LMOTS_SHA256_N32_W4, I and the root. -/
def Otp.identityKey (o : Otp) : Bytes :=
  beBytes 4 2 ++ beBytes 4 6 ++ beBytes 4 3 ++ fitBytes 16 o.identityI ++ fitBytes 32 o.identityRoot

def opGetIdentity : OpSpec where
  op := .getIdentity
  level := baseLevel .getIdentity
  layout := exactly 0
  check := fun s _ _ => firstFail [loaderOrParser s]
  act := fun r _ s => s.modHub (fun (h : Hub) =>
    let o := h.otp
    let flags := ofBits [o.rootProgrammed, o.factoryRetired, h.anyActive .signatureReserveLow]
    let cert := beBytes 4 h.boot.sign.certKey.length ++ h.boot.sign.certKey ++ beBytes 4 h.boot.sign.certSig.length ++ h.boot.sign.certSig
    h.reply r .getIdentity .ok (beBytes 4 Config.hwType ++ beBytes 4 Config.build ++ beBytes 8 o.serial ++ beBytes 6 o.baseMac ++
      beBytes 2 flags ++ beBytes 4 Config.loaderVersion ++ beBytes 4 h.boot.sign.left ++ fitBytes 32 o.vendorRoot ++
      fitBytes 32 o.operatorRoot ++ o.identityKey ++ beBytes 4 cert.length ++ cert))

def execGetIdentity (r : Req) (p : Bytes) (s : State) : Out := .next (opGetIdentity.run r p s)

/-! ### Command keys (R473, R474) -/

/-- Actions 0 and 1: the slot's entry, and with slot 31 the factory key's retirement. -/
def Hub.changeKey (p : Bytes) (h : Hub) : Hub :=
  let n := u8 p 1
  let e := fun (k : KeyEntry) =>
    if u8 p 0 = 0 then { byCommand := true, level := u8 p 2, key := slice p 4 32 } else { k with byCommand := false, crcOk := true }
  ({ h with boot.keys := vmodN h.boot.keys n e, otp.factoryRetired := h.otp.factoryRetired || n == 31 } : Hub).setKeys

/-- Some slot is at level SAFETY in force. -/
def Hub.hasSafetyKey (h : Hub) : Bool := (List.range 32).any (fun n => (h.keyInForce n).1 == 4)

/-- The staged provisioning statement (Table 18.8) verifies. -/
def Hub.provisioningOk (h : Hub) : Bool :=
  let b := h.boot.staged
  let k := be32 b 56
  let sig := be32 b (60 + k)
  slice b 0 4 == [0x59#8, 0x52#8, 0x4F#8, 0x54#8] && u8 b 4 == 1 && be32 b 8 == Config.hwType && be64 b 16 != 0 &&
    be64 b 16 == h.otp.serial && decide (64 + k + sig ≤ b.length) && sha256 (slice b 60 k) == h.otp.vendorRoot &&
    hssVerify (slice b 60 k) (b.take 56) (slice b (64 + k) sig)

/-- Bytes staged at an offset; the buffer holds zeros where nothing was staged. -/
def stage (buf : Bytes) (off : Nat) (d : Bytes) : Bytes := fitBytes (max buf.length (off + d.length)) (fitBytes off buf ++ d ++ buf.drop (off + d.length))

def Hub.keyChanged (r : Req) (slot action level : Nat) (h : Hub) : Hub :=
  h.event .commandKeyChanged [slot] 0 [(1, slot), (1, action), (1, level), (1, r.transport), (4, r.session)] .real

def keyReply (p : Bytes) (level staged : Nat) : Bytes := beBytes 1 (u8 p 0) ++ beBytes 1 (u8 p 1) ++ beBytes 1 level ++ zeros 1 ++ beBytes 4 staged

def opSetCommandKey : OpSpec where
  op := .setCommandKey
  level := baseLevel .setCommandKey
  layout := fun p => match u8 p 0 with
    | 0 => p.length == 36
    | 2 => decide (9 ≤ p.length) && p.length == 8 + be16 p 6
    | _ => p.length == 4
  check := fun s _ p =>
    let a := u8 p 0
    firstFail [loaderOrParser s, (a != 3 || !s.hub.power.deferred, .supplyWarning), (a != 3 || !s.hub.otp.rootProgrammed, .resourceFault),
      param (decide (a ≤ 3)), param (u8 p 3 == 0), param (decide (2 ≤ a) || decide (u8 p 1 < 32)),
      param (a != 0 || inRange 1 4 (u8 p 2)), param (a != 2 || (decide (be16 p 6 ≤ 1424) && decide (be16 p 4 + be16 p 6 ≤ 32768))),
      param (decide (2 ≤ a) || (s.hub.changeKey p).hasSafetyKey), (a != 3 || s.hub.provisioningOk, .imageRejected)]
  act := fun r p s => s.modHub (fun (h : Hub) =>
    match u8 p 0 with
    | 2 =>
      let b := stage h.boot.staged (be16 p 4) (p.drop 8)
      ({ h with boot.staged := b } : Hub).reply r .setCommandKey .ok (keyReply p 0 b.length)
    | 3 =>
      let h : Hub := { h with otp.operatorRoot := slice h.boot.staged 24 32, otp.rootProgrammed := true }
      (h.keyChanged r 0xFE 3 0).reply r .setCommandKey .ok (keyReply p 0 0)
    | a =>
      let level := ((h.changeKey p).keyInForce (u8 p 1)).1
      let h := (h.reply r .setCommandKey .ok (keyReply p level 0)).changeKey p
      let h : Hub := { h with cmd.sessions := h.cmd.sessions.filter (fun x => x.slot != u8 p 1) }
      h.keyChanged r (u8 p 1) a level)

def execSetCommandKey (r : Req) (p : Bytes) (s : State) : Out := .next (opSetCommandKey.run r p s)

end Sys2Proof.Machine
end

