-- ==== Sys2Proof/Machine/Power.lean ====
section
/-! DEFINITION. Supply, temperature, the backup domain, the system block, mode and power commands, the fault log's opcodes, and failures
of the Parser (chapter 19; chapter 1: R12; chapter 16: R399, R401; chapter 18: R466, R477; chapter 21: R523). -/
namespace Sys2Proof.Machine

/-- The hub runs: not OFF, not in its boot, not held in reset. -/
def Hub.hubRuns (h : Hub) : Bool := h.power.mode != .off

/-- A fault of this name is active by a real occurrence or a full injection. -/
def Hub.inForce (n : FaultName) (h : Hub) : Bool := h.faults.log.any (fun r => r.name == n && r.active && r.origin != .reportOnly)

/-! ### Supply (R488 to R490) -/

/-- SUPPLY_WARNING (R488): the deferral begins with the first sample below 16.0 V. -/
def Hub.supplyRaise (mv : Nat) (o : Origin) (h : Hub) : Hub :=
  let fresh := !h.power.supplyWarn
  let p := h.power
  ({ h with power := { p with
      supplyWarn := true, deferred := true, dipEnd := none, dipStart := if fresh then h.time.now else p.dipStart
      lowestVin := if fresh then mv else min p.lowestVin mv, dipCount := if fresh then satAdd 32 p.dipCount 1 else p.dipCount } } : Hub).raise
    .supplyWarning [] 0 [(2, mv / 10), (2, 0), (4, 0)] o

/-- VIN_SAMPLE (R488): VIN in mV and the holdup rail in 10 mV, every 10 µs. A sample between the thresholds ends no run at or above
16.8 V (assumption log 74). -/
def execVinSample (mv holdup now : Nat) (s : State) : Out :=
  .next (s.modHub (fun (h : Hub) =>
    let h := h.at_ now
    if !h.hubRuns then h else
    let p := h.power
    let h : Hub := { h with power := { p with
      vinMv := min mv 65535, holdup := min holdup 65535
      goodSince := if mv < 16000 then none else if 16800 ≤ mv ∧ p.goodSince = none then some h.time.now else p.goodSince
      lowestVin := if p.supplyWarn then min p.lowestVin mv else p.lowestVin
      dipEnd := if p.supplyWarn ∧ 16800 ≤ mv ∧ p.dipEnd = none then some h.time.now else p.dipEnd } }
    if mv < 16000 ∧ (p.supplyWarn = false ∨ p.dipEnd.isSome) then h.supplyRaise mv .real else h))

/-- SUPPLY_DEFERRAL_END (R489): 16.8 V or more for 50 ms. The record gets the lowest VIN and the dip's duration, and a held chunk is
programmed. -/
def execSupplyDeferralEnd (now : Nat) (s : State) : Out :=
  .next (s.modHub (fun (h : Hub) =>
    let h := h.at_ now
    let p := h.power
    match p.goodSince with
    | none => h
    | some g =>
      if !p.supplyWarn || decide (h.time.now < g + 50000000) then h else
      let us := ((p.dipEnd.getD g) - p.dipStart) / 1000
      let h := h.clearFault .supplyWarning [] (fun _ => [(2, p.lowestVin / 10), (2, 0), (4, us)])
      ({ h with power := { h.power with supplyWarn := false, deferred := false, lastDipUs := us, dipEnd := none } } : Hub).heldChunks))

/-! ### Temperature (R491) -/

/-- One comparison: raised at `hi`, cleared below `lo` (0.1 °C); an injection adds `add` to the measured value. -/
def Hub.tempCheck (n : FaultName) (hi lo add : Int) (t : Int) (h : Hub) : Hub :=
  let arm := h.takeArm n (fun _ => true)
  let h := arm.2
  let det := fun (v : Int) => [(2, ofSigned 16 v)]
  let open_ := fun (o : Origin) (h : Hub) => h.faults.log.any (fun r => r.same n [] o && r.active)
  let put := fun (o : Origin) (v : Int) (h : Hub) => if open_ o h then h else h.raise n [] 0 (det v) o
  let h := if hi ≤ t then put .real t h
    else match arm.1 with
      | some o => if hi ≤ t + add then put o (t + add) h else h
      | none => h
  if t < lo ∧ arm.1.isNone = true then h.clearFault n [] id else h

/-- TEMPERATURE_MEASUREMENT (R491): the hub junction in 0.1 °C, every 1 ms. -/
def execTemperatureMeasurement (t : Int) (now : Nat) (s : State) : Out :=
  .next (s.modHub (fun (h : Hub) =>
    let h := h.at_ now
    if !h.hubRuns then h else
    let h : Hub := { h with power := { h.power with hubTemp := t, hubTempMax := max t h.power.hubTempMax } }
    (h.tempCheck .tempHigh 950 900 200 t).tempCheck .tempCritical 1100 1000 350 t))

/-! ### Backup domain (R492, R493) -/

/-- TAMPER_OPEN (R493): counted and stamped even in OFF, raised now or at the next boot. -/
def execTamperOpen (now : Nat) (s : State) : Out :=
  .next (s.modHub (fun (h : Hub) =>
    let h := h.at_ now
    let b := h.backup
    let h : Hub := { h with backup := { b with
      tamperCount := wrapAdd 32 b.tamperCount 1, tamperTime := b.rtcSeconds, tamperOpen := true, tamperUnraised := !h.hubRuns } }
    if h.hubRuns then h.tamperRaise .real else h))

/-- VBAT_LOSS (R492): below 1.8 V while the domain runs from VBAT, that is without VIN. -/
def execVbatLoss (now : Nat) (s : State) : Out :=
  .next (s.modHub (fun (h : Hub) =>
    let h := h.at_ now
    if h.power.held then
      { h with backup := { ({} : Backup) with tamperOpen := h.backup.tamperOpen, extCell := h.backup.extCell, vbat := h.backup.vbat } }
    else h))

/-! ### The hub's comparators (R12, R496) -/

/-- HUB_COMPARATOR_SELFTEST: which comparators (0 Parser, 1 SA/SB) missed the mismatch injected into them. -/
def execHubComparatorSelftest (parserMissed sasbMissed : Bool) (now : Nat) (s : State) : Out :=
  .next (s.modHub (fun (h : Hub) =>
    let h := h.at_ now
    if !h.hubRuns then h else
    let one := fun (c : Nat) (missed : Bool) (h : Hub) =>
      let arm := h.takeArm .hubComparatorSelftest (fun a => a.resource == c)
      let o : Option Origin := if missed then some .real else arm.1
      match o with
      | some o => arm.2.raise .hubComparatorSelftest [c] 0 [(1, c)] o
      | none => arm.2
    one 1 sasbMissed (one 0 parserMissed h)))

/-- HUB_LOCKSTEP_MISMATCH of a source (0 Parser, 1 SA/SB, 2 parity). -/
def Hub.lockstep (source reg : Nat) (o : Origin) (h : Hub) : Hub :=
  h.raise .hubLockstepMismatch [source] 0 [(1, source), (1, reg), (2, 0), (6, h.time.tick % 2 ^ 48)] o

/-- PARSER_COMPARATOR_MISMATCH: the lockstep comparator, or (`parity`) a parity error of a delay register. -/
def execParserComparatorMismatch (parity : Option Nat) (now : Nat) (s : State) : Out :=
  .next (s.modHub (fun (h : Hub) =>
    let h := h.at_ now
    if !h.hubRuns then h else
    match parity with
    | none => h.lockstep 0 0 .real
    | some d => h.lockstep 2 d .real))

/-! ### Failures of the Parser's memories (R399, R401, R466) -/

/-- The Parser firmware restarts: sessions and requests in execution end, the image transfer is abandoned, Parser-owned queues are
reinitialised; everything else goes on. -/
def Hub.parserRestart (h : Hub) : Hub :=
  { h with
    cmd := { h.cmd with sessions := [], exec := [], tags := [], forwarded := [], auth := [], mb0 := [], mb0Bad := false, mb0Out := [] }
    boot.images.transfer := none
    net.queues := vmapIdx (fun q (x : QueueState) => if h.parserRing q then {} else x) h.net.queues }

/-- PARSER_DATA_UNCORRECTABLE (R401): a word of Parser data memory, macro 8 of the hub. -/
def execParserDataUncorrectable (row word now : Nat) (s : State) : Out :=
  .next (s.modHub (fun (h : Hub) =>
    let h := h.at_ now
    if h.hubRuns then (h.sramFound 4 8 row word 4 (.uncorrectable 0#64) .real).parserRestart else h))

/-- The PARSER_FW slot holds the running firmware. -/
def Hub.firmwareInSlot (h : Hub) : Bool :=
  match vgetN h.boot.images.running 0 none with
  | some b => h.imageCopy 0 1 == some b || h.imageCopy 1 1 == some b
  | none => false

/-- PARSER_CODE_UNCORRECTABLE (R399, R466): served again from NAND, or the Parser pair stops. `addr` lies in hub DRAM. -/
def execParserCodeUncorrectable (addr now : Nat) (s : State) : Out :=
  .next (s.modHub (fun (h : Hub) =>
    let h := h.at_ now
    if !h.power.mode.parser && h.power.mode != .dormant then h else
    let h := h.dramUncorrectable 4 (addr / 32 * 32) 0 false .real
    if h.firmwareInSlot then h else { h.parserRestart with boot.parserStopped := true }))

/-! ### The system block (R494) -/

def Hub.sysStatus (h : Hub) : Nat :=
  let p := h.power
  p.mode.code + 16 * ofBits [p.restartWarm, p.supplyWarn, p.deferred, h.inForce .tempHigh, h.inForce .tempCritical, h.faults.faultNew,
    h.faults.warningSet, p.pending.isSome]

def Hub.backupStatus (h : Hub) : Nat :=
  let b := h.backup
  ofBits [b.vbatOk, b.rtcValid, b.tamperOpen, b.extCell] + 65536 * (b.vbat % 65536)

/-- Block 0 below the runtime area (Table 19.6). -/
def Hub.blockSys (h : Hub) : List (Nat × Nat × Nat) :=
  let p := h.power
  let b := h.backup
  layFields 0 [(4, h.sysStatus), (4, 0), (4, p.vinMv % 65536 + 65536 * (p.holdup % 65536)),
    (4, ofSigned 16 p.hubTemp + 65536 * ofSigned 16 p.hubTempMax), (4, h.faults.seq), (4, p.safeCause), (8, p.safeTick), (8, p.tA),
    (4, p.dipCount), (4, p.lastDipUs), (4, b.powerCycles), (4, b.rstHoldMs), (4, b.tamperCount), (4, b.tamperTime % 2 ^ 32),
    (4, h.backupStatus), (4, h.boot.count)] ++ [(0x100, 256, leVal b.retention)]

/-- A released write of SYS_CONTROL (Table 19.8). -/
def Hub.writeSysControl (v : Nat) (h : Hub) : Hub :=
  if bit v 0 && h.time.running then h.raise .appSafeRequest [] 0 [(6, h.time.tick)] .real else h

/-- SAFE_REQ (R494): the value released to SYS_CONTROL. -/
def execSafeReq (v : Nat) (s : State) : Out := .next (s.modHub (Hub.writeSysControl v))

/-! ### LEDs (R523) -/

inductive Light where
  | dark | steady | flash | fast
deriving DecidableEq, Repr

inductive Colour where
  | green | yellow | red
deriving DecidableEq, Repr

/-- An LED's indication. -/
abbrev Led := Light × Colour

def Led.off : Led := (.dark, .green)

/-- The lamp test: each colour for 0.5 s in turn after a release of reset. -/
def lampTest (since : Nat) (colours : List Colour) (l : Led) : Led :=
  match colours[since / 500000000]? with
  | some c => (.steady, c)
  | none => l

/-- PWR, RUN, SAFE, LANE, NET and SVC (Table 21.3). -/
def Hub.leds (h : Hub) : List Led :=
  let m := h.power.mode
  let t := h.time.now - h.power.resetAt
  let run : Led := if !m.isRunning then Led.off else if h.roleCode = 2 then (.flash, .green)
    else if m = .voted then (.steady, .green) else (.steady, .yellow)
  let safe : Led := if m = .safe then (.steady, .red) else if m = .load ∧ h.boot.images.failed ≠ 0 then (.flash, .red) else Led.off
  let some_ := fun (p : LaneState → Bool) => allLanes.any (fun l => p (h.laneState l))
  let lane : Led := if !m.isRunning then Led.off
    else if m ≠ .split ∧ h.active.length < 3 then (.steady, .red)
    else if some_ (fun x => x == .outvoted || x == .resync) || !some_ (fun x => x == .spareWarm) then (.steady, .yellow)
    else (.steady, .green)
  let net : Led := if h.cfg.net.network.isNone then Led.off
    else if h.faultActive .prpPathLoss [0] && h.faultActive .prpPathLoss [1] then (.steady, .red)
    else if h.anyActive .prpPathLoss || h.anyActive .portLinkDown then (.steady, .yellow) else (.steady, .green)
  let svc : Led := if m = .service then (.steady, .yellow) else if m = .load then (.flash, .yellow)
    else if m.isRunning && (h.anyActive .forceActive || !h.inject.list.isEmpty) then (.fast, .yellow) else Led.off
  if m = .off then List.replicate 6 Led.off else
  [lampTest t [.green] (if m = .dormant then (.flash, .green) else (.steady, .green)), lampTest t [.green, .yellow] run,
   lampTest t [.red] safe, lampTest t [.green, .yellow, .red] lane, lampTest t [.green, .yellow, .red] net, lampTest t [.yellow] svc]

/-! ### GET_STATUS, GET_FAULTS and CLEAR_FAULTS (R498) -/

def anyRunning (s : State) : Bool × Status := modeIs (fun m => m.parser || m == .load || m == .dormant) s

def opGetStatus : OpSpec where
  op := .getStatus
  level := baseLevel .getStatus
  layout := exactly 0
  check := fun s _ _ => firstFail [anyRunning s]
  act := fun r _ s => s.modHub (fun (h : Hub) => h.reply r .getStatus .ok
    (beBytes 1 h.power.mode.code ++ beBytes 1 (b2n h.power.restartWarm) ++ beBytes 1 h.roleCode ++ zeros 1 ++ beBytes 4 h.laneStatesWord ++
      beBytes 4 h.sysStatus ++ beBytes 2 h.power.vinMv ++ beSigned 2 h.power.hubTemp ++ beBytes 6 h.time.tick ++ zeros 2 ++
      beBytes 4 h.faults.seq ++ beBytes 4 Config.build))

def execGetStatus (r : Req) (p : Bytes) (s : State) : Out := .next (opGetStatus.run r p s)

/-- The records GET_FAULTS returns, in ascending sequence. -/
def Hub.faultList (h : Hub) (first : Nat) (activeOnly : Bool) (least : Nat) : List FaultRec :=
  (h.faults.log.reverse.filter (fun r => decide (first ≤ r.seq) && (!activeOnly || r.active) && decide (least ≤ r.name.severity.code))).take 44

def opGetFaults : OpSpec where
  op := .getFaults
  level := baseLevel .getFaults
  layout := exactly 8
  check := fun s _ p => firstFail [anyRunning s, param (decide (u8 p 4 ≤ 1)), param (decide (u8 p 5 ≤ 4)), param (allZero (slice p 6 2))]
  act := fun r p s => s.modHub (fun (h : Hub) =>
    let l := h.faultList (be32 p 0) (u8 p 4 == 1) (u8 p 5)
    let first := match l with | x :: _ => x.seq | [] => 0
    h.reply r .getFaults .ok (beBytes 4 h.faults.seq ++ beBytes 4 first ++ beBytes 1 l.length ++ zeros 3 ++ l.flatMap FaultRec.bytesBe))

def execGetFaults (r : Req) (p : Bytes) (s : State) : Out := .next (opGetFaults.run r p s)

/-- CLEAR_FAULTS: the reply names the bits of SYS_STATUS that it cleared. The other bits follow faults that are active. -/
def opClearFaults : OpSpec where
  op := .clearFaults
  level := baseLevel .clearFaults
  layout := exactly 4
  check := fun s _ p => firstFail [parserMode s, param (allZero p)]
  act := fun r _ s => s.modHub (fun (h : Hub) =>
    let bits := 512 * b2n h.faults.faultNew + 1024 * b2n h.faults.warningSet
    ({ h with faults := { h.faults with faultNew := false, warningSet := false } } : Hub).reply r .clearFaults .ok (beBytes 2 bits))

def execClearFaults (r : Req) (p : Bytes) (s : State) : Out := .next (opClearFaults.run r p s)

/-! ### SET_MODE (R484, R485, R498) -/

/-- The lanes that a mask field names: 0 is the lowest-numbered powered lanes. -/
def Hub.modeMask (h : Hub) (n v : Nat) : Nat :=
  if v ≠ 0 then v
  else laneMask ((allLanes.filter (fun l => (h.laneState l).powered && h.laneState l != .outvoted)).take n)

/-- The mask names exactly n powered, non-OUTVOTED lanes. -/
def Hub.modeMaskOk (h : Hub) (n v : Nat) : Bool :=
  decide (v < 16) && popcount 4 (h.modeMask n v) == n &&
    (bitsSet 4 (h.modeMask n v)).all (fun l => match fin? 4 l with
      | some l => (h.laneState l).powered && h.laneState l != .outvoted
      | none => false)

def opSetMode : OpSpec where
  op := .setMode
  level := baseLevel .setMode
  layout := exactly 4
  twoPhase := fun _ p => inRange 4 6 (u8 p 0)
  check := fun s _ p =>
    let t := u8 p 0
    let m := s.hub.power.mode
    let start := t == 4 || t == 5
    let fits := if start then m == .service else if t = 3 then m != .service else if t = 7 then m != .safe else true
    firstFail [parserMode s, (fits, .wrongMode),
      (t == 7 || (s.hub.power.pending.isNone && s.hub.power.modeAt.isNone), .busy),
      (!(t == 3 && m == .safe && s.hub.inForce .tempCritical), .resourceFault),
      (!(start && u8 p 1 == 1 && s.hub.newestRetained.isNone), .resourceFault),
      param (start || t == 3 || t == 7), param (decide (u8 p 1 ≤ 1)), param (u8 p 3 == 0),
      param (!start || s.hub.modeMaskOk (if t = 4 then 3 else 2) (u8 p 2))]
  act := fun r p s => s.modHub (fun (h : Hub) =>
    match u8 p 0 with
    | 7 =>
      let h := h.raise .safeCommanded [] 0 [(1, r.transport), (3, 0), (4, r.session)] .real
      h.reply r .setMode .ok (beBytes 1 Mode.safe.code ++ beBytes 6 h.time.tick)
    | 3 =>
      let x : ModeAt := { target := .service, tick := h.time.tick + 1 }
      ({ h with power.modeAt := some x } : Hub).defer r .setMode p [2]
    | t =>
      let x : ModePending :=
        { target := if t = 4 then .voted else .duplex, warm := u8 p 1 == 1, mask := h.modeMask (if t = 4 then 3 else 2) (u8 p 2) }
      ({ h with power.pending := some x } : Hub).defer r .setMode p [1])

def execSetMode (r : Req) (p : Bytes) (s : State) : Out := .next (opSetMode.run r p s)

/-- The entry to SERVICE from a running mode or SAFE, at a tick start (Table 5.2, R61, R155, R231, R329). Lanes of group B load the main
schedule again (assumption log 71). -/
def State.returnToService (s : State) : State :=
  let fromSafe := s.hub.power.mode == .safe
  let main := s.hub.mainSchedule.bind s.hub.schedule
  let s := allLanes.foldl (fun (s : State) (l : LaneId) =>
    match s.hub.laneState l with
    | .spareWarm => s.setLaneState l .active 0x0102
    | .splitB =>
      let s := s.setLaneState l .active 0x0102
      match main with
      | some sc => s.modLane l (fun x => { x.load sc with schedule := some sc.number })
      | none => s
    | _ => s) s
  let idle := fun (e : Engine) => { e with regs := Vector.replicate 64 0#32, preds := 1#8, lc0 := 0#32, lc1 := 0#32, loops := [] }
  let s := s.mapLanes (fun _ x => { x with eng := vmap idle x.eng, counters := Vector.replicate 8 0#32 })
  let s := s.modHub (fun (h : Hub) =>
    let h : Hub := { h with
      power := { h.power with modeAt := none }
      vote := { h.vote with split := .none, groupB := 0 }
      sched := { h.sched with running := none, runningB := none } }
    let h := if fromSafe then h.stageRestart else h
    (((h.setMode .service 0x0102).netService).ybService fromSafe).rackService)
  let s := s.loadCalibration true
  s.modHub (fun (h : Hub) => h.finish (fun e => e.op == Opcode.setMode && e.key == [2]) .ok
    (fun _ => beBytes 1 Mode.service.code ++ beBytes 6 h.time.tick))

/-! ### SET_POWER (R486, R487, R543) -/

/-- A target and its actions fit the mode (Tables 19.1, 19.2). -/
def powerFits (m : Mode) (t : Nat) (actions : List Nat) : Bool :=
  let target := match t with
    | 0 => m.parser
    | 1 => m == .service || m == .safe || m == .load || m == .dormant
    | 2 | 3 => m == .service || m == .safe
    | 4 => m == .dormant
    | _ => true
  target && actions.all (fun a => match a with
    | 1 => m == .service || m == .safe
    | 2 | 3 => m.parser
    | _ => true)

/-- The ACTIVE lanes that remain when the lanes of a mask are powered off, and the warm spares that can replace them. -/
def Hub.afterOff (h : Hub) (off cold : Nat) : Nat :=
  let left := (h.active.filter (fun l => !bit off l.val)).length
  let gone := h.active.length - left
  let spares := (allLanes.filter (fun l => h.laneState l == .spareWarm && !bit off l.val && !bit cold l.val)).length
  left + (if h.power.mode = .voted then min gone spares else 0)

/-- R543: lanes may be powered off. -/
def Hub.offAllowed (h : Hub) (off cold : Nat) : Bool :=
  match h.power.mode with
  | .voted => decide (2 ≤ h.afterOff off cold)
  | .duplex | .split => decide (laneMask h.active &&& off = 0)
  | _ => true

/-- Lanes of actions with a code. -/
def actionMask (actions : List Nat) (code : Nat) : Nat := ofBits (actions.map (fun a => a == code))

/-- R543: every action fits its lane's state. -/
def Hub.actionsOk (h : Hub) (actions : List Nat) : Bool :=
  let fits := fun (l : LaneId) => match actions.getD l.val 0, h.laneState l with
    | 1, .off | 1, .spareCold => true
    | 1, _ => false
    | 2, .off => false
    | 3, .spareWarm | 3, .off => true
    | 3, _ => false
    | _, _ => true
  allLanes.all fits && h.offAllowed (actionMask actions 2) (actionMask actions 3)

/-- The accepted actions: a power-on waits for its copy, a power-off and a warm lane's cold spare for the boundary. -/
def State.lanePower (actions : List Nat) (s : State) : State :=
  let one := fun (s : State) (l : LaneId) => match actions.getD l.val 0 with
    | 1 =>
      let s := if s.hub.active.isEmpty then s else s.setLaneState l .resync 0x0103
      s.modHub (fun h => { h with vote.toPower := setBit h.vote.toPower l.val })
    | 2 => s.modHub (fun h => { h with power.laneOff := h.power.laneOff.set l 2 })
    | 3 => if s.hub.laneState l = .off then s.setLaneState l .spareCold 0x0103
           else s.modHub (fun h => { h with power.laneOff := h.power.laneOff.set l 3 })
    | _ => s
  (allLanes.foldl one s).nextPowerCopy

/-- The waiting lane actions at a sentence boundary; one that R543 no longer allows is dropped. -/
def State.laneActions (s : State) : State :=
  let with_ := fun (c : Nat) => allLanes.filter (fun l => s.hub.power.laneOff[l] == c)
  let cold := (with_ 3).filter (fun l => s.hub.laneState l == .spareWarm)
  let off := if s.hub.offAllowed (laneMask (with_ 2)) (laneMask cold) then (with_ 2).filter (fun l => s.hub.laneState l != .off) else []
  if !s.hub.atBoundary || (with_ 2 ++ with_ 3).isEmpty then s else
  let need := (off.filter (fun l => s.hub.laneState l == .active)).length
  let s := s.modHub (fun h => { h with power.laneOff := Vector.replicate 4 0 })
  let s := cold.foldl (fun (s : State) (l : LaneId) => s.setLaneState l .spareCold 0x0103) s
  let s := off.foldl (fun (s : State) (l : LaneId) => s.setLaneState l .off 0x0103) s
  if s.hub.power.mode ≠ .voted ∨ need = 0 then s else
  let spares := (allLanes.filter (fun l => s.hub.laneState l == .spareWarm)).take need
  let s := spares.foldl (fun (s : State) (l : LaneId) => s.setLaneState l .active 0x0103) s
  if s.hub.active.length < 3 then s.modHub (Hub.setMode .duplex 0x0103) else s

/-- The counter write of R477: the reserved, unused leaves return, and no signature follows. -/
def Hub.endSigning (h : Hub) : Hub :=
  { h with boot.sign := { h.boot.sign with copyA := some h.boot.sign.next, copyB := some h.boot.sign.next, ended := true } }

/-- TB3 goes to the RTC at a commanded OFF or DORMANT, while it has a reference (R51). -/
def Hub.lastRtcWrite (h : Hub) : Hub := if h.time.tb3Ref.hasReference then h.writeRtc else h

/-- OFF (R486): everything but OTP, MRAM, NAND and the backup domain is without power. -/
def State.enterOff (s : State) : State :=
  (s.modHub (fun h => h.endSigning.lastRtcWrite)).moduleReset.modHub (fun h => { h with power.booting := false })

/-- DORMANT (R486): lanes, stage and PHYs are off but for the watching port (0 E3, 1 E0); the tick stops and keeps its number. -/
def State.enterDormant (port : Nat) (s : State) : State :=
  let watch := if port = 1 then 0 else 3
  let s := s.modHub (fun (h : Hub) =>
    let h := (h.endSigning.lastRtcWrite.setMode .dormant 0x0103).stageOff
    let h := if h.ybc.enabled then h.ybOff else h
    { h with
      power := { h.power with watchPort := port, pending := none, modeAt := none, laneOff := Vector.replicate 4 0 }
      time := { h.time with running := false, tb0Run := h.tb0Now - h.time.tb0, startAt := none }
      vote := { h.vote with
        laneState := Vector.replicate 4 .off, nextLane := Vector.replicate 4 none, nextMode := none, copy := none, selfTests := []
        split := .none, groupB := 0, toJoin := 0, toPower := 0, engineCopy := [], latentPending := 0 }
      net.ports := vmapIdx (fun p (x : EthPort) => if p = watch then x else { x with up := false, ready := [], current := none }) h.net.ports
      can.ctl := vmap (fun (x : CanCtl) => { x with on := false, attempt := none }) h.can.ctl
      partner.up := Vector.replicate 2 false })
  { s with lanes := Vector.replicate 4 {} }

def opSetPower : OpSpec where
  op := .setPower
  level := baseLevel .setPower
  layout := exactly 8
  check := fun s _ p =>
    let actions := (slice p 2 4).map BitVec.toNat
    firstFail [anyRunning s, (powerFits s.hub.power.mode (u8 p 0) actions, .wrongMode), param (decide (u8 p 0 ≤ 4)),
      param (decide (u8 p 1 ≤ 1)), param (actions.all (fun a => decide (a ≤ 3))), param (allZero (slice p 6 2)),
      param (s.hub.actionsOk actions)]
  act := fun r p s =>
    let actions := (slice p 2 4).map BitVec.toNat
    let s := s.modHub (Hub.reply r .setPower .ok (beBytes 1 (u8 p 0) ++ beBytes 1 (ofBits (actions.map (fun a => a != 0)))))
    let s := s.lanePower actions
    match u8 p 0 with
    | 1 => s.enterOff
    | 2 => s.enterDormant (u8 p 1)
    | 3 => s.resetToLoad
    | 4 => s.modHub Hub.wakeUp
    | _ => s

def execSetPower (r : Req) (p : Bytes) (s : State) : Out := .next (opSetPower.run r p s)

/-! ### RESET_MODULE (R477, R498) -/

def opResetModule : OpSpec where
  op := .resetModule
  level := baseLevel .resetModule
  layout := exactly 4
  check := fun s _ p => firstFail [anyRunning s, param (decide (u8 p 0 ≤ 1)), param (allZero (slice p 1 3))]
  act := fun r p s =>
    let s := s.modHub (fun h => (h.reply r .resetModule .ok []).endSigning)
    if u8 p 0 = 1 then s.resetToLoad else s.moduleReset

def execResetModule (r : Req) (p : Bytes) (s : State) : Out := .next (opResetModule.run r p s)

end Sys2Proof.Machine
end

