-- ==== Sys2Proof/Machine/SchedCmd.lean ====
section
/-! DEFINITION. The schedule opcodes (R111, R112). -/
namespace Sys2Proof.Machine

/-- The 16 bytes of one schedule in the reply (Table 4.14). -/
def Schedule.info (x : Schedule) : Bytes :=
  beBytes 1 x.number ++ beBytes 1 x.kind ++ beBytes 2 x.enginesUsed ++ beBytes 4 x.clauses.length ++ beBytes 4 x.transfers.length ++
    beBytes 4 x.compilerBuild

/-- The reply of GET_SCHEDULE_INFO (Table 4.14). -/
def Hub.scheduleInfo (h : Hub) : Bytes :=
  let c := h.sched
  let n := fun (x : Option Nat) => beBytes 1 (x.getD 0xFF)
  beBytes 4 Config.hwType ++ beBytes 4 h.nCycles ++ beBytes 2 h.sTicks ++ beBytes 1 c.schedules.length ++ n c.selMain ++ n c.selAlt ++
    n c.running ++ n c.runningB ++ zeros 1 ++ fitBytes 32 c.measurement ++ c.schedules.flatMap Schedule.info

def opGetScheduleInfo : OpSpec :=
  { op := .getScheduleInfo, level := baseLevel .getScheduleInfo, layout := exactly 0,
    check := fun s _ _ => firstFail [modeIs Mode.parser s],
    act := fun r _ => fun s => s.modHub (Hub.reply r .getScheduleInfo .ok s.hub.scheduleInfo) }

/-- GET_SCHEDULE_INFO. -/
def execGetScheduleInfo (r : Req) (p : Bytes) (s : State) : Out := .next (opGetScheduleInfo.run r p s)

/-- A schedule of that number and kind exists. -/
def Hub.hasSchedule (h : Hub) (n kind : Nat) : Bool := h.sched.schedules.any (fun x => x.number == n && x.kind == kind)

/-- The ALTERNATIVE selection that a request's byte 1 asks for (R112). -/
def Hub.altChoice (h : Hub) (b : Nat) : Option Nat := if b = 0xFF then h.sched.selAlt else if b = 0xFE then none else some b

def opSelectSchedule : OpSpec :=
  { op := .selectSchedule, level := baseLevel .selectSchedule, layout := exactly 4,
    check := fun s _ p => firstFail [modeIs (fun m => m == .service) s,
      param (s.hub.hasSchedule (u8 p 0) 0 && (decide (0xFE ≤ u8 p 1) || s.hub.hasSchedule (u8 p 1) 1) && be16 p 2 == 0)],
    act := fun r p => fun s => s.modHub (fun h =>
      let alt := h.altChoice (u8 p 1)
      ({ h with sched := { h.sched with selMain := some (u8 p 0), selAlt := alt } }).reply r .selectSchedule .ok
        (beBytes 1 (u8 p 0) ++ beBytes 1 (alt.getD 0xFF))) }

/-- SELECT_SCHEDULE. -/
def execSelectSchedule (r : Req) (p : Bytes) (s : State) : Out := .next (opSelectSchedule.run r p s)

end Sys2Proof.Machine
end

