-- ==== Sys2Proof/Machine/Trace.lean ====
section
/-! DEFINITION. Trace, event counters and the injection opcodes (chapter 20). -/
namespace Sys2Proof.Machine

/-! ### The stream and overflow -/

/-- TRACE_STREAM_SEND (R505): `sent` datagrams of Q52 have left on E3 since the last time; a datagram goes 1 ms after its first record. -/
def execTraceStreamSend (sent now : Nat) (s : State) : Out :=
  .next (s.modHub (fun h =>
    let h := h.at_ now
    let h := { h with trace.streamUsed := h.trace.streamUsed - sent }
    if h.trace.streamStart + 1000000 ≤ h.time.now then h.streamFlush else h))

/-- Detail of TRACE_OVERFLOW (Table 20.7). -/
def Hub.overflowDetail (h : Hub) : Detail := [(1, h.trace.lossSource), (1, h.trace.lossLanes), (2, 0), (4, h.trace.sentenceDrops)]

/-- TRACE_OVERFLOW (R506): the first drop in a sentence raises it, or counts one more sentence while it is active. -/
def execTraceOverflow (s : State) : Out :=
  .next (s.modHub (fun h =>
    let h := if h.trace.reportDue then ({ h with trace.reportDue := false }).raise .traceOverflow [] 0 h.overflowDetail .reportOnly else h
    if h.trace.sentenceDrops ≠ 0 ∧ !h.trace.overflow then
      ({ h with trace.overflow := true }).raise .traceOverflow [] 0 h.overflowDetail h.trace.dropOrigin
    else h))

/-- The end of a sentence: without a drop in it the fault clears (R506). -/
def Hub.traceSentence (h : Hub) : Hub :=
  let h := if h.trace.sentenceDrops = 0 then h.clearFault .traceOverflow [] id else h
  { h with trace.sentenceDrops := 0, trace.overflow := false }

/-- Move a lane's buffered records to the ring (R501). -/
def Hub.drainLane (h : Hub) (l : LaneId) : Hub :=
  (h.trace.laneBuf[l]).foldl (fun (h : Hub) r => h.afterDrop.ringWrite r) { h with trace.laneBuf := h.trace.laneBuf.set l [] }

/-- Apply one SET_TRACE_FILTER: 0 filter and run, 1 stop, 2 clear, filter and run (Table 20.8). -/
def Trace.apply (t : Trace) (a : Nat × TraceFilter) : Trace :=
  match a.1 with
  | 1 => { t with running := false }
  | 2 => { t with
      ring := [], position := 0, readPos := 0, dropped := 0, lossPending := 0, lossLanes := 0, stopped := false, stream := [],
      filter := a.2, running := true }
  | _ => { t with filter := a.2, running := true }

/-- The trace filters and counter selections set for this tick start take effect. -/
def Hub.traceTick (h : Hub) : Hub :=
  let pick := fun (c : EventCounter) => match c.next with | some (e, q) => ({ event := e, qualifier := q } : EventCounter) | none => c
  let t := h.trace.next.foldl Trace.apply { h.trace with next := [] }
  let h := ({ h with trace := t, counters := vmap pick h.counters }).finish (fun (e : Exec) => e.op == Opcode.setTraceFilter) .ok
    (fun _ => beBytes 8 t.position)
  h.count 0xF001 (fun _ => 1)

/-! ### Block 23 (R514) -/

def Hub.block23 (h : Hub) : List (Nat × Nat × Nat) :=
  let c := fun (n : Nat) => vgetN h.counters n {}
  let t := h.trace
  let st := ofBits [t.running && h.time.running, t.stopped, t.filter.streamIp != 0, h.anyActive .traceOverflow]
  (List.range 48).map (fun n => (8 * n, 8, (c n).value)) ++
  (List.range 48).map (fun n => (0x200 + 4 * n, 4, (c n).event + 65536 * (c n).qualifier)) ++
  [(0x300, 4, st), (0x308, 8, t.position), (0x310, 4, t.dropped),
   (0x314, 4, h.inject.list.foldl (fun m j => setBit m j.id) 0),
   (0x318, 4, h.inject.lastDetector + 2 ^ 16 * h.inject.lastId + 2 ^ 24 * (h.inject.lastLeft % 256))]

/-! ### Opcodes (R517) -/

/-- The records from a position on, while they fit in `room` bytes, and the position after them. -/
def takeRecords : Nat → Nat → List (Nat × TraceRec) → Bytes × Nat
  | _, next, [] => ([], next)
  | room, next, (p, r) :: rest =>
    if room < r.size then ([], next)
    else
      let x := takeRecords (room - r.size) (p + r.size) rest
      (r.bytesBe ++ x.1, x.2)

def opReadTrace : OpSpec :=
  { op := .readTrace, level := baseLevel .readTrace, layout := exactly 10,
    check := fun s _ p => firstFail [modeIs Mode.parser s, param (decide (16 ≤ be16 p 8) && decide (be16 p 8 ≤ 1392))],
    act := fun r p => fun s => s.modHub (fun h =>
      let want := be64 p 0
      let t := h.trace
      let held := t.ring.filter (fun e => decide (want ≤ e.1))
      let first := match held with | e :: _ => e.1 | [] => t.position
      let got := takeRecords (be16 p 8) first held
      let flags := b2n (decide (want < t.oldest)) + 2 * b2n t.stopped
      let t' := { t with readPos := got.2 }
      let h := { h with trace := { t' with stopped := t.stopped && !t'.fits 48 } }
      h.reply r .readTrace .ok (beBytes 8 first ++ beBytes 8 got.2 ++ beBytes 8 t.oldest ++ beBytes 1 flags ++ zeros 3 ++ got.1)) }

/-- READ_TRACE. -/
def execReadTrace (r : Req) (p : Bytes) (s : State) : Out := .next (opReadTrace.run r p s)

def opSetTraceFilter : OpSpec :=
  { op := .setTraceFilter, level := baseLevel .setTraceFilter, layout := exactly 36,
    check := fun s _ p => firstFail [modeIs Mode.parser s,
      param (decide (u8 p 0 ≤ 2) && allZero (slice p 1 3) && (u8 p 0 == 1 || (traceFilter be16 be32 be64 (slice p 4 32)).isSome))],
    act := fun r p => fun s => s.modHub (fun h =>
      let f := (traceFilter be16 be32 be64 (slice p 4 32)).getD h.trace.filter
      ({ h with trace.next := h.trace.next ++ [(u8 p 0, f)] }).defer r .setTraceFilter p []) }

/-- SET_TRACE_FILTER. -/
def execSetTraceFilter (r : Req) (p : Bytes) (s : State) : Out := .next (opSetTraceFilter.run r p s)

def opReadCounters : OpSpec :=
  { op := .readCounters, level := baseLevel .readCounters, layout := exactly 4,
    check := fun s _ p => firstFail [modeIs Mode.parser s,
      param (decide (1 ≤ u8 p 1) && decide (u8 p 0 + u8 p 1 ≤ 48) && be16 p 2 == 0)],
    act := fun r p => fun s =>
      let c := fun (i : Nat) => vgetN s.snap.counters (u8 p 0 + i) {}
      let one := fun (i : Nat) => beBytes 2 (c i).qualifier ++ beBytes 2 (c i).event ++ beBytes 8 (c i).value
      s.modHub (Hub.reply r .readCounters .ok (beBytes 6 s.snap.time.tick ++ zeros 2 ++ (List.range (u8 p 1)).flatMap one)) }

/-- READ_COUNTERS. -/
def execReadCounters (r : Req) (p : Bytes) (s : State) : Out := .next (opReadCounters.run r p s)

def opSetCounterEvent : OpSpec :=
  { op := .setCounterEvent, level := baseLevel .setCounterEvent, layout := exactly 6,
    check := fun s _ p => firstFail [modeIs Mode.parser s, param (decide (u8 p 0 < 48) && u8 p 1 == 0 && counterEventOk (be16 p 2))],
    act := fun r p => fun s => s.modHub (fun h =>
      let set := fun (c : EventCounter) => { c with next := some (be16 p 2, be16 p 4) }
      ({ h with counters := vmodN h.counters (u8 p 0) set }).reply r .setCounterEvent .ok (beBytes 6 h.time.nextTick)) }

/-- SET_COUNTER_EVENT. -/
def execSetCounterEvent (r : Req) (p : Bytes) (s : State) : Out := .next (opSetCounterEvent.run r p s)

/-- A start tick that R510 accepts: 0, or 2 ticks after acceptance at the earliest. -/
def startOk (now start : Nat) : Bool := start == 0 || decide (now + 2 ≤ start)

/-- The lowest free injection id. -/
def Inject.freeId (j : Inject) : Nat := ((List.range 8).find? (fun i => !j.list.any (fun x => x.id == i))).getD 0

/-- R510: accept an injection; a repeat count of 0 cancels the pending ones of the detector. -/
def Hub.acceptInjection (r : Req) (d : FaultName) (p : Bytes) (h : Hub) : Hub :=
  let start := if be48 p 12 = 0 then h.time.tick + 2 else be48 p 12
  let n := be16 p 8
  let answer := fun (id n : Nat) => beBytes 1 id ++ zeros 1 ++ beBytes 6 start ++ beBytes 2 n
  if n = 0 then
    ({ h with
      inject.list := h.inject.list.filter (fun j => j.detector != d)
      inject.armed := h.inject.armed.filter (fun a => a.detector != d) } : Hub).draw.reply r .inject .ok
      (answer (Config.cancelId h.free).toNat 0)
  else
    let live := h.power.mode.isRunning
    let id := h.inject.freeId
    let j : Injection :=
      { id := id, detector := d, laneMask := u8 p 2, reportOnly := bit (u8 p 3) 0, resource := be32 p 4, left := n,
        interval := be16 p 10, start := start, live := live }
    let h := { h with inject.list := h.inject.list ++ [j] }
    let det : Detail := [(2, d.code), (1, u8 p 2), (1, u8 p 3), (2, n), (6, start)]
    let h := if live then h.event .injectionArmed [d.code] 0 det .real else h
    h.reply r .inject .ok (answer id n)

def opInject : OpSpec :=
  { op := .inject, level := fun s _ => if s.hub.power.mode.isRunning then 4 else 3, layout := exactly 20, twoPhase := fun _ _ => true,
    check := fun s _ p =>
      let m := s.hub.power.mode
      let d := FaultName.ofCode (be16 p 0)
      let det := match d with | some d => d.isDetector | none => false
      firstFail [(m == .service || m.isRunning, .wrongMode), (det, .notFound),
        (!m.isRunning || bit s.hub.cfg.live (liveBit (be16 p 0)), .wrongMode),
        (be16 p 8 == 0 || decide (s.hub.inject.list.length < 8), .busy),
        param (decide (u8 p 2 < 16) && decide (u8 p 3 < 2) && be16 p 18 == 0 && startOk s.hub.time.tick (be48 p 12))],
    act := fun r p => fun s =>
      match FaultName.ofCode (be16 p 0) with
      | some d => s.modHub (Hub.acceptInjection r d p)
      | none => s }

/-- INJECT. -/
def execInjectCmd (r : Req) (p : Bytes) (s : State) : Out := .next (opInject.run r p s)

/-- Detectors whose injection point lies inside a lane (R508): it acts on the lanes of the mask. -/
def FaultName.inLanes : FaultName → Bool
  | .liveDivergence | .latentDivergence | .latentLimit | .voteResultMismatch | .comparatorSelftest | .tickAlignment | .clauseBudget
  | .illegalAccess | .duplexMismatch | .inputDisagreement | .taskOverrun | .overrunLimit | .forceActive | .sdClockLoss
  | .sdDataStuck | .channelSpread | .calExtrapolation | .tripCoarse | .wireBreak | .channelDiscrepancy | .resetStuck
  | .startupTestPending | .dramCorrected | .dramUncorrectable | .postedWriteFailed | .sramCorrected | .sramUncorrectable => true
  | _ => false

def FaultName.detectors : List FaultName := FaultName.all.filter FaultName.isDetector

def opListDetectors : OpSpec :=
  { op := .listDetectors, level := baseLevel .listDetectors, layout := exactly 4,
    check := fun s _ p => firstFail [modeIs Mode.parser s, param (be16 p 2 == 0)],
    act := fun r p => fun s =>
      let all := FaultName.detectors
      let l := (all.drop (be16 p 0)).take 170
      let one := fun (d : FaultName) => beBytes 2 d.code ++ beBytes 1 d.severity.code ++ beBytes 1 (b2n d.inLanes) ++
        beBytes 1 (b2n (bit s.hub.cfg.live (liveBit d.code))) ++ zeros 3
      s.modHub (Hub.reply r .listDetectors .ok (beBytes 2 all.length ++ beBytes 2 l.length ++ l.flatMap one)) }

/-- LIST_DETECTORS. -/
def execListDetectors (r : Req) (p : Bytes) (s : State) : Out := .next (opListDetectors.run r p s)

end Sys2Proof.Machine
end

