-- ==== Sys2Proof/Machine/Snapshot.lean ====
section
/-! DEFINITION. The hub window as lanes and Parser read it (R20, Table 1.6): each block's registers from the hub's state, for the lanes
as it stood at the tick start (R16). -/
namespace Sys2Proof.Machine

/-- The registers of a block as (offset, width, value). -/
def Hub.block (h : Hub) (n : Nat) : List (Nat × Nat × Nat) :=
  match n with
  | 0 => h.blockSys ++ h.blockRt
  | 1 => h.block1
  | 2 => h.block2
  | 3 => h.block3
  | 4 => h.block4
  | 5 => h.block5
  | 6 => h.block6
  | 7 => h.block7 h.busDirection
  | 16 => h.block16
  | 17 => h.block17
  | 18 => h.block18
  | 19 => h.block19
  | 20 => h.block20
  | 21 => h.block21
  | 22 => h.block22
  | 23 => h.block23
  | _ => []

/-- One byte of a block: the PD data regions (R302), the slot memories of blocks 16 to 18, else a register. -/
def Hub.windowByte (h : Hub) (n off : Nat) : Byte :=
  if 8 ≤ n ∧ n < 12 then h.net.tx.read ((n - 8) * 65536 + off)
  else if 12 ≤ n ∧ n < 16 then h.net.rx.read ((n - 12) * 65536 + off)
  else if n = 16 ∧ 0x1000 ≤ off ∧ off < 0x5000 then h.canSlotByte off
  else if n = 17 ∧ ((0x100 ≤ off ∧ off < 0x900) ∨ (0x4000 ≤ off ∧ off < 0x6000)) then h.ybMemByte off
  else if n = 18 ∧ 0x3000 ≤ off ∧ off < 0x8000 then h.rackMemByte off
  else regByte (h.block n) off

/-- `n` bytes of the window from an offset (R20). -/
def Hub.windowRead (h : Hub) (off n : Nat) : Bytes :=
  (List.range n).map (fun i => h.windowByte ((off + i) / 65536) ((off + i) % 65536))

/-! ### INPUT_STEP (R146, R540) -/

/-- A move into the task's input image: source (lane memory or hub window), destination, length. The destination lies in an
INPUT_IMAGE region of the task. -/
def State.inputMove (l : LaneId) (t : Nat) (s : State) (v : Nat × Nat × Nat) : State :=
  let (src, dst, n) := v
  let ok := match s.hub.cfg.regionAt dst n with | some r => r.kind == 1 && r.task == t | none => false
  let bytes := if windowBase ≤ src ∧ src + n ≤ windowBase + windowSize then some (s.snap.windowRead (src - windowBase) n)
    else if inLaneMemory src n then some ((s.lane l).mem.readN src n) else none
  match ok, bytes with
  | true, some b => s.modLane l (fun x => { x with mem := x.mem.writeN dst b })
  | _, _ => s

/-- INPUT_STEP (R146): in tick b, from c = 1,200. -/
def execInputStep (lane : LaneId) (task : Fin 8) (moves : List (Nat × Nat × Nat)) (s : State) : Out :=
  .next (match s.taskTick lane task with
  | some (j, 0) =>
    let n := (s.lane lane).mem.forces.length
    let s := moves.foldl (fun (s : State) v => s.inputMove lane task.val v) s
    let s := s.modLane lane (Lane.inputStep s.snap task.val j)
    if (s.lane lane).mem.forces.length = n ∧ (n ≠ 0 ∨ !s.hub.faultActive .forceActive []) then s else s.forcesChanged lane
  | _ => s)

end Sys2Proof.Machine
end

