-- ==== Sys2Proof/Machine/Tick.lean ====
section
/-! DEFINITION. The tick start in a lane and in the hub (chapters 01, 02, 05: R16, R29, R30, R32, R40, R115, R121, R128). A lane's row
stands for its own c = 0, the hub's row for the hub's; both belong to the same tick start. -/
namespace Sys2Proof.Machine

/-! ### TICK_START -/

/-- The tick number and TB0 of the tick start at hand, for a lane that starts its first tick: the hub's own tick start may have come
just before (R32, R40). -/
def Hub.startNumbers (h : Hub) : Nat × Nat :=
  let t := h.time
  if t.running && decide (t.now < t.tickAt + h.nCycles / 2) then (t.tick, t.tb0)
  else if t.running then (t.nextTick, ((t.tb0 + h.nCycles : Nat) + (steerStep h.nCycles t.steerPpb t.steerAcc).1).toNat)
  else (t.nextTick, if t.nextTick = 0 then 0 else t.tb0 + h.nCycles)

/-- The lane's tick start: number, TB0, fresh signatures and nothing received yet (R30, R40, R115, R121). -/
def Lane.newTick (n : Nat) (first : Nat × Nat) (l : Lane) : Lane :=
  let fresh := fun (e : Engine) => { e with live := BitVec.allOnes 64, dead := BitVec.allOnes 64 }
  { l with
    tick := if l.started then l.tick + 1 else first.1
    tb0 := if l.started then ((l.tb0 + n : Nat) + l.steerCycles).toNat else first.2
    started := true, steerCycles := 0, offsets := Vector.replicate 4 none
    eng := vmap fresh l.eng, xsig := BitVec.allOnes 64
    outFrame := [], sentOut := none, frames := Vector.replicate 4 none, receipts := Vector.replicate 4 none
    sigs := Vector.replicate 4 none, vecs := Vector.replicate 4 none, vec := none, heard := 0, reports := [] }

/-- The lane's agreement frame from its own samples (Table 5.3); `broken` are DIs whose wire-break status an injection forces. -/
def Lane.sampleFrame (cfg : Cfg) (now broken : Nat) (fines : List Int) (l : Lane) : Lane :=
  let mask := fun (p : DiIn → Bool) => ofBits (l.di.toList.map p)
  let (l, sd) := l.sampleSd cfg now l.tick fines
  { l with
    own := { tick := l.tick % 65536, di := mask DiIn.level, wire := mask DiIn.wireBreak ||| broken, edge := mask DiIn.edge,
             stamps := l.di.toList.map DiIn.stamp, counters := l.counters.toList.map BitVec.toNat, sd := sd }
    di := vmap (fun (d : DiIn) => { d with edge := false }) l.di }

/-- tick_in_cycle of every enabled task (Table 6.3). -/
def Lane.tickInCycle (h : Hub) (l : Lane) : Lane :=
  if !h.power.mode.isRunning || decide (l.tick < h.power.tA) || l.schedule.isNone then l else
  { l with mem := (List.range 8).foldl (fun (m : Mem) t =>
      let p := h.cfg.period t
      if p = 0 then m else m.writeLe (tcbAddr t + 8) 4 ((l.tick - h.power.tA) % p)) l.mem }

/-- What the record of the tick that ends shows of lost clocks and stuck data lines (CLOCK_LOSS_LANES, STUCK_LANES). -/
def Hub.noteRecords (l : LaneId) (f : AgFrame) (h : Hub) : Hub :=
  let q := fun (k b : Nat) => bit (f.sd.getD k {}).quality b
  { h with
    meas.lossLanes := vmapIdx (fun g m => putBit m l.val ((List.range 8).any (fun k => q (8 * g + k) 2))) h.meas.lossLanes
    meas.stuckLanes := vmapIdx (fun k m => putBit m l.val (q k 3)) h.meas.stuckLanes }

/-- The lane action of the decided vector (R128, R129). -/
def State.laneAction (l : LaneId) (s : State) : State :=
  match s.hub.vote.nextLane[l] with
  | some st => s.setLaneState l st 0
  | none => s

/-- DIs whose wire-break status a full injection forces in a lane's frame (Table 9.10). -/
def Hub.forcedBreaks (h : Hub) (l : LaneId) : Nat :=
  ofBits ((List.range 24).map (fun k =>
    (h.armed .wireBreak (fun a => !a.reportOnly && a.resource == k && bit a.lanes l.val)).isSome))

/-- TICK_START (R29): the lane's c = 0. `fines` are the resampler's values of SD0 to SD15. -/
def execTickStart (lane : LaneId) (now : Nat) (fines : List Int) (s : State) : Out :=
  let due := s.hub.time.running || (match s.hub.time.startAt with | some t => decide (t ≤ now) | none => false)
  .next (if !due || !s.powered lane then s else
    let s := s.modHub (Hub.at_ now)
    let s := (s.modHub (Hub.noteRecords lane (s.lane lane).own)).laneAction lane
    if !s.powered lane then s else
    let h := s.hub
    s.modLane lane (fun l => ((l.newTick h.nCycles h.startNumbers).sampleFrame h.cfg h.time.now (h.forcedBreaks lane) fines).tickInCycle h))

/-! ### HUB_TICK_START -/

/-- The tick number, TB0 and the steering of the tick that begins (R30, R37, R39, R40, R49). -/
def Hub.advanceTick (h : Hub) : Hub :=
  let t := h.time
  let st := steerStep h.nCycles t.steerPpb t.steerAcc
  let tb0 := if t.running then ((t.tb0 + h.nCycles : Nat) + st.1).toNat else if t.nextTick = 0 then 0 else t.tb0 + h.nCycles
  let h := { h with time := { t with
    tick := t.nextTick, nextTick := t.nextTick + 1, tb0 := tb0, tb0Run := 0
    tickAt := t.now, first := false, running := true
    startAt := none, steerAcc := if t.running then st.2 else t.steerAcc } }
  if h.tickInSentence = 0 then
    { h with time := { h.time with
      steerActive := h.time.steerEn, steerPpb := if h.time.steerEn then h.time.steerNext else 0 } }
  else h

/-- The ALIGN registers show the offsets of the tick that ended (R54). -/
def State.noteAlign (s : State) : State :=
  let show_ := fun (i : Nat) => (fin? 4 i).bind (fun l => if s.powered l then some (s.lane l).alignOffset else none)
  s.modHub (fun h => { h with time.align := vmapIdx (fun i _ => show_ i) h.time.align })

/-- Lane actions and the mode change of the decided vector that no lane's tick start has taken yet (R128, R129). -/
def State.voteEffects (s : State) : State :=
  let s := allLanes.foldl (fun (s : State) (l : LaneId) => s.laneAction l) s
  match s.hub.vote.nextMode with
  | some m => s.modHub (fun h => ({ h with vote.nextMode := none } : Hub).setMode m 0)
  | none => s

/-- A SET_MODE into SERVICE at its tick (R484). -/
def State.modeEffect (s : State) : State :=
  match s.hub.power.modeAt with
  | some x => if x.tick ≤ s.hub.time.tick then s.returnToService else s
  | none => s

/-- WATCHDOG_IO_STAGE (R231): the hub reads WD_TRIPPED; an injection forces the reading for one tick. -/
def Hub.readWatchdog (h : Hub) : Hub :=
  let (arm, h) := h.takeArm .watchdogIoStage (fun _ => true)
  let det : Detail := [(1, h.cfg.fieldOut.watchdog), (2, h.stage.missCount % 65536)]
  if h.faultActive .watchdogIoStage [] then h
  else if h.stage.wdTripped then h.raise .watchdogIoStage [] 0 det .real
  else match arm with
    | some o => h.raise .watchdogIoStage [] 0 det o
    | none => h

/-- CROSS_SHORT_INPUT (R255): from the test results that the snapshot of this tick shows. -/
def Hub.readTests (h : Hub) : Hub :=
  (List.range 24).foldl (fun (h : Hub) k =>
    let r := vgetN h.stage.testResult k 0
    if r < 2 || h.faultActive .crossShortInput [k] then h else
    let own := (h.cfg.supplyOf k).getD 0xFF
    h.raise .crossShortInput [k] 0 [(1, k), (1, b2n (r == 3)), (1, own), (1, vgetN h.stage.testOther k 0xFF), (1, h.cfg.functionOf k)]
      (if bit h.stage.testInjected k then .injected else .real)) h

/-- Detectors that the lanes evaluate together once in a tick: their applications end with the tick (R510). -/
def FaultName.tickWide : FaultName → Bool
  | .inputDisagreement | .channelSpread | .calExtrapolation | .wireBreak => true
  | _ => false

/-- An application whose detector has been evaluated in the tick that ends. -/
def Hub.applicationOver (h : Hub) (a : Armed) : Bool := a.detector.tickWide || h.safety.evaluated.contains (a.detector.code, a.resource)

/-- What the hub does at a sentence boundary besides. -/
def Hub.boundaryTick (h : Hub) : Hub := if h.tickInSentence = 0 then (h.traceSentence).emit h.syncRec else h

/-- What ends with a tick: lock answers (R411), overrun reports (R157), vectors held, applications of tick-wide detectors, and the
lost-clock bits of lanes without power. -/
def Hub.endTick (h : Hub) : Hub :=
  let live := laneMask (allLanes.filter (fun l => (h.laneState l).powered))
  let h := if h.power.mode = .safe then h.disarmAll else h
  { h with
    locks.answers := Vector.replicate 32 none
    rt.overruns := []
    vote.vecsSA := Vector.replicate 4 none
    vote.vecsSB := Vector.replicate 4 none
    inject.armed := h.inject.armed.filter (fun a => !h.applicationOver a)
    safety.evaluated := []
    meas.lossLanes := vmap (fun m => m &&& live) h.meas.lossLanes
    meas.stuckLanes := vmap (fun m => m &&& live) h.meas.stuckLanes }

/-- The units that act at a tick start: PWM, trip clears, CAN, Yebor bus, rack link, partner link. -/
def Hub.unitsTick (h : Hub) : Hub := h.pwmTick.applyTripClear.canTick.ybTick.rackTick.partnerTick

/-- HUB_TICK_START (R16): the hub's tick start, at the median of the contributing lanes' markers. The hub's input images freeze: `snap`
is what every lane reads in this tick. -/
def execHubTickStart (now : Nat) (s : State) : Out :=
  let due := s.hub.time.running || (match s.hub.time.startAt with | some t => decide (t ≤ now) | none => false)
  .next (if !due then s else
    let s := (s.modHub (fun h => ((((h.at_ now).advanceTick).closeLinkRuns).endTick).evaluateTb3)).noteAlign
    let s := ((s.voteEffects.modeEffect).laneActions.nextPowerCopy).joinMove
    let s := s.modHub Hub.settleSwitches
    let contrib := s.hub.pwm.contrib
    let s := if s.hub.meas.loadNext then s.loadCalibration false else s
    let s := s.clearStuck.modHub (fun h => ((h.unitsTick).readWatchdog).readTests)
    let s := if s.hub.pwm.contrib = contrib then s else s.evalCoarse
    let s := s.modHub (fun h => ((allLanes.foldl Hub.drainLane h.traceTick).boundaryTick).presentRequest)
    { s with snap := s.hub })

end Sys2Proof.Machine
end

