-- ==== Sys2Proof/Machine/Release.lean ====
section
/-! DEFINITION. The release (chapters 01, 05, 10: R15, R20 to R22, R130, R245 to R247, R250, R299, R440): what SA and SB do 0.2 µs after
the hub's tick start, and the writes of hub window registers. -/
namespace Sys2Proof.Machine

/-! ### Register writes (R20 to R22) -/

/-- The bytes of a word, lowest address first (R6). -/
def wordBytes (w : Nat) : Bytes := leBytes 4 w

/-- Replace the 32 bits at bit `lo`. -/
def putWord (v lo w : Nat) : Nat := clearBits v ((2 ^ 32 - 1) * 2 ^ lo) ||| w % 2 ^ 32 * 2 ^ lo

/-- A byte-wise write of a word. -/
def byBytes (f : Nat → Byte → Hub → Hub) (off w : Nat) (h : Hub) : Hub :=
  (List.range 4).foldl (fun (h : Hub) i => f (off + i) ((wordBytes w).getD i 0#8) h) h

/-- Block 0 (Tables 6.7 and 19.7): SYS_CONTROL, RETENTION and the runtime registers. -/
def Hub.writeBlock0 (off w : Nat) (h : Hub) : Hub :=
  if off = 0x0004 then h.writeSysControl w
  else if 0x0100 ≤ off ∧ off < 0x0200 then
    let b := h.backup.retention
    { h with backup.retention := b.take (off - 0x100) ++ wordBytes w ++ b.drop (off - 0x100 + 4) }
  else if off = 0x8060 then { h with rt.applied := w }
  else if off = 0x8064 then { h with rt.result := w }
  else if off = 0x8080 then { h with rt.status := w }
  else if 0x8100 ≤ off ∧ off < 0x8180 then
    let t := (off - 0x8100) / 16
    { h with rt.taskStatus := vmodN h.rt.taskStatus t (fun v => putWord v (8 * (off % 16)) w) }
  else h

/-- Block 3 (Table 7.10): CH_CTRL of one channel. -/
def State.writeChCtrl (k w : Nat) (s : State) : State :=
  let s := s.modHub (Hub.setChannel k (bits w 0 2) (bit w 2))
  match fin? 16 k with
  | some c =>
    let f := s.hub.cfg.sdOf k
    if bit w 3 && f.enabled && f.azMode == 1 && f.azPairs != 0 && s.hub.time.running then
      s.forPowered (fun l => State.modLane l (Lane.azStart c)) else s
  | none => s

/-- Block 4 (Tables 8.3 and 8.5). -/
def Hub.writeBlock4 (off w : Nat) (h : Hub) : Hub :=
  if off = 0x0004 then (if h.power.mode.isRunning then h.setPairCtrl w else h)
  else if off = 0x0018 then (if h.power.mode.isRunning then (h.tripClear w).1 else h)
  else if off = 0x001C then (if h.power.mode.isRunning then (h.tripClear (w % 16 * 2 ^ 32)).1 else h)
  else if off = 0x0058 then (if bit w 0 then { h with pwm.pulseAdjust := Vector.replicate 12 0 } else h)
  else if 0x0100 ≤ off ∧ off < 0x0130 then
    let k := (off - 0x100) / 4
    let h := h.settlePending h.steps
    { h with pwm.compare := vmodN h.pwm.compare k (fun _ => w), pwm.pendAt := 4 * (h.time.tickAt + 300) }
  else h

/-- Block 5 (Table 9.3). -/
def Hub.writeBlock5 (off w : Nat) (h : Hub) : Hub :=
  if off = 0x0004 then { h with safety.doCmd := w % 2 ^ 16 }
  else if off = 0x0008 then { h with safety.soCmd := w % 2 ^ 8 }
  else if off = 0x001C then (if h.power.mode.isRunning then h.channelClear w else h)
  else h

/-- Block 6 (Table 10.6): SF_OUT and SF_STATE. -/
def Hub.writeBlock6 (off w : Nat) (h : Hub) : Hub :=
  if off = 0x0004 then { h with safety.sfOut := w % 2 ^ 8 }
  else if 0x0020 ≤ off ∧ off < 0x0060 then
    { h with safety.sfState := vmodN h.safety.sfState ((off - 0x20) / 8) (fun v => putWord v (8 * (off % 8)) w) }
  else h

/-- A write of one word at an offset of a block, by the voted lanes or by the Parser (owner 0 of a lock). An offset that the owning
chapter does not define, or defines as read only, ignores it (R20). -/
def State.writeWord (parser : Bool) (block off w : Nat) (s : State) : State :=
  match block with
  | 0 => s.modHub (Hub.writeBlock0 off w)
  | 1 => if off = 0x0054 then s.modHub (Hub.writeTbControl w) else s
  | 2 => if off = 0x00D0 then
      let s := if bit w 0 then s.mapLanes (fun _ l => { l with diCount := Vector.replicate 24 0 }) else s
      let s := if bit w 1 then s.modHub (fun h => { h with vote.linkErrors := Vector.replicate 10 0 }) else s
      if bit w 2 then s.modHub (fun h => { h with vote.liveCount := Vector.replicate 4 0 }) else s
    else s
  | 3 => if 0x0040 ≤ off ∧ off < 0x0080 then s.writeChCtrl ((off - 0x40) / 4) w else s
  | 4 => s.modHub (Hub.writeBlock4 off w)
  | 5 => s.modHub (Hub.writeBlock5 off w)
  | 6 => s.modHub (Hub.writeBlock6 off w)
  | 7 => if 0x0080 ≤ off ∧ off < 0x0100 then
      s.modHub (byBytes (fun o b h => h.writePubEnable (o - 0x80) b.toNat) off w) else s
  | 8 | 9 | 10 | 11 => s.modHub (fun h => { h with net.tx := h.net.tx.writeN ((block - 8) * 0x10000 + off) (wordBytes w) })
  | 16 =>
    if 0x0100 ≤ off ∧ off < 0x0500 ∧ off % 0x100 = 0x08 then
      (if s.hub.power.mode.isRunning then s.modHub (Hub.canCtrl (off / 0x100 - 1) w) else s)
    else s.modHub (byBytes (fun o b h => h.canSlotWrite o b) off w)
  | 17 => s.modHub (byBytes (fun o b h => h.ybWrite o b) off w)
  | 18 => if off = 0x0018 then (if s.hub.power.mode.isRunning then s.modHub (Hub.rackEnable w) else s) else s.modHub (byBytes (fun o b h => h.rackWrite o b) off w)
  | 21 =>
    if 0x0100 ≤ off ∧ off < 0x0900 ∧ (off - 0x100) % 0x80 = 0x14 then s.modHub (Hub.consumeB2A ((off - 0x100) / 0x80) w) else s
  | 22 => match fin? 32 (off / 4) with
    | some n => if off < 0x80 && bit w 31 then s.modHub (Hub.lockRelease n (if parser then 0 else 1)) else s
    | none => s
  | _ => s

/-- Registers whose Parser writes are ignored, unlike R22: what only the voted program may write. -/
def parserMayWrite (block off : Nat) : Bool :=
  match block with
  | 0 => off != 0x0004
  | 4 => off != 0x0004 && off != 0x0018 && off != 0x001C && !(decide (0x0100 ≤ off ∧ off < 0x0130))
  | 5 | 6 | 8 | 9 | 10 | 11 | 16 | 17 | 18 | 21 | 23 => false
  | _ => true

/-- The words of an entry, from its offset in the hub windows on: (block, offset, word). -/
def entryWords (off : Nat) (b : Bytes) : List (Nat × Nat × Nat) :=
  (List.range (b.length / 4)).map (fun i => ((off + 4 * i) / 0x10000, (off + 4 * i) % 0x10000, le32 b (4 * i)))

/-- A function's state has been released: the hub raises and clears its faults (R271). -/
def State.sfReleased (old : Vector Nat 8) (words : List (Nat × Nat × Nat)) (s : State) : State :=
  let m := match s.hub.sourceLane with | some l => (s.lane l).mem | none => []
  (List.range 8).foldl (fun (s : State) n =>
    if words.any (fun w => w.1 == 6 && (w.2.1 - 0x20) / 8 == n && decide (0x20 ≤ w.2.1 ∧ w.2.1 < 0x60)) then
      s.modHub (Hub.sfFaults n (vgetN old n 0) m) else s) s

/-- Apply voted words in order, then what the Parser answers from them (R159) and MB0's waiting replies (R442, R449). -/
def State.applyWords (words : List (Nat × Nat × Nat)) (s : State) : State :=
  let old := s.hub.safety.sfState
  let s := words.foldl (fun (s : State) w => s.writeWord false w.1 w.2.1 w.2.2) s
  (s.sfReleased old words).modHub (fun h => (if words.any (fun w => w.1 == 0 && w.2.1 == 0x8060) then h.rtApplied else h).mb0Fill)

/-! ### The vote of the output frames (R130, R245) -/

/-- The bytes of a voted frame that its CRC-64 covers: tick, entries with their offset and length words, and data (R125). -/
def OutFrame.bytes (f : OutFrame) : Bytes :=
  leBytes 2 f.tick ++ leBytes 2 f.entries.length ++
    f.entries.flatMap (fun e => leBytes 4 (e.1 % 2 ^ 21 + (e.2.length / 4 - 1) * 2 ^ 21) ++ e.2)

/-- The used frames of a half. -/
def Hub.usedFrames (h : Hub) (v : Vector (Option OutFrame) 4) : List (LaneId × OutFrame) :=
  match h.vote.decided with
  | none => []
  | some field => h.active.filterMap (fun l =>
      match v[l] with
      | some f => if (verdictOf field l == vOk || verdictOf field l == vDeadOnly) &&
          f.tick == (h.time.tick + 65535) % 65536 then some (l, f) else none
      | none => none)

/-- The voted content of a half: held by at least two used frames, and by more of them than any other. -/
def votedFrame (used : List (LaneId × OutFrame)) : Option OutFrame :=
  let fs := used.map Prod.snd
  fs.find? (fun f => decide (2 ≤ keyCount fs f) && fs.all (fun x => x == f || decide (keyCount fs x < keyCount fs f)))

/-- At least two used frames reached a half and no content is held by two of them. -/
def frameConflict (used : List (LaneId × OutFrame)) : Bool := decide (2 ≤ used.length) && (votedFrame used).isNone

/-- The detail of an output frame mismatch (Table 5.15, source 1). -/
def frameDetail : Detail := [(1, 1), (1, 0), (2, 0), (4, 0), (4, 0)]

/-- Used frames that disagree in VOTED, DUPLEX and group A (R130). -/
def Hub.frameMismatch (used : List LaneId) (h : Hub) : Hub :=
  match h.power.mode with
  | .voted => h.noMajority 0
  | .duplex | .split => h.raise .duplexMismatch [] (laneMask used) frameDetail .real
  | _ => h

/-- A used frame that differs from the released one forces verdict LIVE for its lane in the next vote (R130). -/
def Hub.noteDissent (used : List (LaneId × OutFrame)) (f : OutFrame) (h : Hub) : Hub :=
  if h.power.mode != .voted then h
  else { h with vote.forcedLive := h.vote.forcedLive ||| laneMask ((used.filter (fun u => u.2 != f)).map Prod.fst) }

/-- The frame that SA and SB hand to the stage after a release (R230, R250, Table 15.3). -/
def Hub.stageFrame (h : Hub) : StageFrame :=
  { tick := h.time.tick
    dos := if h.roleCode = 2 then 0 else h.safety.doCmd
    sos := if h.roleCode = 2 then 0 else h.soEffective
    safe := !h.power.mode.isRunning }

/-- The requests whose effect is a Parser write at this release: (request, registers written). -/
def Hub.parserRequests (h : Hub) : List (Exec × List (Nat × Nat)) :=
  (h.cmd.exec.filter (fun e => e.key.headD 0 == 22)).map (fun e =>
    (e, if e.op == Opcode.setPreset then (bitsSet 16 (be16 e.params 0)).map (fun k => (3, 0x40 + 4 * k)) else [(1, 0x54)]))

/-- A Parser write of a request, applied or overridden by a voted write to the same register (R22). -/
def Hub.parserRequest (words : List (Nat × Nat × Nat)) (h : Hub) (e : Exec × List (Nat × Nat)) : Hub :=
  let this := fun (x : Exec) => x == e.1
  if words.any (fun w => e.2.contains (w.1, w.2.1)) then h.finish this .busy (fun _ => [])
  else if e.1.op == Opcode.setPreset then
    (h.applySetPreset e.1.params).finish this .ok (fun x => h.replySetPreset x.params)
  else
    let h := h.applySelectTimeDomain e.1.params
    h.finish this .ok (fun _ => h.replySelectTimeDomain)

/-- The Parser's writes of this release (R22). -/
def State.parserRelease (words : List (Nat × Nat × Nat)) (s : State) : State :=
  let mine := s.hub.vote.parserWrites.filter (fun w => !words.any (fun v => v.1 == w.1 && v.2.1 == w.2.1))
  let s := s.modHub (fun h => { h with vote.parserWrites := [] })
  let s := mine.foldl (fun (s : State) w => s.writeWord true w.1 w.2.1 w.2.2) s
  s.modHub (fun h => h.parserRequests.foldl (Hub.parserRequest words) h)

/-- What the two halves decide: the frame both hold, with the lanes used; or nothing, with the faults of R130 and R246. -/
def State.crossCheck (s : State) : State × Option (OutFrame × List (LaneId × OutFrame)) :=
  let a := s.hub.usedFrames s.hub.vote.framesSA
  let b := s.hub.usedFrames s.hub.vote.framesSB
  let s := s.modHub (fun h => { h with
    safety := { h.safety with saUsed := laneMask (a.map Prod.fst), sbUsed := laneMask (b.map Prod.fst), halvesAgree := false } })
  if frameConflict a then (s.modHub (Hub.frameMismatch (a.map Prod.fst)), none)
  else if frameConflict b then (s.modHub (Hub.frameMismatch (b.map Prod.fst)), none)
  else match votedFrame a, votedFrame b with
    | some x, some y =>
      if crc64 x.bytes = crc64 y.bytes then
        ((s.modHub (fun h => { h with safety.halvesAgree := true })).modHub (fun h => (h.noteDissent a x).noteDissent b x),
          some (x, a.filter (fun u => b.any (fun v => v.1 == u.1))))
      else (s.modHub (Hub.lockstep 1 0 .real), none)
    | _, _ => (s, none)

/-- A voted doorbell of a bus queue; from the SAFE decision on only those of Q45 are applied (R320, R338, R370). -/
def Hub.busBellNow (q : Nat) (v : Bytes) (h : Hub) : Hub := if h.power.mode = .safe ∧ q ≠ 45 then h else h.busBell q v

/-- Pushes and doorbells of the tick (R299, R440) from the lanes used, and what was held for the release is gone. -/
def Hub.endRelease (used : List LaneId) (h : Hub) : Hub :=
  let h := (h.mbRelease used 2).applyBells used 2 (fun q v h => h.busBellNow q v)
  { h with
    vote.framesSA := Vector.replicate 4 none
    vote.framesSB := Vector.replicate 4 none
    vote.decided := none }

/-- OUTPUT_VOTE_RELEASE (R245): SA and SB vote the output frames of the last tick, compare, and release. From the SAFE decision on the
release carries the SAFE frames of R246; the one that follows it at once carries nothing of the lanes. -/
def execOutputVoteRelease (s : State) : Out :=
  .next (if !s.hub.time.running then s
    else if s.hub.power.safeFrames then
      let s := s.modHub (fun h => { h with power.safeFrames := false, stage.sent := some h.stageFrame })
      (s.parserRelease []).modHub (Hub.endRelease [])
    else
      let (s, got) := s.crossCheck
      match got with
      | some (f, used) =>
        let words := f.entries.flatMap (fun e => entryWords e.1 e.2)
        let s := (s.applyWords words).parserRelease words
        (s.modHub (Hub.endRelease (used.map Prod.fst))).modHub (fun h =>
          if h.power.safeFrames then { h with stage.sent := none } else { h with stage.sent := some h.stageFrame })
      | none =>
        let s := (s.parserRelease []).modHub (Hub.endRelease [])
        s.modHub (fun h => { h with stage.sent := if h.power.mode = .safe ∧ !h.power.safeFrames then some h.stageFrame else none }))

/-- REGISTER_WRITE (R21, R22): a write of a word to a hub window register, by the voted lanes as a part of their release, or by the Parser:
that one waits for the next release while the tick runs. -/
def execRegisterWrite (parser : Bool) (block : Fin 25) (off w : Nat) (s : State) : Out :=
  let o := off % 0x10000 / 4 * 4
  let v := w % 2 ^ 32
  .next (if !parser then (if s.hub.time.running then s.applyWords [(block.val, o, v)] else s)
    else if !parserMayWrite block.val o then s
    else if block.val = 22 || !s.hub.time.running then s.writeWord true block.val o v
    else s.modHub (fun h => { h with vote.parserWrites := h.vote.parserWrites ++ [(block.val, o, v)] }))

end Sys2Proof.Machine
end

