-- ==== Sys2Proof/Machine/Interp.lean ====
section
/-! DEFINITION. The command interpreter (chapter 17: R419 to R436, R442, R447, R449): reception and steps 1 to 7 of R424, sessions,
forwarding, authentication failures, the command stream of MB0, and side B's takes. -/
namespace Sys2Proof.Machine

/-- The meaning of each opcode (Table 17.6). -/
def Opcode.spec : Opcode → OpSpec
  | .getStatus => opGetStatus
  | .setMode => opSetMode
  | .setPower => opSetPower
  | .resetModule => opResetModule
  | .getFaults => opGetFaults
  | .clearFaults => opClearFaults
  | .getScheduleInfo => opGetScheduleInfo
  | .selectSchedule => opSelectSchedule
  | .laneBringIn => opLaneBringIn
  | .split => opSplit
  | .join => opJoin
  | .laneSelfTest => opLaneSelfTest
  | .readVariable => opReadVariable
  | .writeVariable => opChange .writeVariable 1
  | .changeConstant => opChange .changeConstant 2
  | .commitChanges => opCommitChanges
  | .force => opForce
  | .unforce => opUnforce
  | .listForces => opListForces
  | .getChannel => opGetChannel
  | .setPreset => opSetPreset
  | .calibratePoint => opCalibratePoint
  | .storeCalibration => opStoreCalibration
  | .getPortStatus => opGetPortStatus
  | .setIpConfig => opSetIpConfig
  | .substitutePort => opSubstitutePort
  | .getPtpStatus => opGetPtpStatus
  | .selectTimeDomain => opSelectTimeDomain
  | .getIoStatus => opGetIoStatus
  | .testOutput => opTestOutput
  | .getPartnerStatus => opGetPartnerStatus
  | .switchover => opSwitchover
  | .setRolePolicy => opSetRolePolicy
  | .getWear => opGetWear
  | .substitute => opSubstitute
  | .beginImage => opBeginImage
  | .imageData => opImageData
  | .endImage => opEndImage
  | .confirmImage => opConfirmImage
  | .getImages => opGetImages
  | .attest => opAttest
  | .getIdentity => opGetIdentity
  | .setCommandKey => opSetCommandKey
  | .readTrace => opReadTrace
  | .setTraceFilter => opSetTraceFilter
  | .readCounters => opReadCounters
  | .setCounterEvent => opSetCounterEvent
  | .inject => opInject
  | .listDetectors => opListDetectors
  | .getCanStatus => opGetCanStatus
  | .canRecover => opCanRecover
  | .canSetListen => opCanSetListen
  | .getYbStatus => opGetYbStatus
  | .ybRestart => opYbRestart
  | .getStationStatus => opGetStationStatus
  | .rackRead => opRackRead
  | .rackWrite => opRackWrite
  | .rescan => opRescan
  | .getTripStatus => opGetTripStatus
  | .tripClear => opTripClear
  | .getSafetyStatus => opGetSafetyStatus
  | .mbStatus => opMbStatus

/-! ### Transports (R419) -/

/-- Whether packets of a transport reach the interpreter now (Table 17.1). In DORMANT only those of the watching port do (assumption
log 75). -/
def Hub.receives (h : Hub) (transport source : Nat) : Bool :=
  let m := h.power.mode
  let consist := match h.cfg.net.network with | some n => bit n.flags 0 | none => false
  match transport with
  | 0 => m.parser || m == .load || (m == .dormant && h.power.watchPort == 0)
  | 1 => consist && (m.parser || (m == .dormant && h.power.watchPort == 1))
  | 2 => m.parser && h.rackDriving && (match h.stationCfg source with | some c => c.host | none => false)
  | 3 => m.parser && h.cfg.partner.enabled
  | 4 => m.parser
  | _ => false

/-! ### The header (Tables 17.2 and 17.3) -/

/-- The request a packet's header spells; a FORWARD request of the partner is refused at step 9 (R422). -/
def packetReq (transport source port : Nat) (b : Bytes) : Req :=
  let flags := u8 b 3
  let session := be32 b 12
  let slot := u8 b 19
  let fixed := allZero (slice b 16 2) && allZero (slice b 20 4) && decide (flags < 16)
  let mb0 := transport != 4 || (session == 0 && slot == 0xFF)
  { transport := transport, source := source, port := port, slot := slot, session := session, seq := be32 b 8, authority := u8 b 18,
    confirm := bit flags 2, forward := bit flags 3, headerOk := fixed && mb0 && !(transport == 3 && bit flags 3) }

/-- A reply with no parameters and a TAG of sixteen zero bytes (R425); MB0 carries no TAG. -/
def Hub.untagged (h : Hub) (r : Req) (opcode : Nat) (st : Status) : Bytes :=
  (h.replyPacket r opcode st (replyFlags r false false) []).take 24 ++ (if r.transport = 4 then [] else zeros 16)

/-! ### Refusals before authentication (R425) -/

def AuthSource.is (r : Req) (a : AuthSource) : Bool := a.transport == r.transport && a.source == r.source && a.port == r.port

def Hub.authSource (h : Hub) (r : Req) : AuthSource :=
  (h.cmd.auth.find? (AuthSource.is r)).getD { transport := r.transport, source := r.source, port := r.port }

def Hub.setAuth (r : Req) (a : AuthSource) (h : Hub) : Hub :=
  { h with cmd.auth := h.cmd.auth.filter (fun x => !x.is r) ++ [a] }

/-- Instants less than 1 s ago. -/
def lastSecond (now : Nat) (l : List Nat) : List Nat := l.filter (fun t => decide (now < t + 1000000000))

/-- A failure at step 4 or 5 is counted: the sixteenth within 1 s starts a burst, whose record every further failure repeats. The burst is
over once a full second has passed with fewer than 16. -/
def Hub.authFailure (r : Req) (h : Hub) : Hub :=
  let now := h.time.now
  let a := h.authSource r
  let recent := lastSecond now a.failures
  let going := match a.burst with
    | some t => if t + 1000000000 ≤ now ∧ recent.length < 16 then none else some t
    | none => none
  let burst := going.or (if 15 ≤ recent.length then some now else none)
  let h := h.setAuth r { a with failures := recent ++ [now], burst := burst }
  match burst with
  | some t => h.raiseEvent (fun _ => true) .authFailureBurst [r.transport, r.source, r.port, t] 0
      [(1, r.transport), (1, if r.transport = 2 then r.source else 0), (2, 0), (4, if r.transport ≤ 1 then r.source else 0)] .real
  | none => h

/-- A request that fails step 1 to 5: at most 10 untagged replies per second to each source. -/
def Hub.refuse (r : Req) (opcode : Nat) (st : Status) (h : Hub) : Hub :=
  let h := if st = .authFailed then h.authFailure r else h
  let a := h.authSource r
  let recent := lastSecond h.time.now a.replies
  if 10 ≤ recent.length then h.setAuth r { a with replies := recent }
  else (h.setAuth r { a with replies := recent ++ [h.time.now] }).sendPackets r [h.untagged r opcode st]

/-! ### Sessions (R427 to R429) -/

/-- What step 6 finds: a new request, a SEQUENCE not to be accepted, the repeat of the last request answered, or of one in execution. -/
inductive Admission where
  | accept
  | replay
  | again (packets : List Bytes)
  | busy
deriving DecidableEq, Repr

/-- A session is removed after 300 s idle. MB0's is no entry of the table (assumption log 76). -/
def Session.live (now : Nat) (x : Session) : Bool := x.transport == 4 || decide (now < x.lastUse + 300000000000)

/-- A full table gives up the session that has been idle longest. -/
def makeRoom (l : List Session) : List Session :=
  let mine := l.filter (fun x => x.transport != 4)
  if mine.length < 16 then l
  else match sortBy (fun (a b : Session) => decide (a.lastUse ≤ b.lastUse)) mine with
    | x :: _ => l.filter (fun y => y != x)
    | [] => l

def Session.fresh (r : Req) (now : Nat) : Session :=
  { transport := r.transport, source := r.source, port := r.port, slot := r.slot, session := r.session, high := r.seq, seen := [r.seq],
    lastUse := now }

/-- A SEQUENCE above H, or one of the 64 values ending at H not yet accepted, is marked as seen. -/
def Session.mark (q : Nat) (x : Session) : Option Session :=
  if x.high < q then some { x with high := q, seen := q :: x.seen.filter (fun v => decide (q ≤ v + 63)) }
  else if x.high ≤ q + 63 ∧ x.seen.contains q = false then some { x with seen := q :: x.seen }
  else none

/-- MB0: SEQUENCE must exceed H (R428). -/
def Hub.admissionMb0 (r : Req) (h : Hub) : Hub × Admission :=
  let high := match h.cmd.mb0Seq with | some q => decide (q < r.seq) | none => true
  if high then
    let l := if h.cmd.sessions.any (fun x => x.matches r) then h.cmd.sessions else h.cmd.sessions ++ [Session.fresh r h.time.now]
    ({ h with cmd := { h.cmd with sessions := l, mb0Seq := some r.seq } }, .accept)
  else (h, .replay)

/-- Step 6 of R424. -/
def Hub.admission (r : Req) (tag : Bytes) (h : Hub) : Hub × Admission :=
  let now := h.time.now
  if r.transport = 4 then h.admissionMb0 r
  else if r.session = 0 then (h, .replay)
  else
    let live := h.cmd.sessions.filter (Session.live now)
    let put := fun (y : Session) => live.map (fun x => if x.matches r then { y with lastUse := now } else x)
    match live.find? (fun x => x.matches r) with
    | none =>
      let k := vgetN h.cmd.keys r.slot {}
      if r.session ≤ k.highestSession then ({ h with cmd.sessions := live }, .replay)
      else
        let keys := vmodN h.cmd.keys r.slot (fun k => { k with highestSession := r.session })
        ({ h with cmd := { h.cmd with sessions := makeRoom live ++ [Session.fresh r now], keys := keys } }, .accept)
    | some x =>
      let touched : Hub := { h with cmd.sessions := put x }
      let repeated := match x.last with | some l => if l.1 = r.seq ∧ l.2.1 = tag then some l.2.2 else none | none => none
      match repeated with
      | some pkts => (touched, .again pkts)
      | none =>
        if h.cmd.exec.any (fun e => e.req == r) && h.cmd.tags.contains (r, tag) then (touched, .busy)
        else match x.mark r.seq with
          | some y => ({ h with cmd.sessions := put y }, .accept)
          | none => (touched, .replay)

/-- SESSION_EXPIRY (R427): sessions idle for 300 s are removed. -/
def execSessionExpiry (now : Nat) (s : State) : Out :=
  .next (s.modHub (fun (h : Hub) =>
    let h := h.at_ now
    { h with cmd.sessions := h.cmd.sessions.filter (Session.live h.time.now) }))

/-! ### Forwarding (R422) -/

/-- The header fields that a reply repeats: OPCODE, SEQUENCE, SESSION, AUTHORITY and KEY_SLOT (R430). -/
def headerKey (b : Bytes) : Bytes := slice b 4 2 ++ slice b 8 8 ++ slice b 18 2

/-- A FORWARD request goes to the partner unchanged; without a lane UP it is answered RESOURCE_FAULT with an all-zero tag. -/
def Hub.forward (r : Req) (b : Bytes) (h : Hub) : Hub :=
  if h.linksUp = 0 then h.sendPackets r [h.untagged r (be16 b 4) .resourceFault]
  else
    let e := (r.transport, r.source, r.port, headerKey b)
    ({ h with cmd.forwarded := h.cmd.forwarded.filter (fun x => x != e) ++ [e] }).partnerSend 6 b

/-- The partner's reply goes back unchanged over the original transport; its last fragment ends the forwarding. -/
def Hub.forwardBack (b : Bytes) (h : Hub) : Hub :=
  match h.cmd.forwarded.find? (fun x => x.2.2.2 == headerKey b) with
  | none => h
  | some e =>
    let r : Req := { transport := e.1, source := e.2.1, port := e.2.2.1, slot := 0, session := 0, seq := 0, authority := 0 }
    let h := if bit (u8 b 3) 1 then h else { h with cmd.forwarded := h.cmd.forwarded.filter (fun x => x != e) }
    h.sendPackets r [b]

/-! ### Checks (R424) -/

/-- Steps 7 to 11 for a request that step 6 accepted. -/
def State.dispatch (r : Req) (opcode : Nat) (p tag : Bytes) (s : State) : State :=
  let s := s.modHub (fun (h : Hub) => ({ h with cmd.tags := h.cmd.tags ++ [(r, tag)] } : Hub).count 0xF00B (byMask 0 r.transport))
  match Opcode.ofCode opcode with
  | some o => o.spec.run r p s
  | none => s.modHub (Hub.replyCode r opcode .unknownOpcode [])

/-- Step 6 and what follows it. A repeat is answered from the kept packets, and a repeat of a request in execution BUSY. -/
def State.authenticated (r : Req) (opcode : Nat) (p tag : Bytes) (s : State) : State :=
  let a := s.hub.admission r tag
  let s := { s with hub := a.1 }
  let plain := fun (st : Status) (h : Hub) => h.sendPackets r (h.replyPackets r opcode st [])
  match a.2 with
  | .again pkts => s.modHub (Hub.sendPackets r pkts)
  | .replay => s.modHub (plain .replay)
  | .busy => s.modHub (plain .busy)
  | .accept => s.dispatch r opcode p tag

/-- Steps 4 and 5: the slot's level equals AUTHORITY, and the TAG holds under its key. -/
def Hub.authentic (h : Hub) (r : Req) (body tag : Bytes) : Bool :=
  let k := vgetN h.cmd.keys r.slot {}
  r.transport == 4 || (decide (r.slot < 32) && k.level != 0 && k.level == r.authority && (hmac k.key body).take 16 == tag)

/-- A command packet as the interpreter reads it: steps 1 to 5 of R424 and the forwarding of R422, then the rest. -/
def State.command (transport source port : Nat) (b : Bytes) (s : State) : State :=
  let r := packetReq transport source port (fitBytes 24 b)
  let opcode := be16 (fitBytes 24 b) 4
  let n := be16 (fitBytes 24 b) 6
  let size := if transport = 4 then 24 + n else 40 + n
  let flags := u8 b 3
  let refuse := fun (st : Status) => s.modHub (Hub.refuse r opcode st)
  if s.hub.silent then s
  else if b.take 2 ≠ [0x59#8, 0x42#8] then refuse .badMagic
  else if u8 b 2 ≠ 1 then refuse .badVersion
  else if b.length ≠ size ∨ 1472 < b.length then refuse .badLength
  else if r.forward = true ∧ transport ≠ 3 then s.modHub (Hub.forward r b)
  else if bit flags 0 || bit flags 1 then refuse .badLength
  else if !s.hub.authentic r (b.take (24 + n)) (b.drop (24 + n)) then refuse .authFailed
  else s.authenticated r opcode (slice b 24 n) (b.drop (24 + n))

/-- COMMAND_PACKET_RECEIVED (R424): a whole packet from a source of a transport: IPv4 address and UDP port, station number, or 0. -/
def execCommandPacketReceived (transport source port : Nat) (packet : Bytes) (now : Nat) (s : State) : Out :=
  let s := s.modHub (Hub.at_ now)
  .next (if s.hub.receives transport source then s.command transport source port packet else s)

/-! ### MB0 (R449) -/

/-- Read the command stream: words are discarded up to one that begins a packet, with one BAD_MAGIC for the run; a packet longer than
R423 allows is answered BAD_LENGTH and begins such a run (assumption log 77). -/
def State.mb0Run : Nat → State → State
  | 0, s => s
  | fuel + 1, s =>
    let b := s.hub.cmd.mb0
    let keep := fun (rest : Bytes) (bad : Bool) (s : State) => s.modHub (fun (h : Hub) => { h with cmd := { h.cmd with mb0 := rest, mb0Bad := bad } })
    let refuse := fun (st : Status) (hd : Bytes) (s : State) =>
      s.modHub (Hub.refuse (packetReq 4 0 0 (fitBytes 24 hd)) (be16 (fitBytes 24 hd) 4) st)
    if b.length < 4 then s
    else if b.take 2 ≠ [0x59#8, 0x42#8] then
      State.mb0Run fuel (keep (b.drop 4) true (if s.hub.cmd.mb0Bad then s else refuse .badMagic (b.take 4) s))
    else if b.length < 24 then keep b false s
    else
      let size := 24 + be16 b 6
      if 1472 < size then State.mb0Run fuel (keep (b.drop 4) true (refuse .badLength (b.take 24) s))
      else if b.length < (size + 3) / 4 * 4 then keep b false s
      else State.mb0Run fuel ((keep (b.drop ((size + 3) / 4 * 4)) false s).command 4 0 0 (b.take size))

/-- Words of MB0 reach the interpreter. -/
def State.mb0Words (w : List Word) (s : State) : State :=
  let s := s.modHub (fun (h : Hub) => { h with cmd.mb0 := h.cmd.mb0 ++ w.flatMap (fun (x : Word) => beBytes 4 x.toNat) })
  s.mb0Run (s.hub.cmd.mb0.length / 4 + 1)

/-- MAILBOX_TAKE (R442): side PARSER takes up to `count` words of A→B, and those of MB0 are a command stream; the words of a mailbox with
the partner are sent. Words for a station wait for its host poll. -/
def execMailboxTake (n : Fin 16) (count now : Nat) (s : State) : Out :=
  let s := s.modHub (Hub.at_ now)
  let m := s.hub.box n
  .next (
    if s.hub.power.mode.parser = false ∨ s.hub.silent = true then s
    else if m.sideB = 2 then
      let r := s.hub.mbTake n 0 (min count 8)
      let s := { s with hub := r.1 }
      if n = 0 then s.mb0Words r.2 else s
    else s.modHub (Hub.mbForward n))

/-! ### The wake (R447) -/

/-- MAILBOX_WAKE (R447): a frame on P-LINK A in DORMANT. Only a MAILBOX frame with op WORDS counts: its words are kept, no reply is sent,
and the module wakes. -/
def execMailboxWake (frame : Bytes) (now : Nat) (s : State) : Out :=
  .next (s.modHub (fun (h : Hub) =>
    let h := h.at_ now
    let b := partnerPayload frame
    let words := (List.range (u8 b 2)).map (fun i => BitVec.ofNat 32 (be32 b (4 + 4 * i)))
    let fits := u8 b 1 == 1 && decide (1 ≤ words.length ∧ words.length ≤ 8 ∧ 4 + 4 * words.length ≤ b.length) && decide (u8 b 0 < 16)
    if h.power.mode = .dormant ∧ h.cfg.partner.enabled = true ∧ partnerFrameOk frame = true ∧ u8 frame 0 = 7 ∧ fits = true ∧
        (h.box (u8 b 0)).sideB = 4 then
      (h.mbKeep (u8 b 0) (u8 b 3) words).1.wakeUp
    else h))

end Sys2Proof.Machine
end

