-- ==== Sys2Proof/Machine/LinkIn.lean ====
section
/-! DEFINITION. What arrives over the rack link and the partner link: station replies in their windows, host stations (R359, R367, R371,
R421, R446), and partner frames of every type (R379, Table 15.1). -/
namespace Sys2Proof.Machine

/-! ### Station replies -/

/-- A packet that counts as not received (R356). -/
def Hub.rackBad (h : Hub) : Hub :=
  h.modRack (fun k => { k with crcErrors := satAdd 32 k.crcErrors 1, windowBad := k.windowBad || k.window.isSome })

/-- TAG is zero in types that belong to no split transaction. -/
def rackTagOk (b : Bytes) : Bool := [0x02, 0x04, 0x0C, 0x0D].contains (u8 b 2) || u8 b 1 == 0

/-- The replies that a window permits (R359, R365, R371, R446). -/
def RackAsk.permits (ask : RackAsk) (type : Nat) : Bool :=
  match ask with
  | .exchange _ => type == 0x06 || type == 0x0D
  | .identify => type == 0x08
  | .request _ => type == 0x02 || type == 0x04 || type == 0x0C || type == 0x0D
  | .poll => type == 0x02 || type == 0x04 || type == 0x0A || type == 0x0B || type == 0x0C
  | .frame => type == 0x0C || type == 0x0D

/-- A NAK completes the request with its status (R359), or fails the exchange. -/
def Hub.rackNak (i : Nat) (ask : RackAsk) (status : Nat) (h : Hub) : Hub :=
  match ask with
  | .exchange _ => h.modStation i (fun x => { x with lastExchange := 3, failed := satAdd 32 x.failed 1 })
  | .request tag => match vgetN h.rack.tags tag none with
    | some t => (h.modRack (fun k => { k with tags := vmodN k.tags tag (fun _ => none) })).rackComplete t.req (min status 2) []
    | none => h
  | _ => h

/-- A COMMAND part of a host station (R421): parts continue the bytes held, and LAST passes the packet on. -/
def State.rackPart (i : Nat) (b : Bytes) (s : State) : State :=
  let now := s.hub.time.now
  let x := s.hub.station i
  let held := match x.parts with | some (t, d) => if now < t + 100000000 then some (t, d) else none | none => none
  let d := held.getD (now, [])
  let put := fun (p : Option (Nat × Bytes)) => s.modHub (Hub.modStation i (fun y => { y with parts := p }))
  if be16 b 0 ≠ d.2.length then put held
  else
    let all := d.2 ++ b.drop 4
    if bit (u8 b 2) 0 then
      let s := put none
      if s.hub.receives 2 i then s.command 2 i 0 all else s
    else put (some (d.1, all))

/-- A reply is taken in its window. -/
def State.rackTake (i : Nat) (ask : RackAsk) (b : Bytes) (s : State) : State :=
  let type := u8 b 2
  let body := slice b 5 (be16 b 3)
  let tag := u8 b 1 / 4
  let s := s.modHub (fun (h : Hub) =>
    let h := h.modRack (fun k => { k with window := none, windowBad := false, busy := k.busy + rackNs body.length })
    h.modStation i (fun x => { x with missed := 0, lastWindow := h.time.now }))
  match type with
  | 0x02 => s.modHub (Hub.rackCompletion i tag false body)
  | 0x04 => s.modHub (Hub.rackCompletion i tag true body)
  | 0x06 => match ask with
    | .exchange t => s.modHub (Hub.exchangeReply i t body)
    | _ => s
  | 0x08 => s.modHub (Hub.describe i body)
  | 0x0A => s.rackPart i body
  | 0x0B => s.modHub (fun (h : Hub) => if h.power.mode.parser then h.mbReceive (some i) body else h)
  | 0x0D => s.modHub (Hub.rackNak i ask (u8 body 0))
  | _ => s

/-- RACK_REPLY_RECEIVED (R356, R367, R372): a packet arrives from a station. A STANDBY takes EXCHANGE_RSP only. -/
def execRackReplyReceived (packet : Bytes) (now : Nat) (s : State) : Out :=
  let s := s.modHub (Hub.at_ now)
  let h := s.hub
  let i := u8 packet 0 % 32
  .next (
    if !h.cfg.rack.link.enabled || !h.time.running then s
    else if !rackReplyOk packet || !rackTagOk packet then s.modHub Hub.rackBad
    else if h.roleCode = 2 then
      (if u8 packet 2 = 0x06 then
        match (h.station i).dues.getLast? with
        | some d => s.modHub (Hub.exchangeReply i d.2 (slice packet 5 (be16 packet 3)))
        | none => s.modHub (Hub.exchangeReply i h.time.tick (slice packet 5 (be16 packet 3)))
      else s)
    else match h.rack.window with
    | none => s
    | some (st, ask) =>
      if st ≠ i then s
      else if !ask.permits (u8 packet 2) then s.modHub Hub.rackBad
      else
        let r := h.takeArm .stationLost (fun a => a.resource == i)
        let s := { s with hub := r.2 }
        match r.1 with
        | some .injected => s.modHub (Hub.windowEmpty (some .injected))
        | some _ =>
          let wouldLose := (h.station i).present && decide (h.cfg.rack.link.lostWindows ≤ (h.station i).missed + 1)
          (if wouldLose then s.modHub (Hub.stationLost i 0 .reportOnly) else s).rackTake i ask packet
        | none => s.rackTake i ask packet)

/-! ### Host stations -/

/-- The next message for a host station: what waits, mailbox notices, then the words of A→B not sent since the last POLL. -/
def Hub.hostMessage (i : Nat) (h : Hub) : Option ((Nat × Bytes) × Hub) :=
  match (h.station i).replies with
  | x :: rest => some (x, h.modStation i (fun y => { y with replies := rest }))
  | [] =>
    let mine := (List.range 16).filter (fun n => (h.box n).sideB == 3 && (h.box n).station == i)
    match mine.find? (fun n => !(h.box n).outgoing.isEmpty) with
    | some n => match (h.box n).outgoing with
      | (op, number, words) :: rest =>
        some ((0x0B, mbPayload n op number words), h.modBox n (fun m => { m with outgoing := rest }))
      | [] => none
    | none => match mine.find? (fun n => (h.box n).sent == 0 && !(h.box n).a2b.isEmpty) with
      | some n =>
        let m := h.box n
        some ((0x0B, mbPayload n 1 m.a2bTaken m.a2b),
          h.modBox n (fun m => { m with sent := m.a2b.length, sentAt := h.time.now }))
      | none => none

/-- HOST_POLL (R371, R442, R446): free bus time for a host station that is present. What waits for it goes first, a packet at a time; then it is
polled, and words it has not accepted are sent again after that. -/
def execHostPoll (station now : Nat) (s : State) : Out :=
  .next (s.modHub (fun (h : Hub) =>
    let h := h.at_ now
    let host := match h.stationCfg station with | some c => c.host | none => false
    if !h.rackDriving || !host || !(h.station station).present || h.rack.window.isSome then h
    else match h.hostMessage station with
    | some (m, h) => h.rackSend station 0 m.1 m.2 .frame
    | none =>
      let again := fun (m : Mailbox) => if m.sideB == 3 && m.station == station then { m with sent := 0 } else m
      let h : Hub := { h with mb.box := vmap again h.mb.box }
      (h.modStation station (fun x => { x with polledAt := h.time.now })).rackSend station 0 9 [] .poll))

/-- RACK_COMMAND_TIMEOUT (R421): a packet still incomplete 100 ms after its first part is discarded. -/
def execRackCommandTimeout (station now : Nat) (s : State) : Out :=
  .next (s.modHub (fun (h : Hub) =>
    let h := h.at_ now
    match (h.station station).parts with
    | some (t, _) => if t + 100000000 ≤ h.time.now then h.modStation station (fun x => { x with parts := none }) else h
    | none => h))

/-! ### Partner frames -/

/-- A COMMAND frame: the reply to a forwarded request goes back, a request goes to the interpreter. -/
def State.partnerCommand (p : Bytes) (s : State) : State :=
  if bit (u8 p 3) 0 then s.modHub (Hub.forwardBack p)
  else if s.hub.receives 3 0 then s.command 3 0 0 p else s

/-- PARTNER_FRAME_RECEIVED (R379, Table 15.2): a frame is taken, the epoch rule applies, and its type decides the rest. -/
def execPartnerFrameReceived (lane : Fin 2) (frame : Bytes) (now : Nat) (s : State) : Out :=
  let r := (s.hub.at_ now).partnerTake lane frame
  let s := { s with hub := r.1 }
  .next (
    if !r.2 then s
    else match u8 frame 0 with
    | 2 => s.modHub (Hub.copyHeader frame)
    | 3 => s.modHub (Hub.copyData frame)
    | 4 => s.modHub (Hub.copyEnd frame)
    | 5 => s.modHub (Hub.takeAck frame)
    | 6 => s.partnerCommand (partnerPayload frame)
    | 7 => s.modHub (fun (h : Hub) => if h.power.mode.parser then h.mbReceive none (partnerPayload frame) else h)
    | _ => s)

end Sys2Proof.Machine
end

