-- ==== Sys2Proof/Machine/Inject.lean ====
section
/-! DEFINITION. The applications of pending injections (R508, R510, R511) at each detector's injection point. -/
namespace Sys2Proof.Machine

def Injection.origin (j : Injection) : Origin := if j.reportOnly then .reportOnly else .injected

/-- The application waits at the detector's input. A full one comes before report-only ones (R513). -/
def Hub.arm (j : Injection) (h : Hub) : Hub :=
  let a : Armed := { id := j.id, detector := j.detector, lanes := j.laneMask, resource := j.resource, reportOnly := j.reportOnly }
  { h with inject.armed := if j.reportOnly then h.inject.armed ++ [a] else a :: h.inject.armed }

/-- SUPPLY_WARNING: the VIN comparison below 16.0 V for 1 ms. -/
def Hub.injectDip (o : Origin) (h : Hub) : Hub :=
  let mv := h.power.vinMv
  if o = .reportOnly then (h.raise .supplyWarning [] 0 [(2, mv / 10), (2, 0), (4, 0)] o).clearFault .supplyWarning [] id
  else
    let h := h.supplyRaise mv o
    let back := if 16800 ≤ mv then some (h.time.now + 1000000) else none
    { h with power := { h.power with dipEnd := back, goodSince := back } }

/-- SUPPLY_RESET: the holdup comparison below 14.0 V. -/
def State.injectCollapse (o : Origin) (s : State) : State :=
  let h := s.hub
  let s := s.modHub (Hub.event .supplyReset [] 0 [(2, h.power.vinMv / 10), (2, h.power.holdup), (1, h.power.mode.code)] o)
  if o = .reportOnly then s else s.holdInReset

/-- TAMPER: an opening transition. -/
def Hub.injectTamper (o : Origin) (h : Hub) : Hub :=
  let h : Hub := if o = .reportOnly then h else
    { h with backup := { h.backup with tamperCount := wrapAdd 32 h.backup.tamperCount 1, tamperTime := h.backup.rtcSeconds } }
  h.tamperRaise o

/-- PORT_LINK_DOWN: the monitor reads the port down. -/
def Hub.injectLinkDown (p : Nat) (o : Origin) (h : Hub) : Hub :=
  let rec_ := fun (h : Hub) => h.raise .portLinkDown [p] 0 [(1, p), (1, 0), (2, 0), (6, (h.port p).lostTick)] o
  if o = .reportOnly then rec_ h
  else
    let down := fun (x : EthPort) =>
      { x with up := false, downAt := some h.time.now, lostTick := h.time.tick, changed := h.tb0Now }
    let h := (h.modPort p down).flushPort p
    let h := match h.portLan p with
      | some lan => if h.faultActive .prpPathLoss [lan] then h else h.pathLoss lan 0 o
      | none => h
    h.linkDown p 0 o

/-- OUTPUT_EXTERNAL_VOLTAGE: the channel's readback high. -/
def Hub.injectExternal (k : Nat) (o : Origin) (h : Hub) : Hub :=
  if o = .reportOnly then h.raise .outputExternalVoltage [k] 0 [(1, k), (1, k), (1, 0), (1, 0), (2, 0)] o else h.extDetect k 0 o

/-- PWM_READBACK: SB's sample inverted for longer than readback_window. -/
def Hub.injectReadback (k : Nat) (o : Origin) (h : Hub) : Hub :=
  let pin := h.pwmPin k
  let read := if pin < 2 then 1 - pin else b2n (Config.injectedBit h.free)
  (if pin < 2 then h else h.draw).pwmReadback k read (b2n (!bit h.pwm.running (k / 2))) (10 * h.cfg.trip.window) o

/-- TRIP_EXTERNAL: the filter output of an input active. -/
def Hub.injectTrip (m : Nat) (o : Origin) (h : Hub) : Hub :=
  let i := 32 + m
  if bit h.pwm.tripLatch i then h
  else if o = .reportOnly then h.raise .tripExternal [i] 0 (h.tripDetail i {}) o else h.latch i {} o

/-- FIELD_SUPPLY_LOW: the group's comparison below 16.0 V. -/
def Hub.injectSupplyLow (g : Nat) (o : Origin) (h : Hub) : Hub :=
  let v := vgetN h.stage.supply g 0
  let h : Hub := if o = .reportOnly then h else
    { h with stage.lowest := vmodN h.stage.lowest g (fun _ => v), stage.goodSince := vmodN h.stage.goodSince g (fun _ => none) }
  h.supplyLow g v o

/-- Lanes of the mask in which the detector is evaluated. -/
def State.injectLanes (j : Injection) (s : State) : List LaneId :=
  allLanes.filter (fun l => bit j.laneMask l.val && s.powered l)

/-- Whether a detector of its own moment is evaluated now, with no real condition that decides instead (R512). -/
def State.evaluates (j : Injection) (s : State) : Bool :=
  let h := s.hub
  let k := j.resource
  let run := h.time.running
  match j.detector with
  | .sdClockLoss => run && !(s.injectLanes j).isEmpty && !(h.cfg.groupChannels k).isEmpty
  | .sdDataStuck => run && !(s.injectLanes j).isEmpty && (h.cfg.sdOf k).enabled
  | .tripExternal => run && decide (k < 4)
  | .pwmReadback => decide (k < 12) && !h.pwm.buffersOff
  | .outputOverload => decide (k < 24) && h.stage.run && (h.out k).cmd
  | .readbackMismatch => decide (k < 24) && h.stage.run && (h.out k).cmd && h.settled k && vgetN h.stage.closed (outGroup k) false &&
      !h.faultActive .fieldSupplyLow [outGroup k]
  | .outputExternalVoltage => decide (k < 24) && h.stage.run && h.cfg.outUsed k && !(h.out k).cmd && h.settled k && !h.extKnown k
  | .fieldSupplyLow => decide (k < 2) && h.stage.run && !h.faultActive .fieldSupplyLow [k]
  | .prpPathLoss => decide (k < 2) && h.cfg.net.network.isSome && !h.faultActive .prpPathLoss [k]
  | .portLinkDown => decide (k < 4) && h.portOn k && !h.faultActive .portLinkDown [k]
  | .pdTimeout => run && decide (k < h.cfg.net.subs.length) && !h.faultActive .pdTimeout [k]
  | .ptpDomainLoss => match fin? 2 (k - 1) with
    | some i => decide (1 ≤ k) && ((h.time.trackers[i]).state == .locked || (h.time.trackers[i]).state == .acquiring)
    | none => false
  | .mbNoProgress => decide (k < 16) && (h.box k).noProgressLimit != 0 && !(h.box k).noProgress &&
      (!(h.box k).a2b.isEmpty || !(h.box k).b2a.isEmpty)
  | .latentLimit => run && !(s.injectLanes j).isEmpty
  | .forceActive => h.power.mode.isRunning && !h.faultActive .forceActive [] && (match h.sourceLane with
    | some l => (s.lane l).mem.forces.isEmpty | none => false)
  | .supplyWarning => !h.power.supplyWarn
  | .hubLockstepMismatch => decide (k < 3)
  | _ => true

/-- One application at a detector of its own moment. -/
def State.applyInjection (j : Injection) (s : State) : State :=
  let o := j.origin
  let k := j.resource
  let hub := fun (f : Hub → Hub) => s.modHub f
  match j.detector with
  | .sdClockLoss => (s.injectLanes j).foldl (fun (s : State) l => s.clockLoss l k o) s
  | .sdDataStuck =>
    let level := Config.injectedBit s.hub.free
    (s.injectLanes j).foldl (fun (s : State) l => s.dataStuck l k level o) (hub Hub.draw)
  | .tripExternal => hub (Hub.injectTrip k o)
  | .pwmReadback => hub (Hub.injectReadback k o)
  | .outputOverload => hub (fun (h : Hub) => h.overload k 0 (h.out k).current o)
  | .readbackMismatch => hub (Hub.readbackLow k o)
  | .outputExternalVoltage => hub (Hub.injectExternal k o)
  | .fieldSupplyLow => hub (Hub.injectSupplyLow k o)
  | .prpPathLoss => hub (Hub.pathLoss k 1 o)
  | .portLinkDown => hub (Hub.injectLinkDown k o)
  | .pdTimeout => hub (Hub.pdTimeout k o)
  | .ptpDomainLoss => match fin? 2 (k - 1) with
    | some i => hub (Hub.ptpLoss i o)
    | none => s
  | .wearThreshold =>
    let unit := match bitsSet 4 j.laneMask with | l :: _ => l | [] => 4
    hub (Hub.wearForce (k / 2 ^ 24) unit (k % 2 ^ 24) o)
  | .mbNoProgress => hub (fun (h : Hub) =>
    let limit := (h.box k).noProgressLimit * 1000000
    (if o = .reportOnly then h else h.modBox k (fun m => { m with timerAt := min m.timerAt (h.time.now - limit) })).mbNoProgress k o)
  | .latentLimit => (s.injectLanes j).foldl (fun (s : State) l => s.modHub (Hub.latentLimit l o)) s
  | .forceActive => hub (Hub.raise .forceActive [] 0 [(2, 0), (1, 0), (1, 0)] o)
  | .supplyWarning => hub (Hub.injectDip o)
  | .supplyReset => s.injectCollapse o
  | .tamper => hub (Hub.injectTamper o)
  | .hubLockstepMismatch => hub (Hub.lockstep k 0 o)
  | _ => hub (Hub.arm j)

/-- An application is due: its tick has come, in a later tick than the last one, which has ended (R510). -/
def Hub.applicationDue (j : Injection) (h : Hub) : Bool :=
  let t := h.time.tick
  decide (j.start + j.done * j.interval ≤ t) && (match j.lastTick with | some x => decide (x < t) | none => true) &&
    !h.inject.armed.any (fun a => a.id == j.id)

/-- One more application is counted: INJECT_LAST, and the last one ends the injection. -/
def Hub.countApplication (j : Injection) (h : Hub) : Hub :=
  let j2 := { j with done := j.done + 1, lastTick := some h.time.tick }
  let rest := h.inject.list.filterMap (fun x => if x = j then (if j2.done < j.left then some j2 else none) else some x)
  { h with inject := { h.inject with
      list := rest, lastDetector := j.detector.code, lastId := j.id, lastLeft := min 255 (j.left - j2.done) } }

/-- INJECTION_APPLICATION (R510): an application of the pending injection with an id. -/
def execInjectionApplication (id now : Nat) (s : State) : Out :=
  let s := s.modHub (Hub.at_ now)
  .next (match s.hub.inject.list.find? (fun j => j.id == id) with
    | none => s
    | some j =>
      if !s.hub.applicationDue j || !s.evaluates j then s
      else (s.modHub (Hub.countApplication j)).applyInjection j)

end Sys2Proof.Machine
end

