-- ==== Sys2Proof/Machine/Transfers.lean ====
section
/-! DEFINITION. Transfers (R94 to R102): their start, their completion, and the retry of a packet on the hub link (R133). -/
namespace Sys2Proof.Machine

/-! ### Start (R97, R100, R101) -/

/-- Alignment by R97. -/
def xferAligned (dst : Port) (a b len : Nat) : Bool :=
  let m := match dst with | .imem _ => 16 | _ => 4
  a % m == 0 && b % m == 0 && len % m == 0

/-- What a parameterised transfer's address may not touch: block 23 as a destination (R20), block 24 as a source (Table 4.1). -/
def windowOk (src dst : Port) (a b len : Nat) : Bool :=
  let block := fun (p : Port) (x n : Nat) => (p == .hubLink || p == .hubFrame) && decide (x < windowBase + (n + 1) * 65536) &&
    decide (windowBase + n * 65536 < x + len)
  !(block src a 24) && !(block dst b 23)

/-- The address check of R101. -/
def paramOk (src dst : Port) (a b len : Nat) : Bool :=
  xferAligned dst a b len && src.holds a len && dst.holds b len && windowOk src dst a b len

/-- The first address that fails. -/
def badAddress (src dst : Port) (a b len : Nat) : Nat :=
  if src.holds a len && decide (a % (match dst with | .imem _ => 16 | _ => 4) = 0) && windowOk src .hubFrame a windowBase len then b else a

/-- The fault of a failed parameterised transfer (R110, Table 4.13). -/
def Hub.xferFault (l : LaneId) (sched index engine addr : Nat) (o : Origin) (h : Hub) : Hub :=
  h.laneEvent (fun _ => true) .illegalAccess [sched, 1, index] l [(2, index), (1, 1), (1, 16), (4, addr), (2, 0xFFFF), (1, engine)] o

/-- Put one issue of a transfer on record (R102). -/
def Lane.issue (index : Nat) (done : Bool) (l : Lane) : Lane :=
  { l with issued := (index, done) :: l.issued.filter (fun e => e.1 != index) }

/-- The last clause that completed on the engine that owns a source scratchpad (R398). -/
def Lane.sourceClause (src : Port) (l : Lane) : Nat :=
  match src with
  | .scratch k => (match fin? 8 k with | some e => l.eng[e].lastClause | none => 0xFFFF)
  | _ => 0xFFFF

/-- Start transfer `index` of the table with its addresses; `ok` says that its check has passed. -/
def State.beginXfer (l : LaneId) (index : Nat) (t : TransferEntry) (src dst : Port) (a b : Nat) (ok : Bool) (s : State) : State :=
  let x : Xfer :=
    { index := index, ctx := t.ctx, srcPort := src, dstPort := dst, src := a, dst := b, len := t.len, start := t.start,
      dataAt := t.start + (setupCycles src dst).getD 4, completion := t.completion,
      snapshot := if src == .hubLink && ok then s.snap.windowRead (a - windowBase) t.len else [],
      failed := !ok, param := if t.param then some t.paramEngine else none, clause := (s.lane l).sourceClause src }
  s.modLane l (fun (k : Lane) => ({ k with
    xfers := k.xfers ++ [x]
    xsig := fold64All k.xsig (descriptor t.ctx t.flags src dst a b (if ok then t.len else 0)) } : Lane).issue index false)

/-- The parameterised start (R101): the slot's addresses are checked; the check has an injection point (R110). -/
def State.paramStart (l : LaneId) (index : Nat) (t : TransferEntry) (src dst : Port) (s : State) : State :=
  let slot := match fin? 8 t.paramEngine, fin? 64 t.paramSlot with
    | some e, some k => (s.lane l).eng[e].slots[k]
    | _, _ => (0#32, 0#32)
  let a := slot.1.toNat
  let b := slot.2.toNat
  let sched := (s.lane l).schedule.getD 255
  let ok := paramOk src dst a b t.len
  let arm := s.hub.armed .illegalAccess (fun x => bit x.lanes l.val)
  let s := match arm with | some x => s.modHub (Hub.disarmLane x l) | none => s
  let inj := match arm with | some x => !x.reportOnly | none => false
  let s := match ok, arm with
    | false, _ => s.modHub (Hub.xferFault l sched index t.paramEngine (badAddress src dst a b t.len) .real)
    | true, some x => s.modHub (Hub.xferFault l sched index t.paramEngine a x.origin)
    | true, none => s
  let s := if !ok || inj then s.modLane l (fun k => { k with reports := (true, index) :: k.reports }) else s
  s.beginXfer l index t src dst a b (ok && !inj)

/-- TRANSFER_START (R97): a transfer of this tick takes its ports and its context. -/
def execTransferStart (lane : LaneId) (index : Nat) (s : State) : Out :=
  .next (match s.laneSchedule lane with
  | none => s
  | some sc =>
    match sc.transfers[index]? with
    | none => s
    | some t =>
      match Port.ofCode t.srcPort, Port.ofCode t.dstPort with
      | some src, some dst =>
        if !s.laneRuns lane || t.tick != (s.lane lane).tick % s.hub.sTicks || s.hub.suppressed t.task ||
          (s.lane lane).xfers.any (fun x => x.index == index) then s
        else
          let s := s.advance lane t.start
          if t.param then s.paramStart lane index t src dst else s.beginXfer lane index t src dst t.src t.dst true
      | _, _ => s)

/-! ### SRAM words of a transfer (R400, R401) -/

/-- Macro and offset of an address in a lane's on-chip memories (R400); none elsewhere. -/
def sramPlace (map : Vector Nat 9) (p : Port) (addr : Nat) : Option (Nat × Nat) :=
  match p with
  | .scratch k => some (vgetN map k k, addr - scratchBase k)
  | .imem k => some (9 + vgetN map k k, addr - imemBase k)
  | .store b => some (18 + b, addr - (storeBase + b * 0x200000))
  | _ => none

/-- Row and word of an offset. -/
def rowWord (off : Nat) : Nat × Nat := (off / 128, off % 128 / 8)

/-- Words of `len` bytes from an offset whose codes have something to say: those found in error, those kept as double errors, and an
injection's row. -/
def sramCandidates (h : Hub) (unit macro_ base off len : Nat) (found : List (Nat × Ecc)) : List Nat :=
  let inside := fun (w : Nat) => decide (off / 8 ≤ w ∧ w * 8 < off + len)
  let a := (found.map (fun e => (e.1 - base) / 8))
  let b := (h.mem.sramBad.filter (fun w => w.1 == unit && w.2.1 == macro_)).map (fun w => w.2.2.1 * 16 + w.2.2.2)
  let arms := h.inject.armed.filter (fun x => (x.detector == .sramCorrected || x.detector == .sramUncorrectable) &&
    x.resource / 65536 == macro_ && bit x.lanes unit)
  let c := arms.map (fun x => max (x.resource % 65536 * 16) (off / 8))
  ((a ++ b ++ c).filter inside).eraseDups

/-- XOR the wrong bits of a word into bytes that start at an offset. -/
def flipWord (off : Nat) (w : Nat) (flips : DWord) (d : Bytes) : Bytes :=
  mapIdxFrom (fun i b => if (off + i) / 8 = w then b ^^^ (BitVec.ofNat 8 (flips.toNat / 256 ^ ((off + i) % 8))) else b) 0 d

/-- The words a transfer reads: their reports, and the bytes as delivered. -/
def Hub.sramSource (unit macro_ base off : Nat) (found : List (Nat × Ecc)) (d : Bytes) (h : Hub) : Hub × Bytes :=
  (sramCandidates h unit macro_ base off d.length found).foldl (fun (x : Hub × Bytes) w =>
    let e := match found.find? (fun f => (f.1 - base) / 8 == w) with | some f => f.2 | none => .clean
    let rw := rowWord (8 * w)
    let r := x.1.sramRead unit macro_ rw.1 rw.2 2 e
    match r.1 with
    | .uncorrectable f => (r.2, flipWord off w f x.2)
    | _ => (r.2, x.2)) (h, d)

/-- The words a transfer writes: a word covered whole is encoded afresh; one covered in part is merged, and stays detectable when it
could not be corrected. -/
def Hub.sramDest (unit macro_ base off len : Nat) (found : List (Nat × Ecc)) (h : Hub) : Hub :=
  (sramCandidates h unit macro_ base off len found).foldl (fun (h : Hub) w =>
    let rw := rowWord (8 * w)
    let word := (unit, macro_, rw.1, rw.2)
    if off ≤ 8 * w ∧ 8 * w + 8 ≤ off + len then h.sramGood word
    else
      let e := match found.find? (fun f => (f.1 - base) / 8 == w) with | some f => f.2 | none => .clean
      let r := h.sramRead unit macro_ rw.1 rw.2 2 e
      match r.1 with | .uncorrectable _ => r.2.sramSpoil word | _ => r.2) h

/-! ### Completion (R96, R100, R123) -/

/-- Bytes of the lock registers as the hub answers them (R411), over what the snapshot delivers. -/
def lockBytes (h : Hub) (groupB : Bool) (addr : Nat) (d : Bytes) : Bytes :=
  let base := windowBase + 22 * 65536
  mapIdxFrom (fun i b =>
    let a := addr + i
    if a < base then b else
    match fin? 32 ((a - base) / 4) with
    | some n => BitVec.ofNat 8 (h.lockSeen n groupB / 256 ^ (a % 4))
    | none => b) 0 d

/-- The bytes a transfer delivers, with what the codes of its source find (R395, R397, R401). -/
def State.xferSource (l : LaneId) (x : Xfer) (sram : List (Nat × Ecc)) (dram : List DramErr) (s : State) : State × Bytes :=
  let d := x.held.getD []
  match x.srcPort with
  | .dram => let r := s.hub.dramRead l.val x.src 0 dram d; ({ s with hub := r.1 }, r.2)
  | .hubLink => (s, lockBytes s.hub (s.hub.laneState l == .splitB) x.src d)
  | p =>
    match sramPlace s.hub.vote.engineMap[l] p x.src with
    | some (m, off) => let r := s.hub.sramSource l.val m (x.src - off) off sram d; ({ s with hub := r.1 }, r.2)
    | none => (s, d)

/-- The bytes that differ from those already moved. -/
def writeDiff : Mem → Nat → Bytes → Bytes → Mem
  | m, _, _, [] => m
  | m, a, old, v :: vs => writeDiff (if old.head? = some v then m else m.write a v) (a + 1) (old.drop 1) vs

/-- The write of the destination and what its codes do (R396 to R399, R401). -/
def State.xferDest (l : LaneId) (x : Xfer) (d : Bytes) (sram : List (Nat × Ecc)) (dram : List DramErr) (s : State) : State :=
  let old := if x.atOnce then [] else x.held.getD []
  let put := fun (s : State) => s.modLane l (fun k => ({ k with mem := writeDiff k.mem x.dst old d }).markDirty x.dst d.length)
  let wordsOf := fun (d : Bytes) => (List.range (d.length / 4)).map (fun i => BitVec.ofNat 32 (le32 d (4 * i)))
  match x.dstPort with
  | .dram =>
    let i : Issuer := match x.srcPort with
      | .scratch k => { engine := k, clause := x.clause, transfer := x.index }
      | _ => { engine := 0xFF, clause := 0xFFFF, transfer := x.index }
    (put s).modHub (Hub.dramWrite l.val x.dst d.length i dram)
  | .hubFrame => s.modLane l (Lane.frameWrite (x.dst - windowBase) d)
  | .hubLink =>
    let off := x.dst - windowBase
    let n := (off % 65536 - 0x100) / 0x80
    if 24 * 65536 ≤ off then
      if s.hub.laneState l = .active then s.modHub (Hub.laneBell l (off % 65536) d) else s
    else if off / 65536 = 21 ∧ 0x100 ≤ off % 65536 ∧ n < 16 ∧ 0x20 ≤ (off % 65536) % 0x80 ∧ (off % 65536) % 0x80 < 0x40 then
      let e := match x.srcPort, x.param with | .scratch k, _ => k | _, some k => k | _, none => 0
      s.laneMbPush l n (wordsOf d) ((fin? 8 e).getD 0)
    else s
  | p =>
    let s := put s
    match sramPlace s.hub.vote.engineMap[l] p x.dst with
    | some (m, off) => s.modHub (Hub.sramDest l.val m (x.dst - off) off d.length sram)
    | none => s

/-- The data enters the transfer signature when its destination is lane store (R123). -/
def Lane.foldData (x : Xfer) (d : Bytes) (l : Lane) : Lane :=
  match x.dstPort with | .store _ => { l with xsig := fold64All l.xsig d } | _ => l

/-- One transfer ends: it delivers its bytes, unless its check failed, and its ports and context are free. -/
def State.endXfer (l : LaneId) (x : Xfer) (sram : List (Nat × Ecc)) (dram : List DramErr) (s : State) : State :=
  let s := s.modLane l (fun k => { k with xfers := k.xfers.filter (fun y => y.index != x.index) })
  if x.failed then s else
  let r := s.xferSource l x sram dram
  let s := r.1.xferDest l x r.2 sram dram
  (s.modLane l (fun k => (k.foldData x r.2).issue x.index true)).modHub (Hub.count 0xF004 (byMask 0 l.val))

/-- TRANSFER_COMPLETE (R96): the transfer's completion cycle ends. `sram` are the words of source and destination in error, by lane
address, `dram` the codewords in error. -/
def execTransferComplete (lane : LaneId) (index : Nat) (sram : List (Nat × Ecc)) (dram : List DramErr) (s : State) : Out :=
  .next (match (s.lane lane).xfers.find? (fun x => x.index == index) with
  | none => s
  | some x =>
    let s := s.advance lane (x.completion + 1)
    match (s.lane lane).xfers.find? (fun x => x.index == index) with
    | none => s
    | some x => s.endXfer lane x sram dram)

/-- TRANSFER_PACKET_RETRY (R133): a packet of a transfer on the lane-to-hub link failed its CRC and was sent once more, which delays the
completion by `delay` cycles; a retry that fails too leaves the transfer without completion. -/
def execTransferPacketRetry (lane : LaneId) (index delay : Nat) (failed : Bool) (s : State) : Out :=
  .next (match (s.lane lane).xfers.find? (fun x => x.index == index) with
  | none => s
  | some x =>
    if x.srcPort != .hubLink && x.dstPort != .hubLink then s else
    let s := s.modHub (Hub.linkFault (hubLinkOf lane) 0 .real)
    let late := fun (y : Xfer) => if y.index = index then { y with completion := y.completion + delay, failed := y.failed || failed } else y
    let s := s.modLane lane (fun k => { k with xfers := k.xfers.map late })
    if failed then s.modHub (Hub.linkFault (hubLinkOf lane) 2 .real) else s)

end Sys2Proof.Machine
end

