-- ==== Sys2Proof/Machine/Dispatch.lean ====
section
/-! DEFINITION. exec: one arm per command, each one direct call of its meaning. -/
namespace Sys2Proof.Machine

/-- The effect of one command on everything but the queue. -/
def exec (i : Instr) (s : State) : Host.Outcome State Fault Refusal :=
  match i with
  | .powerOn now => Sys2Proof.Machine.execPowerOn now s
  | .boot now => Sys2Proof.Machine.execBoot now s
  | .partnerHandshakeEnd now => Sys2Proof.Machine.execPartnerHandshakeEnd now s
  | .wakeNLow now => Sys2Proof.Machine.execWakeNLow now s
  | .wakeFrame port frame now => Sys2Proof.Machine.execWakeFrame port frame now s
  | .dormantWake now => Sys2Proof.Machine.execDormantWake now s
  | .rstNLow durationNs now => Sys2Proof.Machine.execRstNLow durationNs now s
  | .holdupCollapse now rstLow => Sys2Proof.Machine.execHoldupCollapse now rstLow s
  | .vinSample mv holdup now => Sys2Proof.Machine.execVinSample mv holdup now s
  | .supplyDeferralEnd now => Sys2Proof.Machine.execSupplyDeferralEnd now s
  | .temperatureMeasurement t now => Sys2Proof.Machine.execTemperatureMeasurement t now s
  | .tamperOpen now => Sys2Proof.Machine.execTamperOpen now s
  | .vbatLoss now => Sys2Proof.Machine.execVbatLoss now s
  | .hubComparatorSelftest parserMissed sasbMissed now => Sys2Proof.Machine.execHubComparatorSelftest parserMissed sasbMissed now s
  | .tickStartMarker now => Sys2Proof.Machine.execTickStartMarker now s
  | .tickStart lane now fines => Sys2Proof.Machine.execTickStart lane now fines s
  | .hubTickStart now => Sys2Proof.Machine.execHubTickStart now s
  | .tickMarkerReceived lane sender offset => Sys2Proof.Machine.execTickMarkerReceived lane sender offset s
  | .guardAlignment lane => Sys2Proof.Machine.execGuardAlignment lane s
  | .steerRateUpdate f => Sys2Proof.Machine.execSteerRateUpdate f s
  | .rtcUpdate now => Sys2Proof.Machine.execRtcUpdate now s
  | .ptpAnnounceReceived tracker now port master clockClass utcOffset utcValid => Sys2Proof.Machine.execPtpAnnounceReceived tracker now port master clockClass utcOffset utcValid s
  | .ptpSyncReceived tracker now port origin => Sys2Proof.Machine.execPtpSyncReceived tracker now port origin s
  | .ptpDelayReqSend tracker now => Sys2Proof.Machine.execPtpDelayReqSend tracker now s
  | .ptpDelayRespReceived tracker now seq delay => Sys2Proof.Machine.execPtpDelayRespReceived tracker now seq delay s
  | .ptpPdelayReqReceived now port domain seq => Sys2Proof.Machine.execPtpPdelayReqReceived now port domain seq s
  | .ptpTimeout tracker now other => Sys2Proof.Machine.execPtpTimeout tracker now other s
  | .tb3Select v => Sys2Proof.Machine.execTb3Select v s
  | .steerEnable on => Sys2Proof.Machine.execSteerEnable on s
  | .selectTimeDomain r p => Sys2Proof.Machine.execSelectTimeDomain r p s
  | .getPtpStatus r p => Sys2Proof.Machine.execGetPtpStatus r p s
  | .clauseStart lane clause ecc => Sys2Proof.Machine.execClauseStart lane clause ecc s
  | .operationWriteback site => Sys2Proof.Machine.execOperationWriteback site s
  | .clauseBudget site => Sys2Proof.Machine.execClauseBudget site s
  | .clauseComplete site => Sys2Proof.Machine.execClauseComplete site s
  | .nop site slot raw ecc => Sys2Proof.Machine.execNop site slot raw ecc s
  | .add site slot f => Sys2Proof.Machine.execAdd site slot f s
  | .sub site slot f => Sys2Proof.Machine.execSub site slot f s
  | .andOp site slot f => Sys2Proof.Machine.execAndOp site slot f s
  | .orOp site slot f => Sys2Proof.Machine.execOrOp site slot f s
  | .xorOp site slot f => Sys2Proof.Machine.execXorOp site slot f s
  | .andn site slot f => Sys2Proof.Machine.execAndn site slot f s
  | .shl site slot f => Sys2Proof.Machine.execShl site slot f s
  | .shr site slot f => Sys2Proof.Machine.execShr site slot f s
  | .sar site slot f => Sys2Proof.Machine.execSar site slot f s
  | .ror site slot f => Sys2Proof.Machine.execRor site slot f s
  | .min site slot f => Sys2Proof.Machine.execMin site slot f s
  | .max site slot f => Sys2Proof.Machine.execMax site slot f s
  | .minu site slot f => Sys2Proof.Machine.execMinu site slot f s
  | .maxu site slot f => Sys2Proof.Machine.execMaxu site slot f s
  | .sel site slot f => Sys2Proof.Machine.execSel site slot f s
  | .addi site slot f => Sys2Proof.Machine.execAddi site slot f s
  | .andi site slot f => Sys2Proof.Machine.execAndi site slot f s
  | .ori site slot f => Sys2Proof.Machine.execOri site slot f s
  | .xori site slot f => Sys2Proof.Machine.execXori site slot f s
  | .shli site slot f => Sys2Proof.Machine.execShli site slot f s
  | .shri site slot f => Sys2Proof.Machine.execShri site slot f s
  | .sari site slot f => Sys2Proof.Machine.execSari site slot f s
  | .rori site slot f => Sys2Proof.Machine.execRori site slot f s
  | .cmpeq site slot f => Sys2Proof.Machine.execCmpeq site slot f s
  | .cmpne site slot f => Sys2Proof.Machine.execCmpne site slot f s
  | .cmplt site slot f => Sys2Proof.Machine.execCmplt site slot f s
  | .cmpltu site slot f => Sys2Proof.Machine.execCmpltu site slot f s
  | .cmple site slot f => Sys2Proof.Machine.execCmple site slot f s
  | .cmpleu site slot f => Sys2Proof.Machine.execCmpleu site slot f s
  | .cmpeqi site slot f => Sys2Proof.Machine.execCmpeqi site slot f s
  | .cmplti site slot f => Sys2Proof.Machine.execCmplti site slot f s
  | .pand site slot f => Sys2Proof.Machine.execPand site slot f s
  | .por site slot f => Sys2Proof.Machine.execPor site slot f s
  | .pxor site slot f => Sys2Proof.Machine.execPxor site slot f s
  | .pandn site slot f => Sys2Proof.Machine.execPandn site slot f s
  | .mfs site slot f => Sys2Proof.Machine.execMfs site slot f s
  | .mfsd site slot f => Sys2Proof.Machine.execMfsd site slot f s
  | .mts site slot f => Sys2Proof.Machine.execMts site slot f s
  | .movd site slot f => Sys2Proof.Machine.execMovd site slot f s
  | .clz site slot f => Sys2Proof.Machine.execClz site slot f s
  | .popc site slot f => Sys2Proof.Machine.execPopc site slot f s
  | .addd site slot f => Sys2Proof.Machine.execAddd site slot f s
  | .subd site slot f => Sys2Proof.Machine.execSubd site slot f s
  | .fneg site slot f => Sys2Proof.Machine.execFneg site slot f s
  | .fabs site slot f => Sys2Proof.Machine.execFabs site slot f s
  | .mul site f => Sys2Proof.Machine.execMul site f s
  | .mulhs site f => Sys2Proof.Machine.execMulhs site f s
  | .mulhu site f => Sys2Proof.Machine.execMulhu site f s
  | .mulws site f => Sys2Proof.Machine.execMulws site f s
  | .mulwu site f => Sys2Proof.Machine.execMulwu site f s
  | .divs site f => Sys2Proof.Machine.execDivs site f s
  | .divu site f => Sys2Proof.Machine.execDivu site f s
  | .rems site f => Sys2Proof.Machine.execRems site f s
  | .remu site f => Sys2Proof.Machine.execRemu site f s
  | .faddS site f => Sys2Proof.Machine.execFaddS site f s
  | .fsubS site f => Sys2Proof.Machine.execFsubS site f s
  | .fmulS site f => Sys2Proof.Machine.execFmulS site f s
  | .fmaS site f => Sys2Proof.Machine.execFmaS site f s
  | .fnmaS site f => Sys2Proof.Machine.execFnmaS site f s
  | .fminS site f => Sys2Proof.Machine.execFminS site f s
  | .fmaxS site f => Sys2Proof.Machine.execFmaxS site f s
  | .fdivS site f => Sys2Proof.Machine.execFdivS site f s
  | .fsqrtS site f => Sys2Proof.Machine.execFsqrtS site f s
  | .fcmpeqS site f => Sys2Proof.Machine.execFcmpeqS site f s
  | .fcmpltS site f => Sys2Proof.Machine.execFcmpltS site f s
  | .fcmpleS site f => Sys2Proof.Machine.execFcmpleS site f s
  | .fcmpunS site f => Sys2Proof.Machine.execFcmpunS site f s
  | .fcvtSW site f => Sys2Proof.Machine.execFcvtSW site f s
  | .fcvtnWS site f => Sys2Proof.Machine.execFcvtnWS site f s
  | .fcvtzWS site f => Sys2Proof.Machine.execFcvtzWS site f s
  | .faddD site f => Sys2Proof.Machine.execFaddD site f s
  | .fsubD site f => Sys2Proof.Machine.execFsubD site f s
  | .fmulD site f => Sys2Proof.Machine.execFmulD site f s
  | .fmaD site f => Sys2Proof.Machine.execFmaD site f s
  | .fnmaD site f => Sys2Proof.Machine.execFnmaD site f s
  | .fminD site f => Sys2Proof.Machine.execFminD site f s
  | .fmaxD site f => Sys2Proof.Machine.execFmaxD site f s
  | .fdivD site f => Sys2Proof.Machine.execFdivD site f s
  | .fsqrtD site f => Sys2Proof.Machine.execFsqrtD site f s
  | .fcmpeqD site f => Sys2Proof.Machine.execFcmpeqD site f s
  | .fcmpltD site f => Sys2Proof.Machine.execFcmpltD site f s
  | .fcmpleD site f => Sys2Proof.Machine.execFcmpleD site f s
  | .fcmpunD site f => Sys2Proof.Machine.execFcmpunD site f s
  | .fcvtDW site f => Sys2Proof.Machine.execFcvtDW site f s
  | .fcvtnWD site f => Sys2Proof.Machine.execFcvtnWD site f s
  | .fcvtzWD site f => Sys2Proof.Machine.execFcvtzWD site f s
  | .fcvtDS site f => Sys2Proof.Machine.execFcvtDS site f s
  | .fcvtSD site f => Sys2Proof.Machine.execFcvtSD site f s
  | .ldw site f ecc => Sys2Proof.Machine.execLdw site f ecc s
  | .ldh site f ecc => Sys2Proof.Machine.execLdh site f ecc s
  | .ldhu site f ecc => Sys2Proof.Machine.execLdhu site f ecc s
  | .ldb site f ecc => Sys2Proof.Machine.execLdb site f ecc s
  | .ldbu site f ecc => Sys2Proof.Machine.execLdbu site f ecc s
  | .ldd site f ecc => Sys2Proof.Machine.execLdd site f ecc s
  | .stw site f ecc => Sys2Proof.Machine.execStw site f ecc s
  | .sth site f ecc => Sys2Proof.Machine.execSth site f ecc s
  | .stb site f ecc => Sys2Proof.Machine.execStb site f ecc s
  | .std site f ecc => Sys2Proof.Machine.execStd site f ecc s
  | .ldwx site f ecc => Sys2Proof.Machine.execLdwx site f ecc s
  | .lddx site f ecc => Sys2Proof.Machine.execLddx site f ecc s
  | .stwx site f ecc => Sys2Proof.Machine.execStwx site f ecc s
  | .stdx site f ecc => Sys2Proof.Machine.execStdx site f ecc s
  | .br site f => Sys2Proof.Machine.execBr site f s
  | .bri site f => Sys2Proof.Machine.execBri site f s
  | .loopi site f => Sys2Proof.Machine.execLoopi site f s
  | .loopr site f => Sys2Proof.Machine.execLoopr site f s
  | .endOp site rest => Sys2Proof.Machine.execEndOp site rest s
  | .xset site f => Sys2Proof.Machine.execXset site f s
  | .transferStart lane index => Sys2Proof.Machine.execTransferStart lane index s
  | .transferComplete lane index sram dram => Sys2Proof.Machine.execTransferComplete lane index sram dram s
  | .transferPacketRetry lane index delay failed => Sys2Proof.Machine.execTransferPacketRetry lane index delay failed s
  | .gateEntry index => Sys2Proof.Machine.execGateEntry index s
  | .getScheduleInfo r p => Sys2Proof.Machine.execGetScheduleInfo r p s
  | .selectSchedule r p => Sys2Proof.Machine.execSelectSchedule r p s
  | .agreementFrameReceived lane sender rx => Sys2Proof.Machine.execAgreementFrameReceived lane sender rx s
  | .receiptVectorSend lane => Sys2Proof.Machine.execReceiptVectorSend lane s
  | .receiptVectorReceived lane sender rx => Sys2Proof.Machine.execReceiptVectorReceived lane sender rx s
  | .agreementSelection lane => Sys2Proof.Machine.execAgreementSelection lane s
  | .signatureCapture lane => Sys2Proof.Machine.execSignatureCapture lane s
  | .signatureFrameSend lane => Sys2Proof.Machine.execSignatureFrameSend lane s
  | .signatureFrameReceived lane sender rx => Sys2Proof.Machine.execSignatureFrameReceived lane sender rx s
  | .verdictFormation lane => Sys2Proof.Machine.execVerdictFormation lane s
  | .voteVectorReceived dest sender rx => Sys2Proof.Machine.execVoteVectorReceived dest sender rx s
  | .vectorConsensus => Sys2Proof.Machine.execVectorConsensus s
  | .latentLimitAction => Sys2Proof.Machine.execLatentLimitAction s
  | .outputFrameReceived half sender rx => Sys2Proof.Machine.execOutputFrameReceived half sender rx s
  | .outputVoteRelease => Sys2Proof.Machine.execOutputVoteRelease s
  | .laneLoadComplete lane => Sys2Proof.Machine.execLaneLoadComplete lane s
  | .stateCopyPassComplete last => Sys2Proof.Machine.execStateCopyPassComplete last s
  | .stateCopyTakeover => Sys2Proof.Machine.execStateCopyTakeover s
  | .stateCopyFailed => Sys2Proof.Machine.execStateCopyFailed s
  | .laneSelfTestEnd lane passed => Sys2Proof.Machine.execLaneSelfTestEnd lane passed s
  | .engineSubstitution lane eng => Sys2Proof.Machine.execEngineSubstitution lane eng s
  | .splitBoundary => Sys2Proof.Machine.execSplitBoundary s
  | .groupBStart => Sys2Proof.Machine.execGroupBStart s
  | .joinBoundary => Sys2Proof.Machine.execJoinBoundary s
  | .diDisagreeCountClear => Sys2Proof.Machine.execDiDisagreeCountClear s
  | .linkErrorsClear => Sys2Proof.Machine.execLinkErrorsClear s
  | .liveCountClear => Sys2Proof.Machine.execLiveCountClear s
  | .laneBringIn r p => Sys2Proof.Machine.execLaneBringIn r p s
  | .splitCmd r p => Sys2Proof.Machine.execSplitCmd r p s
  | .joinCmd r p => Sys2Proof.Machine.execJoinCmd r p s
  | .laneSelfTest r p => Sys2Proof.Machine.execLaneSelfTest r p s
  | .applicationStart => Sys2Proof.Machine.execApplicationStart s
  | .applyStep lane task => Sys2Proof.Machine.execApplyStep lane task s
  | .inputStep lane task moves => Sys2Proof.Machine.execInputStep lane task moves s
  | .monitorStep lane func => Sys2Proof.Machine.execMonitorStep lane func s
  | .releaseStep lane task moves frame => Sys2Proof.Machine.execReleaseStep lane task moves frame s
  | .retainedCopyComplete => Sys2Proof.Machine.execRetainedCopyComplete s
  | .readVariable r p => Sys2Proof.Machine.execReadVariable r p s
  | .writeVariable r p => Sys2Proof.Machine.execWriteVariable r p s
  | .changeConstant r p => Sys2Proof.Machine.execChangeConstant r p s
  | .commitChanges r p => Sys2Proof.Machine.execCommitChanges r p s
  | .forceCmd r p => Sys2Proof.Machine.execForceCmd r p s
  | .unforce r p => Sys2Proof.Machine.execUnforce r p s
  | .listForces r p => Sys2Proof.Machine.execListForces r p s
  | .diLevelAccepted lane channel level ns => Sys2Proof.Machine.execDiLevelAccepted lane channel level ns s
  | .wireBreakDetection lane channel broken => Sys2Proof.Machine.execWireBreakDetection lane channel broken s
  | .modulatorRestart lane group now => Sys2Proof.Machine.execModulatorRestart lane group now s
  | .coarseDecimation lane channel sum now => Sys2Proof.Machine.execCoarseDecimation lane channel sum now s
  | .sdClockLoss lane group now => Sys2Proof.Machine.execSdClockLoss lane group now s
  | .sdDataStuck lane channel level now => Sys2Proof.Machine.execSdDataStuck lane channel level now s
  | .presetSelect channel v => Sys2Proof.Machine.execPresetSelect channel v s
  | .skewRemoveSelect channel on => Sys2Proof.Machine.execSkewRemoveSelect channel on s
  | .presetSwitch lane => Sys2Proof.Machine.execPresetSwitch lane s
  | .autozeroRequest channel => Sys2Proof.Machine.execAutozeroRequest channel s
  | .autozeroEnd lane channel => Sys2Proof.Machine.execAutozeroEnd lane channel s
  | .getChannel r p => Sys2Proof.Machine.execGetChannel r p s
  | .setPreset r p => Sys2Proof.Machine.execSetPreset r p s
  | .calibratePoint r p => Sys2Proof.Machine.execCalibratePoint r p s
  | .calibrationAveragingEnd => Sys2Proof.Machine.execCalibrationAveragingEnd s
  | .storeCalibration r p => Sys2Proof.Machine.execStoreCalibration r p s
  | .carrierUpdatePoint pair mid at_ => Sys2Proof.Machine.execCarrierUpdatePoint pair mid at_ s
  | .pwmEdge pair at_ => Sys2Proof.Machine.execPwmEdge pair at_ s
  | .pairEnable v => Sys2Proof.Machine.execPairEnable v s
  | .tripInEdge input high now => Sys2Proof.Machine.execTripInEdge input high now s
  | .tripClearRequest mask => Sys2Proof.Machine.execTripClearRequest mask s
  | .pulseAdjustClear => Sys2Proof.Machine.execPulseAdjustClear s
  | .pwmReadback output read durationNs now => Sys2Proof.Machine.execPwmReadback output read durationNs now s
  | .getTripStatus r p => Sys2Proof.Machine.execGetTripStatus r p s
  | .tripClear r p => Sys2Proof.Machine.execTripClear r p s
  | .stageFrameReceived rxA rxB equal now => Sys2Proof.Machine.execStageFrameReceived rxA rxB equal now s
  | .stageReadbackSample readback current fsA fsB tpHigh now => Sys2Proof.Machine.execStageReadbackSample readback current fsA fsB tpHigh now s
  | .stageWatchdogTrip now => Sys2Proof.Machine.execStageWatchdogTrip now s
  | .fieldSupplyLow group v now => Sys2Proof.Machine.execFieldSupplyLow group v now s
  | .fieldSupplyRecovered group now => Sys2Proof.Machine.execFieldSupplyRecovered group now s
  | .outputOverload channel thermal mA now => Sys2Proof.Machine.execOutputOverload channel thermal mA now s
  | .readbackMismatch channel now => Sys2Proof.Machine.execReadbackMismatch channel now s
  | .externalVoltageDetection channel now => Sys2Proof.Machine.execExternalVoltageDetection channel now s
  | .sourceEvaluation channel high now => Sys2Proof.Machine.execSourceEvaluation channel high now s
  | .sourceSearchEnd channel partner now => Sys2Proof.Machine.execSourceSearchEnd channel partner now s
  | .channelClear mask => Sys2Proof.Machine.execChannelClear mask s
  | .getIoStatus r p => Sys2Proof.Machine.execGetIoStatus r p s
  | .testOutput r p => Sys2Proof.Machine.execTestOutput r p s
  | .testOutputEnd now => Sys2Proof.Machine.execTestOutputEnd now s
  | .testPulseStart tp => Sys2Proof.Machine.execTestPulseStart tp s
  | .testWindowEvaluation tp before during after => Sys2Proof.Machine.execTestWindowEvaluation tp before during after s
  | .tpAbsentDetection tp => Sys2Proof.Machine.execTpAbsentDetection tp s
  | .tpRetry tp now => Sys2Proof.Machine.execTpRetry tp now s
  | .offPulseStart channel now => Sys2Proof.Machine.execOffPulseStart channel now s
  | .offPulseEnd channel left fallUs now => Sys2Proof.Machine.execOffPulseEnd channel left fallUs now s
  | .getSafetyStatus r p => Sys2Proof.Machine.execGetSafetyStatus r p s
  | .linkStatePoll up now => Sys2Proof.Machine.execLinkStatePoll up now s
  | .frameReceived port frame fcsOk now => Sys2Proof.Machine.execFrameReceived port frame fcsOk now s
  | .pdTimeout index now => Sys2Proof.Machine.execPdTimeout index now s
  | .pdPullRequest index now => Sys2Proof.Machine.execPdPullRequest index now s
  | .pdPublication index now => Sys2Proof.Machine.execPdPublication index now s
  | .frameTransmit port now => Sys2Proof.Machine.execFrameTransmit port now s
  | .frameTransmitComplete port now => Sys2Proof.Machine.execFrameTransmitComplete port now s
  | .prpSupervisionSend now => Sys2Proof.Machine.execPrpSupervisionSend now s
  | .prpNodeForget mac now => Sys2Proof.Machine.execPrpNodeForget mac now s
  | .prpPathLoss lan now => Sys2Proof.Machine.execPrpPathLoss lan now s
  | .arpRetry iface ip now => Sys2Proof.Machine.execArpRetry iface ip now s
  | .arpCacheAging iface ip now => Sys2Proof.Machine.execArpCacheAging iface ip now s
  | .ipConfigApply now => Sys2Proof.Machine.execIpConfigApply now s
  | .gratuitousArpRepeat now => Sys2Proof.Machine.execGratuitousArpRepeat now s
  | .portSubstitution now => Sys2Proof.Machine.execPortSubstitution now s
  | .parserDoorbell queue value descs consumed now => Sys2Proof.Machine.execParserDoorbell queue value descs consumed now s
  | .laneDoorbell lane offset data => Sys2Proof.Machine.execLaneDoorbell lane offset data s
  | .getPortStatus r p => Sys2Proof.Machine.execGetPortStatus r p s
  | .setIpConfig r p => Sys2Proof.Machine.execSetIpConfig r p s
  | .substitutePort r p => Sys2Proof.Machine.execSubstitutePort r p s
  | .canIntegrationEnd controller now => Sys2Proof.Machine.execCanIntegrationEnd controller now s
  | .canFrameReceived controller id flags dlc data stamp now => Sys2Proof.Machine.execCanFrameReceived controller id flags dlc data stamp now s
  | .canTransmitAttempt controller now => Sys2Proof.Machine.execCanTransmitAttempt controller now s
  | .canAttemptEnd controller result tdc now => Sys2Proof.Machine.execCanAttemptEnd controller result tdc now s
  | .canRecoveryComplete controller now => Sys2Proof.Machine.execCanRecoveryComplete controller now s
  | .recoverRequest controller => Sys2Proof.Machine.execRecoverRequest controller s
  | .abortBuf controller mask => Sys2Proof.Machine.execAbortBuf controller mask s
  | .abortFifo controller => Sys2Proof.Machine.execAbortFifo controller s
  | .getCanStatus r p => Sys2Proof.Machine.execGetCanStatus r p s
  | .canRecover r p => Sys2Proof.Machine.execCanRecover r p s
  | .canSetListen r p => Sys2Proof.Machine.execCanSetListen r p s
  | .ybCycleStart diff now => Sys2Proof.Machine.execYbCycleStart diff now s
  | .ybTransmitLatch slot => Sys2Proof.Machine.execYbTransmitLatch slot s
  | .ybStaticSlotSend slot mismatch now => Sys2Proof.Machine.execYbStaticSlotSend slot mismatch now s
  | .ybFrameReceived channel slot frame coding inSlot deviation stamp now => Sys2Proof.Machine.execYbFrameReceived channel slot frame coding inSlot deviation stamp now s
  | .ybSlotEnd slot activity now => Sys2Proof.Machine.execYbSlotEnd slot activity now s
  | .ybMinislot k j mismatch now => Sys2Proof.Machine.execYbMinislot k j mismatch now s
  | .ybNetworkIdleTime tableOk now => Sys2Proof.Machine.execYbNetworkIdleTime tableOk now s
  | .ybListenTimeout now => Sys2Proof.Machine.execYbListenTimeout now s
  | .claimRelease slot => Sys2Proof.Machine.execClaimRelease slot s
  | .guardianBlock channels slot ns now => Sys2Proof.Machine.execGuardianBlock channels slot ns now s
  | .getYbStatus r p => Sys2Proof.Machine.execGetYbStatus r p s
  | .ybRestart r p => Sys2Proof.Machine.execYbRestart r p s
  | .rackEnumeration answers now => Sys2Proof.Machine.execRackEnumeration answers now s
  | .rackIdentifyRetry station now => Sys2Proof.Machine.execRackIdentifyRetry station now s
  | .rackExchange station now => Sys2Proof.Machine.execRackExchange station now s
  | .rackReplyReceived packet now => Sys2Proof.Machine.execRackReplyReceived packet now s
  | .rackWindowClosedEmpty now => Sys2Proof.Machine.execRackWindowClosedEmpty now s
  | .rackHoldExpiry station now => Sys2Proof.Machine.execRackHoldExpiry station now s
  | .rackRequestSend now => Sys2Proof.Machine.execRackRequestSend now s
  | .rackPoll station now => Sys2Proof.Machine.execRackPoll station now s
  | .tagTimeout tag now => Sys2Proof.Machine.execTagTimeout tag now s
  | .tagQuarantineEnd tag now => Sys2Proof.Machine.execTagQuarantineEnd tag now s
  | .prefetchAgeDiscard station now => Sys2Proof.Machine.execPrefetchAgeDiscard station now s
  | .hostPoll station now => Sys2Proof.Machine.execHostPoll station now s
  | .rackCommandTimeout station now => Sys2Proof.Machine.execRackCommandTimeout station now s
  | .enableReq mask => Sys2Proof.Machine.execEnableReq mask s
  | .getStationStatus r p => Sys2Proof.Machine.execGetStationStatus r p s
  | .rackRead r p => Sys2Proof.Machine.execRackRead r p s
  | .rackWrite r p => Sys2Proof.Machine.execRackWrite r p s
  | .rescan r p => Sys2Proof.Machine.execRescan r p s
  | .partnerLaneState lane up now => Sys2Proof.Machine.execPartnerLaneState lane up now s
  | .helloSend now => Sys2Proof.Machine.execHelloSend now s
  | .partnerFrameReceived lane frame now => Sys2Proof.Machine.execPartnerFrameReceived lane frame now s
  | .copyHeaderSend now => Sys2Proof.Machine.execCopyHeaderSend now s
  | .copyDataSent now => Sys2Proof.Machine.execCopyDataSent now s
  | .copyHeaderReceived lane frame now => Sys2Proof.Machine.execCopyHeaderReceived lane frame now s
  | .copyEndReceived lane frame now => Sys2Proof.Machine.execCopyEndReceived lane frame now s
  | .copyApply => Sys2Proof.Machine.execCopyApply s
  | .ackReceived lane frame now => Sys2Proof.Machine.execAckReceived lane frame now s
  | .copyMiss now => Sys2Proof.Machine.execCopyMiss now s
  | .ackMiss now => Sys2Proof.Machine.execAckMiss now s
  | .roleChange => Sys2Proof.Machine.execRoleChange s
  | .getPartnerStatus r p => Sys2Proof.Machine.execGetPartnerStatus r p s
  | .switchover r p => Sys2Proof.Machine.execSwitchover r p s
  | .setRolePolicy r p => Sys2Proof.Machine.execSetRolePolicy r p s
  | .dramWriteBack unit stripe => Sys2Proof.Machine.execDramWriteBack unit stripe s
  | .patrolScrub unit stripe errs => Sys2Proof.Machine.execPatrolScrub unit stripe errs s
  | .sramScrub unit found => Sys2Proof.Machine.execSramScrub unit found s
  | .nandProgram cut failed => Sys2Proof.Machine.execNandProgram cut failed s
  | .spareCopyComplete cls unit index => Sys2Proof.Machine.execSpareCopyComplete cls unit index s
  | .substitutionBoundary => Sys2Proof.Machine.execSubstitutionBoundary s
  | .lockRead n master station lanes => Sys2Proof.Machine.execLockRead n master station lanes s
  | .lockRelease n master => Sys2Proof.Machine.execLockRelease n master s
  | .getWear r p => Sys2Proof.Machine.execGetWear r p s
  | .substitute r p => Sys2Proof.Machine.execSubstitute r p s
  | .commandPacketReceived transport source port packet now => Sys2Proof.Machine.execCommandPacketReceived transport source port packet now s
  | .sessionExpiry now => Sys2Proof.Machine.execSessionExpiry now s
  | .mbPush lane n words eng => Sys2Proof.Machine.execMbPush lane n words eng s
  | .b2aConsumed n v => Sys2Proof.Machine.execB2aConsumed n v s
  | .mailboxTake n count now => Sys2Proof.Machine.execMailboxTake n count now s
  | .mailboxFrameReceived station payload now => Sys2Proof.Machine.execMailboxFrameReceived station payload now s
  | .mailboxResend n now => Sys2Proof.Machine.execMailboxResend n now s
  | .mailboxWake frame now => Sys2Proof.Machine.execMailboxWake frame now s
  | .mbNoProgress n now => Sys2Proof.Machine.execMbNoProgress n now s
  | .mbStatus r p => Sys2Proof.Machine.execMbStatus r p s
  | .beginImage r p => Sys2Proof.Machine.execBeginImage r p s
  | .imageData r p => Sys2Proof.Machine.execImageData r p s
  | .endImage r p => Sys2Proof.Machine.execEndImage r p s
  | .imageTransferAbandon now => Sys2Proof.Machine.execImageTransferAbandon now s
  | .confirmImage r p => Sys2Proof.Machine.execConfirmImage r p s
  | .getImages r p => Sys2Proof.Machine.execGetImages r p s
  | .attest r p => Sys2Proof.Machine.execAttest r p s
  | .getIdentity r p => Sys2Proof.Machine.execGetIdentity r p s
  | .setCommandKey r p => Sys2Proof.Machine.execSetCommandKey r p s
  | .getStatus r p => Sys2Proof.Machine.execGetStatus r p s
  | .setMode r p => Sys2Proof.Machine.execSetMode r p s
  | .setPower r p => Sys2Proof.Machine.execSetPower r p s
  | .resetModule r p => Sys2Proof.Machine.execResetModule r p s
  | .getFaults r p => Sys2Proof.Machine.execGetFaults r p s
  | .clearFaults r p => Sys2Proof.Machine.execClearFaults r p s
  | .safeReq v => Sys2Proof.Machine.execSafeReq v s
  | .traceStreamSend sent now => Sys2Proof.Machine.execTraceStreamSend sent now s
  | .traceOverflow => Sys2Proof.Machine.execTraceOverflow s
  | .readTrace r p => Sys2Proof.Machine.execReadTrace r p s
  | .setTraceFilter r p => Sys2Proof.Machine.execSetTraceFilter r p s
  | .readCounters r p => Sys2Proof.Machine.execReadCounters r p s
  | .setCounterEvent r p => Sys2Proof.Machine.execSetCounterEvent r p s
  | .injectCmd r p => Sys2Proof.Machine.execInjectCmd r p s
  | .injectionApplication id now => Sys2Proof.Machine.execInjectionApplication id now s
  | .listDetectors r p => Sys2Proof.Machine.execListDetectors r p s
  | .registerWrite parser block off w => Sys2Proof.Machine.execRegisterWrite parser block off w s
  | .parserComparatorMismatch parity now => Sys2Proof.Machine.execParserComparatorMismatch parity now s
  | .doInputSample channel high => Sys2Proof.Machine.execDoInputSample channel high s
  | .tpCurrentLimit tp now => Sys2Proof.Machine.execTpCurrentLimit tp now s
  | .canReceiveError controller error now => Sys2Proof.Machine.execCanReceiveError controller error now s
  | .parserDataUncorrectable row word now => Sys2Proof.Machine.execParserDataUncorrectable row word now s
  | .parserCodeUncorrectable addr now => Sys2Proof.Machine.execParserCodeUncorrectable addr now s

end Sys2Proof.Machine
end

