-- ==== Sys2Proof/WellFormed.lean ====
section
/-! DEFINITION. Well-formed commands: what a sender can spell. A command outside this form cannot arrive; `exec` answers it all the same. -/
namespace Sys2Proof
open Sys2Proof.Machine

/-- The fields of a request fit the widths of Table 17.2 and the transports of Table 17.1. -/
def reqOk (r : Req) : Bool :=
  decide (r.transport ≤ 4) && decide (r.source < 2 ^ 32) && decide (r.port < 2 ^ 16) && decide (r.slot < 2 ^ 8) &&
    decide (r.session < 2 ^ 32) && decide (r.seq < 2 ^ 32) && decide (r.authority < 2 ^ 8)

/-- Parameters hold at most 1,448 bytes (R423). -/
def paramsOk (p : Bytes) : Bool := decide (p.length ≤ 1448)

/-- A carrier counts only beside the immediate 0x100 (R74). -/
def immOk (f : ImmSyl) : Bool := f.imm == 0x100#9 || f.long == 0#32

/-- Station numbers are 5 bits (Table 14.1). -/
def stationOk (i : Nat) : Bool := decide (i < 32)

def countIs {α : Type} (n : Nat) (l : List α) : Bool := l.length == n

/-- No frame or packet is longer than a partner frame: 16 bytes and a payload of 4,096 (R379). -/
def bytesOk (b : Bytes) : Bool := decide (b.length ≤ 4112)

/-- A write to MB_PUSH carries 1 to 8 words (Table 17.11). -/
def wordsOk (w : List Word) : Bool := decide (1 ≤ w.length ∧ w.length ≤ 8)

/-- Whether a command is well formed. -/
def Instr.wf : Instr → Bool
  | .powerOn _ => true
  | .boot _ => true
  | .partnerHandshakeEnd _ => true
  | .wakeNLow _ => true
  | .wakeFrame _ frame _ => bytesOk frame
  | .dormantWake _ => true
  | .rstNLow _ _ => true
  | .holdupCollapse _ _ => true
  | .vinSample _ _ _ => true
  | .supplyDeferralEnd _ => true
  | .temperatureMeasurement _ _ => true
  | .tamperOpen _ => true
  | .vbatLoss _ => true
  | .hubComparatorSelftest _ _ _ => true
  | .tickStartMarker _ => true
  | .tickStart _ _ fines => countIs 16 fines
  | .hubTickStart _ => true
  | .tickMarkerReceived _ _ _ => true
  | .guardAlignment _ => true
  | .steerRateUpdate _ => true
  | .rtcUpdate _ => true
  | .ptpAnnounceReceived _ _ _ _ _ _ _ => true
  | .ptpSyncReceived _ _ _ _ => true
  | .ptpDelayReqSend _ _ => true
  | .ptpDelayRespReceived _ _ _ _ => true
  | .ptpPdelayReqReceived _ _ _ _ => true
  | .ptpTimeout _ _ _ => true
  | .tb3Select _ => true
  | .steerEnable _ => true
  | .selectTimeDomain r p => reqOk r && paramsOk p
  | .getPtpStatus r p => reqOk r && paramsOk p
  | .clauseStart _ _ _ => true
  | .operationWriteback _ => true
  | .clauseBudget _ => true
  | .clauseComplete _ => true
  | .nop _ _ _ _ => true
  | .add _ _ _ => true
  | .sub _ _ _ => true
  | .andOp _ _ _ => true
  | .orOp _ _ _ => true
  | .xorOp _ _ _ => true
  | .andn _ _ _ => true
  | .shl _ _ _ => true
  | .shr _ _ _ => true
  | .sar _ _ _ => true
  | .ror _ _ _ => true
  | .min _ _ _ => true
  | .max _ _ _ => true
  | .minu _ _ _ => true
  | .maxu _ _ _ => true
  | .sel _ _ _ => true
  | .addi _ _ f => immOk f
  | .andi _ _ f => immOk f
  | .ori _ _ f => immOk f
  | .xori _ _ f => immOk f
  | .shli _ _ f => immOk f
  | .shri _ _ f => immOk f
  | .sari _ _ f => immOk f
  | .rori _ _ f => immOk f
  | .cmpeq _ _ _ => true
  | .cmpne _ _ _ => true
  | .cmplt _ _ _ => true
  | .cmpltu _ _ _ => true
  | .cmple _ _ _ => true
  | .cmpleu _ _ _ => true
  | .cmpeqi _ _ f => immOk f
  | .cmplti _ _ f => immOk f
  | .pand _ _ _ => true
  | .por _ _ _ => true
  | .pxor _ _ _ => true
  | .pandn _ _ _ => true
  | .mfs _ _ _ => true
  | .mfsd _ _ _ => true
  | .mts _ _ _ => true
  | .movd _ _ _ => true
  | .clz _ _ _ => true
  | .popc _ _ _ => true
  | .addd _ _ _ => true
  | .subd _ _ _ => true
  | .fneg _ _ _ => true
  | .fabs _ _ _ => true
  | .mul _ _ => true
  | .mulhs _ _ => true
  | .mulhu _ _ => true
  | .mulws _ _ => true
  | .mulwu _ _ => true
  | .divs _ _ => true
  | .divu _ _ => true
  | .rems _ _ => true
  | .remu _ _ => true
  | .faddS _ _ => true
  | .fsubS _ _ => true
  | .fmulS _ _ => true
  | .fmaS _ _ => true
  | .fnmaS _ _ => true
  | .fminS _ _ => true
  | .fmaxS _ _ => true
  | .fdivS _ _ => true
  | .fsqrtS _ _ => true
  | .fcmpeqS _ _ => true
  | .fcmpltS _ _ => true
  | .fcmpleS _ _ => true
  | .fcmpunS _ _ => true
  | .fcvtSW _ _ => true
  | .fcvtnWS _ _ => true
  | .fcvtzWS _ _ => true
  | .faddD _ _ => true
  | .fsubD _ _ => true
  | .fmulD _ _ => true
  | .fmaD _ _ => true
  | .fnmaD _ _ => true
  | .fminD _ _ => true
  | .fmaxD _ _ => true
  | .fdivD _ _ => true
  | .fsqrtD _ _ => true
  | .fcmpeqD _ _ => true
  | .fcmpltD _ _ => true
  | .fcmpleD _ _ => true
  | .fcmpunD _ _ => true
  | .fcvtDW _ _ => true
  | .fcvtnWD _ _ => true
  | .fcvtzWD _ _ => true
  | .fcvtDS _ _ => true
  | .fcvtSD _ _ => true
  | .ldw _ f _ => immOk f
  | .ldh _ f _ => immOk f
  | .ldhu _ f _ => immOk f
  | .ldb _ f _ => immOk f
  | .ldbu _ f _ => immOk f
  | .ldd _ f _ => immOk f
  | .stw _ f _ => immOk f
  | .sth _ f _ => immOk f
  | .stb _ f _ => immOk f
  | .std _ f _ => immOk f
  | .ldwx _ _ _ => true
  | .lddx _ _ _ => true
  | .stwx _ _ _ => true
  | .stdx _ _ _ => true
  | .br _ _ => true
  | .bri _ _ => true
  | .loopi _ _ => true
  | .loopr _ _ => true
  | .endOp _ _ => true
  | .xset _ _ => true
  | .transferStart _ _ => true
  | .transferComplete _ _ _ _ => true
  | .transferPacketRetry _ _ _ _ => true
  | .gateEntry _ => true
  | .getScheduleInfo r p => reqOk r && paramsOk p
  | .selectSchedule r p => reqOk r && paramsOk p
  | .agreementFrameReceived _ _ _ => true
  | .receiptVectorSend _ => true
  | .receiptVectorReceived _ _ _ => true
  | .agreementSelection _ => true
  | .signatureCapture _ => true
  | .signatureFrameSend _ => true
  | .signatureFrameReceived _ _ _ => true
  | .verdictFormation _ => true
  | .voteVectorReceived _ _ _ => true
  | .vectorConsensus => true
  | .latentLimitAction => true
  | .outputFrameReceived _ _ _ => true
  | .outputVoteRelease => true
  | .laneLoadComplete _ => true
  | .stateCopyPassComplete _ => true
  | .stateCopyTakeover => true
  | .stateCopyFailed => true
  | .laneSelfTestEnd _ _ => true
  | .engineSubstitution _ _ => true
  | .splitBoundary => true
  | .groupBStart => true
  | .joinBoundary => true
  | .diDisagreeCountClear => true
  | .linkErrorsClear => true
  | .liveCountClear => true
  | .laneBringIn r p => reqOk r && paramsOk p
  | .splitCmd r p => reqOk r && paramsOk p
  | .joinCmd r p => reqOk r && paramsOk p
  | .laneSelfTest r p => reqOk r && paramsOk p
  | .applicationStart => true
  | .applyStep _ _ => true
  | .inputStep _ _ _ => true
  | .monitorStep _ _ => true
  | .releaseStep _ _ _ _ => true
  | .retainedCopyComplete => true
  | .readVariable r p => reqOk r && paramsOk p
  | .writeVariable r p => reqOk r && paramsOk p
  | .changeConstant r p => reqOk r && paramsOk p
  | .commitChanges r p => reqOk r && paramsOk p
  | .forceCmd r p => reqOk r && paramsOk p
  | .unforce r p => reqOk r && paramsOk p
  | .listForces r p => reqOk r && paramsOk p
  | .diLevelAccepted _ _ _ _ => true
  | .wireBreakDetection _ _ _ => true
  | .modulatorRestart _ _ _ => true
  | .coarseDecimation _ _ _ _ => true
  | .sdClockLoss _ _ _ => true
  | .sdDataStuck _ _ _ _ => true
  | .presetSelect _ _ => true
  | .skewRemoveSelect _ _ => true
  | .presetSwitch _ => true
  | .autozeroRequest _ => true
  | .autozeroEnd _ _ => true
  | .getChannel r p => reqOk r && paramsOk p
  | .setPreset r p => reqOk r && paramsOk p
  | .calibratePoint r p => reqOk r && paramsOk p
  | .calibrationAveragingEnd => true
  | .storeCalibration r p => reqOk r && paramsOk p
  | .carrierUpdatePoint _ _ _ => true
  | .pwmEdge _ _ => true
  | .pairEnable _ => true
  | .tripInEdge _ _ _ => true
  | .tripClearRequest _ => true
  | .pulseAdjustClear => true
  | .pwmReadback _ _ _ _ => true
  | .getTripStatus r p => reqOk r && paramsOk p
  | .tripClear r p => reqOk r && paramsOk p
  | .stageFrameReceived _ _ _ _ => true
  | .stageReadbackSample readback current _ _ _ _ => countIs 24 readback && countIs 24 current
  | .stageWatchdogTrip _ => true
  | .fieldSupplyLow _ _ _ => true
  | .fieldSupplyRecovered _ _ => true
  | .outputOverload _ _ _ _ => true
  | .readbackMismatch _ _ => true
  | .externalVoltageDetection _ _ => true
  | .sourceEvaluation _ _ _ => true
  | .sourceSearchEnd _ _ _ => true
  | .channelClear _ => true
  | .getIoStatus r p => reqOk r && paramsOk p
  | .testOutput r p => reqOk r && paramsOk p
  | .testOutputEnd _ => true
  | .testPulseStart _ => true
  | .testWindowEvaluation _ before during after => countIs 24 before && countIs 24 during && countIs 24 after
  | .tpAbsentDetection _ => true
  | .tpRetry _ _ => true
  | .offPulseStart _ _ => true
  | .offPulseEnd _ _ _ _ => true
  | .getSafetyStatus r p => reqOk r && paramsOk p
  | .linkStatePoll _ _ => true
  | .frameReceived _ frame _ _ => bytesOk frame
  | .pdTimeout _ _ => true
  | .pdPullRequest _ _ => true
  | .pdPublication _ _ => true
  | .frameTransmit _ _ => true
  | .frameTransmitComplete _ _ => true
  | .prpSupervisionSend _ => true
  | .prpNodeForget _ _ => true
  | .prpPathLoss _ _ => true
  | .arpRetry _ _ _ => true
  | .arpCacheAging _ _ _ => true
  | .ipConfigApply _ => true
  | .gratuitousArpRepeat _ => true
  | .portSubstitution _ => true
  | .parserDoorbell _ _ _ _ _ => true
  | .laneDoorbell _ _ _ => true
  | .getPortStatus r p => reqOk r && paramsOk p
  | .setIpConfig r p => reqOk r && paramsOk p
  | .substitutePort r p => reqOk r && paramsOk p
  | .canIntegrationEnd _ _ => true
  | .canFrameReceived _ _ _ _ _ _ _ => true
  | .canTransmitAttempt _ _ => true
  | .canAttemptEnd _ _ _ _ => true
  | .canRecoveryComplete _ _ => true
  | .recoverRequest _ => true
  | .abortBuf _ _ => true
  | .abortFifo _ => true
  | .getCanStatus r p => reqOk r && paramsOk p
  | .canRecover r p => reqOk r && paramsOk p
  | .canSetListen r p => reqOk r && paramsOk p
  | .ybCycleStart _ _ => true
  | .ybTransmitLatch _ => true
  | .ybStaticSlotSend _ _ _ => true
  | .ybFrameReceived _ _ frame _ _ _ _ _ => bytesOk frame
  | .ybSlotEnd _ _ _ => true
  | .ybMinislot _ _ _ _ => true
  | .ybNetworkIdleTime _ _ => true
  | .ybListenTimeout _ => true
  | .claimRelease _ => true
  | .guardianBlock _ _ _ _ => true
  | .getYbStatus r p => reqOk r && paramsOk p
  | .ybRestart r p => reqOk r && paramsOk p
  | .rackEnumeration _ _ => true
  | .rackIdentifyRetry station _ => stationOk station
  | .rackExchange station _ => stationOk station
  | .rackReplyReceived packet _ => bytesOk packet
  | .rackWindowClosedEmpty _ => true
  | .rackHoldExpiry station _ => stationOk station
  | .rackRequestSend _ => true
  | .rackPoll station _ => stationOk station
  | .tagTimeout _ _ => true
  | .tagQuarantineEnd _ _ => true
  | .prefetchAgeDiscard station _ => stationOk station
  | .hostPoll station _ => stationOk station
  | .rackCommandTimeout station _ => stationOk station
  | .enableReq _ => true
  | .getStationStatus r p => reqOk r && paramsOk p
  | .rackRead r p => reqOk r && paramsOk p
  | .rackWrite r p => reqOk r && paramsOk p
  | .rescan r p => reqOk r && paramsOk p
  | .partnerLaneState _ _ _ => true
  | .helloSend _ => true
  | .partnerFrameReceived _ frame _ => bytesOk frame
  | .copyHeaderSend _ => true
  | .copyDataSent _ => true
  | .copyHeaderReceived _ frame _ => bytesOk frame
  | .copyEndReceived _ frame _ => bytesOk frame
  | .copyApply => true
  | .ackReceived _ frame _ => bytesOk frame
  | .copyMiss _ => true
  | .ackMiss _ => true
  | .roleChange => true
  | .getPartnerStatus r p => reqOk r && paramsOk p
  | .switchover r p => reqOk r && paramsOk p
  | .setRolePolicy r p => reqOk r && paramsOk p
  | .dramWriteBack _ _ => true
  | .patrolScrub _ _ _ => true
  | .sramScrub _ _ => true
  | .nandProgram _ _ => true
  | .spareCopyComplete _ _ _ => true
  | .substitutionBoundary => true
  | .lockRead _ _ station _ => stationOk station
  | .lockRelease _ _ => true
  | .getWear r p => reqOk r && paramsOk p
  | .substitute r p => reqOk r && paramsOk p
  | .commandPacketReceived _ _ _ packet _ => bytesOk packet
  | .sessionExpiry _ => true
  | .mbPush _ _ words _ => wordsOk words
  | .b2aConsumed _ _ => true
  | .mailboxTake _ _ _ => true
  | .mailboxFrameReceived _ payload _ => bytesOk payload
  | .mailboxResend _ _ => true
  | .mailboxWake frame _ => bytesOk frame
  | .mbNoProgress _ _ => true
  | .mbStatus r p => reqOk r && paramsOk p
  | .beginImage r p => reqOk r && paramsOk p
  | .imageData r p => reqOk r && paramsOk p
  | .endImage r p => reqOk r && paramsOk p
  | .imageTransferAbandon _ => true
  | .confirmImage r p => reqOk r && paramsOk p
  | .getImages r p => reqOk r && paramsOk p
  | .attest r p => reqOk r && paramsOk p
  | .getIdentity r p => reqOk r && paramsOk p
  | .setCommandKey r p => reqOk r && paramsOk p
  | .getStatus r p => reqOk r && paramsOk p
  | .setMode r p => reqOk r && paramsOk p
  | .setPower r p => reqOk r && paramsOk p
  | .resetModule r p => reqOk r && paramsOk p
  | .getFaults r p => reqOk r && paramsOk p
  | .clearFaults r p => reqOk r && paramsOk p
  | .safeReq _ => true
  | .traceStreamSend _ _ => true
  | .traceOverflow => true
  | .readTrace r p => reqOk r && paramsOk p
  | .setTraceFilter r p => reqOk r && paramsOk p
  | .readCounters r p => reqOk r && paramsOk p
  | .setCounterEvent r p => reqOk r && paramsOk p
  | .injectCmd r p => reqOk r && paramsOk p
  | .injectionApplication _ _ => true
  | .listDetectors r p => reqOk r && paramsOk p
  | .registerWrite _ _ _ _ => true
  | .parserComparatorMismatch _ _ => true
  | .doInputSample _ _ => true
  | .tpCurrentLimit _ _ => true
  | .canReceiveError _ _ _ => true
  | .parserDataUncorrectable _ _ _ => true
  | .parserCodeUncorrectable _ _ => true

end Sys2Proof
end

