-- ==== Sys2Proof/Safety.lean ====
section
/-! DEFINITION. The terms of the statements: when a command meets the conditions under which the spec gives it its own effect, and
what holds of every state. -/
namespace Sys2Proof.Machine

/-! ### Invariants -/

/-- Every lane's memory is in its one canonical form. -/
def State.canonical (s : State) : Prop := ∀ l : LaneId, (s.lane l).mem.wf = true

/-- g0 holds 0 and p0 holds 1 in every logical engine (R62). -/
def State.hardwired (s : State) : Prop :=
  ∀ k : Site, (s.engine k).regs[0] = 0#32 ∧ (s.engine k).preds.getLsbD 0 = true

/-! ### The clause engine -/

/-- A clause of an engine issues its present bundle in this cycle (R83, R87 to R89). -/
def State.issuesAt (s : State) (k : Site) (r : Running) : Prop := (s.engine k).run = some r ∧ r.issues = true

/-- The same, and the M slot is free (R78). -/
def State.issuesM (s : State) (k : Site) (r : Running) : Prop := s.issuesAt k r ∧ (s.engine k).mFree ≤ r.cyc

/-- The state in which the present bundle of an engine has been changed, and nothing else. -/
def State.bundled (k : Site) (f : Bundle → Bundle) (s : State) : State := s.modEng k (fun e => { e with bundle := f e.bundle })

/-- One more operation in a bundle: issued in cycle `cyc` from a slot, of a latency, without flags. -/
def Bundle.withOp (cyc slot lat : Nat) (dst : Dest) (v : DWord) (flags : Nat) (dead : Bool) (b : Bundle) : Bundle :=
  { b with ops := b.ops ++ [⟨cyc, slot, cyc + lat - 1, dst, v, flags, dead⟩] }

/-- A syllable's guard is true (R72). -/
def State.guarded (s : State) (k : Site) (n : Bool) (p : BitVec 3) : Prop := (s.engine k).guard n p = true

/-- What an operation writes to register n, if anything (R62, Table 3.1). -/
def Op.writes (n : BitVec 6) (o : Op) : Option Word :=
  match o.dst with
  | .reg m => if m = n then some (o.value.truncate 32) else none
  | .pair m => if m + 1 = n then some ((o.value >>> 32).truncate 32) else if m = n then some (o.value.truncate 32) else none
  | _ => none

/-- The operations that write at the end of a cycle, in the order of R64: by issue, within a bundle by slot. -/
def Engine.dueAt (cyc : Nat) (e : Engine) : List Op :=
  (e.flight ++ sortBy (fun a b => decide (a.slot ≤ b.slot)) e.bundle.ops).filter (fun o => o.due == cyc)

/-- A clause that stands before the end of its present cycle: it has not completed, has not passed cycle B and was not aborted. -/
def State.cycleOf (s : State) (k : Site) (r : Running) : Prop :=
  (s.engine k).run = some r ∧ r.aborted = none ∧ r.cyc ≤ r.budget ∧ ¬ (r.ended = true ∧ (s.engine k).flight = [])

/-- Nothing of an engine that a program can see differs, but for what a bundle in the making holds. -/
def Engine.sameRegisters (e e' : Engine) : Prop :=
  e'.regs = e.regs ∧ e'.preds = e.preds ∧ e'.lc0 = e.lc0 ∧ e'.lc1 = e.lc1 ∧ e'.flags = e.flags ∧ e'.flight = e.flight ∧
    e'.slots = e.slots ∧ e'.live = e.live ∧ e'.dead = e.dead

/-- A scratchpad address at which an access of `size` bytes aborts nothing (R67). -/
def scratchOk (a size : Nat) : Prop := a < scratchSize ∧ a % size = 0

/-- A scratchpad access whose memory word was sound: what the decoding of a syllable gives, since its word says nothing of what the
access will find. -/
def accessClean : Instr → Instr
  | .ldw k f _ => .ldw k f .clean
  | .ldh k f _ => .ldh k f .clean
  | .ldhu k f _ => .ldhu k f .clean
  | .ldb k f _ => .ldb k f .clean
  | .ldbu k f _ => .ldbu k f .clean
  | .ldd k f _ => .ldd k f .clean
  | .stw k f _ => .stw k f .clean
  | .sth k f _ => .sth k f .clean
  | .stb k f _ => .stb k f .clean
  | .std k f _ => .std k f .clean
  | .ldwx k f _ => .ldwx k f .clean
  | .lddx k f _ => .lddx k f .clean
  | .stwx k f _ => .stwx k f .clean
  | .stdx k f _ => .stdx k f .clean
  | i => i

/-! ### Requests (R424, R433, R434) -/

/-- A one-phase request passes steps 8 to 11 of R424 in this state. -/
def OpSpec.accepts (d : OpSpec) (r : Req) (p : Bytes) (s : State) : Prop :=
  s.hub.silent = false ∧ d.authorityOk r p s = true ∧ r.headerOk = true ∧ r.confirm = false ∧ d.twoPhase s p = false ∧
    d.layout p = true ∧ s.hub.execBusy r = false ∧ d.step11 s r p = none

/-- Fields (bytes, value) one after another, big-endian (R6). -/
def bigEndian (l : List (Nat × Nat)) : Bytes := l.flatMap (fun f => beBytes f.1 f.2)

/-- A request is answered with a status and parameters, and nothing but that happens. -/
def State.answered (r : Req) (op : Opcode) (st : Status) (body : Bytes) (s : State) : Out := .next (s.modHub (Hub.reply r op st body))

/-- A request goes into execution, to be answered by a later event (R431). -/
def State.deferred (r : Req) (op : Opcode) (p : Bytes) (key : List Nat) (s : State) : Out := .next (s.modHub (Hub.defer r op p key))

/-- A session after its confirm code has been used up. -/
def Session.codeUsed (r : Req) (y : Session) : Session := if y.matches r then { y with confirm := none } else y

def State.codeUsed (r : Req) (s : State) : State :=
  s.modHub (fun h => { h with cmd.sessions := h.cmd.sessions.map (Session.codeUsed r) })

/-- The confirming packet of a two-phase request passes steps 8 to 11: it repeats the opcode and the parameters `p` with the code
drawn for its session no more than 10 s ago. -/
def OpSpec.confirms (d : OpSpec) (r : Req) (p : Bytes) (code : Nat) (s : State) : Prop :=
  s.hub.silent = false ∧ d.authorityOk r p s = true ∧ r.headerOk = true ∧ r.confirm = true ∧ d.twoPhase s p = true ∧
    d.layout p = true ∧ s.hub.execBusy r = false ∧ d.step11 (s.codeUsed r) r p = none ∧ code < 2 ^ 32 ∧
    ∃ x c, s.hub.cmd.sessions.find? (fun x => x.matches r) = some x ∧ x.confirm = some c ∧
      s.hub.time.now - c.at_ ≤ 10000000000 ∧ c.code = code ∧ c.opcode = d.op.code ∧ c.params = p

end Sys2Proof.Machine
end

