-- ==== Sys2Proof/Certificates/Slice0/Obligations.lean ====
section
/-! DEFINITION. The statements about the block, for the provers. -/
open Sys2Proof Sys2Proof.Machine

/-! ### The queue, reset and decoding -/

/-- The step runs the command at the front of the queue on the state with the rest of the queue (assumption log 5 for the empty
queue, a choice of the model). No row of the opcode table has bits: no word spells a command, and placing one changes nothing. -/
def Obligations.StepRunsFrontCommand : Prop :=
  (∀ (i : Instr) (rest : List Instr) (s : State), step { s with pending := i :: rest } = exec i { s with pending := rest }) ∧
  (∀ s : State, s.pending = [] → step s = .next s) ∧
  (∀ (s : State) (nbits w : Nat), decodeTableWord nbits w = none ∧ s.withFetchWord nbits w = s)

/-- What reset leaves (R61, R62): engines idle, every register, predicate but p0, loop counter and FLAGS zero; and the module's
state before its first power-on. -/
def Obligations.ResetState : Prop :=
  State.reset.pending = [] ∧ State.reset.canonical ∧ State.reset.hardwired ∧
  (∀ k : Site, (State.reset.engine k).run = none ∧ (∀ n : BitVec 6, (State.reset.engine k).reg n = 0#32) ∧
    (∀ p : BitVec 3, (State.reset.engine k).pred p = decide (p = 0#3)) ∧ (State.reset.engine k).lc0 = 0#32 ∧
    (State.reset.engine k).lc1 = 0#32 ∧ (State.reset.engine k).flags = 0) ∧
  State.reset.hub.power.mode = .off ∧ State.reset.hub.faults.log = [] ∧ State.reset.hub.cmd.sessions = [] ∧
  State.reset.hub.outbox = []

/-- Words written out from Tables 3.5 and 3.7 to 3.9 decode to the syllables they stand for; the 128 bits of a bundle decode slot by slot,
A0 in the lowest bits, then A1, M and L, stored little-endian; a slot that carries the long immediate of A0 or L issues as NOP (R74); the
word 0 is NOP in every slot, which changes nothing (R70). -/
def Obligations.SyllableWordsDecode : Prop :=
  (∀ (k : Site) (slot : ASlot),
    decodeA k slot 0b000001_0_0_000_000101_000010_000011_000#32 0 = .add k slot { dst := 5, sa := 2, sb := 3 } ∧
    decodeA k slot 0b010000_1_1_010_000111_000001_111111111#32 0 =
      .addi k slot { d := true, n := true, p := 2, dst := 7, sa := 1, imm := 0x1FF } ∧
    decodeA k .a0 0b010000_0_0_000_000111_000001_100000000#32 0x89ABCDEF =
      .addi k .a0 { dst := 7, sa := 1, imm := 0x100, long := 0x89ABCDEF } ∧
    decodeM k 0b100011_0_0_000_000100_000110_001000_000#32 = .fmaD k { dst := 4, sa := 6, sb := 8 } ∧
    decodeL k 0b001000_0_0_000_000011_000010_000001000#32 0 = .stw k { dst := 3, sa := 2, imm := 8 } .clean ∧
    decodeL k 0b010000_0_1_001_00000000_0000000001010#32 0 = .br k { n := true, p := 1, target := 10 } ∧
    decodeL k 0b010010_00000_0000011_1_0000000000110#32 0 = .loopi k { cnt := 3, lc := true, last := 6 } ∧
    decodeL k 0b010100_00000000000000000000000000#32 0 = .endOp k 0) ∧
  (∀ (k : Site) (a0 a1 m l : Word),
    let w := l ++ m ++ a1 ++ a0
    (takesLong immOpsA a0 = false → takesLong immOpsL l = false →
      decodeBundle k w = [decodeA k .a0 a0 a1, decodeA k .a1 a1 0, decodeM k m, decodeL k l m]) ∧
    (takesLong immOpsA a0 = true → takesLong immOpsL l = true →
      decodeBundle k w = [decodeA k .a0 a0 a1, .nop k .a1 0 .clean, .nop k .m 0 .clean, decodeL k l m])) ∧
  (∀ (k : Site) (b : Bytes), b.length = 16 →
    let w := fun (i : Nat) => BitVec.ofNat 32 (leVal (slice b (4 * i) 4))
    (w 0).truncate 8 = b.headD 0#8 ∧ (takesLong immOpsA (w 0) = false → takesLong immOpsL (w 3) = false →
      decodeBundle k (BitVec.ofNat 128 (leVal b)) =
        [decodeA k .a0 (w 0) (w 1), decodeA k .a1 (w 1) 0, decodeM k (w 2), decodeL k (w 3) (w 2)])) ∧
  (∀ (k : Site) (carrier : Word), (∀ slot, ∃ sl, decodeA k slot 0 carrier = .nop k sl 0 .clean) ∧
    decodeM k 0 = .nop k .m 0 .clean ∧ decodeL k 0 carrier = .nop k .l 0 .clean) ∧
  (∀ (k : Site) (slot : Slot) (s : State) (r : Running), s.issuesAt k r → s.hub.inject.armed = [] → s.hub.mem.sramBad = [] →
    exec (.nop k slot 0#32 .clean) s = .next s)

/-- Decode and encode agree: every well-formed syllable command is what its slot decodes from its word, with the carrier its
immediate calls for, every operand at every value; and an opcode that no table of a slot lists decodes to the row of NOP. -/
def Obligations.SyllableDecodeEncode : Prop :=
  (∀ (i : Instr) (w : Word), i.wf = true → i.syllable = some w → (∀ k sl raw ecc, i ≠ .nop k sl raw ecc) →
    (∃ k slot carrier, decodeA k slot w carrier = i) ∨ (∃ k, decodeM k w = i) ∨ (∃ k carrier, decodeL k w carrier = accessClean i)) ∧
  (∀ (k : Site) (w c : Word), ((opField w).toNat = 0 ∨ 0x2D < (opField w).toNat) →
    decodeA k .a0 w c = .nop k .a0 w .clean ∧ decodeA k .a1 w c = .nop k .a1 w .clean) ∧
  (∀ (k : Site) (w : Word), ((opField w).toNat = 0 ∨ (0x0A ≤ (opField w).toNat ∧ (opField w).toNat ≤ 0x0F) ∨
    0x31 < (opField w).toNat) → decodeM k w = .nop k .m w .clean) ∧
  (∀ (k : Site) (w c : Word), ((opField w).toNat = 0 ∨ (opField w).toNat = 7 ∨ 0x15 < (opField w).toNat) →
    decodeL k w c = .nop k .l w .clean)
/-! ### The clause engine: issue -/

/-- R62: a write to g0 or to p0 is discarded; a pair operand names its even register; a pair field that holds an odd number or 0 is an
undefined encoding, which aborts the clause. -/
def Obligations.HardwiredAndPairOperands : Prop :=
  let notPair := fun (n : BitVec 6) => n = 0#6 ∨ n.getLsbD 0 = true
  (∀ (e : Engine) (o : Op), (o.dst = .reg 0#6 ∨ o.dst = .pred 0#3) → e.writeOp o = e) ∧
  (∀ (e : Engine) (o : Op) (n : BitVec 6), ¬ notPair n → e.pair n = e.reg (n + 1) ++ e.reg n ∧
    (o.dst = .pair n → (e.writeOp o).pair n = o.value ∧ ∀ m, m ≠ n → m ≠ n + 1 → (e.writeOp o).reg m = e.reg m)) ∧
  (∀ (s : State) (k : Site) (r : Running), s.issuesAt k r →
    let stop : Out := .next (s.abortClause k 2 0 .real)
    (∀ slot f, (notPair f.dst → exec (.mfsd k slot f) s = stop) ∧
      (notPair f.dst ∨ notPair f.sa → exec (.movd k slot f) s = stop) ∧
      (notPair f.dst ∨ notPair f.sa ∨ notPair f.sb → exec (.addd k slot f) s = stop ∧ exec (.subd k slot f) s = stop)) ∧
    (∀ f, (notPair f.dst → exec (.mulws k f) s = stop ∧ exec (.mulwu k f) s = stop ∧ exec (.fcvtDW k f) s = stop ∧
        exec (.fcvtDS k f) s = stop) ∧
      (notPair f.sa → exec (.fcvtnWD k f) s = stop ∧ exec (.fcvtzWD k f) s = stop ∧ exec (.fcvtSD k f) s = stop) ∧
      (notPair f.dst ∨ notPair f.sa → exec (.fsqrtD k f) s = stop) ∧
      (notPair f.sa ∨ notPair f.sb → exec (.fcmpeqD k f) s = stop ∧ exec (.fcmpltD k f) s = stop ∧ exec (.fcmpleD k f) s = stop ∧
        exec (.fcmpunD k f) s = stop) ∧
      (notPair f.dst ∨ notPair f.sa ∨ notPair f.sb → exec (.faddD k f) s = stop ∧ exec (.fsubD k f) s = stop ∧
        exec (.fmulD k f) s = stop ∧ exec (.fmaD k f) s = stop ∧ exec (.fnmaD k f) s = stop ∧ exec (.fminD k f) s = stop ∧
        exec (.fmaxD k f) s = stop ∧ exec (.fdivD k f) s = stop)) ∧
    (∀ f ecc, notPair f.dst → exec (.ldd k f ecc) s = stop ∧ exec (.std k f ecc) s = stop) ∧
    (∀ f ecc, notPair f.dst → exec (.lddx k f ecc) s = stop ∧ exec (.stdx k f ecc) s = stop))

/-- The register operations of the A slots (R77): each issues with latency 1 and the result of Table 3.7. SEL takes its third operand, a
predicate, from X. -/
def Obligations.ALaneRegisterResults : Prop :=
  ∀ (k : Site) (slot : ASlot) (f : RegSyl) (s : State) (r : Running), s.issuesAt k r → s.guarded k f.n f.p →
    exec (.sel k slot f) s = .next (s.bundled k (Bundle.withOp r.cyc slot.num 1 (.reg f.dst)
      (((if (s.engine k).pred f.x then (s.engine k).reg f.sa else (s.engine k).reg f.sb) : Word).zeroExtend 64) 0 f.d)) ∧
    (f.x = 0#3 →
    let a := (s.engine k).reg f.sa
    let b := (s.engine k).reg f.sb
    let gives : Word → Out := fun v => .next (s.bundled k (Bundle.withOp r.cyc slot.num 1 (.reg f.dst) (v.zeroExtend 64) 0 f.d))
    exec (.add k slot f) s = gives (a + b) ∧ exec (.sub k slot f) s = gives (a - b) ∧
    exec (.andOp k slot f) s = gives (a &&& b) ∧ exec (.orOp k slot f) s = gives (a ||| b) ∧
    exec (.xorOp k slot f) s = gives (a ^^^ b) ∧ exec (.andn k slot f) s = gives (a &&& ~~~ b) ∧
    exec (.shl k slot f) s = gives (a <<< (b.toNat % 32)) ∧ exec (.shr k slot f) s = gives (a >>> (b.toNat % 32)) ∧
    exec (.sar k slot f) s = gives (a.sshiftRight (b.toNat % 32)) ∧ exec (.ror k slot f) s = gives (a.rotateRight (b.toNat % 32)) ∧
    exec (.min k slot f) s = gives (BitVec.ofInt 32 (min a.toInt b.toInt)) ∧
    exec (.max k slot f) s = gives (BitVec.ofInt 32 (max a.toInt b.toInt)) ∧
    exec (.minu k slot f) s = gives (BitVec.ofNat 32 (min a.toNat b.toNat)) ∧
    exec (.maxu k slot f) s = gives (BitVec.ofNat 32 (max a.toNat b.toNat)) ∧
    (f.sb = 0#6 →
      exec (.fneg k slot f) s = gives (a ^^^ 0x80000000#32) ∧ exec (.fabs k slot f) s = gives (a &&& 0x7FFFFFFF#32) ∧
      (∃ z, exec (.clz k slot f) s = gives (BitVec.ofNat 32 z) ∧ z ≤ 32 ∧ a.toNat < 2 ^ (32 - z) ∧ (z < 32 → 2 ^ (31 - z) ≤ a.toNat)) ∧
      exec (.popc k slot f) s = gives (BitVec.ofNat 32 ((List.range 32).filter (fun i => a.getLsbD i)).length)))

/-- The immediate operations of the A slots (R74, R75, R77): the immediate is the 9-bit field sign-extended, or the carrier's 32 bits
when the field is 0x100, which only A0 may take; a shift immediate lies from 0 to 31. -/
def Obligations.ALaneImmediateResults : Prop :=
  ∀ (k : Site) (slot : ASlot) (f : ImmSyl) (s : State) (r : Running), s.issuesAt k r → s.guarded k f.n f.p →
    (f.imm = 0x100#9 → slot = .a0) →
    let a := (s.engine k).reg f.sa
    let v : Word := if f.imm = 0x100#9 then f.long else f.imm.signExtend 32
    let gives : Word → Out := fun x => .next (s.bundled k (Bundle.withOp r.cyc slot.num 1 (.reg f.dst) (x.zeroExtend 64) 0 f.d))
    let test : Bool → Out := fun b =>
      .next (s.bundled k (Bundle.withOp r.cyc slot.num 1 (.pred (f.dst.truncate 3)) (BitVec.ofNat 64 b.toNat) 0 f.d))
    exec (.addi k slot f) s = gives (a + v) ∧ exec (.andi k slot f) s = gives (a &&& v) ∧
    exec (.ori k slot f) s = gives (a ||| v) ∧ exec (.xori k slot f) s = gives (a ^^^ v) ∧
    (v.toNat < 32 →
      exec (.shli k slot f) s = gives (a <<< v.toNat) ∧ exec (.shri k slot f) s = gives (a >>> v.toNat) ∧
      exec (.sari k slot f) s = gives (a.sshiftRight v.toNat) ∧ exec (.rori k slot f) s = gives (a.rotateRight v.toNat)) ∧
    (f.dst < 8#6 →
      exec (.cmpeqi k slot f) s = test (decide (a = v)) ∧ exec (.cmplti k slot f) s = test (decide (a.toInt < v.toInt)))

/-- The compares and predicate operations of the A slots (R71, R77). -/
def Obligations.ALanePredicateResults : Prop :=
  ∀ (k : Site) (slot : ASlot) (f : RegSyl) (s : State) (r : Running), s.issuesAt k r → s.guarded k f.n f.p → f.x = 0#3 → f.dst < 8#6 →
    let a := (s.engine k).reg f.sa
    let b := (s.engine k).reg f.sb
    let p := (s.engine k).pred (f.sa.truncate 3)
    let q := (s.engine k).pred (f.sb.truncate 3)
    let test : Bool → Out := fun b =>
      .next (s.bundled k (Bundle.withOp r.cyc slot.num 1 (.pred (f.dst.truncate 3)) (BitVec.ofNat 64 b.toNat) 0 f.d))
    exec (.cmpeq k slot f) s = test (decide (a = b)) ∧ exec (.cmpne k slot f) s = test (decide (a ≠ b)) ∧
    exec (.cmplt k slot f) s = test (decide (a.toInt < b.toInt)) ∧ exec (.cmpltu k slot f) s = test (decide (a.toNat < b.toNat)) ∧
    exec (.cmple k slot f) s = test (decide (a.toInt ≤ b.toInt)) ∧ exec (.cmpleu k slot f) s = test (decide (a.toNat ≤ b.toNat)) ∧
    (f.sa < 8#6 → f.sb < 8#6 →
      exec (.pand k slot f) s = test (p && q) ∧ exec (.por k slot f) s = test (p || q) ∧
      exec (.pxor k slot f) s = test (p != q) ∧ exec (.pandn k slot f) s = test (p && !q))

/-- Pairs and special registers (R62, R65, R66, R77): a pair operand names an even register but g0; MFS reads indexes 0x00 to 0x0C and
MFSD 0x00 and 0x02; MTS clears the bits written as 1 of FLAGS or, in CLAUSE_STATUS, MB_FULL. -/
def Obligations.PairAndSpecialResults : Prop :=
  ∀ (k : Site) (slot : ASlot) (f : RegSyl) (s : State) (r : Running), s.issuesAt k r → s.guarded k f.n f.p → f.x = 0#3 →
    let e := s.engine k
    let adds : Dest → DWord → Out := fun d v => .next (s.bundled k (Bundle.withOp r.cyc slot.num 1 d v 0 f.d))
    (isPair f.dst = true → isPair f.sa = true → isPair f.sb = true →
      exec (.addd k slot f) s = adds (.pair f.dst) (e.pair f.sa + e.pair f.sb) ∧
      exec (.subd k slot f) s = adds (.pair f.dst) (e.pair f.sa - e.pair f.sb)) ∧
    (isPair f.dst = true → isPair f.sa = true → f.sb = 0#6 → exec (.movd k slot f) s = adds (.pair f.dst) (e.pair f.sa)) ∧
    (f.sb = 0#6 → f.sa.toNat ≤ 0x0C → exec (.mfs k slot f) s = adds (.reg f.dst) ((special s k e r f.sa.toNat).zeroExtend 64)) ∧
    (f.sb = 0#6 → isPair f.dst = true → f.sa = 0#6 →
      exec (.mfsd k slot f) s = adds (.pair f.dst) (BitVec.ofNat 64 ((s.lane k.lane).tick % 2 ^ 48))) ∧
    (f.sb = 0#6 → isPair f.dst = true → f.sa = 2#6 →
      exec (.mfsd k slot f) s = adds (.pair f.dst) (BitVec.ofNat 64 ((s.lane k.lane).tb0 + r.tickCycle))) ∧
    (f.dst = 0#6 → f.d = false → f.sa = 9#6 →
      exec (.mts k slot f) s = .next (s.bundled k (fun b => { b with clearFlags := b.clearFlags ||| (e.reg f.sb).toNat % 64 }))) ∧
    (f.dst = 0#6 → f.d = false → f.sa = 10#6 →
      exec (.mts k slot f) s = .next (s.bundled k (fun b =>
        { b with clearMbFull := b.clearMbFull || (e.reg f.sb).getLsbD 1 })))

/-- The integer operations of the M slot (R78, R81): latency 3; divisions 18 and blocking, with the results of Table 3.10 for a zero
divisor and, since two's complement has no other, the dividend for the most negative number by −1. -/
def Obligations.MLaneIntegerResults : Prop :=
  ∀ (k : Site) (f : RegSyl) (s : State) (r : Running), s.issuesM k r → s.guarded k f.n f.p → f.x = 0#3 →
    let a := (s.engine k).reg f.sa
    let b := (s.engine k).reg f.sb
    let gives : Dest → DWord → Out := fun d v => .next (s.bundled k (Bundle.withOp r.cyc 2 3 d v 0 f.d))
    let div : Word → Nat → Out := fun v fl =>
      .next (s.bundled k (fun x => { (x.withOp r.cyc 2 18 (.reg f.dst) (v.zeroExtend 64) fl f.d) with mFree := some (r.cyc + 18) }))
    exec (.mul k f) s = gives (.reg f.dst) ((a * b).zeroExtend 64) ∧
    exec (.mulhs k f) s = gives (.reg f.dst) ((BitVec.ofInt 32 (a.toInt * b.toInt / 2 ^ 32)).zeroExtend 64) ∧
    exec (.mulhu k f) s = gives (.reg f.dst) ((BitVec.ofNat 32 (a.toNat * b.toNat / 2 ^ 32)).zeroExtend 64) ∧
    (isPair f.dst = true →
      exec (.mulws k f) s = gives (.pair f.dst) (BitVec.ofInt 64 (a.toInt * b.toInt)) ∧
      exec (.mulwu k f) s = gives (.pair f.dst) (BitVec.ofNat 64 (a.toNat * b.toNat))) ∧
    (b = 0#32 →
      exec (.divs k f) s = div 0xFFFFFFFF#32 flagIDZ ∧ exec (.divu k f) s = div 0xFFFFFFFF#32 flagIDZ ∧
      exec (.rems k f) s = div a flagIDZ ∧ exec (.remu k f) s = div a flagIDZ) ∧
    (b ≠ 0#32 →
      exec (.divs k f) s = div (BitVec.ofInt 32 (a.toInt.tdiv b.toInt)) 0 ∧ exec (.divu k f) s = div (BitVec.ofNat 32 (a.toNat / b.toNat)) 0 ∧
      exec (.rems k f) s = div (BitVec.ofInt 32 (a.toInt.tmod b.toInt)) 0 ∧ exec (.remu k f) s = div (BitVec.ofNat 32 (a.toNat % b.toNat)) 0)
/-- The binary32 operations of the M slot (R78, R82): latency 4, or 12 and blocking; operands and accumulator as bit patterns. -/
def Obligations.SingleFloatResults : Prop :=
  ∀ (k : Site) (f : RegSyl) (s : State) (r : Running), s.issuesM k r → s.guarded k f.n f.p → f.x = 0#3 →
    let a := ((s.engine k).reg f.sa).toNat
    let b := ((s.engine k).reg f.sb).toNat
    let d := ((s.engine k).reg f.dst).toNat
    let gives : Nat × Nat → Out := fun v =>
      .next (s.bundled k (Bundle.withOp r.cyc 2 4 (.reg f.dst) (BitVec.ofNat 64 (v.1 % 2 ^ 32)) v.2 f.d))
    let late : Nat × Nat → Out := fun v => .next (s.bundled k (fun x =>
      { (x.withOp r.cyc 2 12 (.reg f.dst) (BitVec.ofNat 64 (v.1 % 2 ^ 32)) v.2 f.d) with mFree := some (r.cyc + 12) }))
    let test : Bool × Nat → Out := fun v =>
      .next (s.bundled k (Bundle.withOp r.cyc 2 4 (.pred (f.dst.truncate 3)) (BitVec.ofNat 64 v.1.toNat) v.2 f.d))
    exec (.faddS k f) s = gives (f32.add a b) ∧ exec (.fsubS k f) s = gives (f32.sub a b) ∧
    exec (.fmulS k f) s = gives (f32.mul a b) ∧ exec (.fmaS k f) s = gives (f32.fma false a b d) ∧
    exec (.fnmaS k f) s = gives (f32.fma true a b d) ∧ exec (.fminS k f) s = gives (f32.minMax false a b) ∧
    exec (.fmaxS k f) s = gives (f32.minMax true a b) ∧ exec (.fdivS k f) s = late (f32.div a b) ∧
    (f.sb = 0#6 → exec (.fsqrtS k f) s = late (f32.sqrt a)) ∧
    (f.dst < 8#6 →
      exec (.fcmpeqS k f) s = test (f32.cmpEq a b) ∧ exec (.fcmpltS k f) s = test (f32.cmpLt a b) ∧
      exec (.fcmpleS k f) s = test (f32.cmpLe a b) ∧ exec (.fcmpunS k f) s = test (f32.cmpUn a b))

/-- The binary64 operations of the M slot (R62, R78, R82): pairs, latency 5, 6 for the fused ones, or 20 and blocking. -/
def Obligations.DoubleFloatResults : Prop :=
  ∀ (k : Site) (f : RegSyl) (s : State) (r : Running), s.issuesM k r → s.guarded k f.n f.p → f.x = 0#3 → isPair f.sa = true →
    let a := ((s.engine k).pair f.sa).toNat
    let b := ((s.engine k).pair f.sb).toNat
    let d := ((s.engine k).pair f.dst).toNat
    let gives : Nat → Nat × Nat → Out := fun lat v =>
      .next (s.bundled k (Bundle.withOp r.cyc 2 lat (.pair f.dst) (BitVec.ofNat 64 v.1) v.2 f.d))
    let late : Nat × Nat → Out := fun v => .next (s.bundled k (fun x =>
      { (x.withOp r.cyc 2 20 (.pair f.dst) (BitVec.ofNat 64 v.1) v.2 f.d) with mFree := some (r.cyc + 20) }))
    let test : Bool × Nat → Out := fun v =>
      .next (s.bundled k (Bundle.withOp r.cyc 2 5 (.pred (f.dst.truncate 3)) (BitVec.ofNat 64 v.1.toNat) v.2 f.d))
    (isPair f.dst = true → isPair f.sb = true →
      exec (.faddD k f) s = gives 5 (f64.add a b) ∧ exec (.fsubD k f) s = gives 5 (f64.sub a b) ∧
      exec (.fmulD k f) s = gives 5 (f64.mul a b) ∧ exec (.fmaD k f) s = gives 6 (f64.fma false a b d) ∧
      exec (.fnmaD k f) s = gives 6 (f64.fma true a b d) ∧ exec (.fminD k f) s = gives 5 (f64.minMax false a b) ∧
      exec (.fmaxD k f) s = gives 5 (f64.minMax true a b) ∧ exec (.fdivD k f) s = late (f64.div a b)) ∧
    (isPair f.dst = true → f.sb = 0#6 → exec (.fsqrtD k f) s = late (f64.sqrt a)) ∧
    (f.dst < 8#6 → isPair f.sb = true →
      exec (.fcmpeqD k f) s = test (f64.cmpEq a b) ∧ exec (.fcmpltD k f) s = test (f64.cmpLt a b) ∧
      exec (.fcmpleD k f) s = test (f64.cmpLe a b) ∧ exec (.fcmpunD k f) s = test (f64.cmpUn a b))

/-- The conversions of the M slot (R78, R82): latency 4 between binary32 and integers, 5 with binary64; SB is zero. -/
def Obligations.ConversionResults : Prop :=
  ∀ (k : Site) (f : RegSyl) (s : State) (r : Running), s.issuesM k r → s.guarded k f.n f.p → f.x = 0#3 → f.sb = 0#6 →
    let a := (s.engine k).reg f.sa
    let p := ((s.engine k).pair f.sa).toNat
    let gives : Nat → Dest → Nat × Nat → Out := fun lat d v =>
      .next (s.bundled k (Bundle.withOp r.cyc 2 lat d (BitVec.ofNat 64 v.1) v.2 f.d))
    exec (.fcvtSW k f) s = gives 4 (.reg f.dst) (f32.ofInt a.toInt) ∧
    exec (.fcvtnWS k f) s = gives 4 (.reg f.dst) (f32.toInt true a.toNat) ∧
    exec (.fcvtzWS k f) s = gives 4 (.reg f.dst) (f32.toInt false a.toNat) ∧
    (isPair f.dst = true →
      exec (.fcvtDW k f) s = gives 5 (.pair f.dst) (f64.ofInt a.toInt) ∧
      exec (.fcvtDS k f) s = gives 5 (.pair f.dst) (f32.convert f64 a.toNat)) ∧
    (isPair f.sa = true →
      exec (.fcvtnWD k f) s = gives 5 (.reg f.dst) (f64.toInt true p) ∧
      exec (.fcvtzWD k f) s = gives 5 (.reg f.dst) (f64.toInt false p) ∧
      exec (.fcvtSD k f) s = gives 5 (.reg f.dst) (f64.convert f32 p))

/-- Any NaN result is the canonical quiet NaN, whatever the payloads and signs of the operands; a signalling operand sets NV; and the
canonical NaNs and the limits of the conversions are the numbers the manual prints (R82, Table 3.11). -/
def Obligations.NanResultsCanonical : Prop :=
  f32.qnan = 0x7FC00000 ∧ f64.qnan = 0x7FF8000000000000 ∧
  ∀ (f : FFmt) (a b d : Nat), ((f.unpack a).isNan = true ∨ (f.unpack b).isNan = true) →
    (f.add a b).1 = f.qnan ∧ (f.sub a b).1 = f.qnan ∧ (f.mul a b).1 = f.qnan ∧ (f.div a b).1 = f.qnan ∧
    (f.fma false a b d).1 = f.qnan ∧ (f.fma true a b d).1 = f.qnan ∧ (f.minMax false a b).1 = f.qnan ∧ (f.minMax true a b).1 = f.qnan ∧
    (f.cmpEq a b).1 = false ∧ (f.cmpLt a b) = (false, flagNV) ∧ (f.cmpLe a b) = (false, flagNV) ∧ (f.cmpUn a b).1 = true ∧
    (((f.unpack a).isSnan = true ∨ (f.unpack b).isSnan = true) → (f.add a b).2 = flagNV ∧ (f.mul a b).2 = flagNV ∧ (f.cmpEq a b).2 = flagNV)

/-- The loads (R67, R68, R79): an aligned address of the scratchpad is read in the issue cycle, little-endian, with latency 2, once what
transfers have delivered up to that cycle is there. What the code of the memory word found is reported, and an uncorrectable word
delivers its bits as read (R400, R401).
The stores (R67, R68, R73, R79): the bundle holds the address and the bytes, written at the end of the cycle; D is zero. Lanes but for
that bundle are untouched at issue. -/
def Obligations.LoadsAndStores : Prop :=
  (∀ (k : Site) (s : State) (r : Running) (ecc : Ecc), s.issuesAt k r →
    let s1 := s.advance k.lane r.tickCycle
    let seen := fun (a : Nat) => s1.scratchEcc k a 0 ecc
    let raw := fun (a size : Nat) =>
      ((BitVec.ofNat 64 ((s1.lane k.lane).mem.readLe (scratchBase k.eng.val + a) size) ^^^
        BitVec.ofNat 64 ((eccFlips (seen a).1).toNat / 2 ^ (8 * (a % 8)))).toNat) % 2 ^ (8 * size)
    let gives : Nat → Dest → DWord → Bool → Out := fun a dst v dead =>
      .next ((seen a).2.bundled k (Bundle.withOp r.cyc 3 2 dst v 0 dead))
    (∀ f : ImmSyl, s.guarded k f.n f.p →
      let a := ((s.engine k).reg f.sa + f.value).toNat
      (scratchOk a 4 → exec (.ldw k f ecc) s = gives a (.reg f.dst) (BitVec.ofNat 64 (raw a 4)) f.d) ∧
      (scratchOk a 2 → exec (.ldhu k f ecc) s = gives a (.reg f.dst) (BitVec.ofNat 64 (raw a 2)) f.d ∧
        exec (.ldh k f ecc) s = gives a (.reg f.dst) (((BitVec.ofNat 16 (raw a 2)).signExtend 32).zeroExtend 64) f.d) ∧
      (scratchOk a 1 → exec (.ldbu k f ecc) s = gives a (.reg f.dst) (BitVec.ofNat 64 (raw a 1)) f.d ∧
        exec (.ldb k f ecc) s = gives a (.reg f.dst) (((BitVec.ofNat 8 (raw a 1)).signExtend 32).zeroExtend 64) f.d) ∧
      (scratchOk a 8 → isPair f.dst = true → exec (.ldd k f ecc) s = gives a (.pair f.dst) (BitVec.ofNat 64 (raw a 8)) f.d)) ∧
    (∀ f : RegSyl, s.guarded k f.n f.p → f.x = 0#3 →
      let a := ((s.engine k).reg f.sa + (s.engine k).reg f.sb).toNat
      (scratchOk a 4 → exec (.ldwx k f ecc) s = gives a (.reg f.dst) (BitVec.ofNat 64 (raw a 4)) f.d) ∧
      (scratchOk a 8 → isPair f.dst = true → exec (.lddx k f ecc) s = gives a (.pair f.dst) (BitVec.ofNat 64 (raw a 8)) f.d))) ∧
  (∀ (k : Site) (s : State) (r : Running) (ecc : Ecc), s.issuesAt k r →
    let stores : Out → Nat → Nat → Nat → Prop := fun o a size v => ∃ t : State, o = .next t ∧
      t.lanes = (s.bundled k (fun b => { b with store := some (a, leBytes size v, size) })).lanes ∧ t.pending = s.pending
    (∀ f : ImmSyl, s.guarded k f.n f.p → f.d = false →
      let a := ((s.engine k).reg f.sa + f.value).toNat
      let v := ((s.engine k).reg f.dst).toNat
      (scratchOk a 4 → stores (exec (.stw k f ecc) s) a 4 v) ∧ (scratchOk a 2 → stores (exec (.sth k f ecc) s) a 2 v) ∧
      (scratchOk a 1 → stores (exec (.stb k f ecc) s) a 1 v) ∧
      (scratchOk a 8 → isPair f.dst = true → stores (exec (.std k f ecc) s) a 8 ((s.engine k).pair f.dst).toNat)) ∧
    (∀ f : RegSyl, s.guarded k f.n f.p → f.d = false → f.x = 0#3 →
      let a := ((s.engine k).reg f.sa + (s.engine k).reg f.sb).toNat
      (scratchOk a 4 → stores (exec (.stwx k f ecc) s) a 4 ((s.engine k).reg f.dst).toNat) ∧
      (scratchOk a 8 → isPair f.dst = true → stores (exec (.stdx k f ecc) s) a 8 ((s.engine k).pair f.dst).toNat)))

/-- The control syllables of the L slot and NOP (R70, R80, R83 to R87). -/
def Obligations.ControlSyllables : Prop :=
  ∀ (k : Site) (s : State) (r : Running), s.issuesAt k r →
    let e := s.engine k
    (∀ f : TgtSyl, s.guarded k f.n f.p → f.d = false → f.rest = 0#8 → (∀ l ∈ e.loops, l.last ≠ r.pc) →
      exec (.br k f) s = .next (s.bundled k (fun b => { b with branch := some f.target.toNat }))) ∧
    (∀ f : RegSyl, s.guarded k f.n f.p → f.d = false → f.dst = 0#6 → f.sb = 0#6 → f.x = 0#3 → (∀ l ∈ e.loops, l.last ≠ r.pc) →
      (e.reg f.sa).toNat ≤ 8191 → exec (.bri k f) s = .next (s.bundled k (fun b => { b with branch := some (e.reg f.sa).toNat }))) ∧
    (∀ f : LpSyl, f.rest = 0#5 → r.pc < f.last.toNat → e.loops.length < 2 → (∀ l ∈ e.loops, l.lc ≠ f.lc ∧ f.last.toNat ≤ l.last) →
      exec (.loopi k f) s =
        .next (s.bundled k (fun b => { b with loop := some (⟨f.lc, r.pc + 1, f.last.toNat⟩, f.cnt.zeroExtend 32) })) ∧
      (f.cnt.getLsbD 0 = false → exec (.loopr k f) s =
        .next (s.bundled k (fun b => { b with loop := some (⟨f.lc, r.pc + 1, f.last.toNat⟩, e.reg (f.cnt.extractLsb' 1 6)) })))) ∧
    exec (.endOp k 0#26) s = .next (s.bundled k (fun b => { b with ends := true })) ∧
    (∀ f : RegSyl, s.guarded k f.n f.p → f.d = false → f.x = 0#3 →
      exec (.xset k f) s = .next (s.bundled k (fun b => { b with xset := some (f.dst, e.reg f.sa, e.reg f.sb) }))) ∧
    (∀ slot : Slot, s.hub.inject.armed = [] → s.hub.mem.sramBad = [] → exec (.nop k slot 0#32 .clean) s = .next s)
/-! ### The clause engine: cycles and clauses -/

/-- Issuing a syllable writes no register, predicate, loop counter, flag, parameter slot or signature of any engine, and no byte of any
lane's memory: a result comes at the end of its cycle (R63, R68). Holds of every syllable command in every state in which no transfer
is on its way, also where the syllable aborts its clause. -/
def Obligations.IssueFrame : Prop :=
  ∀ (i : Instr) (s t : State), i.syllable.isSome = true → (∀ l, (s.lane l).xfers = []) → exec i s = .next t →
    (∀ k : Site, (s.engine k).sameRegisters (t.engine k)) ∧
    (∀ (l : LaneId) (a : Nat), (t.lane l).mem.read a = (s.lane l).mem.read a) ∧ t.pending = s.pending

/-- The end of a cycle (R62 to R64, R66, R68): every register other than g0 ends with the last of the writes due in this cycle, in the
order of issue and slot, or unchanged; flags written in the cycle stay set beside an MTS; later results stay in flight; the bundle's
store updates its bytes of the scratchpad and no other byte of the lane. -/
def Obligations.WritebackResults : Prop :=
  ∀ (k : Site) (s : State) (r : Running), s.cycleOf k r → s.hub.inject.armed = [] →
    ∃ t : State, exec (.operationWriteback k) s = .next t ∧
      (∀ n : BitVec 6, n ≠ 0#6 →
        (t.engine k).reg n = ((s.engine k).dueAt r.cyc).foldl (fun v o => (o.writes n).getD v) ((s.engine k).reg n)) ∧
      (t.engine k).reg 0#6 = 0#32 ∧
      (t.engine k).flags = newFlags (s.engine k).flags (s.engine k).bundle.clearFlags
        (((s.engine k).dueAt r.cyc).foldl (fun m o => m ||| o.flags) 0) ∧
      (∀ o, o ∈ (t.engine k).flight → o.due ≠ r.cyc) ∧
      (t.lane k.lane).mem = (match (s.engine k).bundle.store with
        | some (a, b, _) => ((s.advance k.lane r.tickCycle).lane k.lane).mem.writeN (scratchBase k.eng.val + a) b
        | none => ((s.advance k.lane r.tickCycle).lane k.lane).mem) ∧
      (∀ l, l ≠ k.lane → t.lane l = s.lane l) ∧ t.pending = s.pending

/-- The memory laws: bytes read back as written at their addresses, every other address reads as before, and every operation on a lane's
memory keeps its canonical form, in which equal contents are equal data. -/
def Obligations.MemoryLaws : Prop :=
  (∀ (m : Mem) (x : Nat) (b : Bytes), m.wf = true → (m.writeN x b).readN x b.length = b) ∧
  (∀ (m : Mem) (x a : Nat) (b : Bytes), m.wf = true → (a < x ∨ x + b.length ≤ a) → (m.writeN x b).read a = m.read a) ∧
  (∀ (m src : Mem) (x len : Nat) (b : Bytes), m.wf = true → src.wf = true →
    (m.writeN x b).wf = true ∧ (m.clear x len).wf = true ∧ (m.keep x len).wf = true ∧ (Mem.copyFrom src x len m).wf = true) ∧
  (∀ m m' : Mem, m.wf = true → m'.wf = true → (∀ a, m.read a = m'.read a) → m = m')

/-- An undefined encoding aborts the clause with cause UNDEFINED_ENCODING, whatever the guard (R75): here a non-zero X in the register
forms of the slots, an odd or zero pair register, a predicate field above 7, a long immediate in A1 and a word whose opcode is listed
for no operation. What any abort does to its engine (R61, R89): no syllable of the bundle takes effect, every loop ends with its counter as
it stands, PREV_ABORT and PREV_CAUSE record it, results in flight stay to drain, and no register and no memory changes. -/
def Obligations.Aborts : Prop :=
  (∀ (k : Site) (slot : ASlot) (s : State) (r : Running), s.issuesAt k r →
    let bad : Out := .next (s.abortClause k 2 0 .real)
    (∀ f : RegSyl, f.x ≠ 0#3 →
      exec (.add k slot f) s = bad ∧ exec (.addd k slot f) s = bad ∧ exec (.cmpeq k slot f) s = bad ∧ exec (.mfs k slot f) s = bad ∧
      exec (.mul k f) s = bad ∧ exec (.faddS k f) s = bad ∧ exec (.fdivD k f) s = bad ∧ exec (.xset k f) s = bad) ∧
    (∀ f : RegSyl, isPair f.dst = false → exec (.addd k slot f) s = bad ∧ exec (.movd k slot f) s = bad ∧ exec (.mulws k f) s = bad ∧
      exec (.faddD k f) s = bad) ∧
    (∀ f : RegSyl, 7#6 < f.dst → exec (.cmplt k slot f) s = bad ∧ exec (.pand k slot f) s = bad ∧ exec (.fcmpltS k f) s = bad) ∧
    (∀ f : ImmSyl, f.imm = 0x100#9 → exec (.addi k .a1 f) s = bad ∧ exec (.shli k .a1 f) s = bad) ∧
    (∀ f : ImmSyl, 32 ≤ f.value.toNat → exec (.shli k slot f) s = bad ∧ exec (.rori k slot f) s = bad) ∧
    (∀ (sl : Slot) (raw : Word), raw ≠ 0#32 → s.hub.inject.armed = [] → s.hub.mem.sramBad = [] → exec (.nop k sl raw .clean) s = bad)) ∧
  (∀ (k : Site) (cause addr : Nat) (o : Origin) (s : State) (r : Running), (s.engine k).run = some r →
    let t := s.abortClause k cause addr o
    (t.engine k).bundle = {} ∧ (t.engine k).loops = [] ∧ (t.engine k).prevAbort = true ∧ (t.engine k).prevCause = cause ∧
    (t.engine k).run = some { r with aborted := some (cause, r.cyc) } ∧ (s.engine k).sameRegisters (t.engine k) ∧
    (∀ l, (t.lane l).mem = (s.lane l).mem) ∧ t.pending = s.pending)

/-- The life of a clause (R61, R66, R87, R88, R102): its start loads the budget counter and clears FLAGS with no loop active; it
completes when END has issued and nothing is in flight; past cycle B it is aborted with cause 1 and what is in flight is cancelled. -/
def Obligations.ClauseLife : Prop :=
  (∀ (s : State) (lane : LaneId) (clause : Nat) (ecc : Ecc) (sc : Schedule) (c : ClauseEntry) (e : EngineId),
    s.laneSchedule lane = some sc → sc.clauses[clause]? = some c → fin? 8 c.engine = some e → s.laneRuns lane = true →
    c.tick = (s.lane lane).tick % s.hub.sTicks → s.hub.suppressed c.task = false → (s.engine ⟨lane, e⟩).run = none →
    (s.lane lane).consumerOk sc clause = true →
    ∃ t : State, exec (.clauseStart lane clause ecc) s = .next t ∧ (t.engine ⟨lane, e⟩).flags = 0 ∧ (t.engine ⟨lane, e⟩).loops = [] ∧
      (t.engine ⟨lane, e⟩).run = some
        { clause := clause, budget := c.budget, start := c.start, pc := c.first, task := c.task, flags := c.flags } ∧
      (t.engine ⟨lane, e⟩).regs = (s.engine ⟨lane, e⟩).regs ∧ (t.engine ⟨lane, e⟩).preds = (s.engine ⟨lane, e⟩).preds) ∧
  (∀ (s : State) (k : Site) (r : Running), (s.engine k).run = some r → r.ended = true → (s.engine k).flight = [] → r.aborted = none →
    r.cyc ≤ r.budget + 1 →
    ∃ t : State, exec (.clauseComplete k) s = .next t ∧ (t.engine k).run = none ∧ (t.engine k).loops = [] ∧
      (t.engine k).prevAbort = false ∧ (t.engine k).lastClause = r.clause ∧ (t.engine k).regs = (s.engine k).regs ∧
      (∀ l, (t.lane l).mem = (s.lane l).mem)) ∧
  (∀ (s : State) (k : Site) (r : Running), (s.engine k).run = some r → r.aborted = none → r.budget < r.cyc →
    ¬ (r.ended = true ∧ (s.engine k).flight = []) →
    ∃ t : State, exec (.clauseBudget k) s = .next t ∧ (t.engine k).run = none ∧ (t.engine k).flight = [] ∧
      (t.engine k).prevAbort = true ∧ (t.engine k).prevCause = 1 ∧ (t.engine k).regs = (s.engine k).regs)

/-- Transfers (R96, R97, R100): a start that is not parameterised takes its ports and its context and remembers its completion cycle; a
completion frees them and, on a path inside the lane whose words are sound, finds every byte where its beats have put it; a failed packet of the hub link delays its transfer. -/
def Obligations.TransferSteps : Prop :=
  (∀ (s : State) (lane : LaneId) (index : Nat) (sc : Schedule) (x : TransferEntry) (src dst : Port),
    s.laneSchedule lane = some sc → sc.transfers[index]? = some x → Port.ofCode x.srcPort = some src → Port.ofCode x.dstPort = some dst →
    s.laneRuns lane = true → x.tick = (s.lane lane).tick % s.hub.sTicks → s.hub.suppressed x.task = false → x.param = false →
    (∀ y ∈ (s.lane lane).xfers, y.index ≠ index) →
    ∃ t : State, exec (.transferStart lane index) s = .next t ∧ ∃ y ∈ (t.lane lane).xfers,
      y.index = index ∧ y.ctx = x.ctx ∧ y.srcPort = src ∧ y.dstPort = dst ∧ y.src = x.src ∧ y.dst = x.dst ∧ y.len = x.len ∧
      y.completion = x.completion ∧ y.failed = false) ∧
  (∀ (s : State) (lane : LaneId) (x y : Xfer), (s.lane lane).xfers = [x] → x.failed = false →
    ((s.advance lane (x.completion + 1)).lane lane).xfers = [y] → y.failed = false → x.index = y.index →
    ∃ t : State, exec (.transferComplete lane x.index [] []) s = .next t ∧ (t.lane lane).xfers = [] ∧
      (t.lane lane).issued.find? (fun e => e.1 == x.index) = some (x.index, true) ∧
      (x.atOnce = false → s.hub.inject.armed = [] → s.hub.mem.sramBad = [] →
        (t.lane lane).mem = ((s.advance lane (x.completion + 1)).lane lane).mem)) ∧
  (∀ (s : State) (lane : LaneId) (x : Xfer) (delay : Nat), (s.lane lane).xfers = [x] → (x.srcPort = .hubLink ∨ x.dstPort = .hubLink) →
    ∃ t : State, exec (.transferPacketRetry lane x.index delay false) s = .next t ∧
      (t.lane lane).xfers = [{ x with completion := x.completion + delay, failed := x.failed }])

/-- The beats of a transfer inside a lane (R100): once all have moved, the destination holds the source's bytes, and no other byte of the
lane has changed. -/
def Obligations.TransferMovesBytes : Prop :=
  ∀ (s : State) (lane : LaneId) (x : Xfer) (c : Nat), (s.lane lane).mem.wf = true → (s.lane lane).xfers = [x] → x.failed = false →
    x.atOnce = false → x.dstPort ≠ .hubFrame → x.beats = 0 → x.held = none → 0 < x.beat →
    (x.src + x.len ≤ x.dst ∨ x.dst + x.len ≤ x.src) → x.dataAt + ceilDiv x.len x.beat ≤ c →
    (∀ j, j < x.len → ((s.advance lane c).lane lane).mem.read (x.dst + j) = (s.lane lane).mem.read (x.src + j)) ∧
    (∀ a, (a < x.dst ∨ x.dst + x.len ≤ a) → ((s.advance lane c).lane lane).mem.read a = (s.lane lane).mem.read a)
/-! ### Command packets -/

/-- Steps 8 to 11 of R424, in order, for every opcode: a silent module answers nothing; then the authority, the header, CONFIRM on a
request that is not two-phase, the length, and last the conditions of execution decide the status of the answer. -/
def Obligations.RequestCheckOrder : Prop :=
  ∀ (d : OpSpec) (r : Req) (p : Bytes) (s : State), r.confirm = false →
    (s.hub.silent = true → d.run r p s = s) ∧
    (s.hub.silent = false →
      (d.authorityOk r p s = false → d.run r p s = d.answer r .authorityTooLow s) ∧
      (d.authorityOk r p s = true →
        (r.headerOk = false → d.run r p s = d.answer r .badParameter s) ∧
        (r.headerOk = true →
          (d.layout p = false → d.run r p s = d.answer r .badLength s) ∧
          (d.layout p = true → d.twoPhase s p = false →
            (s.hub.execBusy r = true → d.run r p s = d.answer r .busy s) ∧
            (s.hub.execBusy r = false →
              (∀ st, d.step11 s r p = some st → d.run r p s = d.answer r st s) ∧
              (d.step11 s r p = none → d.run r p s = d.act r p s))))))

/-- The two phases (R433, R434): the first answers CONFIRM_REQUIRED with a code drawn at random and keeps it in the session; the second
executes once with the same parameters and code, and a wrong code is used up with CONFIRM_MISMATCH and no other effect. -/
def Obligations.TwoPhaseRequests : Prop :=
  ∀ (d : OpSpec) (r : Req) (p : Bytes) (s : State), s.hub.silent = false → d.authorityOk r p s = true → r.headerOk = true →
    d.twoPhase s p = true → d.layout p = true → s.hub.execBusy r = false →
    (r.confirm = false → d.step11 s r p = none →
      let code := (Config.confirmCode s.hub.free).toNat
      let keep : Session → Session := fun x =>
        if x.matches r then { x with confirm := some { opcode := d.op.code, params := p, code := code, at_ := s.hub.time.now } } else x
      d.run r p s = s.modHub (fun h =>
        ({ h with cmd.sessions := h.cmd.sessions.map keep } : Hub).draw.reply r d.op .confirmRequired (beBytes 4 code))) ∧
    (∀ code, d.confirms r p code s → d.run r (p ++ beBytes 4 code) s = d.act r p (s.codeUsed r)) ∧
    (∀ (code : Nat) (x : Session) (c : Confirm), r.confirm = true → code < 2 ^ 32 → s.hub.cmd.sessions.find? (fun x => x.matches r) = some x →
      x.confirm = some c → s.hub.time.now - c.at_ ≤ 10000000000 → c.code ≠ code →
      d.run r (p ++ beBytes 4 code) s = d.answer r .confirmMismatch (s.codeUsed r))

/-- The status queries: each accepted request is answered OK with what the hub, its snapshot of the last tick start or the source lane
holds, at the lengths the manual gives (R59, R111, R215, R243, R272, R354), and changes nothing else. -/
def Obligations.StatusQueriesAnswer : Prop :=
  ∀ (r : Req) (p : Bytes) (s : State),
    let h := s.hub
    let w := s.snap
    (opGetStatus.accepts r p s → exec (.getStatus r p) s = s.answered r .getStatus .ok
      (bigEndian [(1, h.power.mode.code), (1, b2n h.power.restartWarm), (1, h.roleCode), (1, 0), (4, h.laneStatesWord), (4, h.sysStatus),
        (2, h.power.vinMv)] ++ beSigned 2 h.power.hubTemp ++
        bigEndian [(6, h.time.tick), (2, 0), (4, h.faults.seq), (4, Config.build)])) ∧
    (opGetPtpStatus.accepts r p s → exec (.getPtpStatus r p) s = s.answered r .getPtpStatus .ok
      (beBytes 4 w.tbStatus ++ beBytes 8 w.time.tb3 ++ bigEndian (w.domainFields 0 ++ w.domainFields 1))) ∧
    (bigEndian (w.domainFields 0 ++ w.domainFields 1)).length = 128 ∧
    (opGetScheduleInfo.accepts r p s → exec (.getScheduleInfo r p) s = s.answered r .getScheduleInfo .ok h.scheduleInfo) ∧
    h.scheduleInfo.length = 48 + 16 * h.sched.schedules.length ∧
    (opGetIoStatus.accepts r p s → exec (.getIoStatus r p) s = s.answered r .getIoStatus .ok (bigEndian w.ioFields)) ∧
    (bigEndian w.ioFields).length = 112 ∧
    (opGetSafetyStatus.accepts r p s → exec (.getSafetyStatus r p) s = s.answered r .getSafetyStatus .ok (bigEndian w.safetyFields)) ∧
    (bigEndian w.safetyFields).length = 100 ∧
    (opGetTripStatus.accepts r p s → exec (.getTripStatus r p) s = s.answered r .getTripStatus .ok
      (bigEndian ([(4, w.pwmStatus), (8, w.pwm.tripLatch), (8, w.pwm.tripActive), (8, w.pwm.clearRefused), (4, w.pwm.lastTrip),
        (8, w.pwm.lastTripTb0)] ++ w.pwm.active.toList.map (fun x => (4, x))))) ∧
    (opGetYbStatus.accepts r p s → exec (.getYbStatus r p) s = s.answered r .getYbStatus .ok (bigEndian w.ybRegs)) ∧
    (bigEndian w.ybRegs).length = 128 ∧
    (opGetPartnerStatus.accepts r p s → exec (.getPartnerStatus r p) s = s.answered r .getPartnerStatus .ok (bigEndian h.partnerRegs)) ∧
    (opGetCanStatus.accepts r p s → exec (.getCanStatus r p) s = s.answered r .getCanStatus .ok
      (beBytes 1 (u8 p 0) ++ zeros 3 ++ (bitsSet 4 (u8 p 0)).flatMap (fun k => bigEndian (h.canRegs k)))) ∧
    (opGetImages.accepts r p s → exec (.getImages r p) s = s.answered r .getImages .ok
      (h.imageEntry 1 ++ h.imageEntry 2 ++ h.imageEntry 3 ++ h.imageEntry 4 ++ h.slotEntry 0 ++ h.slotEntry 1)) ∧
    (opGetStationStatus.accepts r p s → u8 p 0 = 0 → exec (.getStationStatus r p) s = s.answered r .getStationStatus .ok
      (bigEndian [(4, h.rackStatus), (4, h.rackMask Station.present), (4, h.rackMask (fun x => x.lost.isSome)),
        (4, h.rackMask Station.stale), (4, h.rackMask Station.hold)])) ∧
    (opMbStatus.accepts r p s → u8 p 1 = 0 → u8 p 2 = 0 → exec (.mbStatus r p) s = s.answered r .mbStatus .ok
      (bigEndian [(4, h.mbState (u8 p 0)), (4, (h.box (u8 p 0)).a2bEmptied), (4, min (h.mbTimer (u8 p 0)) (2 ^ 32 - 1)), (4, 0)])) ∧
    (∀ n, (opGetPortStatus.accepts r p s → h.net.nodes.length = n → ∃ b, exec (.getPortStatus r p) s = s.answered r .getPortStatus .ok
      (bigEndian [(4, h.netStatus), (4, h.net.ip), (2, n), (2, 0)] ++ b) ∧ b.length = 96)) ∧
    (opGetIdentity.accepts r p s → ∃ b, exec (.getIdentity r p) s = s.answered r .getIdentity .ok
      (bigEndian [(4, Config.hwType), (4, Config.build), (8, h.otp.serial), (6, h.otp.baseMac)] ++ b))

/-- Queries that take parameters: fault records by sequence number and severity (R497), counters as at the last tick start (R507), the
detectors of the build (R515), wear entries (R416), and what the source lane holds (R134, R170, R195). -/
def Obligations.ListQueriesAnswer : Prop :=
  ∀ (r : Req) (p : Bytes) (s : State),
    let h := s.hub
    (opGetFaults.accepts r p s →
      let l := h.faultList (be32 p 0) (u8 p 4 == 1) (u8 p 5)
      exec (.getFaults r p) s = s.answered r .getFaults .ok (bigEndian [(4, h.faults.seq), (4, (l.head?.map FaultRec.seq).getD 0),
        (1, l.length), (3, 0)] ++ l.flatMap (fun x => bigEndian x.fields))) ∧
    (opReadCounters.accepts r p s → exec (.readCounters r p) s = s.answered r .readCounters .ok
      (bigEndian [(6, s.snap.time.tick), (2, 0)] ++ (List.range (u8 p 1)).flatMap (fun i =>
        let x := vgetN s.snap.counters (u8 p 0 + i) {}
        bigEndian [(2, x.qualifier), (2, x.event), (8, x.value)]))) ∧
    (opListDetectors.accepts r p s → ∃ b, exec (.listDetectors r p) s = s.answered r .listDetectors .ok
      (bigEndian [(2, FaultName.detectors.length), (2, min 170 (FaultName.detectors.length - be16 p 0))] ++ b) ∧
      b.length = 8 * min 170 (FaultName.detectors.length - be16 p 0)) ∧
    (opGetWear.accepts r p s → ∃ n k b, exec (.getWear r p) s = s.answered r .getWear .ok (bigEndian [(2, n), (2, k), (4, 0)] ++ b) ∧
      k ≤ 59 ∧ k ≤ n) ∧
    (∀ l, s.hub.sourceLane = some l →
      (opReadVariable.accepts r p s → exec (.readVariable r p) s = s.answered r .readVariable .ok
        (bigEndian [(6, h.time.tick), (2, be16 p 4)] ++ (s.lane l).mem.readN (be32 p 0) (be16 p 4))) ∧
      (opGetChannel.accepts r p s → ∃ b, exec (.getChannel r p) s = s.answered r .getChannel .ok
        (bigEndian [(1, u8 p 0), (1, vgetN h.meas.activePreset (u8 p 0) 0)] ++ b)) ∧
      (opListForces.accepts r p s → ∃ b, exec (.listForces r p) s = s.answered r .listForces .ok
        (beBytes 2 (s.lane l).mem.forces.length ++ b)))

/-- Requests that a later event completes: accepted, or confirmed where two-phase, each goes into execution, with what it sets in motion
(R58, R167, R182, R196, R211, R214, R244, R313, R326, R354, R369, R504). -/
def Obligations.DeferredRequests : Prop :=
  ∀ (r : Req) (p : Bytes) (s : State),
    (opSelectTimeDomain.accepts r p s → exec (.selectTimeDomain r p) s = s.deferred r .selectTimeDomain p (releaseKey 1 0x54)) ∧
    (opSetPreset.accepts r p s → exec (.setPreset r p) s = s.deferred r .setPreset p (releaseKey 3 0x40)) ∧
    (opCanRecover.accepts r p s → exec (.canRecover r p) s = s.deferred r .canRecover p [12]) ∧
    (opCanSetListen.accepts r p s → exec (.canSetListen r p) s = s.deferred r .canSetListen p [12]) ∧
    (opYbRestart.accepts r p s → exec (.ybRestart r p) s = s.deferred r .ybRestart p [13]) ∧
    (opCalibratePoint.accepts r p s → ∃ t, exec (.calibratePoint r p) s = .next t ∧
      (∃ x, t.hub.meas.avg = some x ∧ x.channel = u8 p 0 ∧ x.index = u8 p 1 ∧ x.ticks = be16 p 2 ∧ x.left = be16 p 2 ∧
        x.physical = be32 p 4 ∧ x.load = be16 p 8 ∧ x.after = s.hub.time.tick) ∧
      t.hub.cmd.exec = s.hub.cmd.exec ++ [{ req := r, op := .calibratePoint, params := p, key := [0x0403] }] ∧ t.lanes = s.lanes) ∧
    (opTestOutput.accepts r p s → u8 p 1 = 0 → ∃ t x, exec (.testOutput r p) s = .next t ∧ t.hub.stage.test = some x ∧
      x.channel = u8 p 0 ∧ x.endAt = s.hub.time.now + be16 p 2 * 1000000 ∧ t.lanes = s.lanes) ∧
    (opRescan.accepts r p s → ∃ t, exec (.rescan r p) s = .next t ∧ t.hub.rack.enumerating = true ∧ t.lanes = s.lanes) ∧
    (opSetTraceFilter.accepts r p s → ∃ t f, exec (.setTraceFilter r p) s = .next t ∧
      t.hub.trace.next = s.hub.trace.next ++ [(u8 p 0, f)] ∧ t.lanes = s.lanes) ∧
    (opSetMode.accepts r p s → u8 p 0 = 3 → ∃ t, exec (.setMode r p) s = .next t ∧
      t.hub.power.modeAt = some { target := .service, tick := s.hub.time.tick + 1 } ∧ t.lanes = s.lanes) ∧
    (∀ code, opSetMode.confirms r p code s → u8 p 0 = 4 → ∃ t x, exec (.setMode r (p ++ beBytes 4 code)) s = .next t ∧
      t.hub.power.pending = some x ∧ x.target = .voted ∧ (x.warm = true ↔ u8 p 1 = 1) ∧ t.lanes = s.lanes) ∧
    (∀ code, opTripClear.confirms r p code s →
      exec (.tripClear r (p ++ beBytes 4 code)) s = (s.codeUsed r).deferred r .tripClear p [0x0F02]) ∧
    (∀ code, opSwitchover.confirms r p code s → s.hub.partner.role = .active →
      ∃ t, exec (.switchover r (p ++ beBytes 4 code)) s = .next t ∧ t.hub.partner.switching = true ∧ t.lanes = s.lanes) ∧
    (∀ code, opSwitchover.confirms r p code s → s.hub.partner.role = .standby →
      exec (.switchover r (p ++ beBytes 4 code)) s = .next ((s.codeUsed r).modHub (fun h =>
        (h.defer r .switchover p [15]).planRole .alone (h.time.tick + 1) true 2)))

/-- Online changes and forces (R159, R167): confirmed, each request joins the queue with the region's owning task, its bytes and the
cycle it is for. Requests on lanes (R134 to R138): SPLIT and JOIN wait for their boundary, a self-test and a bring-in start at once and
answer PENDING. -/
def Obligations.RuntimeAndLaneRequests : Prop :=
  ∀ (r : Req) (p : Bytes) (code : Nat) (s : State),
    ((opChange .writeVariable 1).confirms r p code s → ∃ t q g, exec (.writeVariable r (p ++ beBytes 4 code)) s = .next t ∧
      t.hub.rt.queue = s.hub.rt.queue ++ [q] ∧ s.hub.cfg.regionAt (be32 p 0) (be16 p 4) = some g ∧ q.task = g.task ∧ q.kind = 1 ∧
      q.address = be32 p 0 ∧ q.value = p.drop 16 ∧ t.lanes = s.lanes) ∧
    ((opChange .changeConstant 2).confirms r p code s → ∃ t q g, exec (.changeConstant r (p ++ beBytes 4 code)) s = .next t ∧
      t.hub.rt.queue = s.hub.rt.queue ++ [q] ∧ s.hub.cfg.regionAt (be32 p 0) (be16 p 4) = some g ∧ g.kind = 4 ∧ q.task = g.task ∧
      q.kind = 2 ∧ q.address = be32 p 0 ∧ q.value = p.drop 16 ∧ t.lanes = s.lanes) ∧
    (opForce.confirms r p code s → ∃ t q, exec (.forceCmd r (p ++ beBytes 4 code)) s = .next t ∧
      t.hub.rt.queue = s.hub.rt.queue ++ [q] ∧ q.kind = 3 ∧ q.address = be32 p 0 ∧ q.mask = (slice p 16 8).take (u8 p 4) ∧
      q.value = (slice p 24 8).take (u8 p 4) ∧ t.lanes = s.lanes) ∧
    (opUnforce.accepts r p s → ∀ e, s.hub.rt.forces.find? (fun e => e.index == be16 p 0) = some e → ∃ t q,
      exec (.unforce r p) s = .next t ∧ t.hub.rt.queue = s.hub.rt.queue ++ [q] ∧ q.kind = 4 ∧ q.task = e.task ∧ q.index = e.index ∧
      t.lanes = s.lanes) ∧
    (opSplit.accepts r p s → ∃ t, exec (.splitCmd r p) s = .next t ∧ t.hub.vote.split = .pending ∧ t.hub.vote.splitTarget = be48 p 2 ∧
      t.hub.vote.groupB = u8 p 0 ∧ t.hub.power.mode = s.hub.power.mode ∧ t.lanes = s.lanes) ∧
    (opJoin.accepts r p s → ∃ t, exec (.joinCmd r p) s = .next t ∧ t.hub.vote.split = .joinPending ∧ t.hub.vote.splitTarget = be48 p 0 ∧
      t.hub.power.mode = .split ∧ t.lanes = s.lanes) ∧
    (∀ l, opLaneSelfTest.accepts r p s → fin? 4 (u8 p 0) = some l → ∃ t, exec (.laneSelfTest r p) s = .next t ∧
      t.hub.vote.selfTests = s.hub.vote.selfTests ++ [SelfTest.mk l (u8 p 1)] ∧ t.lanes = s.lanes) ∧
    (∀ l, opLaneBringIn.accepts r p s → fin? 4 (u8 p 0) = some l → ∃ t, exec (.laneBringIn r p) s = .next t ∧
      t.hub.laneState l = .resync)

/-- Requests executed at once: what each stores, and its answer. -/
def Obligations.ImmediateRequests : Prop :=
  ∀ (r : Req) (p : Bytes) (s : State),
    (opSelectSchedule.accepts r p s → exec (.selectSchedule r p) s =
      ({ s with hub := { s.hub with sched := { s.hub.sched with selMain := some (u8 p 0), selAlt := s.hub.altChoice (u8 p 1) } } }).answered r
        .selectSchedule .ok (beBytes 1 (u8 p 0) ++ beBytes 1 ((s.hub.altChoice (u8 p 1)).getD 0xFF))) ∧
    (opClearFaults.accepts r p s → exec (.clearFaults r p) s =
      ({ s with hub := { s.hub with faults := { s.hub.faults with faultNew := false, warningSet := false } } }).answered r .clearFaults .ok
        (beBytes 2 (512 * b2n s.hub.faults.faultNew + 1024 * b2n s.hub.faults.warningSet))) ∧
    (opConfirmImage.accepts r p s → exec (.confirmImage r p) s =
      ({ s with hub := { s.hub with slots.confirmed := s.hub.slots.active } }).answered r .confirmImage .ok
        (beBytes 1 (s.hub.slots.active.getD 0) ++ beBytes 1 1)) ∧
    (opSetCounterEvent.accepts r p s → ∃ t, exec (.setCounterEvent r p) s = .next t ∧ t.lanes = s.lanes ∧
      ∀ n : Fin 48, t.hub.counters[n].next = if n.val = u8 p 0 then some (be16 p 2, be16 p 4) else s.hub.counters[n].next) ∧
    (opSetRolePolicy.accepts r p s → ∃ t, exec (.setRolePolicy r p) s = .next t ∧ t.hub.partner.policyNext = some (s.hub.policyOf p) ∧
      t.lanes = s.lanes) ∧
    (opSetIpConfig.accepts r p s → ∃ t x, exec (.setIpConfig r p) s = .next t ∧ t.hub.net.ipPending = some x ∧
      x.sentence = s.hub.nextBoundary ∧ x.iface = u8 p 0 ∧ x.ip = be32 p 4 ∧ x.mask = be32 p 8 ∧ x.gateway = be32 p 12 ∧ t.lanes = s.lanes) ∧
    (opSubstitutePort.accepts r p s → u8 p 0 ≠ 0xFF → ∃ t, exec (.substitutePort r p) s = .next t ∧
      t.hub.net.substPending = some (u8 p 0 + 1, s.hub.nextBoundary) ∧ t.lanes = s.lanes) ∧
    (opStoreCalibration.accepts r p s → u8 p 2 = 1 → ∃ t, exec (.storeCalibration r p) s = .next t ∧ t.lanes = s.lanes ∧
      ∀ k : Fin 16, t.hub.meas.pending[k] = if bit (be16 p 0) k.val then CalSet.empty else s.hub.meas.pending[k]) ∧
    (opCommitChanges.accepts r p s → u8 p 0 = 0 → ∃ t, exec (.commitChanges r p) s = .next t ∧ t.hub.rt.log = [] ∧ t.lanes = s.lanes) ∧
    (opReadTrace.accepts r p s → ∃ t, exec (.readTrace r p) s = .next t ∧ t.hub.trace.ring = s.hub.trace.ring ∧
      t.hub.trace.position = s.hub.trace.position ∧ t.lanes = s.lanes) ∧
    (∀ code d, opInject.confirms r p code s → FaultName.ofCode (be16 p 0) = some d → be16 p 8 = 0 →
      ∃ t, exec (.injectCmd r (p ++ beBytes 4 code)) s = .next t ∧ t.lanes = s.lanes ∧
        t.hub.inject.list = s.hub.inject.list.filter (fun j => j.detector != d)) ∧
    (opSubstitute.accepts r p s → s.hub.sparesLeft (u8 p 0) (u8 p 1) (be32 p 4) = 0 → ∃ t, exec (.substitute r p) s = .next t ∧
      t.lanes = s.lanes) ∧
    ((opRackRead.accepts r p s → exec (.rackRead r p) s = .next (s.modHub (rackOpAct .rackRead r p))) ∧
      (opRackWrite.accepts r p s → exec (.rackWrite r p) s = .next (s.modHub (rackOpAct .rackWrite r p))))

/-- Updates and identity (R465 to R469, R472, R479): a transfer opens with its slot empty, takes its chunks in order, and marks its slot
complete only when every check passes; ATTEST uses one leaf; staged bytes are kept. -/
def Obligations.UpdateRequests : Prop :=
  ∀ (r : Req) (p : Bytes) (s : State),
    (opBeginImage.accepts r p s → ∃ t x, exec (.beginImage r p) s = .next t ∧ t.hub.boot.images.transfer = some x ∧ x.type = u8 p 0 ∧
      x.total = be32 p 4 ∧ x.crc = be32 p 8 ∧ x.data = [] ∧ t.lanes = s.lanes) ∧
    (opImageData.accepts r p s → s.hub.power.deferred = false → exec (.imageData r p) s = .next (s.modHub (fun h => h.imageChunk r p))) ∧
    (opImageData.accepts r p s → s.hub.power.deferred = true → ∃ t, exec (.imageData r p) s = .next t ∧
      t.hub.cmd.exec = s.hub.cmd.exec ++ [{ req := r, op := .imageData, params := p, key := [18] }] ∧ t.lanes = s.lanes) ∧
    (∀ x, opEndImage.accepts r p s → s.hub.boot.images.transfer = some x → ∃ t, exec (.endImage r p) s = .next t ∧
      t.hub.boot.images.transfer = none ∧ t.lanes = s.lanes ∧
      ((s.hub.endCause x).1 ≠ 0 → t.hub.boot.images.written = s.hub.boot.images.written)) ∧
    (opAttest.accepts r p s → ∃ t, exec (.attest r p) s = .next t ∧ t.hub.boot.sign.next = s.hub.boot.sign.next + 1 ∧ t.lanes = s.lanes) ∧
    (opSetCommandKey.accepts r p s → u8 p 0 = 2 → ∃ t, exec (.setCommandKey r p) s = .next t ∧
      t.hub.boot.staged = stage s.hub.boot.staged (be16 p 4) (p.drop 8) ∧ t.lanes = s.lanes) ∧
    (opResetModule.accepts r p s → u8 p 0 = 0 → exec (.resetModule r p) s =
      .next ((s.modHub (fun h => (h.reply r .resetModule .ok []).endSigning)).moduleReset)) ∧
    (opSetPower.accepts r p s → u8 p 0 = 0 → exec (.setPower r p) s =
      .next ((s.modHub (Hub.reply r .setPower .ok (beBytes 1 0 ++ beBytes 1 (ofBits (((slice p 2 4).map BitVec.toNat).map
        (fun a => a != 0)))))).lanePower ((slice p 2 4).map BitVec.toNat)))
/-! ### Time, power and boot -/

/-- Starting and aligning the tick (R32, R34, R35, R38, R39): the start marker names an instant at least 20 µs ahead, on TB3's sentence
grid where steering has a reference; a marker's offset is noted; the guard is 200 + s + a cycles long, where a is the target within ±32
and s carries the steering without loss.
Steering, the RTC and TB_CONTROL (R48 to R51): the steering value for the next sentence from the rate and a tenth of the phase error,
bounded by ±100,000 ppb and kept in holdover; the RTC takes TB3; SELECT takes 1 or 2 and nothing else. -/
def Obligations.TickAndSteering : Prop :=
  (∀ (s : State),
    (∀ now, s.hub.power.mode = .service → s.hub.time.running = false → s.hub.time.startAt = none → 0 < s.hub.sentenceNs →
      let h := s.hub.at_ now
      ∃ t x, exec (.tickStartMarker now) s = .next t ∧ t.hub.time.startAt = some x ∧ h.time.now + 20000 ≤ x ∧
        (h.time.steerEn = true → h.time.tb3Ref.hasReference = true → (h.time.tb3 + (x - h.time.now)) % h.sentenceNs = 0) ∧
        t.hub.time.steerAcc = 0 ∧ (∀ l, (t.lane l).started = false ∧ (t.lane l).mem = (s.lane l).mem)) ∧
    (∀ (lane sender : LaneId) (d : Int), s.hub.time.running = true → (s.hub.laneState lane).powered = true →
      (s.hub.laneState sender).powered = true → sender ≠ lane →
      ∃ t, exec (.tickMarkerReceived lane sender d) s = .next t ∧ (t.lane lane).offsets[sender] = some d ∧
        (∀ j, j ≠ sender → (t.lane lane).offsets[j] = (s.lane lane).offsets[j]) ∧ (∀ l, l ≠ lane → t.lane l = s.lane l) ∧ t.hub = s.hub) ∧
    (∀ lane : LaneId, s.hub.time.running = true → (s.lane lane).started = true →
      ∃ t, exec (.guardAlignment lane) s = .next t ∧ t.hub = s.hub ∧
        (t.lane lane).alignCycles = clampInt (-32) 32 (s.alignTarget lane) ∧
        (t.lane lane).guardLen = (200 + (t.lane lane).steerCycles + (t.lane lane).alignCycles).toNat ∧
        1000000000 * (t.lane lane).steerCycles + (t.lane lane).steerAcc = (s.lane lane).steerAcc + s.hub.nCycles * s.hub.time.steerPpb)) ∧
  (∀ (s : State),
    (∀ f : Int, s.hub.time.running = true → s.hub.tickInSentence = 0 → ∃ t v, exec (.steerRateUpdate f) s = .next t ∧
      t = { s with hub := { s.hub with time := { s.hub.time with steerNext := v } } } ∧
      (s.hub.time.steerEn = false → v = 0) ∧
      (s.hub.time.steerEn = true → s.hub.time.tb3Ref.hasReference = true →
        v = clampInt (-100000) 100000 (f - tdiv (phaseError s.hub.time.tb3 s.hub.sentenceNs) 10)) ∧
      (s.hub.time.steerEn = true → s.hub.time.tb3Ref.hasReference = false → v = s.hub.time.steerNext)) ∧
    (∀ now, s.hub.time.tb3Ref.hasReference = true →
      s.hub.cfg.timeBase.rtcUpdateS * 1000000000 ≤ (s.hub.at_ now).time.now - s.hub.time.rtcWrittenAt →
      ∃ t, exec (.rtcUpdate now) s = .next t ∧ t.hub.backup.rtcValid = true ∧
        t.hub.backup.rtcSeconds = (s.hub.at_ now).time.tb3 / 1000000000 % 2 ^ 48 ∧ t.hub.backup.rtcFraction < 32768 ∧
        t.lanes = s.lanes) ∧
    (∀ v, ∃ x, exec (.tb3Select v) s = .next { s with hub := { s.hub with time := { s.hub.time with select := x } } } ∧
      (v = 1 ∨ v = 2 → x = v) ∧ (¬ (v = 1 ∨ v = 2) → x = s.hub.time.select)) ∧
    (∀ on, exec (.steerEnable on) s = .next { s with hub := { s.hub with time := { s.hub.time with steerEn := on } } }))

/-- A lane's tick start (R29, R40, R115): the next tick number and TB0, no frame of the tick received yet, and the lane's own agreement
frame stamped with the tick. The hub's tick start (R16, R30): the tick number goes on by one, and what every lane reads of the hub in this
tick is the hub as it stands then. -/
def Obligations.TickStarts : Prop :=
  (∀ (s : State) (lane : LaneId) (now : Nat) (fines : List Int), s.hub.time.running = true → (s.hub.laneState lane).powered = true →
    s.hub.vote.nextLane[lane] = none → (s.lane lane).started = true →
    ∃ t, exec (.tickStart lane now fines) s = .next t ∧ (t.lane lane).tick = (s.lane lane).tick + 1 ∧
      (t.lane lane).tb0 = (((s.lane lane).tb0 + s.hub.nCycles : Nat) + (s.lane lane).steerCycles).toNat ∧
      (t.lane lane).own.tick = ((s.lane lane).tick + 1) % 65536 ∧ (t.lane lane).frames = Vector.replicate 4 none ∧
      (t.lane lane).receipts = Vector.replicate 4 none ∧ (t.lane lane).xsig = BitVec.allOnes 64 ∧
      (∀ e, (t.engine ⟨lane, e⟩).live = BitVec.allOnes 64 ∧ (t.engine ⟨lane, e⟩).regs = (s.engine ⟨lane, e⟩).regs) ∧
      (∀ l, l ≠ lane → t.lane l = s.lane l)) ∧
  (∀ (s : State) (now : Nat), s.hub.time.running = true →
    ∃ t, exec (.hubTickStart now) s = .next t ∧ t.snap = t.hub ∧ t.hub.time.tick = s.hub.time.nextTick ∧
      t.hub.time.nextTick = s.hub.time.nextTick + 1 ∧ t.hub.time.running = true)

/-- The PTP trackers (R42 to R45, R57): an Announce makes a tracker without a master acquire; eight offsets within 1 µs step it once and
lock it; a locked tracker measures its offset; delay requests are numbered and answered; and losing the master puts it into holdover with
PTP_DOMAIN_LOSS, unless another port delivers the master. -/
def Obligations.PtpTrackers : Prop :=
  ∀ (s : State) (i : Fin 2) (now : Nat),
    let h := s.hub.at_ now
    let k := h.time.trackers[i]
    (∀ c, h.cfg.ptp[i] = some c → h.power.mode.parser = true →
      (∀ port master cls utc valid, ∃ t, exec (.ptpAnnounceReceived i now port master cls utc valid) s = .next t ∧
        let y := t.hub.time.trackers[i]
        y.port = port ∧ y.masterId = master ∧ y.clockClass = cls ∧ y.utcOffset = utc ∧ y.utcValid = valid ∧ y.value = k.value ∧
        (k.state = .notAcquired ∨ k.state = .holdover → y.state = .acquiring ∧ y.offsets = []) ∧
        (¬ (k.state = .notAcquired ∨ k.state = .holdover) → y.state = k.state ∧ y.offsets = k.offsets) ∧ t.lanes = s.lanes) ∧
      (∀ port origin, ∃ t, exec (.ptpSyncReceived i now port origin) s = .next t ∧ t.lanes = s.lanes ∧
        t.hub.time.trackers[i].lastSyncTb0 = h.tb0Now ∧
        let off : Int := (k.value : Int) - origin - k.meanPathDelay
        (k.state = .locked → t.hub.time.trackers[i].masterOffset = off ∧ t.hub.time.trackers[i].port = port ∧
          t.hub.time.trackers[i].state = .locked) ∧
        (k.state = .acquiring → k.stepUsed = false →
          let offs := keepLast 8 (k.offsets ++ [off])
          (offs.length = 8 ∧ spread offs ≤ 1000 → t.hub.time.trackers[i].state = .locked ∧ t.hub.time.trackers[i].stepUsed = true ∧
            t.hub.time.trackers[i].value = ((k.value : Int) - tdiv (sumInt offs) 8).toNat) ∧
          (¬ (offs.length = 8 ∧ spread offs ≤ 1000) → t.hub.time.trackers[i].state = .acquiring ∧ t.hub.time.trackers[i].offsets = offs ∧
            t.hub.time.trackers[i].value = k.value))) ∧
      (c.p2p = false → k.state ≠ .notAcquired → ∃ t, exec (.ptpDelayReqSend i now) s = .next t ∧
        t.hub.time.trackers[i].delaySeq = wrapAdd 16 k.delaySeq 1 ∧
        t.hub.outbox = s.hub.outbox ++ [.ptp 0 c.domain k.port (wrapAdd 16 k.delaySeq 1)]) ∧
      (c.p2p = true → ∃ t, exec (.ptpDelayReqSend i now) s = .next t ∧
        t.hub.time.trackers[i].delaySeq = wrapAdd 16 k.delaySeq 1 ∧
        t.hub.outbox = s.hub.outbox ++ (bitsSet 2 c.ports).map (fun q => .ptp 1 c.domain (q + 1) (wrapAdd 16 k.delaySeq 1))) ∧
      (∀ seq delay, k.delaySeq = seq → ∃ t, exec (.ptpDelayRespReceived i now seq delay) s = .next t ∧
        t.hub.time.trackers[i].meanPathDelay = delay % 2 ^ 32 ∧ t.lanes = s.lanes) ∧
      (∀ port domain seq, c.p2p = true → bit c.ports (port - 1) = true → 1 ≤ port →
        ∃ t, exec (.ptpPdelayReqReceived now port domain seq) s = .next t ∧
        t.hub.outbox = s.hub.outbox ++ [.ptp 2 domain port seq, .ptp 3 domain port seq] ∧ t.lanes = s.lanes)) ∧
    (k.state = .locked ∨ k.state = .acquiring →
      (∀ other, other ≠ 0 → exec (.ptpTimeout i now other) s = .next { s with hub := h.modTracker i (fun k => { k with port := other }) }) ∧
      ∃ t, exec (.ptpTimeout i now 0) s = .next t ∧ t.hub.time.trackers[i].state = .holdover ∧
        t.hub.time.trackers[i].lossCount = wrapAdd 32 k.lossCount 1 ∧ t.hub.time.trackers[i].loss = true ∧
        t.hub.faultActive .ptpDomainLoss [i.val] = true)
/-- Supply, temperature, the backup domain and the hub's comparators (R12, R488, R489, R491 to R493): what each measurement or event
sets, and the fault that is active after it. -/
def Obligations.SupplyAndBackup : Prop :=
  ∀ (s : State) (now : Nat),
    let h := s.hub.at_ now
    (s.hub.power.mode ≠ .off →
      (∀ mv holdup, ∃ t, exec (.vinSample mv holdup now) s = .next t ∧ t.hub.power.vinMv = min mv 65535 ∧ t.lanes = s.lanes ∧
        (mv < 16000 → t.hub.power.goodSince = none ∧ (s.hub.power.supplyWarn = false → t.hub.power.supplyWarn = true ∧
          t.hub.power.deferred = true ∧ t.hub.power.dipStart = h.time.now ∧ t.hub.power.lowestVin = mv ∧
          t.hub.faultActive .supplyWarning [] = true)) ∧
        (16000 ≤ mv → t.hub.power.supplyWarn = s.hub.power.supplyWarn ∧ t.hub.power.deferred = s.hub.power.deferred ∧
          (16800 ≤ mv → t.hub.power.goodSince = some (s.hub.power.goodSince.getD h.time.now)))) ∧
      (∀ v : Int, s.hub.inject.armed = [] → ∃ t, exec (.temperatureMeasurement v now) s = .next t ∧ t.hub.power.hubTemp = v ∧
        t.hub.power.hubTempMax = max v s.hub.power.hubTempMax ∧ t.lanes = s.lanes ∧
        (950 ≤ v → v < 1100 → t.hub.faultActive .tempHigh [] = true) ∧ (v < 900 → t.hub.faultActive .tempHigh [] = false) ∧
        (1100 ≤ v → t.hub.faultActive .tempCritical [] = true) ∧ (v < 1000 → t.hub.faultActive .tempCritical [] = false)) ∧
      (∀ a b, s.hub.inject.armed = [] → ∃ t, exec (.hubComparatorSelftest a b now) s = .next t ∧ t.lanes = s.lanes ∧
        (a = true → b = false → t.hub.faultActive .hubComparatorSelftest [0] = true) ∧
        (b = true → t.hub.faultActive .hubComparatorSelftest [1] = true)) ∧
      (∃ t, exec (.parserComparatorMismatch none now) s = .next t ∧ t.hub.faultActive .hubLockstepMismatch [0] = true ∧ t.lanes = s.lanes) ∧
      (∀ d, ∃ t, exec (.parserComparatorMismatch (some d) now) s = .next t ∧ t.hub.faultActive .hubLockstepMismatch [2] = true ∧
        t.lanes = s.lanes) ∧
      (∀ row word, ∃ t, exec (.parserDataUncorrectable row word now) s = .next t ∧ t.hub.cmd.sessions = [] ∧ t.hub.cmd.exec = [] ∧
        t.hub.boot.images.transfer = none ∧ t.lanes = s.lanes)) ∧
    (∀ g, s.hub.power.goodSince = some g → s.hub.power.supplyWarn = true → g + 50000000 ≤ h.time.now →
      ∃ t, exec (.supplyDeferralEnd now) s = .next t ∧ t.hub.power.supplyWarn = false ∧ t.hub.power.deferred = false ∧
        t.hub.power.lastDipUs = (s.hub.power.dipEnd.getD g - s.hub.power.dipStart) / 1000 ∧ t.lanes = s.lanes) ∧
    (∃ t, exec (.tamperOpen now) s = .next t ∧ t.hub.backup.tamperCount = wrapAdd 32 s.hub.backup.tamperCount 1 ∧
      t.hub.backup.tamperTime = h.backup.rtcSeconds ∧ t.hub.backup.tamperOpen = true ∧ t.lanes = s.lanes ∧
      (s.hub.power.mode = .off → t.hub.backup.tamperUnraised = true) ∧
      (s.hub.power.mode ≠ .off → t.hub.faults.log.head?.map (fun r => r.name) = some .tamper)) ∧
    (s.hub.power.held = true → ∃ t, exec (.vbatLoss now) s = .next t ∧ t.hub.backup.rtcValid = false ∧ t.hub.backup.tamperCount = 0 ∧
      t.hub.backup.powerCycles = 0 ∧ t.lanes = s.lanes) ∧
    (s.hub.power.mode.parser = true ∨ s.hub.power.mode = .dormant → ∀ addr,
      let x := h.dramUncorrectable 4 (addr / 32 * 32) 0 false .real
      (x.firmwareInSlot = true → exec (.parserCodeUncorrectable addr now) s = .next { s with hub := x }) ∧
      (x.firmwareInSlot = false → ∃ t, exec (.parserCodeUncorrectable addr now) s = .next t ∧ t.hub.boot.parserStopped = true ∧
        t.hub.cmd.sessions = [] ∧ t.lanes = s.lanes)) ∧
    (∀ v, (bit v 0 = true → s.hub.time.running = true → ∃ t, exec (.safeReq v) s = .next t ∧ t.hub.faultActive .appSafeRequest [] = true ∧
        (s.hub.power.mode = .service ∨ s.hub.power.mode.isRunning = true → t.hub.power.mode = .safe)) ∧
      (bit v 0 = false → exec (.safeReq v) s = .next s))

/-- Power-on, boot, wake and reset (R61, R264, R462, R463, R483, R486, R487, R490, R493): a power-on counts a cycle and starts the boot;
a boot is counted and ends in LOAD, in SERVICE or in the partner handshake; wake sources start a boot from OFF or a wake from DORMANT; a
reset keeps the fault log and loses every lane. -/
def Obligations.PowerAndBoot : Prop :=
  ∀ (s : State) (now : Nat),
    let h := s.hub.at_ now
    (s.hub.power.held = true → s.hub.power.mode = .off → ∃ t, exec (.powerOn now) s = .next t ∧ t.hub.power.held = false ∧
      t.hub.power.booting = true ∧ t.hub.power.resetAt = h.time.now ∧
      t.hub.backup.powerCycles = wrapAdd 32 h.backup.powerCycles 1 ∧ t.lanes = s.lanes) ∧
    (s.hub.power.booting = true → s.hub.power.mode = .off → s.hub.boot.handshake = false → ∃ t, exec (.boot now) s = .next t ∧
      t.hub.boot.count = wrapAdd 32 s.hub.boot.count 1 ∧
      (t.hub.power.mode = .load ∨ t.hub.power.mode = .service ∨ t.hub.boot.handshake = true) ∧
      (s.hub.imageCopy 0 1 = none → s.hub.imageCopy 1 1 = none → t.hub.power.mode = .load ∧ t.hub.boot.failedType = 1 ∧
        t.hub.boot.cause = 1)) ∧
    (s.hub.boot.handshake = true → s.hub.partner.handshakeAt + s.hub.cfg.partner.handshakeMs * 1000000 ≤ h.time.now →
      ∃ t, exec (.partnerHandshakeEnd now) s = .next t ∧ t.hub.power.mode = .service ∧ t.hub.boot.handshake = false ∧
        t.hub.partner.handshake = false) ∧
    (s.hub.power.mode = .off → s.hub.power.held = false → s.hub.power.booting = false →
      ∃ t, exec (.wakeNLow now) s = .next t ∧ t.hub.power.booting = true ∧ t.lanes = s.lanes) ∧
    (s.hub.power.mode = .dormant → ∃ t, exec (.wakeNLow now) s = .next t ∧ t.hub.boot.wake = true ∧ t.lanes = s.lanes) ∧
    (∀ (port : Fin 2) frame e, s.hub.power.mode = .dormant → s.hub.power.watchPort = port.val → parseEth frame = some e →
      e.dst = h.ifMac (if port = 0 then 1 else 0) → e.type = s.hub.cfg.system.wakeEthertype →
      e.body.take 8 = s.hub.cfg.system.wakePattern →
      ∃ t, exec (.wakeFrame port frame now) s = .next t ∧ t.hub.boot.wake = true ∧ t.lanes = s.lanes) ∧
    (s.hub.power.mode = .dormant → s.hub.boot.wake = true → s.hub.boot.handshake = false → ∃ t, exec (.dormantWake now) s = .next t ∧
      (s.hub.cfg.partner.enabled = true → t.hub.boot.handshake = true ∧ t.hub.power.mode = .dormant) ∧
      (s.hub.cfg.partner.enabled = false → t.hub.power.mode = .service ∧ t.hub.boot.wake = false)) ∧
    (∀ d, 5000 ≤ d → s.hub.power.held = false → (s.hub.power.mode ≠ .off ∨ s.hub.power.booting = true) →
      ∃ t, exec (.rstNLow d now) s = .next t ∧ t.hub.power.mode = .off ∧ t.hub.power.booting = true ∧ t.hub.faults.log = s.hub.faults.log ∧
        t.hub.backup.rstHoldMs = min (2 ^ 32 - 1) (d / 1000000) ∧ (∀ l, t.lane l = {})) ∧
    (∀ d, d < 4000 → exec (.rstNLow d now) s = .next { s with hub := h }) ∧
    (∀ low, s.hub.power.held = false → ∃ t, exec (.holdupCollapse now low) s = .next t ∧ t.hub.power.held = true ∧
      t.hub.power.booting = false ∧ (∀ l, t.lane l = {}) ∧
      (s.hub.power.mode ≠ .off → low = false → t.hub.faults.log.head?.map (fun r => r.name) = some .supplyReset) ∧
      (low = true → t.hub.faults.log = s.hub.faults.log))
/-! ### Agreement and vote -/

/-- Frames between lanes and to the hub (R13, R115, R125, R127, R133): a frame that is whole and carries the receiver's tick is held; one
with a CRC error is not, and counts against its link. -/
def Obligations.FramesBetweenLanes : Prop :=
  ∀ (s : State) (lane sender : LaneId), s.hub.inject.armed = [] →
    (s.linked lane sender = true →
      ((s.lane sender).own.tick = (s.lane lane).tick % 65536 → ∃ t, exec (.agreementFrameReceived lane sender .whole) s = .next t ∧
        (t.lane lane).frames = (s.lane lane).frames.set sender (some (s.lane sender).own)) ∧
      (∃ t, exec (.agreementFrameReceived lane sender .crcError) s = .next t ∧ (t.lane lane).frames = (s.lane lane).frames ∧
        vgetN t.hub.vote.linkErrors (laneLink lane sender) 0 = satAdd 16 (vgetN s.hub.vote.linkErrors (laneLink lane sender) 0) 1) ∧
      ((s.lane sender).tick % 65536 = (s.lane lane).tick % 65536 → ∃ t, exec (.receiptVectorReceived lane sender .whole) s = .next t ∧
        (t.lane lane).receipts = (s.lane lane).receipts.set sender ((s.lane sender).receipts[sender])) ∧
      (∀ f, (s.lane sender).sigs[sender] = some f → f.tick = (s.lane lane).tick % 65536 →
        ∃ t, exec (.signatureFrameReceived lane sender .whole) s = .next t ∧
          (t.lane lane).sigs = (s.lane lane).sigs.set sender (some f)) ∧
      (∀ v, (s.lane sender).vec = some v → v.tick = (s.lane lane).tick % 65536 →
        ∃ t, exec (.voteVectorReceived (.lane lane) sender .whole) s = .next t ∧
          (t.lane lane).vecs = (s.lane lane).vecs.set sender (some v))) ∧
    (s.hub.time.running = true → (s.hub.laneState sender).powered = true →
      (∀ v, (s.lane sender).vec = some v →
        (∃ t, exec (.voteVectorReceived .sa sender .whole) s = .next t ∧ t.hub.vote.vecsSA = s.hub.vote.vecsSA.set sender (some v) ∧
          t.lanes = s.lanes) ∧
        (∃ t, exec (.voteVectorReceived .sb sender .whole) s = .next t ∧ t.hub.vote.vecsSB = s.hub.vote.vecsSB.set sender (some v) ∧
          t.lanes = s.lanes)) ∧
      (∃ t, exec (.outputFrameReceived .sa sender .whole) s = .next t ∧ t.lanes = s.lanes ∧
        t.hub.vote.framesSA = s.hub.vote.framesSA.set sender (s.lane sender).sentOut) ∧
      (∃ t, exec (.outputFrameReceived .sb sender .whole) s = .next t ∧ t.lanes = s.lanes ∧
        t.hub.vote.framesSB = s.hub.vote.framesSB.set sender (s.lane sender).sentOut))

/-- What a lane sends and computes in its tick (R115, R117 to R119, R124 to R126): the receipt vector of the frames it holds; the agreed
image by the selection functions over the selection set, or the previous image where the set is empty; the captured signatures, with the
self-test's one inversion; and its vote vector. -/
def Obligations.LaneTickCommands : Prop :=
  ∀ (s : State) (lane : LaneId), s.hub.time.running = true → (s.hub.laneState lane).powered = true →
    let x := s.lane lane
    (∃ t, exec (.receiptVectorSend lane) s = .next t ∧
      (t.lane lane).receipts = x.receipts.set lane (some (laneMask (allLanes.filter (fun j => (s.framesOf lane j).isSome))))) ∧
    (let fs := (s.selection lane).filterMap (s.framesOf lane)
     ∃ t, exec (.agreementSelection lane) s = .next t ∧ (t.lane lane).agreed.tick = x.tick % 65536 ∧ (t.lane lane).agreedK = fs.length ∧
      (fs = [] → (t.lane lane).agreed.di = x.agreed.di ∧ (t.lane lane).agreed.stamps = x.agreed.stamps) ∧
      (fs ≠ [] → (t.lane lane).agreed.di = agreeBinary (fs.map AgFrame.di) s.hub.cfg.agreeDi.safeValue ∧
        (t.lane lane).agreed.edge = agreeBinary (fs.map AgFrame.edge) 0 ∧
        (t.lane lane).agreed.stamps = (List.range 24).map (fun k => agreeWord (fs.map (fun f => f.stamps.getD k 0))) ∧
        (t.lane lane).agreed.counters = (List.range 8).map (fun k => agreeWord (fs.map (fun f => f.counters.getD k 0))) ∧
        (∀ k : Fin 16, (s.hub.cfg.sdOf k).enabled = true → ((t.lane lane).agreed.sd.getD k {}).fine =
          agreeInteger (fs.map (fun f => (f.sd.getD k {}).fine)) (s.hub.cfg.agreeSd.getD k {}).higher))) ∧
    (∃ t, exec (.signatureCapture lane) s = .next t ∧ t.hub = s.hub ∧ (t.lane lane).capXfer = x.xsig ∧
      (∀ e, (t.engine ⟨lane, e⟩).capLive = (s.engine ⟨lane, e⟩).live ∧ (t.engine ⟨lane, e⟩).capDead = (s.engine ⟨lane, e⟩).dead ∧
        (t.engine ⟨lane, e⟩).regs = (s.engine ⟨lane, e⟩).regs)) ∧
    (∃ t f, exec (.signatureFrameSend lane) s = .next t ∧ t.hub = s.hub ∧ (t.lane lane).sigs[lane] = some f ∧ f.tick = x.tick % 65536 ∧
      f.xfer = x.capXfer ∧ f.dead = x.eng.toList.map Engine.capDead ∧
      ((∀ e, s.victim lane ≠ some (lane, e)) → f.live = x.eng.toList.map Engine.capLive) ∧
      (∀ e, s.victim lane = some (lane, e) → f.live = modifyAt (fun y => ~~~ y) (x.eng.toList.map Engine.capLive) e) ∧
      (t.lane lane).sentOut = some { tick := x.tick % 65536, entries := x.outFrame }) ∧
    (∃ t v, exec (.verdictFormation lane) s = .next t ∧ (t.lane lane).vec = some v ∧ (t.lane lane).vecs[lane] = some v ∧
      v.tick = x.tick % 65536 ∧ (∀ j, (s.hub.laneState j).powered = false → verdictOf v.field j = 0))

/-- The vote (R127 to R129): SA and SB decide by the field that they agree on; in a running mode a tick without one ends in SAFE. -/
def Obligations.VoteDecides : Prop :=
  ∀ (s : State), s.hub.time.running = true → s.hub.vote.votedTick ≠ some s.hub.time.tick → s.hub.active ≠ [] →
    ∃ t, exec .vectorConsensus s = .next t ∧ t.hub.vote.votedTick = some s.hub.time.tick ∧
      (∀ field, s.hub.agreedOf s.hub.vote.vecsSA = some field → s.hub.agreedOf s.hub.vote.vecsSB = some field →
        t.hub.vote.decided = some field ∧ t.hub.vote.verdicts = field) ∧
      (s.hub.power.mode.isRunning = true →
        (s.hub.agreedOf s.hub.vote.vecsSA = none ∨ s.hub.agreedOf s.hub.vote.vecsSA ≠ s.hub.agreedOf s.hub.vote.vecsSB) →
        t.hub.vote.decided = none ∧ t.hub.power.mode = .safe)

/-- State copies and repair of lanes (R131, R134 to R136, R537, R538): loading, passes, takeover with the registers that LIVENESS marks,
failure, the lane's self-test, the spare engine, and the action on LATENT_LIMIT.
SPLIT and JOIN at their boundaries (R137 to R140), and the counters a clear zeroes. -/
def Obligations.LaneStates : Prop :=
  (∀ (s : State) (lane : LaneId),
    (∀ sc, s.hub.laneState lane = .splitB → s.hub.vote.split = .loading → s.hub.schedule s.hub.vote.splitSchedule = some sc →
      ∃ t, exec (.laneLoadComplete lane) s = .next t ∧ t.lane lane = Lane.load sc (s.lane lane) ∧ t.hub = s.hub) ∧
    (∀ c sc, s.hub.laneState lane ≠ .splitB → s.hub.vote.copy = some c → c.target = lane → c.phase = 0 →
      s.hub.mainSchedule.bind s.hub.schedule = some sc → ∃ t, exec (.laneLoadComplete lane) s = .next t ∧
        t.lane lane = { Lane.load sc (s.lane lane) with schedule := some sc.number } ∧
        t.hub.vote.copy = some { c with phase := if c.source.isSome then 1 else 2 }) ∧
    (∀ c src last, s.hub.vote.copy = some c → c.source = some src → c.phase = 1 → ∃ t, exec (.stateCopyPassComplete last) s = .next t ∧
      t.hub.vote.copy = some { c with passes := c.passes + 1, phase := if last then 2 else 1 } ∧
      (src ≠ c.target → ∀ sc, s.laneSchedule src = some sc → (t.lane c.target).mem =
        sc.laneRegions.foldl (fun d r => (s.lane src).mem.copyFrom r.1 r.2 d) (s.lane c.target).mem)) ∧
    (∀ c src sc, s.hub.vote.copy = some c → c.source = some src → c.phase = 2 → s.hub.atBoundary = true → s.hub.vote.toPower = 0 →
      src ≠ c.target → c.kind ≠ .splitJoin → s.laneSchedule src = some sc →
      ∃ t, exec .stateCopyTakeover s = .next t ∧
        (t.lane c.target).agreed = (s.lane src).agreed ∧
        (∀ (e : EngineId) (n : Fin 64), (t.engine ⟨c.target, e⟩).regs[n] =
          if n ≠ 0 ∧ bit ((sc.liveness.find? (fun x => x.engine == e.val)).map LiveEntry.regs |>.getD 0) n then (s.engine ⟨src, e⟩).regs[n]
          else 0#32) ∧
        (c.kind = .warm → t.hub.laneState c.target = .spareWarm) ∧ (c.kind = .powerOn → t.hub.laneState c.target = .active) ∧
        (c.kind = .inPlace → t.hub.laneState c.target = s.hub.laneState c.target) ∧
        (c.kind = .join → s.hub.power.mode = .duplex → t.hub.laneState c.target = .active ∧ t.hub.power.mode = .voted) ∧
        (c.kind = .join → s.hub.power.mode = .voted → t.hub.laneState c.target = .spareWarm) ∧ t.hub.vote.copy = none) ∧
    (∀ c, s.hub.vote.copy = some c → c.source = none → c.phase = 2 → c.kind = .powerOn → s.hub.atBoundary = true → s.hub.vote.toPower = 0 →
      ∃ t, exec .stateCopyTakeover s = .next t ∧ t.hub.laneState c.target = .active ∧ t.hub.vote.copy = none ∧
        ∀ e, (t.engine ⟨c.target, e⟩).regs = Vector.replicate 64 0#32) ∧
    (∀ c, s.hub.vote.copy = some c → c.phase = 2 → c.kind = .splitJoin → s.hub.atBoundary = true → s.hub.vote.toPower = 0 →
      s.hub.vote.toJoin = 0 → ∃ t, exec .stateCopyTakeover s = .next t ∧ bit t.hub.vote.joined c.target.val = true ∧
        t.hub.laneState c.target = s.hub.laneState c.target ∧ t.hub.vote.copy = none) ∧
    (∀ c, s.hub.vote.copy = some c → s.hub.vote.toPower = 0 → ∃ t, exec .stateCopyFailed s = .next t ∧
      t.hub.vote.nextLane[c.target] = some .outvoted) ∧
    (∀ x, s.hub.vote.selfTests.find? (fun y => y.lane == lane) = some x →
      (∃ t, exec (.laneSelfTestEnd lane false) s = .next t ∧ t.hub.laneState lane = .off) ∧
      (x.after = 1 → ∃ t, exec (.laneSelfTestEnd lane true) s = .next t ∧ t.hub.laneState lane = .spareCold) ∧
      (x.after ≠ 1 → (s.hub.copySource lane).isSome = true → s.hub.vote.copy = none → ∃ t y,
        exec (.laneSelfTestEnd lane true) s = .next t ∧ t.hub.laneState lane = .resync ∧ t.hub.vote.copy = some y ∧ y.target = lane ∧
        y.phase = 0)) ∧
    (∀ (eng : EngineId) q, s.hub.atBoundary = true → (lane, eng.val, q) ∈ s.hub.vote.engineCopy → q < s.hub.sentence →
      ∃ t, exec (.engineSubstitution lane eng) s = .next t ∧ t.lanes = s.lanes ∧
        vgetN t.hub.vote.engineMap[lane] eng.val 0 = vgetN s.hub.vote.engineMap[lane] 8 0 ∧
        vgetN t.hub.vote.engineMap[lane] 8 0 = vgetN s.hub.vote.engineMap[lane] eng.val 0) ∧
    (s.hub.atBoundary = true → s.hub.power.mode ≠ .voted → ∃ t, exec .latentLimitAction s = .next t ∧
      ∀ j : LaneId, bit t.hub.vote.latentPending j.val = false) ∧
    (∀ i, s.hub.atBoundary = true → s.hub.power.mode = .voted → s.hub.laneState lane = .active → s.hub.copyBusy = false →
      s.hub.vote.latentPending = 2 ^ lane.val → (allLanes.filter (fun j => s.hub.laneState j == .spareWarm)).head? = some i →
      ∃ t y, exec .latentLimitAction s = .next t ∧ t.hub.laneState i = .active ∧ t.hub.laneState lane = .resync ∧
        t.hub.vote.copy = some y ∧ y.target = lane ∧ y.kind = .warm)) ∧
  (∀ (s : State),
    let v := s.hub.vote
    (v.split = .pending → s.hub.atBoundary = true → v.splitTarget ≤ s.hub.sentence →
      ((∀ l : LaneId, bit v.groupB l.val = true ∨ v.splitLanes[l] = .active → s.hub.laneState l = v.splitLanes[l]) →
        s.hub.power.mode = v.splitMode → ∃ t, exec .splitBoundary s = .next t ∧ t.hub.power.mode = .split ∧ t.hub.vote.split = .loading ∧
          ∀ l : LaneId, bit v.groupB l.val = true → t.hub.laneState l = .splitB ∧ (t.lane l).schedule = none ∧ (t.lane l).loaded = false) ∧
      (s.hub.power.mode ≠ v.splitMode → ∃ t, exec .splitBoundary s = .next t ∧ t.hub.vote.split = .cancelled ∧
        t.hub.power.mode = s.hub.power.mode ∧ t.lanes = s.lanes)) ∧
    (v.split = .loading → s.hub.atBoundary = true → (∃ l, s.hub.laneState l = .splitB) →
      (∀ l, s.hub.laneState l = .splitB → (s.lane l).loaded = true) → ∃ t, exec .groupBStart s = .next t ∧ t.hub.vote.split = .running ∧
        ∀ l, s.hub.laneState l = .splitB → (t.lane l).schedule = some v.splitSchedule) ∧
    (v.split = .joinPending → s.hub.atBoundary = true → v.splitTarget ≤ s.hub.sentence →
      ((∀ l : LaneId, v.splitLanes[l] = .active → s.hub.laneState l = .active) → s.hub.power.mode = .split →
        ((∀ l : LaneId, v.splitLanes[l] ≠ .splitB) → ∃ t, exec .joinBoundary s = .next t ∧ t.hub.power.mode = .duplex ∧
          t.hub.vote.split = .none) ∧
        (∀ a, (∃ l : LaneId, v.splitLanes[l] = .splitB) →
          ((groupLanes v.joined).filter (fun l => s.hub.laneState l == .resync)).head? = some a →
          ∃ t, exec .joinBoundary s = .next t ∧ t.hub.power.mode = .voted ∧ t.hub.laneState a = .active ∧ t.hub.vote.split = .none)) ∧
      (s.hub.power.mode ≠ .split → ∃ t, exec .joinBoundary s = .next t ∧ t.hub.vote.split = .cancelled ∧ t.lanes = s.lanes)) ∧
    (∃ t, exec .diDisagreeCountClear s = .next t ∧ t.hub = s.hub ∧
      ∀ l, t.lane l = { s.lane l with diCount := Vector.replicate 24 0 }) ∧
    (∃ t, exec .linkErrorsClear s = .next t ∧ t.lanes = s.lanes ∧ t.hub.vote.linkErrors = Vector.replicate 10 0) ∧
    (∃ t, exec .liveCountClear s = .next t ∧ t.lanes = s.lanes ∧ t.hub.vote.liveCount = Vector.replicate 4 0))
/-! ### Runtime, measurement and PWM -/

/-- The runtime's steps (R145, R146, R155, R157, R159, R163, R165, R248, R252): the application's start at its boundary; the apply step's
answer; the input step's control block; the release step's report of the cycle; the monitor step's words; and the retained copy, which
needs two lanes that agree. -/
def Obligations.RuntimeSteps : Prop :=
  ∀ (s : State) (lane : LaneId) (task : Fin 8),
    (∀ p sc, s.hub.power.pending = some p → s.hub.sched.selMain.bind s.hub.schedule = some sc → s.hub.atBoundary = true →
      s.hub.power.mode = .service → ∃ t, exec .applicationStart s = .next t ∧ t.hub.power.mode = p.target ∧ t.hub.power.pending = none ∧
        t.hub.power.tA = s.hub.time.tick ∧ t.hub.sched.running = some sc.number ∧ t.hub.rt.queue = [] ∧
        (∀ l, (s.hub.laneState l).powered = true → s.hub.laneState l ≠ .outvoted →
          t.hub.laneState l = (if bit p.mask l.val then .active else .spareWarm) ∧ (t.lane l).schedule = some sc.number ∧
          ∀ e, (t.engine ⟨l, e⟩).regs = Vector.replicate 64 0#32)) ∧
    (∀ j r, s.taskTick lane task = some (j, s.hub.cfg.period task - 1) → s.snap.rt.present = some r → r.task = task.val →
      r.cycle = j + 1 → ∃ t res rest, exec (.applyStep lane task) s = .next t ∧
        (t.lane lane).outFrame = (s.lane lane).outFrame ++ [(0x8060, leBytes 4 r.seq), (0x8064, leBytes 4 res)] ++ rest ∧
        (r.kind ≠ 3 → rest = [] ∧ t.hub = s.hub) ∧
        (r.kind = 1 → (res = 2 ↔ ¬ ∃ g, s.hub.cfg.regionAt r.address r.value.length = some g ∧ g.task = r.task ∧ (g.kind = 2 ∨ g.kind = 3))) ∧
        (r.kind = 2 → (res = 2 ↔ ¬ ∃ g, s.hub.cfg.regionAt r.address r.value.length = some g ∧ g.task = r.task ∧ g.kind = 4))) ∧
    (∀ j moves, s.taskTick lane task = some (j, 0) → (s.lane lane).mem.wf = true → ∃ t, exec (.inputStep lane task moves) s = .next t ∧
      (t.lane lane).mem.readLe (tcbAddr task) 8 = j % 2 ^ 48 ∧
      (t.lane lane).mem.readLe (tcbAddr task + 24) 8 = (s.lane lane).tb0 % 2 ^ 64 ∧ (∀ l, l ≠ lane → t.lane l = s.lane l)) ∧
    (∀ j moves frame, s.taskTick lane task = some (j, s.hub.cfg.period task - 1) → s.hub.inject.armed = [] →
      let aborted := bit ((s.lane lane).mem.readLe (tcbAddr task + 16) 4) 0
      ∃ t pre b, exec (.releaseStep lane task moves frame) s = .next t ∧
        (t.lane lane).outFrame = (s.lane lane).outFrame ++ pre ++ [(0x8100 + 16 * task.val, b)] ∧ b.length = 16 ∧
        (aborted = true → pre = [] ∧
          vgetN (t.lane lane).rt.overruns task 0 = satAdd 16 (vgetN (s.lane lane).rt.overruns task 0) 1) ∧
        (aborted = false → pre.length ≤ frame.length ∧ (t.lane lane).rt.overruns = (s.lane lane).rt.overruns)) ∧
    (∀ func : Fin 8,
      let f := s.hub.cfg.safety.getD func {}
      let p := s.hub.cfg.period f.task
      f.used = true → s.laneRuns lane = true → s.hub.suppressed f.task = false → p ≠ 0 → s.hub.power.tA ≤ (s.lane lane).tick →
      ((s.lane lane).tick - s.hub.power.tA) % p = p - 1 → s.hub.inject.armed = [] →
      ∃ t b, exec (.monitorStep lane func) s = .next t ∧ b.length = 4 ∧ (t.lane lane).outFrame = (s.lane lane).outFrame ++
        [(0x60020 + 8 * func.val, ((s.lane lane).monitorEval f func {}).2.1), (0x60004, b)]) ∧
    (∀ j tick l, s.hub.rt.copying = some (j, tick) → s.hub.sourceLane = some l →
      let data := (s.lane l).frozen
      let votes := (s.hub.active.filter (fun k => crc32 (s.lane k).frozen == crc32 data)).length
      ∃ t, exec .retainedCopyComplete s = .next t ∧ t.hub.rt.copying = none ∧ t.lanes = s.lanes ∧
        (2 ≤ votes → ∃ r, (t.hub.rt.copyA = some r ∨ t.hub.rt.copyB = some r) ∧ r.data = data ∧ r.cycle = j ∧ r.tick = tick) ∧
        (votes < 2 → t.hub.rt.copyA = s.hub.rt.copyA ∧ t.hub.rt.copyB = s.hub.rt.copyB ∧
          t.hub.faults.log.head?.map (fun r => r.name) = some .retainCopyFailed))

/-- Table 10.2: a safety function makes at most one transition in a cycle; it allows its outputs only from READY on a request with its
input closed, and a demand takes it to state 2 from every state that could. -/
def Obligations.SafetyFunctionTransitions : Prop :=
  ∀ (f : SafetyCfg) (x : SfState) (cond : SfCond) (valid request notOpen : Bool),
    let y := x.transit f cond valid request notOpen
    (y.state = 5 → x.state = 5 ∧ cond = .closed ∧ request = true ∨ x.state = 4 ∧ cond = .closed ∧ request = true) ∧
    (y.state = 4 → x.state = 4 ∨ x.state = 5 ∨ (x.state = 3 ∧ valid = true) ∨ (x.state = 2 ∧ f.resetDi = 0xFF ∧ x.openSeen = true)) ∧
    (cond ≠ .closed → (x.state = 3 ∨ x.state = 4 ∨ x.state = 5) → y.state = 2) ∧
    (x.state = 1 → y.state = 2 ∨ y = x) ∧ (5 < x.state → y = x)

/-- The measurement chain (R172, R180 to R182, R185, R191, R194, R196): coarse values, lost clocks and stuck data lines, preset
switches, auto-zero and the calibration average.
PWM and trips (R201 to R204, R206 to R210): the two outputs of a complementary pair are never both on after an edge; the compare
values take over at their update points; a pair that is not enabled stops at once; trip inputs latch, and only an inactive source clears. -/
def Obligations.MeasurementAndPwm : Prop :=
  (∀ (s : State) (lane : LaneId) (now : Nat), s.hub.time.running = true → (s.hub.laneState lane).powered = true →
    (∀ (k : Fin 16) sum, (s.hub.cfg.sdOf k).enabled = true → (s.lane lane).sd[k].clockLoss = false → (s.lane lane).sd[k].stuck = false →
      ∃ t, exec (.coarseDecimation lane k sum now) s = .next t ∧
        (t.lane lane).sd[k].path = min 32767 ((((min sum 256 : Nat) : Int) - 128) * 256) ∧
        (t.lane lane).sd[k].age = min 2 ((s.lane lane).sd[k].age + 1) ∧
        (∀ j, j ≠ k → (t.lane lane).sd[j] = (s.lane lane).sd[j])) ∧
    (∀ g : Fin 2, s.hub.cfg.groupChannels g ≠ [] → ∃ t, exec (.sdClockLoss lane g now) s = .next t ∧
      (∀ k : Fin 16, k.val ∈ s.hub.cfg.groupChannels g → (t.lane lane).sd[k].clockLoss = true) ∧
      (s.hub.faults.log.length < 8000 → t.hub.faultActive .sdClockLoss [g.val] = true)) ∧
    (∀ (k : Fin 16) level, (s.hub.cfg.sdOf k).enabled = true → ∃ t, exec (.sdDataStuck lane k level now) s = .next t ∧
      (t.lane lane).sd[k].stuck = true ∧ (s.hub.faults.log.length < 8000 → t.hub.faultActive .sdDataStuck [k.val] = true)) ∧
    (∀ g : Fin 2, ∃ t, exec (.modulatorRestart lane g now) s = .next t ∧ ∀ k : Fin 16, k.val ∈ s.hub.cfg.groupChannels g →
      (t.lane lane).sd[k].clockLoss = false ∧ (t.lane lane).sd[k].age = 0 ∧ (t.lane lane).sd[k].eventAt = some (s.hub.at_ now).time.now) ∧
    (∀ (k : Fin 16) (v : Fin 4), ∃ t, exec (.presetSelect k v) s = .next t ∧ t.hub.meas.preset = s.hub.meas.preset.set k v.val ∧
      t.hub.meas.switches = s.hub.meas.switches ++ [Switch.mk k (s.hub.time.tick + 1) v s.hub.meas.skew[k]] ∧ t.lanes = s.lanes) ∧
    (∀ (k : Fin 16) on, ∃ t, exec (.skewRemoveSelect k on) s = .next t ∧ t.hub.meas.skew = s.hub.meas.skew.set k on ∧
      t.hub.meas.switches = s.hub.meas.switches ++ [Switch.mk k (s.hub.time.tick + 1) s.hub.meas.preset[k] on] ∧ t.lanes = s.lanes) ∧
    (∀ (k : Fin 16) w, w.channel = k.val → w.tick = (s.lane lane).tick → s.hub.meas.switches = [w] →
      ∃ t, exec (.presetSwitch lane) s = .next t ∧ (t.lane lane).sd[k].preset = w.preset ∧ (t.lane lane).sd[k].skew = w.skew ∧
        (w.preset ≠ (s.lane lane).sd[k].preset → (t.lane lane).sd[k].eventAt = some s.hub.time.now) ∧ t.hub = s.hub) ∧
    (∀ k : Fin 16, (s.hub.cfg.sdOf k).enabled = true → (s.hub.cfg.sdOf k).azPairs ≠ 0 → (s.hub.cfg.sdOf k).azMode = 1 →
      ((s.lane lane).mem.chan k).azState = 0 → ∃ t, exec (.autozeroRequest k) s = .next t ∧ t.hub = s.hub ∧
        (t.lane lane).mem = (s.lane lane).mem.setAz k 1 ((s.lane lane).mem.chan k).azResult ((s.lane lane).mem.chan k).azOffset) ∧
    (∀ k : Fin 16, ((s.lane lane).mem.chan k).azState = 2 → (s.lane lane).az[k].left = 0 →
      let v := divEven (s.lane lane).az[k].sum (s.hub.cfg.sdOf k).azTicks
      ∃ t, exec (.autozeroEnd lane k) s = .next t ∧ t.hub = s.hub ∧
        (v.natAbs ≤ (s.hub.cfg.sdOf k).azLimit → (t.lane lane).mem = (s.lane lane).mem.setAz k 0 1 v) ∧
        ((s.hub.cfg.sdOf k).azLimit < v.natAbs →
          (t.lane lane).mem = (s.lane lane).mem.setAz k 0 3 ((s.lane lane).mem.chan k).azOffset)) ∧
    (∀ a, s.hub.meas.avg = some a → a.left = 0 → ∃ t, exec .calibrationAveragingEnd s = .next t ∧ t.hub.meas.avg = none ∧ t.lanes = s.lanes ∧
      (a.bad = true → t.hub.meas.pending = s.hub.meas.pending) ∧
      (a.bad = false → a.channel < 16 → ∃ pt : CalPoint, pt.raw = divEven a.sum a.ticks ∧ pt.physical = a.physical ∧ pt.load = a.load ∧
        vgetN t.hub.meas.pending a.channel CalSet.empty =
          modifyAt (fun _ => some pt) (vgetN s.hub.meas.pending a.channel CalSet.empty) a.index))) ∧
  (∀ (s : State) (pair : Fin 6),
    let hi := fun (h : Hub) (k : Nat) => (vgetN h.pwm.outs k {}).high
    (∀ at_, s.hub.time.running = true → 4 * s.hub.time.tickAt ≤ at_ → ∃ t, exec (.pwmEdge pair at_) s = .next t ∧ t.lanes = s.lanes ∧
      (bit s.hub.pwm.running pair.val = false → t.hub.pwm = s.hub.pwm) ∧
      ((s.hub.pairCfg pair).mode = 0 → ¬ (hi s.hub (2 * pair) = true ∧ hi s.hub (2 * pair + 1) = true) →
        ¬ (hi t.hub (2 * pair) = true ∧ hi t.hub (2 * pair + 1) = true))) ∧
    (∀ at_, s.hub.time.running = true → 4 * s.hub.time.tickAt ≤ at_ → (s.hub.pairCfg pair).mode ≠ 2 → s.hub.carrierAt pair at_ = 0 →
      let pending := if s.hub.pwm.pendAt ≤ at_ then s.hub.pwm.compare else s.hub.pwm.pending
      ∃ t, exec (.carrierUpdatePoint pair false at_) s = .next t ∧ t.lanes = s.lanes ∧
        (∀ k, k = 2 * pair.val ∨ k = 2 * pair.val + 1 → vgetN t.hub.pwm.active k 0 = vgetN pending k 0) ∧
        (bit (s.hub.blockedPairs ||| s.hub.trippedPairs) pair.val = false → bit t.hub.pwm.running pair.val = true)) ∧
    (∀ v, s.hub.power.mode.isRunning = true → ∃ t, exec (.pairEnable v) s = .next t ∧ t.hub.pwm.enable = v % 64 ∧ t.lanes = s.lanes ∧
      (bit v pair.val = false → bit t.hub.pwm.running pair.val = false ∧ hi t.hub (2 * pair) = false ∧ hi t.hub (2 * pair + 1) = false)) ∧
    (∃ t, exec .pulseAdjustClear s = .next t ∧ t.lanes = s.lanes ∧ t.hub.pwm.pulseAdjust = Vector.replicate 12 0) ∧
    (∀ (input : Fin 4) high now,
      let c := s.hub.cfg.trip.ins.getD input (0, false)
      ∃ t, exec (.tripInEdge input high now) s = .next t ∧ t.lanes = s.lanes ∧ bit t.hub.pwm.ins input.val = (high == c.2) ∧
        (high = c.2 → c.1 ≠ 0 → s.hub.time.running = true → bit t.hub.pwm.tripLatch (32 + input.val) = true) ∧
        (high ≠ c.2 → t.hub.pwm.tripLatch = s.hub.pwm.tripLatch)) ∧
    (∀ mask, s.hub.power.mode.isRunning = true → ∃ t, exec (.tripClearRequest mask) s = .next t ∧ t.lanes = s.lanes ∧ ∀ i, i < 36 →
      (bit mask i = false → bit t.hub.pwm.tripLatch i = bit s.hub.pwm.tripLatch i) ∧
      (bit mask i = true → s.hub.sourceActive i = false → bit t.hub.pwm.tripLatch i = false) ∧
      (bit mask i = true → s.hub.sourceActive i = true → bit t.hub.pwm.tripLatch i = bit s.hub.pwm.tripLatch i ∧
        bit t.hub.pwm.clearRefused i = true)) ∧
    (∀ (k : Fin 12) read d now, s.hub.pwm.buffersOff = false → 10 * s.hub.cfg.trip.window < d → read % 3 ≠ (s.hub.at_ now).pwmPin k →
      ∃ t, exec (.pwmReadback k read d now) s = .next t ∧ t.hub.pwm.buffersOff = true ∧ t.hub.faultActive .pwmReadback [k.val] = true ∧
        (s.hub.power.mode = .service ∨ s.hub.power.mode.isRunning = true → t.hub.power.mode = .safe) ∧ t.lanes = s.lanes))
/-! ### Field inputs and outputs, safety functions -/

/-- Field inputs (R154, R155, R217, R220, R222): an accepted level is stamped and counted, a wire break follows its detector, and an
output used as input accepts a level after four equal samples (assumption log 13). -/
def Obligations.FieldInputs : Prop :=
  ∀ (s : State) (lane : LaneId) (k : Fin 24),
    ((s.hub.laneState lane).powered = true → s.hub.diBlind k = false →
      (∀ level ns, (s.lane lane).di[k].level ≠ level → ∃ t, exec (.diLevelAccepted lane k level ns) s = .next t ∧ t.hub = s.hub ∧
        (t.lane lane).di[k].level = level ∧ (t.lane lane).di[k].edge = true ∧
        (t.lane lane).di[k].stamp =
          (((s.lane lane).tb0 + ns) / 1000 + 2 ^ 32 - s.hub.cfg.fieldIn.debounce.getD k 0) % 2 ^ 32 ∧
        (∀ j, j ≠ k → (t.lane lane).di[j] = (s.lane lane).di[j]) ∧
        (∀ i : Fin 8, (t.lane lane).counters[i] =
          if (s.hub.cfg.diCounters.getD i {}).di = k.val ∧ bit (s.hub.cfg.diCounters.getD i {}).edge (if level then 0 else 1)
          then (s.lane lane).counters[i] + 1 else (s.lane lane).counters[i])) ∧
      (∀ broken, bit s.hub.cfg.fieldIn.wire k.val = true → ∃ t, exec (.wireBreakDetection lane k broken) s = .next t ∧ t.hub = s.hub ∧
        (t.lane lane).di[k].wireBreak = broken ∧ (t.lane lane).di[k].level = (s.lane lane).di[k].level)) ∧
    (∀ (o : Fin 16) high, s.hub.stage.run = true → (s.hub.cfg.doOf o).mode = 1 → ∃ t, exec (.doInputSample o high) s = .next t ∧
      t.lanes = s.lanes ∧
      (bit s.hub.stage.doInput o.val = high → t.hub.stage.doRun[o] = 0 ∧ bit t.hub.stage.doInput o.val = high) ∧
      (bit s.hub.stage.doInput o.val ≠ high → s.hub.stage.doRun[o] = 3 → t.hub.stage.doRun[o] = 0 ∧ bit t.hub.stage.doInput o.val = high) ∧
      (bit s.hub.stage.doInput o.val ≠ high → s.hub.stage.doRun[o] < 3 → t.hub.stage.doRun[o] = s.hub.stage.doRun[o] + 1 ∧
        t.hub.stage.doInput = s.hub.stage.doInput))

/-- The stage (R224, R225, R230, R231): a valid frame commands the outputs; a frame that is damaged or not newer changes nothing; the
watchdog and a SAFE frame apply the safe states; samples show readback and supplies. A latched output stays off. -/
def Obligations.StageFrames : Prop :=
  ∀ (s : State) (now : Nat), s.hub.stage.run = true →
    let h := s.hub.at_ now
    (∀ f, s.hub.stage.sent = some f → s.hub.stage.wdTripped = false → (∀ x, s.hub.stage.last = some x → x.1 < f.tick) →
      ∃ t, exec (.stageFrameReceived .whole .whole true now) s = .next t ∧ t.lanes = s.lanes ∧
        t.hub.stage.last = some (f.tick, h.time.now) ∧ t.hub.stage.gotFrame = true ∧
        (f.safe = false → t.hub.stage.safeStates = false ∧ ∀ k : Fin 24, (t.hub.out k).cmd =
          (s.hub.cfg.outUsed k && (if k.val < 16 then bit f.dos k else bit f.sos (k - 16)) && !(s.hub.out k).faulty)) ∧
        (f.safe = true → t.hub.stage.safeStates = true ∧ (s.hub.stage.test = none → ∀ k : Fin 24, (t.hub.out k).cmd =
          (s.hub.cfg.outUsed k && s.hub.safeOf k && !(s.hub.out k).faulty)))) ∧
    (∀ a b eq, (a ≠ .whole ∨ b ≠ .whole ∨ eq = false) → exec (.stageFrameReceived a b eq now) s = .next { s with hub := h }) ∧
    (∀ x, s.hub.stage.last = some x → s.hub.stage.wdTripped = false →
      98 * s.hub.cfg.fieldOut.watchdog * s.hub.nCycles ≤ 100 * (h.time.now - x.2) → s.hub.stage.test = none →
      ∃ t, exec (.stageWatchdogTrip now) s = .next t ∧ t.hub.stage.wdTripped = true ∧ t.lanes = s.lanes ∧
        ∀ k : Fin 24, (t.hub.out k).cmd = (s.hub.cfg.outUsed k && s.hub.safeOf k && !(s.hub.out k).faulty)) ∧
    (∀ rb cur a b hi, ∃ t, exec (.stageReadbackSample rb cur a b hi now) s = .next t ∧ t.lanes = s.lanes ∧
      (∀ k : Fin 24, (t.hub.out k).readback = min 2 (rb.getD k 0) ∧ (t.hub.out k).current = min (cur.getD k 0) 65535 ∧
        (t.hub.out k).cmd = (s.hub.out k).cmd) ∧
      t.hub.stage.supply[0] = a ∧ t.hub.stage.supply[1] = b ∧ t.hub.stage.gotFrame = false ∧
      t.hub.stage.missRun = if s.hub.stage.gotFrame then 0 else s.hub.stage.missRun + 1) ∧
    (∀ x : OutTest, s.hub.stage.test = some x → x.endAt ≤ h.time.now → x.channel < 24 → ∃ t, exec (.testOutputEnd now) s = .next t ∧
      t.hub.stage.test = none ∧ (t.hub.out x.channel).cmd = (s.hub.safeOf x.channel && !(s.hub.out x.channel).faulty) ∧ t.lanes = s.lanes)

/-- Output faults and their clearing (R229, R232 to R238): a latched output is off and stays latched until a clear finds it low.
Test pulses and off-pulses (R254, R255, R258, R260): a supply's window opens and closes, failed results stay, a supply in limit is
switched off for 1 s; a pulse that reaches low in time passes, a late one is OFF_PULSE_FAIL, one that never left high is an external
voltage. -/
def Obligations.OutputFaults : Prop :=
  (∀ (s : State) (k : Fin 24) (now : Nat), s.hub.stage.run = true →
    let h := s.hub.at_ now
    (∀ thermal mA, (s.hub.out k).cmd = true → ∃ t, exec (.outputOverload k thermal mA now) s = .next t ∧ (t.hub.out k).faulty = true ∧
      (t.hub.out k).cmd = false ∧ t.hub.faultActive .outputOverload [k.val] = true ∧ t.lanes = s.lanes) ∧
    ((s.hub.out k).cmd = true → h.settled k = true → s.hub.faultActive .fieldSupplyLow [outGroup k] = false →
      vgetN s.hub.stage.closed (outGroup k) false = true → ∃ t, exec (.readbackMismatch k now) s = .next t ∧ (t.hub.out k).faulty = true ∧
      (t.hub.out k).cmd = false ∧ t.hub.faultActive .readbackMismatch [k.val] = true ∧ t.lanes = s.lanes) ∧
    (s.hub.cfg.outUsed k = true → (s.hub.out k).cmd = false → h.settled k = true → (s.hub.out k).ext = false →
      ∃ t, exec (.externalVoltageDetection k now) s = .next t ∧ (t.hub.out k).faulty = true ∧ (t.hub.out k).ext = true ∧
        (∃ x, t.hub.stage.searches = s.hub.stage.searches ++ [x] ∧ x.channel = k.val ∧ x.searching = false ∧ x.detectedAt = h.time.now) ∧
        ((s.hub.cfg.partnerOf k).isSome = true → vgetN t.hub.stage.closed (outGroup k) false = false) ∧ t.lanes = s.lanes) ∧
    (∀ x, s.hub.stage.searches = [x] → x.channel = k.val → x.searching = false →
      (∃ t, exec (.sourceEvaluation k true now) s = .next t ∧ t.hub.stage.searches = [{ x with searching := true }] ∧ t.lanes = s.lanes) ∧
      (∃ t, exec (.sourceEvaluation k false now) s = .next t ∧ t.hub.stage.searches = [] ∧ t.lanes = s.lanes ∧
        t.hub.stage.extLast = k.val + 256 * (if (s.hub.cfg.partnerOf k).isSome then 0xFE else k.val))) ∧
    (∀ x, s.hub.stage.searches = [x] → x.channel = k.val → x.searching = true →
      (∀ j : Fin 24, s.hub.cfg.pulsed j = true → (s.hub.out j).cmd = true → ∃ t, exec (.sourceSearchEnd k (some j) now) s = .next t ∧
        (t.hub.out j).faulty = true ∧ (t.hub.out j).ext = true ∧ (t.hub.out j).cmd = false ∧ t.hub.stage.searches = [] ∧
        t.hub.stage.extLast = k.val + 256 * j.val) ∧
      (x.detectedAt + 200800000 ≤ h.time.now → ∃ t, exec (.sourceSearchEnd k none now) s = .next t ∧ t.hub.stage.searches = [] ∧
        t.hub.stage.extLast = k.val + 256 * 0xFF)) ∧
    (s.hub.power.mode.isRunning = true → (s.hub.out k).faulty = true → ∃ t, exec (.channelClear (2 ^ k.val)) s = .next t ∧ t.lanes = s.lanes ∧
      ((s.hub.out k).readback = 0 → (t.hub.out k).faulty = false ∧ t.hub.faultActive .outputOverload [k.val] = false ∧
        t.hub.faultActive .readbackMismatch [k.val] = false) ∧
      ((s.hub.out k).readback ≠ 0 → (t.hub.out k).faulty = true ∧ bit t.hub.stage.refused k.val = true)) ∧
    (∀ (g : Fin 2) v, v < 1600 → ∃ t, exec (.fieldSupplyLow g v now) s = .next t ∧ t.hub.faultActive .fieldSupplyLow [g.val] = true ∧
      t.lanes = s.lanes) ∧
    (∀ g : Fin 2, ∃ t, exec (.fieldSupplyRecovered g now) s = .next t ∧ t.hub.faultActive .fieldSupplyLow [g.val] = false ∧
      t.hub.stage.goodSince[g].isSome = true ∧ t.lanes = s.lanes)) ∧
  (∀ (s : State) (tp : Fin 4) (k : Fin 24) (now : Nat), s.hub.stage.run = true →
    let h := s.hub.at_ now
    (bit s.hub.stage.tpPresent tp.val = true → ∃ t, exec (.testPulseStart tp) s = .next t ∧ t.hub.stage.window = some tp.val ∧
      t.lanes = s.lanes) ∧
    (∀ b d a, s.hub.stage.window = some tp.val → ∃ t, exec (.testWindowEvaluation tp b d a) s = .next t ∧ t.hub.stage.window = none ∧
      t.lanes = s.lanes ∧ (∀ i : Fin 24, 2 ≤ s.hub.stage.testResult[i] → t.hub.stage.testResult[i] = s.hub.stage.testResult[i]) ∧
      (∀ own, s.hub.cfg.supplyOf k = some own → s.hub.inject.armed = [] → s.hub.stage.testResult[k] < 2 →
        let res := fun (n : Nat) => (windowResult own tp (bit (b.getD n 0) k) (bit (d.getD n 0) k) (bit (a.getD n 0) k)).getD 0
        t.hub.stage.testResult[k] = if max (res 0) (res 1) = 0 then s.hub.stage.testResult[k] else max (res 0) (res 1))) ∧
    (s.hub.stage.window ≠ some tp.val → ∃ t, exec (.tpAbsentDetection tp) s = .next t ∧ bit t.hub.stage.tpPresent tp.val = false ∧
      t.lanes = s.lanes) ∧
    (s.hub.stage.tpOff[tp] = none → ∃ t, exec (.tpCurrentLimit tp now) s = .next t ∧ t.hub.stage.tpOff[tp] = some h.time.now ∧
      bit t.hub.stage.tpLimit tp.val = true ∧ t.lanes = s.lanes) ∧
    (∀ x, s.hub.stage.tpOff[tp] = some x → x + 1000000000 ≤ h.time.now → ∃ t, exec (.tpRetry tp now) s = .next t ∧
      t.hub.stage.tpOff[tp] = none ∧ bit t.hub.stage.tpLimit tp.val = false ∧ t.lanes = s.lanes) ∧
    (s.hub.cfg.pulsed k = true → (s.hub.out k).cmd = true → (s.hub.out k).pulse = none →
      (s.hub.out k).onSince + 200000000 ≤ h.time.now → ∃ t, exec (.offPulseStart k now) s = .next t ∧
        (t.hub.out k).pulse = some h.time.now ∧ (t.hub.out k).cmd = true ∧ t.lanes = s.lanes) ∧
    (∀ x, (s.hub.out k).pulse = some x → x + 1000 * s.hub.cfg.offpulseUs ≤ h.time.now → s.hub.inject.armed = [] →
      (∀ us, ∃ t, exec (.offPulseEnd k true us now) s = .next t ∧ (t.hub.out k).pulse = none ∧ t.lanes = s.lanes ∧
        (2 * us ≤ s.hub.cfg.offpulseUs → bit t.hub.stage.offFailed k.val = false ∧ t.hub.faults = s.hub.faults) ∧
        (s.hub.cfg.offpulseUs < 2 * us → bit t.hub.stage.offFailed k.val = true ∧ t.hub.faultActive .offPulseFail [k.val] = true)) ∧
      (∀ us, ∃ t, exec (.offPulseEnd k false us now) s = .next t ∧ (t.hub.out k).pulse = none ∧ (t.hub.out k).ext = true ∧ t.lanes = s.lanes)))
/-! ### The consist network -/

/-- Ports, gates and frames (R275, R277, R280, R283, R284, R296, R299): the poll follows the PHYs; a gate entry sets the gates of the
ports it names; a frame counts by its FCS, and a known pair of source and sequence number within the forget time is a duplicate; the
highest class that may start goes out; E2 takes a port's place and its waiting frames; a doorbell is kept. -/
def Obligations.NetworkPorts : Prop :=
  ∀ (s : State) (now : Nat),
    let h := s.hub.at_ now
    (∀ up, ∃ t, exec (.linkStatePoll up now) s = .next t ∧ t.lanes = s.lanes ∧
      ∀ p : Fin 4, (h.portOn p.val = true → (t.hub.port p.val).up = bit up p.val) ∧
        (h.portOn p.val = true → (h.port p.val).up = false → bit up p.val = true → t.hub.faultActive .portLinkDown [p.val] = false)) ∧
    (∀ index sc g, s.hub.mainSchedule.bind s.hub.schedule = some sc → sc.gates[index]? = some g → s.hub.time.running = true →
      s.hub.tickInSentence = g.tick → ∃ t, exec (.gateEntry index) s = .next t ∧ t.lanes = s.lanes ∧
        ∀ p : Fin 3, t.hub.net.gates[p] =
          if bit g.ports (if p.val = 2 ∧ s.hub.net.subst ≠ 0 then s.hub.net.subst - 1 else p.val) then g.gates
          else s.hub.net.gates[p]) ∧
    (∀ (port : Fin 4) (frame : Bytes), h.portOn port.val = true → (h.port port.val).up = true →
      exec (.frameReceived port frame false now) s =
        .next { s with hub := h.modPort port.val (fun x => { x with errors := wrapAdd 32 x.errors 1 }) } ∧
      ∃ t, exec (.frameReceived port frame true now) s = .next t ∧ t.lanes = s.lanes ∧
        (t.hub.port port.val).received = wrapAdd 32 (h.port port.val).received 1 ∧
        (t.hub.port port.val).errors = (h.port port.val).errors) ∧
    (∀ (b f : Bytes) (seq tm : Nat), takeTrailer b = some (f, seq) → (be48 f 6, seq, tm) ∈ h.net.dups →
      h.time.now - tm ≤ h.netCfg.entryForgetMs * 1000000 →
      (h.prpRx b).2 = (f, true) ∧ (h.prpRx b).1.net.duplicates = satAdd 32 h.net.duplicates 1) ∧
    (∀ (port : Fin 4) (f : TxFrame), h.portOn port.val = true → (h.port port.val).current = none → h.nextFrame port.val = some f →
      ∃ t, exec (.frameTransmit port now) s = .next t ∧ t.lanes = s.lanes ∧ (t.hub.port port.val).current = some f ∧
        f ∈ (h.port port.val).ready ∧
        (f.seq = none → Sent.frame port.val f.bytes ∈ t.hub.outbox) ∧
        (∀ q lan, f.seq = some q → h.portLan port.val = some lan → Sent.frame port.val (withTrailer q lan f.bytes) ∈ t.hub.outbox)) ∧
    (∀ (port : Fin 4) (f : TxFrame), (h.port port.val).current = some f →
      ∃ t, exec (.frameTransmitComplete port now) s = .next t ∧ t.lanes = s.lanes ∧ (t.hub.port port.val).current = none ∧
        (t.hub.port port.val).sent = wrapAdd 32 (h.port port.val).sent 1) ∧
    (∀ v sentence, s.hub.net.substPending = some (v, sentence) → h.atBoundary = true → sentence ≤ h.sentence →
      (v = 1 ∨ v = 2 → ∃ t, exec (.portSubstitution now) s = .next t ∧ t.lanes = s.lanes ∧ t.hub.net.substPending = none ∧
        t.hub.net.subst = v ∧ (t.hub.port (v - 1)).off = true ∧ (t.hub.port (v - 1)).ready = [] ∧
        (t.hub.port 2).ready = (h.port 2).ready ++ (h.port (v - 1)).ready) ∧
      (v = 0 → (h.net.subst = 1 ∨ h.net.subst = 2) → (h.port (h.net.subst - 1)).up = true →
        ∃ t, exec (.portSubstitution now) s = .next t ∧ t.lanes = s.lanes ∧ t.hub.net.subst = 0 ∧ (t.hub.port 2).ready = [] ∧
          (t.hub.port (h.net.subst - 1)).ready = (h.port (h.net.subst - 1)).ready ++ (h.port 2).ready)) ∧
    (∀ (queue : Fin 64) (value consumed : Nat), s.hub.parserRing queue.val = true →
      ∃ t, exec (.parserDoorbell queue value [] consumed now) s = .next t ∧ t.lanes = s.lanes ∧
        (t.hub.queue queue.val).bell = value % 2 ^ 32) ∧
    (∀ (lane : LaneId) (offset : Nat) (data : Bytes), s.hub.laneState lane = .active →
      exec (.laneDoorbell lane offset data) s = .next (s.modHub (Hub.laneBell lane offset data)))

/-- The services of the consist network (R276, R278 to R282, R286, R287, R290): supervision, forgetting, path loss, ARP, process data and
new addresses. -/
def Obligations.NetworkServices : Prop :=
  ∀ (s : State) (now : Nat),
    let h := s.hub.at_ now
    (∀ index c st, s.hub.cfg.net.subs[index]? = some c → s.hub.net.subs[index]? = some st →
      (c.timeoutMs ≠ 0 → st.lastAt + c.timeoutMs * 1000000 ≤ h.time.now → s.hub.time.running = true →
        s.hub.faultActive .pdTimeout [index] = false →
        ∃ t, exec (.pdTimeout index now) s = .next t ∧ t.lanes = s.lanes ∧ t.hub.net.subs[index]? = some { st with valid := false } ∧
          t.hub.faultActive .pdTimeout [index] = true ∧
          t.hub.net.rx = (if c.zero then s.hub.net.rx.writeN c.offset (zeros c.length) else s.hub.net.rx)) ∧
      (c.pull ≠ 0 → s.hub.time.running = true → (∀ x, st.prTick = some x → x + c.pull ≤ s.hub.time.tick) →
        ∃ t, exec (.pdPullRequest index now) s = .next t ∧ t.lanes = s.lanes ∧ t.hub.net.subs[index]? =
          some { st with prSeq := (st.prSeq + 1) % 2 ^ 32, prTick := some s.hub.time.tick })) ∧
    (∀ index c st, s.hub.cfg.net.pubs[index]? = some c → s.hub.net.pubs[index]? = some st → s.hub.publishing = true →
      bit s.hub.net.pubEnable index = true →
      let p := (s.hub.cfg.tasks.getD c.task {}).period
      p ≠ 0 → s.hub.power.tA < s.hub.time.tick → (s.hub.time.tick - s.hub.power.tA) % p = 0 →
      ((s.hub.time.tick - s.hub.power.tA) / p - 1) % c.every = 0 →
        ∃ t x, exec (.pdPublication index now) s = .next t ∧ t.lanes = s.lanes ∧ t.hub.net.pubs[index]? = some x ∧
          x.seq = (st.seq + 1) % 2 ^ 32) ∧
    (∀ lan : Fin 2, s.hub.cfg.net.network.isSome = true →
      h.netCfg.pathLossMs * 1000000 ≤ h.time.now - vgetN h.net.lanLast lan.val 0 →
      h.time.now - vgetN h.net.lanLast (1 - lan.val) 0 < h.netCfg.pathLossMs * 1000000 →
      ∃ t, exec (.prpPathLoss lan now) s = .next t ∧ t.lanes = s.lanes ∧ t.hub.faultActive .prpPathLoss [lan.val] = true) ∧
    (s.hub.cfg.net.network.isSome = true → s.hub.net.supAt + h.netCfg.supervisionMs * 1000000 ≤ h.time.now →
      ∃ t, exec (.prpSupervisionSend now) s = .next t ∧ t.lanes = s.lanes ∧ t.hub.net.supSeq = (s.hub.net.supSeq + 1) % 65536 ∧
        t.hub.net.supAt = h.time.now) ∧
    (∀ mac,
      let old := fun (n : Nat × Nat) => n.1 == mac && decide (n.2 + h.netCfg.nodeForgetS * 1000000000 ≤ h.time.now)
      exec (.prpNodeForget mac now) s = .next { s with hub := { h with net.nodes := h.net.nodes.filter (fun n => !old n) } }) ∧
    (∀ (iface : Fin 2) (ip : Nat) (e : ArpEntry),
      s.hub.net.arp.find? (fun e => e.iface == iface.val && e.ip == ip && e.mac.isNone) = some e →
      (e.at_ + 3000000000 ≤ h.time.now → ∃ t, exec (.arpRetry iface ip now) s = .next t ∧ t.lanes = s.lanes ∧
        t.hub.net.arp = s.hub.net.arp.filter (fun x => x != e)) ∧
      (h.time.now < e.at_ + 3000000000 → e.tries < 3 → e.at_ + e.tries * 1000000000 ≤ h.time.now →
        ∃ t, exec (.arpRetry iface ip now) s = .next t ∧ t.lanes = s.lanes ∧
          t.hub.net.arp = s.hub.net.arp.map (fun x => if x = e then { x with tries := x.tries + 1 } else x))) ∧
    (∀ (iface : Fin 2) (ip : Nat),
      let old := fun (e : ArpEntry) => e.iface == iface.val && e.ip == ip && e.mac.isSome && decide (e.at_ + 300000000000 ≤ h.time.now)
      exec (.arpCacheAging iface ip now) s = .next { s with hub := { h with net.arp := h.net.arp.filter (fun e => !old e) } }) ∧
    (∀ c, s.hub.net.ipPending = some c → h.atBoundary = true → c.sentence ≤ h.sentence →
      ∃ t, exec (.ipConfigApply now) s = .next t ∧ t.lanes = s.lanes ∧ t.hub.net.ipPending = none ∧
        t.hub.net.epoch = wrapAdd 32 s.hub.net.epoch 1 ∧ t.hub.net.etb = c.etb ∧ t.hub.net.opTrn = c.opTrn ∧
        t.hub.net.gratuitous = some (c.iface, h.time.now + 1000000000) ∧
        (c.iface = 0 → t.hub.net.ip = c.ip ∧ t.hub.net.mask = c.mask ∧ t.hub.net.gateway = c.gateway ∧ t.hub.net.e3Ip = s.hub.net.e3Ip) ∧
        (c.iface ≠ 0 → t.hub.net.ip = s.hub.net.ip ∧ t.hub.net.e3Ip = c.ip ∧ t.hub.net.e3Mask = c.mask)) ∧
    (∀ i tm, s.hub.net.gratuitous = some (i, tm) → tm ≤ h.time.now → ∃ t, exec (.gratuitousArpRepeat now) s = .next t ∧
      t.lanes = s.lanes ∧ t.hub.net.gratuitous = none ∧ t.hub.net.nextId = s.hub.net.nextId + 1)
/-! ### CAN and the Yebor bus -/

/-- The CAN controllers (R308, R313 to R316, R318, R319): integration and recovery, an attempt, its end and what the limit makes of it,
reception and its filters, the error counters, and aborts. -/
def Obligations.CanEvents : Prop :=
  ∀ (s : State) (c : Fin 4) (now : Nat), s.hub.inject.armed = [] →
    let x := s.hub.canCtl c.val
    let k := s.hub.canCfg c.val
    (x.on = true → x.integrating = true → x.busOff = false → ∃ t, exec (.canIntegrationEnd c now) s = .next t ∧ t.lanes = s.lanes ∧
      t.hub.canCtl c.val = { x with joined := true, integrating := false }) ∧
    (x.recovering = true → ∃ t, exec (.canRecoveryComplete c now) s = .next t ∧ t.lanes = s.lanes ∧
      (t.hub.canCtl c.val).tec = 0 ∧ (t.hub.canCtl c.val).rec_ = 0 ∧ (t.hub.canCtl c.val).busOff = false ∧
      (t.hub.canCtl c.val).joined = true ∧ t.hub.faultActive .busOff [c.val] = false) ∧
    (∀ i, x.on = true → x.joined = true → x.integrating = false → x.busOff = false → x.listen = false → x.attempt = none →
      s.hub.canChoice c.val = some i → ∃ t, exec (.canTransmitAttempt c now) s = .next t ∧ t.lanes = s.lanes ∧
        t.hub.canCtl c.val = { x with attempt := some i } ∧ ∀ f, t.hub.canCurrent c.val = some f →
          t.hub.outbox = s.hub.outbox ++ [.can c.val f.entry.id f.entry.flags f.entry.dlc f.entry.data]) ∧
    (∀ f tdc, s.hub.canCurrent c.val = some f → x.listen = false →
      (∀ stamp, x.tec ≤ 256 → ∃ t, exec (.canAttemptEnd c (.sent stamp) tdc now) s = .next t ∧ t.lanes = s.lanes ∧
        (t.hub.canCtl c.val).attempt = none ∧ (t.hub.canCtl c.val).tec = x.tec - 1 ∧
        (t.hub.canCtl c.val).sent = satAdd 32 x.sent 1 ∧ (t.hub.canCtl c.val).lastTxSof = stamp % 2 ^ 64 ∧
        (k.txMode = 0 → (t.hub.canCtl c.val).fifo = x.fifo.drop 1) ∧
        (∀ i : Fin 8, f.src = .slot i.val → (t.hub.canCtl c.val).slotStatus[i] = if f.abort then 3 else 2)) ∧
      (f.abort = false → 0 < k.retryLimit → ∃ t, exec (.canAttemptEnd c .lost tdc now) s = .next t ∧ t.lanes = s.lanes ∧
        (t.hub.canCtl c.val).attempt = none ∧ (t.hub.canCtl c.val).arbLosses = satAdd 16 x.arbLosses 1 ∧
        (k.txMode = 0 → (t.hub.canCtl c.val).fifo = f :: x.fifo.drop 1)) ∧
      (∀ e : CanErr,
        let tec := x.tec + 8 * (b2n (!e.exempt) + e.more)
        tec ≤ 255 → f.abort = false → ∃ t, exec (.canAttemptEnd c (.error e) tdc now) s = .next t ∧ t.lanes = s.lanes ∧
          (t.hub.canCtl c.val).attempt = none ∧ (t.hub.canCtl c.val).tec = tec ∧
          (k.txMode = 0 → f.tries + 1 ≤ k.retryLimit →
            (t.hub.canCtl c.val).fifo = { f with tries := f.tries + 1 } :: x.fifo.drop 1) ∧
          (k.txMode = 0 → k.retryLimit < f.tries + 1 → (t.hub.canCtl c.val).fifo = x.fifo.drop 1 ∧
            ∀ i : Fin 8, f.src = .slot i.val → (t.hub.canCtl c.val).slotStatus[i] = 5))) ∧
    (∀ id flags dlc data stamp, x.on = true → x.joined = true → x.busOff = false →
      let e : CanEntry := { id := id % 2 ^ 29, flags := flags % 32, dlc := dlc % 16, index := 0,
                            data := data.take (canLength (bit flags 1) (dlc % 16)) }
      let fs := s.hub.cfg.can.filters.filter (fun f => f.controller == c.val)
      ∃ t, exec (.canFrameReceived c id flags dlc data stamp now) s = .next t ∧ t.lanes = s.lanes ∧
        ((∃ f ∈ fs, f.hits e = true ∧ f.accept = true ∧ ∀ g ∈ fs, g.hits e = true → g = f) →
          (t.hub.canCtl c.val).received = satAdd 32 x.received 1 ∧ (t.hub.canCtl c.val).dropFilter = x.dropFilter) ∧
        ((∀ f ∈ fs, f.hits e = false) →
          (t.hub.canCtl c.val).received = x.received ∧ (t.hub.canCtl c.val).dropFilter = satAdd 16 x.dropFilter 1)) ∧
    (∀ e : CanErr, x.on = true → x.joined = true → x.busOff = false → x.listen = false →
      ∃ t, exec (.canReceiveError c e now) s = .next t ∧ t.lanes = s.lanes ∧ (t.hub.canCtl c.val).lastError = e.code false ∧
        (t.hub.canCtl c.val).rec_ = min 255 (x.rec_ + b2n (!e.exempt) + 8 * e.more)) ∧
    (s.hub.power.mode.isRunning = true →
      (x.busOff = true → x.on = true → ∃ t, exec (.recoverRequest c) s = .next t ∧ t.lanes = s.lanes ∧
        t.hub.canCtl c.val = { x with recovering := true }) ∧
      (k.txOwner = 2 → k.txMode ≠ 0 → ∀ (mask : Nat), ∃ t, exec (.abortBuf c mask) s = .next t ∧ t.lanes = s.lanes ∧
        ∀ i : Fin 3, (t.hub.canCtl c.val).bufs[i] = if bit mask i.val then
          (if x.attempt = some i.val then x.bufs[i].map (fun f => { f with abort := true }) else none) else x.bufs[i]) ∧
      (k.txOwner = 2 → k.txMode = 0 → ∃ t, exec (.abortFifo c) s = .next t ∧ t.lanes = s.lanes ∧
        (x.attempt = none → (t.hub.canCtl c.val).fifo = []) ∧
        (x.attempt.isSome = true → (t.hub.canCtl c.val).fifo = (x.fifo.take 1).map (fun f => { f with abort := true }))))

/-- The Yebor cycle (R331 to R336, R339, R343 to R345, R348): the cycle start and the guardian's comparison, the latch, the own frame, a
copy with its checks, the slot's buffer, minislots, the midpoint of the idle time, a coldstart, and the end of a claim. -/
def Obligations.YeborEvents : Prop :=
  ∀ (s : State) (now : Nat), s.hub.inject.armed = [] →
    let h := s.hub.at_ now
    let y := s.hub.yb
    let c := s.hub.ybc
    (∀ diff : Int, y.state = .normal → y.lossRun < c.syncLoss → y.disagreeRun < 8 → ∃ t, exec (.ybCycleStart diff now) s = .next t ∧
      t.lanes = s.lanes ∧ t.hub.yb.state = .normal ∧ t.hub.yb.counter = (y.counter + 1) % 64 ∧ t.hub.yb.sent = [] ∧
      t.hub.yb.driven = false ∧ t.hub.yb.drivenLast = y.driven ∧ t.hub.yb.agree = decide (diff.natAbs ≤ 2000) ∧
      t.hub.yb.disagreeRun = (if diff.natAbs ≤ 2000 then 0 else y.disagreeRun + 1) ∧
      t.hub.yb.blocks = (if diff.natAbs ≤ 2000 then y.blocks else satAdd 32 y.blocks 1)) ∧
    (∀ diff : Int, y.state = .coldstart → 7 ≤ y.inState → y.heard = true → ∃ t, exec (.ybCycleStart diff now) s = .next t ∧
      t.hub.yb.state = .normal) ∧
    (∀ slot x, s.hub.ybSlot slot = some x → y.state.timed = true → s.hub.slotSender x = some c.node →
      exec (.ybTransmitLatch slot) s =
        .next { s with hub := { s.hub with yb := { y with latches := insertKey slot (s.hub.ybReleased x) y.latches } } }) ∧
    (∀ slot x null data, s.hub.ybSlot slot = some x → s.hub.ybDrivers = true → s.hub.slotSender x = some c.node →
      let own := x.sync && x.owner == c.node
      (y.state = .coldstart → own = true) → y.latches.find? (fun l => l.1 == slot) = some (slot, null, data) →
      (∃ t, exec (.ybStaticSlotSend slot none now) s = .next t ∧ t.lanes = s.lanes ∧ t.hub.yb.driven = true ∧
        t.hub.outbox = s.hub.outbox ++ [.yebor (x.channels &&& c.channels)
          (ybFrame (8 * b2n own + 4 * b2n (own && c.coldstart) + 2 * b2n null) slot y.counter c.node data)]) ∧
      (∀ ch pos, y.state = .normal → ∃ t, exec (.ybStaticSlotSend slot (some (ch, pos)) now) s = .next t ∧
        t.hub.yb.mismatches = satAdd 16 y.mismatches 1 ∧ t.hub.yb.state = .normal) ∧
      (∀ ch pos, y.state = .coldstart → ∃ t, exec (.ybStaticSlotSend slot (some (ch, pos)) now) s = .next t ∧
        t.hub.yb.collisions = satAdd 8 y.collisions 1 ∧ t.hub.yb.state = .listen)) ∧
    (∀ (ch : Fin 2) (slot : Nat) (frame : Bytes) (coding inSlot : Bool) (dev : Int) (stamp : Nat), y.state.timed = true →
      y.state ≠ .coldstart → bit c.channels ch.val = true →
      let x := ybCopy frame dev (stamp % 2 ^ 64)
      ∃ t, exec (.ybFrameReceived ch slot frame coding inSlot dev stamp now) s = .next t ∧ t.lanes = s.lanes ∧ t.hub.yb.state = y.state ∧
        (coding = true ∧ h.ybExpected slot frame x = true ∧ inSlot = true ∧ dev.natAbs ≤ c.windowNs →
          t.hub.yb.copies = y.copies.set ch (some x) ∧ t.hub.yb.errors = y.errors) ∧
        (¬ (coding = true ∧ h.ybExpected slot frame x = true ∧ inSlot = true ∧ dev.natAbs ≤ c.windowNs) →
          t.hub.yb.copies = y.copies ∧ t.hub.yb.errors[ch] = satAdd 16 y.errors[ch] 1 ∧
          t.hub.yb.violations[ch] = if c.windowNs < dev.natAbs then satAdd 16 y.violations[ch] 1 else y.violations[ch])) ∧
    (∀ slot x activity, s.hub.ybSlot slot = some x → y.state.timed = true → x.rxBuffer < 128 →
      ∃ t, exec (.ybSlotEnd slot activity now) s = .next t ∧ t.lanes = s.lanes ∧ t.hub.yb.copies = Vector.replicate 2 none ∧
        vgetN t.hub.yb.buffers x.rxBuffer {} = YbRx.update (ofBits (y.copies.toList.map Option.isSome)) s.hub.ybTaken.2 s.hub.ybTaken.1
          (vgetN y.buffers x.rxBuffer {})) ∧
    (∀ k j mismatch, y.state.timed = true → ∃ t, exec (.ybMinislot k j mismatch now) s = .next t ∧ t.lanes = s.lanes ∧
      t.hub.yb.minislot = some k ∧
      (∀ e : YbEntry, y.state = .normal → y.minislot = none → s.hub.ybDrivers = true → s.hub.minislotOwner k = some c.node → k ∉ y.sent →
        (s.hub.ybFits j 4 = true → h.ybClaim k = none) → y.queue.find? (fun e => e.minislot == k) = some e →
        s.hub.ybFits j e.data.length = true → t.hub.yb.queue = y.queue.erase e ∧ t.hub.yb.sent = k :: y.sent ∧
          Sent.yebor (e.channels &&& c.channels) (ybFrame 0 (513 + k) y.counter c.node e.data) ∈ t.hub.outbox)) ∧
    (∀ tableOk, y.state.timed = true → y.minislot = none → ∃ t, exec (.ybNetworkIdleTime tableOk now) s = .next t ∧ t.lanes = s.lanes ∧
      t.hub.yb.dev = [] ∧ t.hub.yb.prevDev = y.dev ∧ t.hub.yb.tableOk = (y.tableOk && tableOk) ∧
      (c.minSync ≤ y.dev.length → t.hub.yb.lossRun = 0 ∧ t.hub.yb.syncUsed = min y.dev.length 15 ∧
        t.hub.yb.offset = clampInt (-(c.offsetLimit : Int)) c.offsetLimit (ftm (y.dev.map Prod.snd)) ∧
        (y.state = .normal → c.offsetLimit < (ftm (y.dev.map Prod.snd)).natAbs → t.hub.yb.state = .passive)) ∧
      (y.dev.length < c.minSync → t.hub.yb.lossRun = y.lossRun + 1 ∧ t.hub.yb.syncUsed = 0 ∧ t.hub.yb.offset = 0)) ∧
    (∀ x, s.hub.ybSyncSlot = some x → y.state = .listen → c.coldstart = true →
      y.timeoutAt + (2 * s.hub.ybCycle + 80 * c.node) * 1000 ≤ h.time.now → ∃ t, exec (.ybListenTimeout now) s = .next t ∧
        t.lanes = s.lanes ∧ t.hub.yb.state = .coldstart ∧ t.hub.yb.counter = 0 ∧ t.hub.yb.inState = 0) ∧
    (∀ slot, y.held.any (fun p => p.1 == slot) = true → c.claimRelease ≤ lookupD y.silent slot 0 →
      ∃ t, exec (.claimRelease slot) s = .next t ∧ t.lanes = s.lanes ∧ t.hub.yb.held = y.held.filter (fun p => p.1 != slot) ∧
        ∀ i : Fin 4, t.hub.yb.claims[i] = if y.claims[i] = slot then 0 else y.claims[i]) ∧
    (∀ channels slot ns, ∃ t, exec (.guardianBlock channels slot ns now) s = .next t ∧ t.lanes = s.lanes ∧
      t.hub.yb.blocks = satAdd 32 y.blocks 1)
/-! ### The rack link and the partner -/

/-- The rack link (R357, R359 to R361, R363 to R365, R368, R369, R371, R421): enumeration, the master packets and their windows, replies and
silent windows, tags, the prefetch buffer, held inputs and ENABLE_REQ. -/
def Obligations.RackEvents : Prop :=
  ∀ (s : State) (i now : Nat), s.hub.inject.armed = [] → i < 32 →
    let h := s.hub.at_ now
    let x := s.hub.station i
    let k := s.hub.rack
    let asks : Instr → Nat → Bytes → RackAsk → Prop := fun c type payload ask => ∃ t, exec c s = .next t ∧ t.lanes = s.lanes ∧
      t.hub.rack.window = some (i, ask) ∧ t.hub.rack.windowBad = false ∧
      t.hub.outbox = s.hub.outbox ++ [.rack (rackPacket false i 0 type payload)]
    (∀ answers, s.hub.rackDriving = true → k.enumerating = true → 1 ≤ i → i ≤ 30 → ∃ t, exec (.rackEnumeration answers now) s = .next t ∧
      t.lanes = s.lanes ∧ t.hub.rack.enumerating = false ∧
      (∀ d, answers.find? (fun a => a.1 == i && rackTypeOk 8 a.2.length a.2) = some (i, d) →
        (∀ c, s.hub.stationCfg i = some c → c.expected = 0 ∨ c.expected = be32 d 0) →
        (t.hub.station i).present = true ∧ (t.hub.station i).type = be32 d 0) ∧
      (answers.find? (fun a => a.1 == i && rackTypeOk 8 a.2.length a.2) = none → s.hub.stationCfg i = none →
        (t.hub.station i).present = false)) ∧
    (s.hub.rackDriving = true → k.window = none →
      (x.lost.isSome = true → x.identifyAt + s.hub.cfg.rack.link.rescanMs * 1000000 ≤ h.time.now →
        asks (.rackIdentifyRetry i now) 7 [] .identify) ∧
      (k.outstanding.any (fun n => match vgetN k.tags n none with | some t => t.req.station == i | none => false) = true →
        x.lastWindow + 10000 ≤ h.time.now → asks (.rackPoll i now) 9 [] .poll) ∧
      (∀ c, s.hub.stationCfg i = some c → c.host = true → x.present = true → h.hostMessage i = none →
        asks (.hostPoll i now) 9 [] .poll) ∧
      (∀ c m h', s.hub.stationCfg i = some c → c.host = true → x.present = true → h.hostMessage i = some (m, h') →
        asks (.hostPoll i now) m.1 m.2 .frame)) ∧
    (∀ c, s.hub.stationCfg i = some c → s.hub.cfg.rack.link.enabled = true → s.hub.time.running = true → c.period ≠ 0 →
      s.hub.time.tick % c.period = c.phase → (∀ d ∈ x.dues, d.2 ≠ s.hub.time.tick) → s.hub.roleCode ≠ 2 → x.present = true →
      k.window = none → asks (.rackExchange i now) 5 (beBytes 1 (b2n (s.hub.outputsValid (s.snap.power.mode.isRunning && s.snap.time.tick == s.hub.time.tick) i)) ++ zeros 3 ++
        (if s.hub.outputsValid (s.snap.power.mode.isRunning && s.snap.time.tick == s.hub.time.tick) i then k.tx.readN (0x3000 + 0x100 * i + 8) c.outLen else zeros c.outLen)) (.exchange s.hub.time.tick)) ∧
    (∀ packet, s.hub.cfg.rack.link.enabled = true → s.hub.time.running = true →
      ((rackReplyOk packet = false ∨ rackTagOk packet = false) → ∃ t, exec (.rackReplyReceived packet now) s = .next t ∧
        t.lanes = s.lanes ∧ t.hub.rack.crcErrors = satAdd 32 k.crcErrors 1 ∧ t.hub.rack.window = k.window) ∧
      (∀ c tick, rackReplyOk packet = true → rackTagOk packet = true → u8 packet 0 % 32 = i → s.hub.roleCode ≠ 2 →
        k.window = some (i, .exchange tick) → u8 packet 2 = 6 → s.hub.stationCfg i = some c →
        let body := slice packet 5 (be16 packet 3)
        u8 body 0 = 0 → body.length = 4 + c.inLen → ∃ t, exec (.rackReplyReceived packet now) s = .next t ∧ t.lanes = s.lanes ∧
          t.hub.rack.window = none ∧ (t.hub.station i).data = body.drop 4 ∧ (t.hub.station i).stale = false ∧
          (t.hub.station i).missed = 0 ∧ (t.hub.station i).lastExchange = 0)) ∧
    (∀ ask, k.window = some (i, ask) → ∃ t, exec (.rackWindowClosedEmpty now) s = .next t ∧ t.lanes = s.lanes ∧
      t.hub.rack.window = none ∧ (t.hub.station i).missed = min 255 (x.missed + 1) ∧
      (x.present = true → s.hub.cfg.rack.link.lostWindows ≤ min 255 (x.missed + 1) → (s.hub.stationCfg i).isSome = true →
        (t.hub.station i).present = false ∧ (t.hub.station i).lost = some 0 ∧ (t.hub.station i).stale = true ∧
        t.hub.faultActive .stationLost [i, 0] = true)) ∧
    (∀ c, s.hub.stationCfg i = some c → x.lost.isSome = true → x.substituted = false → x.lostAt + c.holdMs * 1000000 ≤ h.time.now →
      ∃ t, exec (.rackHoldExpiry i now) s = .next t ∧ t.lanes = s.lanes ∧ (t.hub.station i).substituted = true ∧
        (t.hub.station i).stale = true ∧ (t.hub.station i).length = c.inLen ∧
        (∀ d, s.hub.cfg.rack.substitutes.find? (fun p => p.1 == i) = some (i, d) → (t.hub.station i).data = fitBytes c.inLen d)) ∧
    (∀ q rest, k.waiting = q :: rest → q.station = i → s.hub.rackDriving = true → k.window = none →
      (x.present = false → ∃ t, exec (.rackRequestSend now) s = .next t ∧ t.lanes = s.lanes ∧ t.hub.rack.waiting = rest ∧
        t.hub.rack.window = none ∧ t.hub.rack.tags = k.tags) ∧
      (∀ n, x.present = true → h.fromPrefetch q = none → k.freeTag = some n → ∃ t y, exec (.rackRequestSend now) s = .next t ∧
        t.lanes = s.lanes ∧ t.hub.rack.waiting = rest ∧ t.hub.rack.window = some (i, .request n) ∧
        vgetN t.hub.rack.tags n none = some y ∧ y.req = q ∧ y.quarantine = none)) ∧
    (∀ (tag : Fin 64) (y : RackTag), k.tags[tag] = some y →
      (y.quarantine = none → y.sentEnd + s.hub.cfg.rack.link.tagTimeoutUs * 1000 ≤ h.time.now →
        ∃ t, exec (.tagTimeout tag now) s = .next t ∧ t.lanes = s.lanes ∧ t.hub.rack.timeouts = satAdd 32 k.timeouts 1 ∧
          t.hub.rack.tags[tag] = some { y with quarantine := some (y.sentEnd + 2 * s.hub.cfg.rack.link.tagTimeoutUs * 1000) }) ∧
      (∀ u, y.quarantine = some u → u ≤ h.time.now → ∃ t, exec (.tagQuarantineEnd tag now) s = .next t ∧ t.lanes = s.lanes ∧
        t.hub.rack.tags = k.tags.set tag none)) ∧
    (∀ p, x.prefetch = some p → p.at_ + 1000000 ≤ h.time.now → ∃ t, exec (.prefetchAgeDiscard i now) s = .next t ∧ t.lanes = s.lanes ∧
      (t.hub.station i).prefetch = none) ∧
    (∀ tm d, x.parts = some (tm, d) → tm + 100000000 ≤ h.time.now → ∃ t, exec (.rackCommandTimeout i now) s = .next t ∧
      t.lanes = s.lanes ∧ (t.hub.station i).parts = none) ∧
    (∀ mask, s.hub.power.mode.isRunning = true → ∃ t, exec (.enableReq mask) s = .next t ∧ t.lanes = s.lanes ∧
      (t.hub.station i).hold = (x.hold && !bit mask i))

/-- The partner link (R378, R379, R381 to R383, R385, R387): lanes and HELLO; planned roles; frames taken or counted as errors; the copy
sent, received, kept and applied; ACKs; and what is missed. -/
def Obligations.PartnerEvents : Prop :=
  ∀ (s : State) (lane : Fin 2) (now : Nat), s.hub.inject.armed = [] →
    let h := s.hub.at_ now
    let p := s.hub.partner
    (∀ up, ∃ t, exec (.partnerLaneState lane up now) s = .next t ∧ t.lanes = s.lanes ∧ t.hub.partner.up = p.up.set lane
      (up && s.hub.cfg.partner.enabled && bit s.hub.cfg.partner.lanes lane.val && !p.down[lane])) ∧
    (p.handshake = true → p.helloAt + 1000000 ≤ h.time.now → s.hub.linksUp ≠ 0 → ∃ t n, exec (.helloSend now) s = .next t ∧
      t.lanes = s.lanes ∧ t.hub.partner.helloAt = h.time.now ∧ t.hub.partner.seq = wrapAdd 32 p.seq 1 ∧
      t.hub.outbox = s.hub.outbox ++ [.partner n (partnerFrame 1 p.epoch p.seq (beBytes 8 s.hub.otp.serial ++ beBytes 1 3 ++
        beBytes 1 p.preference ++ beBytes 1 s.hub.power.mode.code ++ zeros 1))]) ∧
    (∀ n, p.roleNext = some n → n.tick ≤ s.hub.time.tick → ∃ t, exec .roleChange s = .next t ∧ t.lanes = s.lanes ∧
      t.hub.partner.role = n.role ∧ t.hub.partner.roleNext = none ∧
      t.hub.partner.epoch = (if n.promote then wrapAdd 32 p.epoch 1 else p.epoch) ∧
      (n.role = .standby → t.hub.partner.copyHeld = false ∧ t.hub.partner.kept = none)) ∧
    (∀ frame, p.up[lane] = true →
      (partnerFrameOk frame = false → ∃ t, exec (.partnerFrameReceived lane frame now) s = .next t ∧ t.lanes = s.lanes ∧
        t.hub.partner.linkErrors[lane] = satAdd 16 p.linkErrors[lane] 1 ∧ t.hub.partner.partnerEpoch = p.partnerEpoch) ∧
      (partnerFrameOk frame = true → u8 frame 0 ≤ 5 → ∃ t, exec (.partnerFrameReceived lane frame now) s = .next t ∧ t.lanes = s.lanes ∧
        t.hub.partner.partnerEpoch = be32 frame 4 ∧ t.hub.partner.linkErrors = p.linkErrors) ∧
      (partnerFrameOk frame = true → p.handshake = false → p.role = .standby →
        let b := partnerPayload frame
        (u8 frame 0 = 2 → bit (u8 b 12) 1 = false → bit (u8 b 12) 3 = false → ∃ t, exec (.copyHeaderReceived lane frame now) s = .next t ∧
          t.lanes = s.lanes ∧ t.hub.partner.headerAt = h.time.now ∧ t.hub.partner.missCopies = 0 ∧ t.hub.partner.counted = 0 ∧
          t.hub.partner.in_ = if bit (u8 b 12) 0 then some { cycle := be48 b 2, total := be32 b 8 } else none) ∧
        (∀ c d, u8 frame 0 = 4 → p.in_ = some c → be48 b 2 = c.cycle → assemble (c.data.length + 1) 0 c.total c.data = some d →
          crc32 d = be32 b 8 → ∃ t, exec (.copyEndReceived lane frame now) s = .next t ∧ t.lanes = s.lanes ∧ t.hub.partner.in_ = none ∧
            t.hub.partner.kept = some (c.cycle, d))) ∧
      (∀ sent, partnerFrameOk frame = true → p.handshake = false → p.role ≠ .standby → u8 frame 0 = 5 → p.awaited = some sent →
        be32 (partnerPayload frame) 0 = sent.1 → ∃ t, exec (.ackReceived lane frame now) s = .next t ∧ t.lanes = s.lanes ∧
          t.hub.partner.awaited = none ∧ t.hub.partner.missAcks = 0 ∧
          t.hub.partner.promotable = bit (u8 (partnerPayload frame) 12) 0)) ∧
    (s.hub.cfg.partner.enabled = true → p.role ≠ .standby → s.hub.p0 ≠ 0 → s.hub.power.tA < s.hub.time.tick →
      (s.hub.time.tick - s.hub.power.tA) % s.hub.p0 = 0 → s.hub.power.mode.isRunning = true →
      (p.switching = false → p.out = none → ∃ t, exec (.copyHeaderSend now) s = .next t ∧ t.lanes = s.lanes ∧
        t.hub.partner.awaited = some (p.seq, h.time.now) ∧ ∀ l, s.hub.sourceLane = some l → t.hub.partner.out = some
          { cycle := (s.hub.time.tick - s.hub.power.tA) / s.hub.p0 - 1, startAt := h.time.now, source := l, data := s.partnerImage l }) ∧
      (p.switching = true → ∃ t, exec (.copyHeaderSend now) s = .next t ∧ t.lanes = s.lanes ∧ t.hub.partner.role = .standby ∧
        t.hub.partner.switching = false ∧ t.hub.partner.epoch = wrapAdd 32 p.epoch 1)) ∧
    (∀ c, p.out = some c → s.hub.sourceLane = some c.source → ∃ t, exec (.copyDataSent now) s = .next t ∧ t.lanes = s.lanes ∧
      t.hub.partner.out = none ∧ t.hub.partner.lastSent = c.cycle % 2 ^ 48) ∧
    (∀ cycle data i, p.kept = some (cycle, data) →
      (s.hub.mainSchedule.bind s.hub.schedule).bind (fun sc => sc.images.find? (fun i => i.kind == 2)) = some i → p.role = .standby →
      s.hub.p0 ≠ 0 → s.hub.power.tA ≤ s.hub.time.tick → (s.hub.time.tick - s.hub.power.tA) % s.hub.p0 = 0 →
      s.hub.power.mode.isRunning = true → data.length = i.total → ∃ t, exec .copyApply s = .next t ∧ t.hub.partner.kept = none ∧
        t.hub.partner.copyHeld = true ∧ t.hub.partner.lastApplied = cycle ∧ ∀ l : LaneId, (t.lane l).mem =
          if s.hub.laneState l = .active ∨ s.hub.laneState l = .spareWarm then putRegions i.regions data (s.lane l).mem
          else (s.lane l).mem) ∧
    (p.role = .standby → s.hub.p0 ≠ 0 → p.headerAt + (p.counted + 1) * s.hub.p0Ns + s.hub.nCycles ≤ h.time.now →
      ∃ t, exec (.copyMiss now) s = .next t ∧ t.lanes = s.lanes ∧ t.hub.partner.counted = p.counted + 1 ∧
        t.hub.partner.missCopies = min 255 (p.missCopies + 1) ∧
        (p.missLimit ≤ min 255 (p.missCopies + 1) → s.hub.canPromote = true → t.hub.partner.roleNext =
          some { role := .alone, tick := s.hub.time.tick + 1, promote := true, counts := 1 })) ∧
    (∀ seq at_, p.awaited = some (seq, at_) → p.role ≠ .standby → at_ + s.hub.nCycles ≤ h.time.now → ∃ t, exec (.ackMiss now) s = .next t ∧
      t.lanes = s.lanes ∧ t.hub.partner.awaited = none ∧ t.hub.partner.missAcks = min 255 (p.missAcks + 1) ∧
      t.hub.partner.switching = false)
/-! ### Memories, locks, mailboxes, sessions, trace and the release -/

/-- Memory supervision, substitution and locks (R395, R402, R403, R405, R408 to R412). -/
def Obligations.MemoryAndLocks : Prop :=
  ∀ (s : State),
    let m := s.hub.mem
    (∀ (unit : Fin 5) (stripe : Nat), ∃ t, exec (.dramWriteBack unit stripe) s = .next t ∧ t.lanes = s.lanes ∧
      t.hub.mem.writeBack = m.writeBack.filter (fun p => !(p.1 == unit.val && p.2 / 128 == stripe / 128)) ∧ t.hub.mem.wear = m.wear) ∧
    (∀ (unit : Fin 5) (stripe : Nat) errs, s.hub.scrubs unit.val = true → ∃ t, exec (.patrolScrub unit stripe errs) s = .next t ∧
      t.lanes = s.lanes ∧ t.hub.mem.dramScrub[unit] = scrubStep (scrubStripes unit.val) m.dramScrub[unit] ∧
      ∀ u : Fin 5, u ≠ unit → t.hub.mem.dramScrub[u] = m.dramScrub[u]) ∧
    (∀ (unit : Fin 5) found, s.hub.scrubs unit.val = true → ∃ t, exec (.sramScrub unit found) s = .next t ∧ t.lanes = s.lanes ∧
      t.hub.mem.sramScrub[unit] = scrubStep (if unit.val < 4 then 256 else 64) m.sramScrub[unit] ∧
      ∀ w ∈ t.hub.mem.sramRewrite, w.1 ≠ unit.val) ∧
    (∃ t, exec (.nandProgram false 0) s = .next t ∧ t.lanes = s.lanes ∧ t.hub.mem.nandBlocks = m.nandBlocks ∧
      ∀ d : Fin 2, t.hub.mem.nandSeq[d] = if bit m.nandRetired d.val then m.nandSeq[d] else maxNat m.nandSeq.toList + 1) ∧
    (∀ e, s.hub.atBoundary = true → m.wear.filter (fun e => e.state == .pending || e.state == .noSpare) = [e] → e.cls = 1 →
      e.state = .pending → e.copied = true → s.hub.sparesLeft 1 e.unit e.index ≠ 0 → ∃ t, exec .substitutionBoundary s = .next t ∧
        t.lanes = s.lanes ∧ t.hub.mem.remapped = ((1, e.unit, e.index), s.hub.spareNumber e) :: m.remapped ∧
        vgetN t.hub.mem.sparePages e.unit 0 = vgetN m.sparePages e.unit 0 - 1 ∧
        t.hub.faultActive .wearThreshold [1, e.unit, e.index] = false) ∧
    (∀ cls unit index, cls = 1 ∨ cls = 2 → s.hub.time.running = true → ∃ t, exec (.spareCopyComplete cls unit index) s = .next t ∧
      t.lanes = s.lanes ∧ t.hub.mem.wear = m.wear.map (fun e =>
        if e.is cls unit index && e.state == .pending then { e with copied := true } else e)) ∧
    (∀ (n : Fin 32) (master : Fin 4) (station lanes : Nat),
      let k := s.hub.locks.lock[n]
      let goes : Prop := master.val = 1 → 2 ≤ (s.hub.active.filter (fun l => bit lanes l.val)).length
      (k.held = false → goes → ∃ t, exec (.lockRead n master station lanes) s = .next t ∧ t.lanes = s.lanes ∧
        t.hub.locks.lock = s.hub.locks.lock.set n
          { held := true, owner := master.val, station := if master.val = 2 then station else 0 }) ∧
      (k.held = true → goes → ∃ t, exec (.lockRead n master station lanes) s = .next t ∧ t.lanes = s.lanes ∧
        t.hub.locks.lock = s.hub.locks.lock ∧ t.hub.locks.contention =
          if k.owner = master.val then s.hub.locks.contention else satAdd 32 s.hub.locks.contention 1) ∧
      (¬ goes → ∃ t, exec (.lockRead n master station lanes) s = .next t ∧ t.hub.locks.lock = s.hub.locks.lock) ∧
      (∃ t, exec (.lockRelease n master) s = .next t ∧ t.lanes = s.lanes ∧
        (k.held = true ∧ k.owner = master.val → t.hub.locks.lock = s.hub.locks.lock.set n {} ∧
          t.hub.locks.releaseIgnored = s.hub.locks.releaseIgnored) ∧
        (¬ (k.held = true ∧ k.owner = master.val) → t.hub.locks.lock = s.hub.locks.lock ∧
          t.hub.locks.releaseIgnored = satAdd 32 s.hub.locks.releaseIgnored 1)))

/-- Mailboxes (R440 to R442, R445 to R448): the application's writes, takes and consumption in order, words from the partner, resending,
the wake, and the no-progress fault. -/
def Obligations.MailboxEvents : Prop :=
  ∀ (s : State) (n : Fin 16) (now : Nat), s.hub.inject.armed = [] →
    let h := s.hub.at_ now
    let m := s.hub.box n.val
    (∀ (lane : LaneId) (words : List Word) (eng : EngineId), s.hub.time.running = true → (s.hub.laneState lane).powered = true →
      m.sideA = 1 →
      let room := 8 - (s.snap.box n.val).a2b.length - m.pushed[lane].length
      ∃ t, exec (.mbPush lane n words eng) s = .next t ∧
        (t.hub.box n.val).pushed[lane] = m.pushed[lane] ++ words.take room ∧ (t.hub.box n.val).a2b = m.a2b ∧
        (words.length ≤ room → t.lanes = s.lanes) ∧
        (room < words.length → (t.engine ⟨lane, eng⟩).mbFull = true ∧
          (t.hub.box n.val).rejectedA = satAdd 16 m.rejectedA (words.length - room))) ∧
    (∀ v,
      let k := (v % 2 ^ 32 + 2 ^ 32 - m.b2aConsumed) % 2 ^ 32
      n ≠ 0 → m.sideA = 1 → 0 < k → k ≤ m.b2a.length → ∃ t, exec (.b2aConsumed n v) s = .next t ∧ t.lanes = s.lanes ∧
        (t.hub.box n.val).b2a = m.b2a.drop k ∧ (t.hub.box n.val).b2aConsumed = wrapAdd 32 m.b2aConsumed k ∧
        (t.hub.box n.val).noProgress = false) ∧
    (∀ count, s.hub.power.mode.parser = true → s.hub.silent = false → m.sideB = 2 → n ≠ 0 → ∃ t, exec (.mailboxTake n count now) s = .next t ∧
      t.lanes = s.lanes ∧ (t.hub.box n.val).a2b = m.a2b.drop (min count 8) ∧ (t.hub.box n.val).b2a = m.b2a) ∧
    (∀ payload : Bytes,
      let words := (List.range (u8 payload 2)).map (fun i => BitVec.ofNat 32 (be32 payload (4 + 4 * i)))
      s.hub.power.mode.parser = true → u8 payload 0 = n.val → u8 payload 1 = 1 → m.sideB = 4 → 1 ≤ words.length → words.length ≤ 8 →
      4 + 4 * words.length ≤ payload.length → u8 payload 3 = m.nextIn % 256 → m.b2a.length + words.length ≤ 8 →
      ∃ t, exec (.mailboxFrameReceived none payload now) s = .next t ∧ t.lanes = s.lanes ∧ (t.hub.box n.val).b2a = m.b2a ++ words ∧
        (t.hub.box n.val).nextIn = (m.nextIn + words.length) % 256) ∧
    (m.sideB = 4 → m.sent ≠ 0 → m.sentAt + 1000000 ≤ h.time.now → s.hub.linksUp ≠ 0 → m.a2b ≠ [] →
      ∃ t, exec (.mailboxResend n now) s = .next t ∧ t.lanes = s.lanes ∧ (t.hub.box n.val).sent = m.a2b.length ∧
        (t.hub.box n.val).sentAt = h.time.now ∧ (t.hub.box n.val).a2b = m.a2b) ∧
    (∀ frame : Bytes,
      let b := partnerPayload frame
      s.hub.power.mode = .dormant → s.hub.cfg.partner.enabled = true → partnerFrameOk frame = true → u8 frame 0 = 7 → u8 b 1 = 1 →
      1 ≤ u8 b 2 → u8 b 2 ≤ 8 → 4 + 4 * u8 b 2 ≤ b.length → u8 b 0 = n.val → m.sideB = 4 → ∃ t, exec (.mailboxWake frame now) s = .next t ∧
        t.lanes = s.lanes ∧ t.hub.boot.wake = true ∧ (s.hub.time.running = false → t.hub.outbox = s.hub.outbox)) ∧
    (m.noProgressLimit ≠ 0 → m.noProgress = false → (m.a2b ≠ [] ∨ m.b2a ≠ []) → m.noProgressLimit ≤ h.mbTimer n.val →
      ∃ t, exec (.mbNoProgress n now) s = .next t ∧ t.lanes = s.lanes ∧ (t.hub.box n.val).noProgress = true ∧
        t.hub.faultActive .mbNoProgress [n.val] = true)

/-- Command packets as a whole (R424, R425, R427, R428): an authentic new packet of a receiving transport is carried out by its opcode's
rules, one that is not is refused; no SEQUENCE of a session is accepted twice; idle sessions and image transfers end. -/
def Obligations.CommandReception : Prop :=
  (∀ (s : State) (transport source port now : Nat) (b : Bytes),
    let s1 := s.modHub (Hub.at_ now)
    let r := packetReq transport source port (fitBytes 24 b)
    let n := be16 b 6
    s1.hub.receives transport source = true → s1.hub.silent = false → 24 ≤ b.length → b.take 2 = [0x59#8, 0x42#8] → u8 b 2 = 1 →
    b.length = (if transport = 4 then 24 + n else 40 + n) → b.length ≤ 1472 → r.forward = false → bit (u8 b 3) 0 = false →
    bit (u8 b 3) 1 = false →
    (s1.hub.authentic r (b.take (24 + n)) (b.drop (24 + n)) = false →
      exec (.commandPacketReceived transport source port b now) s = .next (s1.modHub (Hub.refuse r (be16 b 4) .authFailed))) ∧
    (s1.hub.authentic r (b.take (24 + n)) (b.drop (24 + n)) = true → (s1.hub.admission r (b.drop (24 + n))).2 = .accept →
      ∃ s2 : State, s2.lanes = s.lanes ∧ s2.hub.cmd.tags = s.hub.cmd.tags ++ [(r, b.drop (24 + n))] ∧
        exec (.commandPacketReceived transport source port b now) s = .next (match Opcode.ofCode (be16 b 4) with
          | some o => o.spec.run r (slice b 24 n) s2
          | none => s2.modHub (Hub.replyCode r (be16 b 4) .unknownOpcode [])))) ∧
  (∀ (h : Hub) (r : Req) (tag tag' : Bytes), (h.admission r tag).2 = .accept → ((h.admission r tag).1.admission r tag').2 ≠ .accept) ∧
  (∀ (s : State) (now : Nat),
    let h := s.hub.at_ now
    (∃ t, exec (.sessionExpiry now) s = .next t ∧ t.lanes = s.lanes ∧
      ∀ x, x ∈ t.hub.cmd.sessions ↔ x ∈ s.hub.cmd.sessions ∧ (x.transport = 4 ∨ h.time.now < x.lastUse + 300000000000)) ∧
    (∀ x, s.hub.boot.images.transfer = some x → x.at_ + 60000000000 ≤ h.time.now →
      ∃ t, exec (.imageTransferAbandon now) s = .next t ∧ t.lanes = s.lanes ∧ t.hub.boot.images.transfer = none))

/-- R428: which SEQUENCE numbers step 6 accepts in a live session with highest accepted value H, what a first request sets, which 64
values are tracked, and the rule of MB0. A repeat of the last request answered or of one in execution (R429, R435) is no new request. -/
def Obligations.SequenceNumbers : Prop :=
  ∀ (h : Hub) (r : Req) (tag : Bytes),
    let found := fun (l : List Session) => (l.filter (Session.live h.time.now)).find? (fun x => x.matches r)
    let a := h.admission r tag
    (r.transport ≠ 4 → a.2 = .accept → r.session ≠ 0) ∧
    (r.transport ≠ 4 → r.session ≠ 0 → found h.cmd.sessions = none →
      (a.2 = .accept ↔ (vgetN h.cmd.keys r.slot {}).highestSession < r.session) ∧
      (a.2 = .accept → ∃ y, found a.1.cmd.sessions = some y ∧ y.high = r.seq ∧ y.seen = [r.seq])) ∧
    (∀ x, r.transport ≠ 4 → r.session ≠ 0 → found h.cmd.sessions = some x →
      let fits := x.high < r.seq ∨ (x.high ≤ r.seq + 63 ∧ r.seq ≤ x.high ∧ r.seq ∉ x.seen)
      (a.2 = .accept → fits) ∧
      (fits → (∀ l, x.last = some l → l.1 = r.seq → l.2.1 ≠ tag) → (r, tag) ∉ h.cmd.tags → a.2 = .accept) ∧
      (a.2 = .accept → ∃ y, found a.1.cmd.sessions = some y ∧ y.high = max x.high r.seq ∧
        ∀ v, y.high ≤ v + 63 → (v ∈ y.seen ↔ v = r.seq ∨ v ∈ x.seen)) ∧
      (a.2 ≠ .accept → ∃ y, found a.1.cmd.sessions = some y ∧ y.high = x.high ∧ y.seen = x.seen)) ∧
    (r.transport = 4 → (a.2 = .accept ↔ ∀ q, h.cmd.mb0Seq = some q → q < r.seq) ∧
      (a.2 = .accept → a.1.cmd.mb0Seq = some r.seq) ∧ (a.2 ≠ .accept → a.1 = h))

/-- The trace, injections, register writes and the release (R21, R22, R130, R245, R246, R501, R505, R506, R510). -/
def Obligations.ReleaseAndDiagnostics : Prop :=
  ∀ (s : State) (now : Nat),
    let h := s.hub.at_ now
    (∀ sent, s.hub.trace.stream ≠ [] → s.hub.trace.streamStart + 1000000 ≤ h.time.now → s.hub.trace.streamUsed - sent < 256 →
      ∃ t, exec (.traceStreamSend sent now) s = .next t ∧ t.lanes = s.lanes ∧ t.hub.trace.stream = [] ∧
        t.hub.trace.streamSeq = wrapAdd 32 s.hub.trace.streamSeq 1 ∧ t.hub.trace.streamUsed = s.hub.trace.streamUsed - sent + 1 ∧
        t.hub.trace.ring = s.hub.trace.ring) ∧
    (s.hub.trace.sentenceDrops ≠ 0 → s.hub.trace.overflow = false → s.hub.trace.reportDue = false →
      ∃ t, exec .traceOverflow s = .next t ∧ t.lanes = s.lanes ∧ t.hub.trace.overflow = true ∧
        t.hub.faultActive .traceOverflow [] = true) ∧
    (∀ id j, s.hub.inject.list.find? (fun j => j.id == id) = some j → h.applicationDue j = true →
      (s.modHub (Hub.at_ now)).evaluates j = true →
      exec (.injectionApplication id now) s = .next ((s.modHub (fun h => (h.at_ now).countApplication j)).applyInjection j) ∧
      (j.detector = .forceActive → ∃ t, exec (.injectionApplication id now) s = .next t ∧ t.lanes = s.lanes ∧
        t.hub.inject.lastId = id ∧ t.hub.faultActive .forceActive [] = true)) ∧
    (∀ w, s.hub.time.running = true →
      (∃ t, exec (.registerWrite false 5 0x0004 w) s = .next t ∧ t.hub.safety.doCmd = w % 2 ^ 16 ∧ t.lanes = s.lanes) ∧
      exec (.registerWrite true 5 0x0004 w) s = .next s ∧
      (∀ off, off < 0x10000 → off % 4 = 0 → exec (.registerWrite true 7 off w) s =
        .next { s with hub := { s.hub with vote.parserWrites := s.hub.vote.parserWrites ++ [(7, off, w % 2 ^ 32)] } })) ∧
    (s.hub.time.running = true →
      (∃ t, exec .outputVoteRelease s = .next t ∧ t.hub.vote.framesSA = Vector.replicate 4 none ∧
        t.hub.vote.framesSB = Vector.replicate 4 none ∧ t.hub.vote.decided = none) ∧
      (s.hub.vote.parserWrites = [] → s.hub.cmd.exec = [] →
        (s.hub.power.safeFrames = true → ∃ t, exec .outputVoteRelease s = .next t ∧ t.hub.stage.sent = some s.hub.stageFrame ∧
          t.hub.power.safeFrames = false) ∧
        (s.hub.power.safeFrames = false → s.hub.usedFrames s.hub.vote.framesSA = [] → s.hub.usedFrames s.hub.vote.framesSB = [] →
          s.hub.power.mode ≠ .safe → ∃ t, exec .outputVoteRelease s = .next t ∧ t.hub.stage.sent = none ∧
            t.hub.safety.halvesAgree = false)))
/-! ### The block as a whole -/

/-- Fault records (R24, R485, R496, R497, R511): a new occurrence is a record at the head of the log with the next sequence number; one of a
fault still active counts as a repeat; clearing ends ACTIVE for that name and resource alone; a SAFE fault takes a running mode to SAFE, and
a report-only occurrence never changes the mode. -/
def Obligations.FaultRecords : Prop :=
  ∀ (h : Hub) (n : FaultName) (key : List Nat) (lanes : Nat) (d : Detail) (o : Origin),
    let t := h.raise n key lanes d o
    (h.faults.log.any (fun r => r.same n key o && r.active) = false → (n.severity ≠ .safe ∨ o = .reportOnly) →
      ∃ r, t.faults.log.head? = some r ∧ r.seq = wrapAdd 32 h.faults.seq 1 ∧ t.faults.seq = wrapAdd 32 h.faults.seq 1 ∧ r.name = n ∧
        r.key = key ∧ r.origin = o ∧ r.active = n.hasActive ∧ r.tick = h.time.tick ∧ r.tb3 = h.time.tb3 ∧ r.repeats = 0 ∧
        t.faults.faultNew = true) ∧
    (h.faults.log.any (fun r => r.same n key o && r.active) = true → (n.severity ≠ .safe ∨ o = .reportOnly) →
      t.faults.log.length = h.faults.log.length ∧ t.faults.seq = h.faults.seq ∧
      ∀ (i : Nat) (r : FaultRec), h.faults.log[i]? = some r → ∃ x : FaultRec, t.faults.log[i]? = some x ∧ x.seq = r.seq ∧ x.active = r.active ∧
        (x.repeats = r.repeats ∨ x.repeats = satAdd 16 r.repeats 1)) ∧
    (n.severity = .safe → o ≠ .reportOnly → h.power.mode.isRunning = true →
      t.power.mode = .safe ∧ t.power.safeCause = n.code ∧ t.power.safeFrames = true) ∧
    (o = .reportOnly → t.power.mode = h.power.mode) ∧
    (∀ f, (h.clearFault n key f).faultActive n key = false ∧
      ∀ m k, ¬ (m = n ∧ k = key) → (h.clearFault n key f).faultActive m k = h.faultActive m k)

/-- Every step keeps the canonical form of every lane's memory, and g0 and p0 of every engine as R62 says. -/
def Obligations.StepKeepsInvariant : Prop :=
  ∀ s t : State, s.canonical → s.hardwired → step s = .next t → t.canonical ∧ t.hardwired

/-- Every command is answered with a next state, whatever the state, and touches nothing of the queue; a step takes one command off it. -/
def Obligations.EveryCommandAnswers : Prop :=
  (∀ (i : Instr) (s : State), ∃ t, exec i s = .next t ∧ t.pending = s.pending) ∧
  (∀ s : State, ∃ t, step s = .next t ∧ t.pending = s.pending.tail)
end

