-- ==== Sys2Proof/Laws/Bytes.lean ====
section
/-! SUPPORT. Lengths and values of byte strings in both byte orders. -/
namespace Sys2Proof.Machine

@[simp] theorem beBytes_length (n v : Nat) : (beBytes n v).length = n := by
  induction n with
  | zero => rfl
  | succ n ih => simp [beBytes, ih]

@[simp] theorem leBytes_length (n v : Nat) : (leBytes n v).length = n := by
  induction n generalizing v with
  | zero => rfl
  | succ n ih => simp [leBytes, ih]

@[simp] theorem fitBytes_length (n : Nat) (b : Bytes) : (fitBytes n b).length = n := by
  simp [fitBytes, zeros]

theorem foldl_beVal (a : Nat) (b : Bytes) :
    b.foldl (fun a x => a * 256 + x.toNat) a = a * 256 ^ b.length + beVal b := by
  induction b generalizing a with
  | nil => simp [beVal]
  | cons x b ih =>
    have h0 := ih (a * 256 + x.toNat)
    have h1 := ih (0 * 256 + x.toNat)
    simp only [beVal, List.foldl_cons, List.length_cons] at h0 h1 ⊢
    rw [h0, h1, Nat.pow_succ]
    simp only [Nat.add_mul, Nat.zero_mul, Nat.zero_add]
    rw [Nat.mul_comm (256 ^ b.length) 256, Nat.mul_assoc]
    omega

/-- A number reads back from its bytes, most significant first. -/
theorem beVal_beBytes (n v : Nat) : beVal (beBytes n v) = v % 256 ^ n := by
  induction n generalizing v with
  | zero => simp [beBytes, beVal, Nat.mod_one]
  | succ n ih =>
    simp only [beBytes]
    have h := foldl_beVal (BitVec.ofNat 8 (v / 256 ^ n)).toNat (beBytes n v)
    rw [beVal, List.foldl_cons]
    simp only [Nat.zero_mul, Nat.zero_add]
    rw [h, ih, beBytes_length, BitVec.toNat_ofNat, show 256 ^ (n + 1) = 256 ^ n * 256 from Nat.pow_succ .., Nat.mod_mul,
      Nat.mul_comm (256 ^ n), Nat.add_comm]

/-- A number reads back from its bytes, least significant first. -/
theorem leVal_leBytes (n v : Nat) : leVal (leBytes n v) = v % 256 ^ n := by
  induction n generalizing v with
  | zero => simp [leBytes, leVal, Nat.mod_one]
  | succ n ih =>
    simp only [leBytes, leVal, ih, BitVec.toNat_ofNat]
    rw [show 256 ^ (n + 1) = 256 * 256 ^ n from (Nat.pow_succ ..).trans (Nat.mul_comm ..), Nat.mod_mul]

theorem leVal_lt (b : Bytes) : leVal b < 256 ^ b.length := by
  induction b with
  | nil => simp [leVal]
  | cons x b ih =>
    have hx : x.toNat < 256 := x.isLt
    simp only [leVal, List.length_cons, Nat.pow_succ]
    omega

end Sys2Proof.Machine
end

