-- ==== Sys2Proof/Laws/State.lean ====
section
/-! SUPPORT. What each update of the state leaves and changes, field by field. -/
namespace Sys2Proof.Machine

variable (s : State) (f : Hub → Hub) (l : LaneId) (g : Lane → Lane) (k : Site) (u : Engine → Engine)

/-! ### The hub -/

@[simp] theorem State.modHub_hub : (s.modHub f).hub = f s.hub := rfl
@[simp] theorem State.modHub_snap : (s.modHub f).snap = s.snap := rfl
@[simp] theorem State.modHub_lanes : (s.modHub f).lanes = s.lanes := rfl
@[simp] theorem State.modHub_pending : (s.modHub f).pending = s.pending := rfl
@[simp] theorem State.modHub_lane : (s.modHub f).lane l = s.lane l := rfl
@[simp] theorem State.modHub_engine : (s.modHub f).engine k = s.engine k := rfl
theorem State.modHub_modHub (f' : Hub → Hub) : (s.modHub f).modHub f' = s.modHub (fun h => f' (f h)) := rfl

/-! ### A lane -/

@[simp] theorem State.modLane_hub : (s.modLane l g).hub = s.hub := rfl
@[simp] theorem State.modLane_snap : (s.modLane l g).snap = s.snap := rfl
@[simp] theorem State.modLane_pending : (s.modLane l g).pending = s.pending := rfl

@[simp] theorem State.modLane_lane : (s.modLane l g).lane l = g (s.lane l) := by
  simp [State.modLane, State.lane, vmod]

theorem State.modLane_lane_ne {m : LaneId} (h : m ≠ l) : (s.modLane l g).lane m = s.lane m := by
  have h' : l.val ≠ m.val := fun e => h (Fin.ext e.symm)
  simp [State.modLane, State.lane, vmod, Vector.getElem_set_ne, h']

theorem State.modLane_lane_eq (m : LaneId) : (s.modLane l g).lane m = if m = l then g (s.lane l) else s.lane m := by
  by_cases h : m = l
  · subst h; simp
  · simp [h, State.modLane_lane_ne s l g h]

/-! ### An engine -/

@[simp] theorem Lane.modEng_mem (e : EngineId) (x : Lane) : (Lane.modEng e u x).mem = x.mem := rfl
@[simp] theorem Lane.modEng_agreed (e : EngineId) (x : Lane) : (Lane.modEng e u x).agreed = x.agreed := rfl
@[simp] theorem Lane.modEng_schedule (e : EngineId) (x : Lane) : (Lane.modEng e u x).schedule = x.schedule := rfl
@[simp] theorem Lane.modEng_tick (e : EngineId) (x : Lane) : (Lane.modEng e u x).tick = x.tick := rfl

@[simp] theorem State.modEng_hub : (s.modEng k u).hub = s.hub := rfl
@[simp] theorem State.modEng_snap : (s.modEng k u).snap = s.snap := rfl
@[simp] theorem State.modEng_pending : (s.modEng k u).pending = s.pending := rfl

@[simp] theorem State.modEng_engine : (s.modEng k u).engine k = u (s.engine k) := by
  simp [State.modEng, State.engine, Lane.modEng, vmod]

theorem State.modEng_engine_ne {j : Site} (h : j ≠ k) : (s.modEng k u).engine j = s.engine j := by
  by_cases hl : j.lane = k.lane
  · have he : j.eng ≠ k.eng := fun e => h (by cases j; cases k; simp_all)
    have h' : k.eng.val ≠ j.eng.val := fun e => he (Fin.ext e.symm)
    simp [State.modEng, State.engine, hl, Lane.modEng, vmod, Vector.getElem_set_ne, h']
  · simp [State.modEng, State.engine, State.modLane_lane_ne _ _ _ hl]

/-- No update of an engine touches a lane's memory. -/
@[simp] theorem State.modEng_mem : ((s.modEng k u).lane l).mem = (s.lane l).mem := by
  simp only [State.modEng, State.modLane_lane_eq]
  split <;> simp_all

/-! ### The bundle in the making -/

@[simp] theorem State.bundled_hub (b : Bundle → Bundle) : (s.bundled k b).hub = s.hub := rfl
@[simp] theorem State.bundled_pending (b : Bundle → Bundle) : (s.bundled k b).pending = s.pending := rfl
@[simp] theorem State.bundled_mem (b : Bundle → Bundle) : ((s.bundled k b).lane l).mem = (s.lane l).mem := State.modEng_mem ..

@[simp] theorem State.bundled_engine (b : Bundle → Bundle) :
    (s.bundled k b).engine k = { s.engine k with bundle := b (s.engine k).bundle } := State.modEng_engine ..

/-! ### Registers (R62) -/

variable (e : Engine)

@[simp] theorem Engine.setReg_zero (v : Word) : e.setReg 0#6 v = e := rfl
@[simp] theorem Engine.setPred_zero (b : Bool) : e.setPred 0#3 b = e := rfl
@[simp] theorem Engine.reg_zero : e.reg 0#6 = 0#32 := rfl
@[simp] theorem Engine.pred_zero : e.pred 0#3 = true := rfl

theorem Engine.setReg_reg (n m : BitVec 6) (v : Word) (h : n ≠ 0#6) :
    (e.setReg n v).reg m = if m = n then v else e.reg m := by
  have key : (e.regs.set n.toNat v n.isLt)[m.toNat]'m.isLt = if n = m then v else e.regs[m.toNat]'m.isLt := by
    rw [Vector.getElem_set]
    simp [BitVec.toNat_inj]
  by_cases hm : m = 0#6
  · have hne : m ≠ n := fun he => h (he ▸ hm)
    simp [hm, Engine.reg, Ne.symm h]
  · simp only [Engine.setReg, h, if_false, Engine.reg, hm, key]
    simp [eq_comm]

@[simp] theorem Engine.record_reg (d : Bool) (cls : Nat) (v : Word) (n : BitVec 6) : (e.record d cls v).reg n = e.reg n := by
  cases d <;> rfl

@[simp] theorem Engine.record_regs (d : Bool) (cls : Nat) (v : Word) : (e.record d cls v).regs = e.regs := by cases d <;> rfl
@[simp] theorem Engine.record_preds (d : Bool) (cls : Nat) (v : Word) : (e.record d cls v).preds = e.preds := by cases d <;> rfl
@[simp] theorem Engine.record_flags (d : Bool) (cls : Nat) (v : Word) : (e.record d cls v).flags = e.flags := by cases d <;> rfl
@[simp] theorem Engine.record_flight (d : Bool) (cls : Nat) (v : Word) : (e.record d cls v).flight = e.flight := by cases d <;> rfl
@[simp] theorem Engine.record_run (d : Bool) (cls : Nat) (v : Word) : (e.record d cls v).run = e.run := by cases d <;> rfl
@[simp] theorem Engine.record_bundle (d : Bool) (cls : Nat) (v : Word) : (e.record d cls v).bundle = e.bundle := by cases d <;> rfl

/-- A write of a register, with its record: that register alone reads differently, and none when it is g0. -/
theorem Engine.writeReg_reg (n m : BitVec 6) (v : Word) (d : Bool) :
    (e.writeReg n v d).reg m = if n ≠ 0#6 ∧ m = n then v else e.reg m := by
  by_cases h : n = 0#6
  · simp [Engine.writeReg, h]
  · simp [Engine.writeReg, h, Engine.setReg_reg e n m v h]

end Sys2Proof.Machine
end

