-- ==== Sys2Proof/Laws/Engine.lean ====
section
/-! SUPPORT. What issuing a syllable can do, said once for every shape of Machine/Engine.lean. -/
namespace Sys2Proof.Machine

variable {s : State} {k : Site} {r : Running} {n : Bool} {p : BitVec 3} {ok : Bool}
  {cause : Engine → Running → Bool → Option (Nat × Nat)} {eff : Engine → Running → Bool → Bundle → Bundle}

/-! ### Issue -/

/-- A syllable of a defined encoding that causes no abort changes the bundle in the making, and nothing else. -/
theorem State.issue_ok (h : s.issuesAt k r) (hc : cause (s.engine k) r ((s.engine k).guard n p) = none) :
    s.issue k n p true cause eff = s.bundled k (eff (s.engine k) r ((s.engine k).guard n p)) := by
  unfold State.issue
  simp only [h.1, h.2, hc, if_true]
  rfl

/-- A syllable of an undefined encoding aborts its clause with cause 2, whatever its guard (R75). -/
theorem State.issue_undefined (h : s.issuesAt k r) : s.issue k n p false cause eff = s.abortClause k 2 0 .real := by
  unfold State.issue
  simp only [h.1, h.2, if_true]
  rfl

/-- A syllable with a cause to abort aborts its clause with that cause. -/
theorem State.issue_abort {c a : Nat} (h : s.issuesAt k r) (hc : cause (s.engine k) r ((s.engine k).guard n p) = some (c, a)) :
    s.issue k n p true cause eff = s.abortClause k c a .real := by
  unfold State.issue
  simp only [h.1, h.2, hc, if_true]

/-- No clause, no issue. -/
theorem State.issue_idle (h : (s.engine k).run = none) : s.issue k n p ok cause eff = s := by
  unfold State.issue
  simp only [h]

/-- Everything an issue can do: nothing, the bundle, an abort, or a lower cause for the abort of its bundle (R545). -/
theorem State.issue_cases : s.issue k n p ok cause eff = s ∨
    (∃ f, s.issue k n p ok cause eff = s.bundled k f) ∨
    (∃ c a, s.issue k n p ok cause eff = s.abortClause k c a .real) ∨
    (∃ r c a, s.issue k n p ok cause eff = s.lowerAbort k r c a) := by
  unfold State.issue
  dsimp only
  cases (s.engine k).run with
  | none => exact .inl rfl
  | some r =>
    simp only
    generalize (if ok = true then cause (s.engine k) r ((s.engine k).guard n p) else some (2, 0)) = bad
    by_cases hi : r.issues = true
    · cases bad with
      | none => simp only [hi, if_true]; exact .inr (.inl ⟨_, rfl⟩)
      | some x => simp only [hi, if_true]; exact .inr (.inr (.inl ⟨_, _, rfl⟩))
    · simp only [hi, if_false, Bool.false_eq_true]
      cases bad with
      | none => cases r.aborted <;> exact .inl rfl
      | some x =>
        cases r.aborted with
        | none => exact .inl rfl
        | some y =>
          simp only
          split
          · exact .inr (.inr (.inr ⟨_, _, _, rfl⟩))
          · exact .inl rfl

/-! ### Results of operations -/

/-- An issue of one operation under a true guard. -/
theorem State.issue_op {slot lat : Nat} {dst : Dest} {v : Engine → Running → DWord} {fl : Engine → Nat} {d : Bool}
    (h : s.issuesAt k r) (hg : s.guarded k n p) :
    s.issue k n p true noCause (fun e r g => addOp slot lat dst (v e r) (fl e) d r g) =
      s.bundled k (Bundle.withOp r.cyc slot lat dst (v (s.engine k) r) (fl (s.engine k)) d) := by
  rw [State.issue_ok h rfl]
  unfold State.guarded at hg
  simp only [hg]
  rfl

/-- An operation of an A slot (R77). -/
theorem State.aReg_ok {slot : ASlot} {f : RegSyl} {dst : Dest} {v : Engine → DWord} (h : s.issuesAt k r) (hg : s.guarded k f.n f.p) :
    s.aReg k slot f true dst v = s.bundled k (Bundle.withOp r.cyc slot.num 1 dst (v (s.engine k)) 0 f.d) :=
  State.issue_op (v := fun e _ => v e) (fl := fun _ => 0) h hg

theorem State.aReg_undefined {slot : ASlot} {f : RegSyl} {dst : Dest} {v : Engine → DWord} (h : s.issuesAt k r) :
    s.aReg k slot f false dst v = s.abortClause k 2 0 .real := State.issue_undefined h

/-- The M slot is free (R78). -/
theorem mBusy_free (h : s.issuesM k r) (g : Bool) : mBusy (s.engine k) r g = none := by
  simp [mBusy, Nat.not_lt.mpr h.2]

/-- An operation of the M slot that is not blocking. -/
theorem State.mOp_ok {f : RegSyl} {lat : Nat} {dst : Dest} {v : Engine → DWord × Nat} (h : s.issuesM k r) (hg : s.guarded k f.n f.p)
    (hx : f.x = 0#3) : s.mOp k f true lat false dst v =
      s.bundled k (Bundle.withOp r.cyc 2 lat dst (v (s.engine k)).1 (v (s.engine k)).2 f.d) := by
  unfold State.guarded at hg
  simp only [State.mOp, hx, BEq.rfl, Bool.and_self]
  rw [State.issue_ok h.1 (mBusy_free h _)]
  simp only [hg]
  rfl

/-- A blocking one keeps the slot busy for the cycles of its latency. -/
theorem State.mOp_blocking {f : RegSyl} {lat : Nat} {dst : Dest} {v : Engine → DWord × Nat} (h : s.issuesM k r)
    (hg : s.guarded k f.n f.p) (hx : f.x = 0#3) : s.mOp k f true lat true dst v =
      s.bundled k (fun b => { Bundle.withOp r.cyc 2 lat dst (v (s.engine k)).1 (v (s.engine k)).2 f.d b with mFree := some (r.cyc + lat) }) := by
  unfold State.guarded at hg
  simp only [State.mOp, hx, BEq.rfl, Bool.and_self]
  rw [State.issue_ok h.1 (mBusy_free h _)]
  simp only [hg]
  rfl

/-! ### Aborts (R89) -/

/-- The records of an abort change one report list, beside the hub. -/
theorem State.abortFault_lanes (c a : Nat) (o : Origin) : (s.abortFault k r c a o).lanes =
    (s.modLane k.lane (fun l => { l with reports := (false, r.clause) :: l.reports })).lanes := by
  unfold State.abortFault
  dsimp only
  split <;> rfl

theorem State.abortFault_engine (c a : Nat) (o : Origin) (j : Site) : (s.abortFault k r c a o).engine j = s.engine j := by
  have h : (s.abortFault k r c a o).lane j.lane =
      (s.modLane k.lane (fun l => { l with reports := (false, r.clause) :: l.reports })).lane j.lane :=
    congrArg (fun v : Vector Lane 4 => v[j.lane]) (State.abortFault_lanes c a o)
  rw [State.engine, h, State.modLane_lane_eq]
  split
  · next e => simp [State.engine, e]
  · rfl

theorem State.abortFault_mem (c a : Nat) (o : Origin) (l : LaneId) : ((s.abortFault k r c a o).lane l).mem = (s.lane l).mem := by
  have h : (s.abortFault k r c a o).lane l =
      (s.modLane k.lane (fun l => { l with reports := (false, r.clause) :: l.reports })).lane l :=
    congrArg (fun v : Vector Lane 4 => v[l]) (State.abortFault_lanes c a o)
  rw [h, State.modLane_lane_eq]
  split
  · next e => simp [e]
  · rfl

theorem State.abortFault_pending (c a : Nat) (o : Origin) : (s.abortFault k r c a o).pending = s.pending := by
  unfold State.abortFault
  dsimp only
  split <;> rfl

theorem State.clauseRecord_lanes (c y : Nat) : (s.clauseRecord k r c y).lanes = s.lanes := rfl
theorem State.clauseRecord_pending (c y : Nat) : (s.clauseRecord k r c y).pending = s.pending := rfl

/-- What an abort makes of its engine. -/
theorem State.abortClause_engine (h : (s.engine k).run = some r) (c a : Nat) (o : Origin) :
    (s.abortClause k c a o).engine k = { s.engine k with
      run := some { r with aborted := some (c, r.cyc) }, bundle := {}, loops := [], prevAbort := true, prevCause := c } := by
  unfold State.abortClause
  simp only [h]
  simp only [State.engine, State.lane, State.clauseRecord_lanes]
  change ((State.modEng k _ s).abortFault k r c a o).engine k = _
  rw [State.abortFault_engine, State.modEng_engine]
  rfl

theorem State.abortClause_mem (c a : Nat) (o : Origin) (l : LaneId) : ((s.abortClause k c a o).lane l).mem = (s.lane l).mem := by
  unfold State.abortClause
  dsimp only
  split
  · rfl
  · simp only [State.lane, State.clauseRecord_lanes]
    exact (State.abortFault_mem c a o l).trans (State.modEng_mem ..)

theorem State.abortClause_pending (c a : Nat) (o : Origin) : (s.abortClause k c a o).pending = s.pending := by
  unfold State.abortClause
  dsimp only
  split
  · rfl
  · exact (State.clauseRecord_pending _ _).trans (State.abortFault_pending _ _ _)

/-- Issuing touches no lane's memory and nothing of the queue. -/
theorem State.issue_mem (l : LaneId) : ((s.issue k n p ok cause eff).lane l).mem = (s.lane l).mem := by
  rcases State.issue_cases (s := s) (k := k) (n := n) (p := p) (ok := ok) (cause := cause) (eff := eff) with h | ⟨f, h⟩ | ⟨c, a, h⟩ | ⟨r, c, a, h⟩
  · rw [h]
  · rw [h]; exact State.bundled_mem ..
  · rw [h]; exact State.abortClause_mem ..
  · rw [h]; simp [State.lowerAbort]

theorem State.issue_pending : (s.issue k n p ok cause eff).pending = s.pending := by
  rcases State.issue_cases (s := s) (k := k) (n := n) (p := p) (ok := ok) (cause := cause) (eff := eff) with h | ⟨f, h⟩ | ⟨c, a, h⟩ | ⟨r, c, a, h⟩
  · rw [h]
  · rw [h]; rfl
  · rw [h]; exact State.abortClause_pending ..
  · rw [h]; rfl

/-! ### Results written (R62 to R64) -/

/-- What an operation writes to a register; others, and g0, read as before. -/
theorem Engine.writeOp_reg (e : Engine) (o : Op) (m : BitVec 6) (hm : m ≠ 0#6) :
    (e.writeOp o).reg m = (o.writes m).getD (e.reg m) := by
  unfold Engine.writeOp Op.writes
  cases o.dst with
  | none => rfl
  | pred q => simp only [Engine.writePred]; split <;> simp [Engine.setPred, *, Engine.reg]
  | reg q =>
    simp only [Engine.writeReg_reg]
    by_cases h : m = q
    · subst h; simp [hm]
    · simp [h, Ne.symm h]
  | pair q =>
    dsimp only
    generalize q + 1 = u
    simp only [Engine.writeReg_reg]
    by_cases h1 : m = u
    · simp [← h1, hm]
    · by_cases h2 : m = q
      · simp [← h2, hm, h1, Ne.symm h1]
      · simp [h1, h2, Ne.symm h1, Ne.symm h2]

end Sys2Proof.Machine
end

