-- ==== Sys2Proof/Laws/Memory.lean ====
section
/-! SUPPORT. The laws of a lane's memory: what a read gives after a write, and that every operation keeps the canonical form. -/
namespace Sys2Proof.Machine

/-! ### The canonical form from a least address on -/

theorem Mem.wfFrom_mono {lo hi : Nat} {m : Mem} (h : Mem.wfFrom hi m = true) (hle : lo ≤ hi) : Mem.wfFrom lo m = true := by
  cases m with
  | nil => rfl
  | cons c r =>
    simp only [Mem.wfFrom, Bool.and_eq_true, decide_eq_true_eq] at h ⊢
    exact ⟨⟨Nat.le_trans hle h.1.1, h.1.2⟩, h.2⟩

/-- Below the least address of its cells a canonical memory reads as unlisted. -/
theorem Mem.read_below {lo : Nat} {m : Mem} (h : Mem.wfFrom lo m = true) {x : Nat} (hx : x < lo) : m.read x = unlistedByte := by
  cases m with
  | nil => rfl
  | cons c r =>
    simp only [Mem.wfFrom, Bool.and_eq_true, decide_eq_true_eq] at h
    have h1 := h.1.1
    simp only [Mem.read, show x ≠ c.1 by omega, show x < c.1 by omega, if_false, if_true]

theorem Mem.wfFrom_write {m : Mem} : ∀ {lo : Nat}, Mem.wfFrom lo m = true → ∀ {x : Nat} (v : BitVec 8), lo ≤ x →
    Mem.wfFrom lo (m.write x v) = true := by
  induction m with
  | nil =>
    intro lo _ x v hx
    by_cases hv : v = unlistedByte <;> simp [Mem.write, Mem.wfFrom, hv, hx]
  | cons c r ih =>
    intro lo h x v hx
    simp only [Mem.wfFrom, Bool.and_eq_true, decide_eq_true_eq] at h
    obtain ⟨⟨h1, h2⟩, h3⟩ := h
    by_cases hlt : x < c.1
    · by_cases hv : v = unlistedByte
      · simp [Mem.write, hlt, hv, Mem.wfFrom, h1, h2, h3]
      · simp [Mem.write, hlt, hv, Mem.wfFrom, h2, h3, hx, show x + 1 ≤ c.1 by omega]
    · by_cases heq : x = c.1
      · by_cases hv : v = unlistedByte
        · simp [Mem.write, heq, hv, Mem.wfFrom_mono h3 (by omega : lo ≤ c.1 + 1)]
        · simp [Mem.write, heq, hv, Mem.wfFrom, h1, h3]
      · simp [Mem.write, hlt, heq, Mem.wfFrom, h1, h2, ih h3 v (by omega : c.1 + 1 ≤ x)]

/-! ### Reading after writing -/

theorem Mem.read_write {m : Mem} : ∀ {lo : Nat}, Mem.wfFrom lo m = true → ∀ (x y : Nat) (v : BitVec 8),
    (m.write x v).read y = if y = x then v else m.read y := by
  induction m with
  | nil =>
    intro lo _ x y v
    by_cases hv : v = unlistedByte
    · simp [Mem.write, hv, Mem.read]
    · by_cases hy : y = x <;> simp [Mem.write, hv, Mem.read, hy]
  | cons c r ih =>
    intro lo h x y v
    simp only [Mem.wfFrom, Bool.and_eq_true, decide_eq_true_eq] at h
    obtain ⟨⟨h1, h2⟩, h3⟩ := h
    by_cases hlt : x < c.1
    · by_cases hv : v = unlistedByte
      · by_cases hy : y = x
        · subst hy; simp [Mem.write, hlt, hv, Mem.read, show y ≠ c.1 by omega]
        · simp [Mem.write, hlt, hv, hy]
      · by_cases hy : y = x
        · simp [Mem.write, hlt, hv, Mem.read, hy]
        · by_cases hyx : y < x
          · simp [Mem.write, hlt, hv, Mem.read, hy, hyx, show y ≠ c.1 by omega, show y < c.1 by omega]
          · simp [Mem.write, hlt, hv, Mem.read, hy, hyx]
    · by_cases heq : x = c.1
      · by_cases hv : v = unlistedByte
        · by_cases hy : y = x
          · subst hy
            simp [Mem.write, heq, hv, Mem.read_below h3 (by omega : c.1 < c.1 + 1)]
          · by_cases hyx : y < c.1
            · simp [Mem.write, heq, hv, heq ▸ hy, Mem.read, hyx, Mem.read_below h3 (by omega : y < c.1 + 1)]
            · simp [Mem.write, heq, hv, heq ▸ hy, Mem.read, hyx]
        · by_cases hy : y = c.1 <;> simp [Mem.write, heq, hv, Mem.read, hy]
      · by_cases hy : y = c.1
        · simp [Mem.write, hlt, heq, Mem.read, hy, Ne.symm heq]
        · by_cases hyx : y < c.1
          · simp [Mem.write, hlt, heq, Mem.read, hy, hyx, show y ≠ x by omega]
          · simp [Mem.write, hlt, heq, Mem.read, hy, hyx, ih h3 x y v]

/-! ### Runs of bytes -/

theorem Mem.wf_write {m : Mem} (h : m.wf = true) (x : Nat) (v : BitVec 8) : (m.write x v).wf = true :=
  Mem.wfFrom_write h v (Nat.zero_le x)

theorem Mem.wf_writeN {m : Mem} (h : m.wf = true) (x : Nat) (b : Bytes) : (m.writeN x b).wf = true := by
  induction b generalizing m x with
  | nil => exact h
  | cons v vs ih => exact ih (Mem.wf_write h x v) (x + 1)

theorem Mem.wf_writeLe {m : Mem} (h : m.wf = true) (x n v : Nat) : (m.writeLe x n v).wf = true := Mem.wf_writeN h x _

/-- A run of bytes written leaves what lies below it. -/
theorem Mem.read_writeN_below {m : Mem} (h : m.wf = true) (x a : Nat) (b : Bytes) (ha : a < x) : (m.writeN x b).read a = m.read a := by
  induction b generalizing m x with
  | nil => rfl
  | cons v vs ih =>
    rw [Mem.writeN, ih (Mem.wf_write h x v) (x + 1) (by omega), Mem.read_write h]
    simp [show a ≠ x by omega]

/-! ### Keeping and clearing regions -/

/-- Cells left out of a canonical memory leave a canonical memory. -/
theorem Mem.wfFrom_filter {m : Mem} (p : Host.Cell → Bool) : ∀ {lo : Nat}, Mem.wfFrom lo m = true → Mem.wfFrom lo (m.filter p) = true := by
  induction m with
  | nil => intro lo h; exact h
  | cons c r ih =>
    intro lo h
    simp only [Mem.wfFrom, Bool.and_eq_true, decide_eq_true_eq] at h
    obtain ⟨⟨h1, h2⟩, h3⟩ := h
    by_cases hp : p c
    · simp [hp, Mem.wfFrom, h1, h2, ih h3]
    · simp only [List.filter_cons, hp]
      exact Mem.wfFrom_mono (ih h3) (by omega)

theorem Mem.wf_clear {m : Mem} (h : m.wf = true) (x len : Nat) : (m.clear x len).wf = true := Mem.wfFrom_filter _ h
theorem Mem.wf_keep {m : Mem} (h : m.wf = true) (x len : Nat) : (m.keep x len).wf = true := Mem.wfFrom_filter _ h

/-- Two canonical memories one above the other are one. -/
theorem Mem.wfFrom_append {m m' : Mem} {mid : Nat} : ∀ {lo : Nat}, lo ≤ mid → Mem.wfFrom lo m = true → (∀ c ∈ m, c.1 < mid) →
    Mem.wfFrom mid m' = true → Mem.wfFrom lo (m ++ m') = true := by
  induction m with
  | nil => intro lo hle _ _ h'; exact Mem.wfFrom_mono h' hle
  | cons c r ih =>
    intro lo hle h hb h'
    simp only [Mem.wfFrom, Bool.and_eq_true, decide_eq_true_eq] at h
    have hc : c.1 < mid := hb c (List.mem_cons_self ..)
    simp only [List.cons_append, Mem.wfFrom, Bool.and_eq_true, decide_eq_true_eq]
    exact ⟨h.1, ih (by omega) h.2 (fun d hd => hb d (List.mem_cons_of_mem _ hd)) h'⟩

/-- Cells all at or above an address make a memory that is canonical from there. -/
theorem Mem.wfFrom_raise {m : Mem} {lo hi : Nat} (h : Mem.wfFrom lo m = true) (hb : ∀ c ∈ m, hi ≤ c.1) : Mem.wfFrom hi m = true := by
  cases m with
  | nil => rfl
  | cons c r =>
    simp only [Mem.wfFrom, Bool.and_eq_true, decide_eq_true_eq] at h ⊢
    exact ⟨⟨hb c (List.mem_cons_self ..), h.1.2⟩, h.2⟩

theorem Mem.wf_copyFrom {m src : Mem} (h : m.wf = true) (hs : src.wf = true) (x len : Nat) : (Mem.copyFrom src x len m).wf = true := by
  have low : Mem.wfFrom 0 (m.filter (fun c => decide (c.1 < x))) = true := Mem.wfFrom_filter _ h
  have mid : Mem.wfFrom x (src.keep x len) = true := by
    refine Mem.wfFrom_raise (lo := 0) (Mem.wf_keep hs x len) (fun c hc => ?_)
    simp only [Mem.keep, List.mem_filter, decide_eq_true_eq] at hc
    exact hc.2.1
  have high : Mem.wfFrom (x + len) (m.filter (fun c => decide (x + len ≤ c.1))) = true := by
    refine Mem.wfFrom_raise (lo := 0) (Mem.wfFrom_filter _ h) (fun c hc => ?_)
    simp only [List.mem_filter, decide_eq_true_eq] at hc
    exact hc.2
  have upper : Mem.wfFrom x (src.keep x len ++ m.filter (fun c => decide (x + len ≤ c.1))) = true := by
    refine Mem.wfFrom_append (Nat.le_add_right x len) mid (fun c hc => ?_) high
    simp only [Mem.keep, List.mem_filter, decide_eq_true_eq] at hc
    exact hc.2.2
  have all := Mem.wfFrom_append (Nat.zero_le x) low (fun c hc => by
    simp only [List.mem_filter, decide_eq_true_eq] at hc
    exact hc.2) upper
  simpa [Mem.copyFrom, Mem.wf, List.append_assoc] using all

end Sys2Proof.Machine
end

