-- ==== Sys2Proof/Laws/Requests.lean ====
section
/-! SUPPORT. What the checks of a request come to (R424, R433, R434). -/
namespace Sys2Proof.Machine

variable {d : OpSpec} {r : Req} {p : Bytes} {s : State}

/-- A request that passes every check is executed. -/
theorem OpSpec.run_accepts (h : d.accepts r p s) : d.run r p s = d.act r p s := by
  obtain ⟨h1, h2, h3, h4, h5, h6, h7, h8⟩ := h
  simp [OpSpec.run, OpSpec.execute, h1, h2, h3, h4, h5, h6, h7, h8]

/-- A silent module answers nothing. -/
theorem OpSpec.run_silent (h : s.hub.silent = true) : d.run r p s = s := by
  simp [OpSpec.run, h]

/-- A second phase that passes every check is executed with its code used up. -/
theorem OpSpec.run_confirms {code : Nat} (h : d.confirms r p code s) :
    d.run r (p ++ beBytes 4 code) s = d.act r p (s.codeUsed r) := by
  obtain ⟨h1, h2, h3, h4, h5, h6, h7, h8, h9, x, c, hx, hc, ht, h10, h11, h12⟩ := h
  have hl : (beBytes 4 code).length = 4 := beBytes_length ..
  have hb : (p ++ beBytes 4 code).take ((p ++ beBytes 4 code).length - 4) = p := by simp [hl]
  have hd : (p ++ beBytes 4 code).drop ((p ++ beBytes 4 code).length - 4) = beBytes 4 code := by simp [hl]
  have hv : beVal (beBytes 4 code) = code := by rw [beVal_beBytes]; omega
  have late : ¬ (10000000000 < s.hub.time.now - c.at_) := by omega
  have second : d.secondPhase r (p ++ beBytes 4 code) s = d.execute r p (s.codeUsed r) := by
    simp only [OpSpec.secondPhase, hb, hd, hv, hx, hc, late, if_false, h10, h11, h12, and_self, if_true]
    rfl
  have h7' : (s.codeUsed r).hub.execBusy r = false := h7
  have long : ¬ (p.length + 4 < 4) := by omega
  simp [OpSpec.run, h1, h2, h3, h4, h5, h6, long, second, OpSpec.execute, h7', h8]

/-- Answering touches the hub alone. -/
theorem State.answered_next (op : Opcode) (st : Status) (body : Bytes) :
    State.answered r op st body s = .next (s.modHub (Hub.reply r op st body)) := rfl

end Sys2Proof.Machine
end

