-- ==== Sys2Proof/Tests/Slice0.lean ====
section
/-! SUPPORT. Tests: the checks of well-formedness, words of the encoding tables, and for the statements of the certificate concrete states
and operands that meet their hypotheses. -/
namespace Sys2Proof.Tests
open Sys2Proof.Machine

/-! ### States the tests start from -/

/-- A clause of engine 0 that starts at cycle 2,000 of tick 0 of the sentence and may last 100 cycles. -/
def clauseEntry0 : ClauseEntry := ⟨0, 0, 0, 2000, 100, 0, 4, 255, 0, true⟩

/-- A word from lane store into the scratchpad of engine 0, for that clause. -/
def transferEntry0 : TransferEntry := ⟨0, 0, 0, 1200, storeBase, scratchBase 0, 4, 0, 0, 0, 0x20, 0, 255, 1220, true⟩

def sched0 : Schedule := ⟨0, 0, 1, 25000, 10, 1, 0, [clauseEntry0], [transferEntry0], [], [], [], [], []⟩

/-- The hub of a module in a mode, with its tick running and lanes 0 to 2 ACTIVE. -/
def hubIn (m : Mode) : Hub :=
  let h : Hub := {}
  { h with
    time := { h.time with running := true, now := 5000000, tick := 10, nextTick := 11, tickAt := 4999000 }
    power := { h.power with mode := m, held := false }
    vote := { h.vote with laneState := ⟨#[.active, .active, .active, .spareWarm], rfl⟩ }
    sched := { h.sched with schedules := [sched0], selMain := some 0, running := some 0 } }

def stateIn (m : Mode) : State :=
  { hub := hubIn m, snap := hubIn m
    lanes := Vector.replicate 4 { tick := 10, tb0 := 4999000, started := true, schedule := some 0 }, pending := [] }

def k0 : Site := ⟨0, 0⟩
def run0 : Running := { clause := 0, budget := 100, start := 2000, pc := 0, task := 255, flags := 0 }

/-- A clause runs on engine 0 of lane 0 and issues its first bundle. -/
def clause0 : State := (stateIn .voted).modEng k0 (fun e => { e with run := some run0 })

/-- The same in its last cycle, with an operation of its first bundle due and a store in the making. -/
def clauseEnd : State :=
  (stateIn .voted).modEng k0 (fun e => { e with
    run := some { run0 with cyc := 100 }
    flight := [{ issued := 98, slot := 2, due := 100, dst := .reg 5, value := 7, flags := 0, dead := false }]
    bundle := { ops := [{ issued := 100, slot := 0, due := 100, dst := .reg 5, value := 9, flags := 0, dead := false }]
                store := some (0, [1#8, 2#8, 3#8, 4#8], 4) } })

/-- A request over UDP with the authority of SAFETY. -/
def req0 : Req := { transport := 0, source := 1, slot := 0, session := 1, seq := 1, authority := 4 }

/-! ### Well-formedness: each check refuses an ill-formed term -/

theorem test_wf_request_widths : Instr.wf (.getStatus { req0 with transport := 5 } []) = false ∧
    Instr.wf (.getStatus { req0 with slot := 256 } []) = false ∧ Instr.wf (.getStatus { req0 with seq := 2 ^ 32 } []) = false ∧
    Instr.wf (.getStatus { req0 with session := 2 ^ 32 - 1 } []) = true := by decide
theorem test_wf_parameters_length (p : Bytes) (h : p.length = 1449) : paramsOk p = false ∧ paramsOk (p.drop 1) = true := by
  constructor <;> simp [paramsOk, h]
theorem test_wf_carrier_without_long_form : Instr.wf (.addi k0 .a0 { dst := 1, sa := 2, imm := 0x0FF, long := 1 }) = false ∧
    Instr.wf (.addi k0 .a0 { dst := 1, sa := 2, imm := 0x100, long := 1 }) = true := by decide
theorem test_wf_station_number : Instr.wf (.hostPoll 31 0) = true ∧ Instr.wf (.hostPoll 32 0) = false := by decide
theorem test_wf_counts : Instr.wf (.tickStart 0 0 (List.replicate 15 0)) = false ∧
    Instr.wf (.tickStart 0 0 (List.replicate 16 0)) = true := by decide
theorem test_wf_packet_length (p : Bytes) (h : p.length = 4113) : bytesOk p = false ∧ bytesOk (p.drop 1) = true := by
  constructor <;> simp [bytesOk, h]
theorem test_wf_push_words : Instr.wf (.mbPush 0 0 [] 0) = false ∧ Instr.wf (.mbPush 0 0 (List.replicate 9 0#32) 0) = false ∧
    Instr.wf (.mbPush 0 0 (List.replicate 8 0#32) 0) = true := by decide

/-! ### Words of the encoding tables, bit by bit (Tables 3.5 and 3.7 to 3.9) -/

theorem test_decode_add : decodeA k0 .a0 0b000001_0_0_000_000101_000010_000011_000#32 0 = .add k0 .a0 { dst := 5, sa := 2, sb := 3 } := by decide
theorem test_decode_addi_negative : decodeA k0 .a1 0b010000_1_1_010_000111_000001_111111111#32 0 =
    .addi k0 .a1 { d := true, n := true, p := 2, dst := 7, sa := 1, imm := 0x1FF } := by decide
theorem test_decode_fma_d : decodeM k0 0b100011_0_0_000_000100_000110_001000_000#32 = .fmaD k0 { dst := 4, sa := 6, sb := 8 } := by decide
theorem test_decode_stw : decodeL k0 0b001000_0_0_000_000011_000010_000001000#32 0 = .stw k0 { dst := 3, sa := 2, imm := 8 } .clean := by decide
theorem test_decode_br : decodeL k0 0b010000_0_1_001_00000000_0000000001010#32 0 = .br k0 { n := true, p := 1, target := 10 } := by decide
theorem test_decode_loopi : decodeL k0 0b010010_00000_0000011_1_0000000000110#32 0 = .loopi k0 { cnt := 3, lc := true, last := 6 } := by decide
theorem test_decode_unlisted : decodeM k0 0b111111_00000000000000000000000000#32 = .nop k0 .m 0xFC000000 .clean := by decide

/-! ### The queue -/

theorem test_step_takes_the_front : step { State.reset with pending := [.vectorConsensus, .splitBoundary] } =
    .next { State.reset with pending := [.splitBoundary] } := rfl
theorem test_idle : State.reset.pending = [] := rfl

/-! ### The clause engine -/

/-- A clause issues with a free M slot and a true guard: the hypotheses of the A, M and L slot results. -/
theorem wit_issue : clause0.issuesAt k0 run0 ∧ clause0.issuesM k0 run0 ∧ clause0.guarded k0 false 0 ∧ ¬ clause0.guarded k0 true 0 :=
  ⟨⟨rfl, rfl⟩, ⟨⟨rfl, rfl⟩, by decide⟩, rfl, fun h => by cases h⟩

/-- Operand fields at the ends of the ranges that the results name. -/
theorem wit_operand_fields : isPair 2#6 = true ∧ isPair 62#6 = true ∧ (7#6 : BitVec 6) < 8#6 ∧ ¬ ((8#6 : BitVec 6) < 8#6) ∧
    isPair 0#6 = false ∧ isPair 63#6 = false ∧ (63#6 : BitVec 6).getLsbD 0 = true ∧ (9#6 : BitVec 6).toNat ≤ 0x0C ∧
    (ImmSyl.mk false false 0 1 2 31 0).value.toNat < 32 ∧ 32 ≤ (ImmSyl.mk false false 0 1 2 32 0).value.toNat ∧
    (ImmSyl.mk false false 0 1 2 0x1FF 0).value = 0xFFFFFFFF#32 ∧ (ImmSyl.mk false false 0 1 2 0x100 5).value = 5#32 := by decide

/-- A divisor of zero and one that is not. -/
theorem wit_divisors : (clause0.engine k0).reg 3 = 0#32 ∧
    ((clause0.modEng k0 (fun e => e.setReg 3 5)).engine k0).reg 3 ≠ 0#32 := by decide

/-- The last aligned addresses of the scratchpad, and the first beyond it. -/
theorem wit_scratchpad_addresses : scratchOk 0x3FFFC 4 ∧ scratchOk 0x3FFFE 2 ∧ scratchOk 0x3FFFF 1 ∧ scratchOk 0x3FFF8 8 ∧
    ¬ scratchOk 0x40000 1 ∧ ¬ scratchOk 0x3FFFE 4 := by unfold scratchOk scratchSize; decide

/-- A branch outside any loop, a BRI to the last bundle, a loop of one bundle beside another, and a sound fetch. -/
theorem wit_control :
    (∀ l ∈ (clause0.engine k0).loops, l.last ≠ run0.pc) ∧ (clause0.engine k0).loops.length < 2 ∧ run0.pc < (1#13 : BitVec 13).toNat ∧
    clause0.hub.inject.armed = [] ∧ clause0.hub.mem.sramBad = [] ∧
    (((clause0.modEng k0 (fun e => e.setReg 2 8191)).engine k0).reg 2).toNat ≤ 8191 := by decide

/-- NaNs, quiet and signalling. -/
theorem wit_nan : (f32.unpack 0xFFC12345).isNan = true ∧ (f32.unpack 0x7F800001).isSnan = true ∧
    (f64.unpack 0x7FF0000000000001).isSnan = true := by decide

theorem test_qnan_sum : (f32.add 0x7F800001 0x3F800000).1 = 0x7FC00000 := by decide

/-- A cycle that ends: the last cycle of the budget, a result due and a store. -/
theorem wit_cycle : clauseEnd.cycleOf k0 { run0 with cyc := 100 } ∧ clauseEnd.hub.inject.armed = [] ∧
    ((clauseEnd.engine k0).dueAt 100).length = 2 :=
  ⟨⟨rfl, rfl, by decide, by decide⟩, rfl, by decide⟩

/-- R64: of two writes in one cycle the later-issued one wins. -/
theorem test_later_issue_wins : ((clauseEnd.engine k0).dueAt 100).foldl (fun v o => (o.writes 5).getD v) 0#32 = 9#32 := by decide

theorem wit_issue_frame : (Instr.add k0 .a0 { dst := 1, sa := 2 }).syllable.isSome = true ∧ (∀ l, (clause0.lane l).xfers = []) := by decide

theorem wit_memory : Mem.wf [(0, 1#8), (5, 2#8)] = true ∧ Mem.wf [(5, 2#8), (5, 1#8)] = false ∧ Mem.wf [(0, 0#8)] = false := by decide

theorem wit_clause_start : (stateIn .voted).laneSchedule 0 = some sched0 ∧ sched0.clauses[0]? ≠ none ∧ fin? 8 0 = some (0 : Fin 8) ∧
    (stateIn .voted).laneRuns 0 = true ∧ ((stateIn .voted).lane 0).tick % (stateIn .voted).hub.sTicks = 0 ∧
    (stateIn .voted).hub.suppressed 255 = false ∧ ((stateIn .voted).engine ⟨0, 0⟩).run = none ∧
    ((stateIn .voted).lane 0).consumerOk sched0 0 = true := by decide

/-- An ended clause at the last cycle in which it may complete, and one past its budget. -/
theorem wit_clause_ends :
    (let s := clause0.modEng k0 (fun e => { e with run := some { run0 with ended := true, cyc := 101 } })
     (s.engine k0).run = some { run0 with ended := true, cyc := 101 } ∧ (s.engine k0).flight = [] ∧ 101 ≤ run0.budget + 1) ∧
    (let s := clause0.modEng k0 (fun e => { e with run := some { run0 with cyc := 101 } })
     (s.engine k0).run = some { run0 with cyc := 101 } ∧ run0.budget < 101) := by decide

/-- A transfer from lane store into a scratchpad, one word long. -/
def xfer0 : Xfer :=
  { index := 0, ctx := 0, srcPort := .store 0, dstPort := .scratch 0, src := storeBase, dst := scratchBase 0, len := 4, start := 1200
    dataAt := 1216, completion := 1220 }

def moving : State := (stateIn .voted).modLane 0 (fun l => { l with xfers := [xfer0], mem := l.mem.writeLe storeBase 4 0x12345678 })

theorem wit_transfer_start : sched0.transfers[0]? ≠ none ∧ Port.ofCode 0x20 = some (.store 0) ∧ Port.ofCode 0 = some (.scratch 0) ∧
    (∀ y ∈ ((stateIn .voted).lane 0).xfers, y.index ≠ 0) := by decide

theorem wit_transfer_complete : (moving.lane 0).xfers = [xfer0] ∧
    (((moving.advance 0 1221).lane 0).xfers.map (fun y => (y.failed, y.index))) = [(false, 0)] ∧ xfer0.atOnce = false := by decide

theorem wit_transfer_moves : (moving.lane 0).mem.wf = true ∧ xfer0.dstPort ≠ .hubFrame ∧ 0 < xfer0.beat ∧
    (xfer0.src + xfer0.len ≤ xfer0.dst ∨ xfer0.dst + xfer0.len ≤ xfer0.src) ∧ xfer0.dataAt + ceilDiv xfer0.len xfer0.beat ≤ 1220 := by decide

theorem test_transfer_moves_word : ((moving.advance 0 1220).lane 0).mem.readLe (scratchBase 0) 4 = 0x12345678 := by decide

/-! ### Requests -/

/-- Steps 8 to 11 of R424 and the code of a second phase, as one computation each. -/
def acceptsB (d : OpSpec) (r : Req) (p : Bytes) (s : State) : Bool :=
  !s.hub.silent && d.authorityOk r p s && r.headerOk && !r.confirm && !d.twoPhase s p && d.layout p && !s.hub.execBusy r &&
    (d.step11 s r p).isNone

theorem accepts_of {d : OpSpec} {r : Req} {p : Bytes} {s : State} (h : acceptsB d r p s = true) : d.accepts r p s := by
  simp only [acceptsB, Bool.and_eq_true, Bool.not_eq_true', Option.isNone_iff_eq_none] at h
  obtain ⟨⟨⟨⟨⟨⟨⟨h1, h2⟩, h3⟩, h4⟩, h5⟩, h6⟩, h7⟩, h8⟩ := h
  exact ⟨h1, h2, h3, h4, h5, h6, h7, h8⟩

def confirmsB (d : OpSpec) (r : Req) (p : Bytes) (code : Nat) (s : State) : Bool :=
  !s.hub.silent && d.authorityOk r p s && r.headerOk && r.confirm && d.twoPhase s p && d.layout p && !s.hub.execBusy r &&
    (d.step11 (s.codeUsed r) r p).isNone && decide (code < 2 ^ 32) &&
    (match (s.hub.cmd.sessions.find? (fun x => x.matches r)).bind Session.confirm with
     | some c => decide (s.hub.time.now - c.at_ ≤ 10000000000 ∧ c.code = code ∧ c.opcode = d.op.code ∧ c.params = p)
     | none => false)

theorem confirms_of {d : OpSpec} {r : Req} {p : Bytes} {code : Nat} {s : State} (h : confirmsB d r p code s = true) :
    d.confirms r p code s := by
  simp only [confirmsB, Bool.and_eq_true, Bool.not_eq_true', Option.isNone_iff_eq_none, decide_eq_true_eq] at h
  obtain ⟨⟨⟨⟨⟨⟨⟨⟨⟨h1, h2⟩, h3⟩, h4⟩, h5⟩, h6⟩, h7⟩, h8⟩, h9⟩, hc⟩ := h
  cases hf : s.hub.cmd.sessions.find? (fun x => x.matches r) with
  | none => simp [hf] at hc
  | some x =>
    cases hx : x.confirm with
    | none => simp [hf, hx] at hc
    | some c =>
      simp only [hf, hx, Option.bind_some, decide_eq_true_eq] at hc
      exact ⟨h1, h2, h3, h4, h5, h6, h7, h8, h9, x, c, hf, hx, hc⟩

/-- A configuration with one of each: a task, regions, a measurement channel with auto-zero, a CAN controller, a station, a partner. -/
def cfg0 : Cfg :=
  let c : Cfg := {}
  { c with
    tasks := { period := 2 } :: List.replicate 7 {}
    regions := [⟨storeBase + 0x10000, 64, 3, 0⟩, ⟨storeBase + 0x10040, 64, 4, 0⟩]
    sd := { enabled := true, azPairs := 1, azMode := 1 } :: List.replicate 15 {}
    can := { c.can with ctl := { enabled := true } :: List.replicate 3 {} }
    rack := { c.rack with stations := [⟨1, true, false, 4, 0, 0, 1, 4, 4, 10⟩] }
    partner := { c.partner with enabled := true }
    live := 2 ^ 47 - 1 }

/-- A state in a mode with that configuration. -/
def full (m : Mode) : State := (stateIn m).modHub (fun h => { h with cfg := cfg0 })

/-- The parameters of a request, and a code drawn for it 10 s ago. -/
def confirming (m : Mode) (o : Opcode) (p : Bytes) : State :=
  (full m).modHub (fun h => { h with
    time := { h.time with now := 10005000000 }
    cmd := { h.cmd with sessions := [{ Session.fresh req0 h.time.now with confirm := some ⟨o.code, p, 5, 5000000⟩ }] } })

def req1 : Req := { req0 with confirm := true, seq := 2 }

/-- Each check of steps 8 to 11 fails alone. -/
theorem wit_check_order :
    (stateIn .voted).hub.silent = false ∧ State.reset.hub.silent = true ∧
    opGetFaults.authorityOk { req0 with authority := 0 } (zeros 8) (stateIn .voted) = false ∧
    opGetFaults.authorityOk req0 (zeros 8) (stateIn .voted) = true ∧ opGetFaults.layout (zeros 7) = false ∧
    opGetFaults.layout (zeros 8) = true ∧ opGetFaults.twoPhase (stateIn .voted) (zeros 8) = false ∧
    opGetFaults.step11 (stateIn .voted) req0 (zeros 8) = none ∧
    opGetFaults.step11 (stateIn .voted) req0 (zeros 7 ++ [1#8]) = some .badParameter ∧
    (stateIn .voted).hub.execBusy req0 = false ∧
    ((stateIn .voted).modHub (fun h => { h with cmd.exec := List.replicate 16 { req := { req0 with seq := 9 }, op := .getStatus, params := [], key := [] } })).hub.execBusy req0 = true := by
  decide

theorem wit_two_phase_first : opTripClear.twoPhase (full .service) (zeros 8) = true ∧ opTripClear.layout (zeros 8) = true ∧
    opTripClear.authorityOk req0 (zeros 8) (full .service) = true ∧ opTripClear.step11 (full .service) req0 (zeros 8) = none := by decide

theorem wit_two_phase_second : opTripClear.confirms req1 (zeros 8) 5 (confirming .service .tripClear (zeros 8)) := confirms_of (by decide)

theorem wit_two_phase_wrong_code : ∃ x c, (confirming .service .tripClear (zeros 8)).hub.cmd.sessions.find? (fun x => x.matches req1) = some x ∧
    x.confirm = some c ∧ (confirming .service .tripClear (zeros 8)).hub.time.now - c.at_ ≤ 10000000000 ∧ c.code ≠ 6 :=
  ⟨_, _, rfl, rfl, by decide, by decide⟩

theorem wit_status_queries :
    opGetStatus.accepts req0 [] (full .load) ∧ opGetPtpStatus.accepts req0 [] (full .safe) ∧ opGetScheduleInfo.accepts req0 [] (full .voted) ∧
    opGetIoStatus.accepts req0 [] (full .voted) ∧ opGetSafetyStatus.accepts req0 [] (full .voted) ∧
    opGetTripStatus.accepts req0 [] (full .voted) ∧ opGetYbStatus.accepts req0 [] (full .voted) ∧
    opGetPartnerStatus.accepts req0 [] (full .voted) ∧ opGetCanStatus.accepts req0 [1#8, 0#8, 0#8, 0#8] (full .voted) ∧
    opGetImages.accepts req0 [] (full .load) ∧ opGetStationStatus.accepts req0 (zeros 4) (full .voted) ∧
    opMbStatus.accepts req0 [15#8, 0#8, 0#8, 0#8] (full .voted) ∧ opGetPortStatus.accepts req0 [] (full .voted) ∧
    opGetIdentity.accepts req0 [] (full .voted) :=
  ⟨accepts_of rfl, accepts_of rfl, accepts_of rfl, accepts_of rfl, accepts_of rfl, accepts_of rfl, accepts_of rfl, accepts_of rfl,
    accepts_of rfl, accepts_of rfl, accepts_of rfl, accepts_of rfl, accepts_of rfl, accepts_of rfl⟩

theorem wit_list_queries :
    opGetFaults.accepts req0 (zeros 8) (full .voted) ∧ opReadCounters.accepts req0 [0#8, 48#8, 0#8, 0#8] (full .voted) ∧
    opListDetectors.accepts req0 (zeros 4) (full .voted) ∧ opGetWear.accepts req0 (zeros 4) (full .voted) ∧
    (full .voted).hub.sourceLane = some 0 ∧
    opReadVariable.accepts req0 (beBytes 4 storeBase ++ beBytes 2 0x190) (full .voted) ∧
    opGetChannel.accepts req0 (zeros 4) (full .voted) ∧ opListForces.accepts req0 (zeros 4) (full .voted) :=
  ⟨accepts_of rfl, accepts_of rfl, accepts_of rfl, accepts_of rfl, rfl, accepts_of rfl, accepts_of rfl, accepts_of rfl⟩

theorem wit_deferred_accepts :
    opSelectTimeDomain.accepts req0 [2#8, 0#8, 0#8, 0#8] (full .voted) ∧ opSetPreset.accepts req0 [0#8, 1#8, 3#8, 1#8] (full .service) ∧
    opCanRecover.accepts req0 [1#8, 0#8, 0#8, 0#8] (full .voted) ∧ opCanSetListen.accepts req0 [1#8, 1#8, 0#8, 0#8] (full .voted) ∧
    opYbRestart.accepts req0 [1#8, 0#8, 0#8, 0#8] (full .voted) ∧
    opCalibratePoint.accepts req0 ([0#8, 3#8, 0#8, 1#8] ++ zeros 8) (full .service) ∧
    opTestOutput.accepts req0 ([23#8, 0#8] ++ beBytes 2 10000 ++ zeros 4) (full .service) ∧
    opRescan.accepts req0 (zeros 4) (full .voted) ∧ opSetTraceFilter.accepts req0 ([1#8] ++ zeros 35) (full .voted) ∧
    opSetMode.accepts req0 [3#8, 0#8, 0#8, 0#8] (full .safe) :=
  ⟨accepts_of rfl, accepts_of rfl, accepts_of rfl, accepts_of rfl, accepts_of rfl, accepts_of rfl, accepts_of rfl, accepts_of rfl,
    accepts_of rfl, accepts_of rfl⟩

/-- An active PARTNER_LOST, without which a STANDBY refuses SWITCHOVER. -/
def lost0 : FaultRec := ⟨1, .partnerLost, .real, 0, true, 0, 0, [], 0, [], 0, 0⟩

theorem wit_deferred_confirms :
    opSetMode.confirms req1 [4#8, 0#8, 0#8, 0#8] 5 (confirming .service .setMode [4#8, 0#8, 0#8, 0#8]) ∧
    opTripClear.confirms req1 (zeros 8) 5 (confirming .service .tripClear (zeros 8)) ∧
    opSwitchover.confirms req1 (zeros 4) 5 ((confirming .voted .switchover (zeros 4)).modHub (fun h => { h with
      partner := { h.partner with role := .active, promotable := true, up := ⟨#[true, false], rfl⟩ } })) ∧
    opSwitchover.confirms req1 (zeros 4) 5 ((confirming .voted .switchover (zeros 4)).modHub (fun h => { h with
      partner := { h.partner with role := .standby, copyHeld := true }
      faults := { h.faults with log := [lost0] } })) :=
  ⟨confirms_of (by decide), confirms_of (by decide), confirms_of (by decide), confirms_of (by decide)⟩

def writeParams (a : Nat) : Bytes := beBytes 4 a ++ beBytes 2 4 ++ zeros 10 ++ [1#8, 2#8, 3#8, 4#8]
def forceParams : Bytes := beBytes 4 (storeBase + 0x1003C) ++ [4#8] ++ zeros 27

theorem wit_runtime_requests :
    (opChange .writeVariable 1).confirms req1 (writeParams (storeBase + 0x1003C)) 5
      (confirming .voted .writeVariable (writeParams (storeBase + 0x1003C))) ∧
    (opChange .changeConstant 2).confirms req1 (writeParams (storeBase + 0x10040)) 5
      (confirming .voted .changeConstant (writeParams (storeBase + 0x10040))) ∧
    opForce.confirms req1 forceParams 5 (confirming .voted .force forceParams) ∧
    (let s := (full .voted).modHub (fun h => { h with rt.forces := [⟨255, storeBase + 0x10000, 4, 3, 0⟩] })
     opUnforce.accepts req0 (beBytes 2 255 ++ zeros 6) s ∧ (s.hub.rt.forces.find? (fun e => e.index == 255)).isSome = true) :=
  ⟨confirms_of (by decide), confirms_of (by decide), confirms_of (by decide), accepts_of rfl, rfl⟩

/-- Lane states as given. -/
def withLanes (a b c d : LaneState) (s : State) : State := s.modHub (fun h => { h with vote.laneState := ⟨#[a, b, c, d], rfl⟩ })

theorem wit_lane_requests :
    opSplit.accepts req0 ([4#8, 1#8] ++ beBytes 6 2) ((full .voted).modHub (fun h => { h with
      sched.schedules := [sched0, { sched0 with number := 1, kind := 1 }] })) ∧
    opJoin.accepts req0 (beBytes 6 300 ++ zeros 2) (full .split) ∧
    opLaneSelfTest.accepts req0 [3#8, 1#8, 0#8, 0#8] (withLanes .active .active .active .off (full .voted)) ∧
    opLaneBringIn.accepts req0 [3#8, 0#8, 0#8, 0#8] (withLanes .active .active .active .spareCold (full .voted)) ∧
    opLaneBringIn.accepts req0 [3#8, 1#8, 0#8, 0#8] (withLanes .active .active .off .spareCold (full .duplex)) ∧
    fin? 4 3 = some (3 : LaneId) :=
  ⟨accepts_of rfl, accepts_of rfl, accepts_of rfl, accepts_of rfl, accepts_of rfl, rfl⟩

/-- Network configuration with E2 as a spare. -/
def withNetwork (s : State) : State := s.modHub (fun h => { h with
  cfg.net.network := some ⟨0x0A000001, 0xFF000000, 0, 0x0B000001, 0xFF000000, 0, 0, 2, 100, 100, 2000, 400, 60, 0⟩
  net.ports := Vector.replicate 4 { up := true } })

theorem wit_immediate_requests :
    opSelectSchedule.accepts req0 [0#8, 0xFE#8, 0#8, 0#8] (full .service) ∧ opClearFaults.accepts req0 (zeros 4) (full .voted) ∧
    opConfirmImage.accepts req0 [] ((full .voted).modHub (fun h => { h with slots.active := some 0 })) ∧
    opSetCounterEvent.accepts req0 ([47#8, 0#8] ++ beBytes 2 0xF002 ++ zeros 2) (full .voted) ∧
    opSetRolePolicy.accepts req0 [0xFF#8, 0xFF#8, 1#8, 0#8] (full .voted) ∧
    opSetIpConfig.accepts req0 (zeros 4 ++ beBytes 4 0x0A000001 ++ beBytes 4 0xFFFF0000 ++ zeros 12) (full .voted) ∧
    opSubstitutePort.accepts req0 [1#8, 0#8, 0#8, 0#8] (withNetwork (full .voted)) ∧
    opStoreCalibration.accepts req0 [0#8, 1#8, 1#8, 0#8] (full .voted) ∧ opCommitChanges.accepts req0 (zeros 4) (full .voted) ∧
    opReadTrace.accepts req0 (zeros 8 ++ beBytes 2 16) (full .voted) ∧
    opRackRead.accepts req0 ([1#8, 3#8] ++ beBytes 2 248 ++ zeros 4) (full .voted) ∧
    opRackWrite.accepts req0 ([1#8, 0#8] ++ beBytes 2 1 ++ zeros 5) (full .voted) :=
  ⟨accepts_of rfl, accepts_of rfl, accepts_of rfl, accepts_of rfl, accepts_of rfl, accepts_of rfl, accepts_of rfl, accepts_of rfl,
    accepts_of rfl, accepts_of rfl, accepts_of rfl, accepts_of rfl⟩

theorem wit_substitute_without_spare :
    (let s := (full .voted).modHub (fun h => { h with mem := { h.mem with nandRetired := 1 } })
     let p := [9#8, 4#8] ++ zeros 10
     opSubstitute.accepts req0 p s ∧ s.hub.sparesLeft (u8 p 0) (u8 p 1) (be32 p 4) = 0) := ⟨accepts_of rfl, rfl⟩

def injectParams : Bytes := beBytes 2 (FaultName.liveDivergence).code ++ zeros 18

theorem wit_inject_cancel : opInject.confirms req1 injectParams 5 (confirming .service .inject injectParams) ∧
    FaultName.ofCode (be16 injectParams 0) = some .liveDivergence ∧ be16 injectParams 8 = 0 :=
  ⟨confirms_of (by decide), by decide, by decide⟩

/-- A transfer of an image of type 1 that lacks its last byte. -/
def uploading (m : Mode) : State := (full m).modHub (fun h => { h with
  boot.images.transfer := some ⟨7, 1, 1, 0, [], none, 0⟩ })

def chunk : Bytes := beBytes 4 7 ++ zeros 4 ++ beBytes 4 (crc32 [1#8]) ++ [1#8]

theorem wit_image_requests :
    opBeginImage.accepts req0 ([4#8, 0#8, 0#8, 0#8] ++ beBytes 4 136 ++ zeros 4) (full .load) ∧
    opImageData.accepts req0 chunk (uploading .load) ∧ (uploading .load).hub.power.deferred = false ∧
    opImageData.accepts req0 chunk ((uploading .voted).modHub (fun h => { h with power.deferred := true })) ∧
    opEndImage.accepts req0 (beBytes 4 7) (uploading .voted) :=
  ⟨accepts_of (by decide), accepts_of (by decide), rfl, accepts_of (by decide), accepts_of (by decide)⟩

theorem wit_attest : opAttest.accepts req0 (zeros 32) ((full .voted).modHub (fun h => { h with boot.sign.next := 1048575 })) :=
  accepts_of (by decide)

theorem wit_key_requests :
    opSetCommandKey.accepts req0 ([2#8, 0#8, 0#8, 0#8] ++ beBytes 2 32767 ++ beBytes 2 1 ++ [9#8]) (full .voted) ∧
    opResetModule.accepts req0 (zeros 4) (full .voted) ∧ opSetPower.accepts req0 (zeros 8) (full .voted) :=
  ⟨accepts_of (by decide), accepts_of (by decide), accepts_of (by decide)⟩

/-- An image of one byte is too short: its transfer ends with a cause. -/
theorem wit_image_cause : ((uploading .voted).hub.endCause ⟨7, 1, 1, 0, [], none, 0⟩).1 ≠ 0 := by decide

/-! ### Time, power and boot -/

/-- The tick stopped in SERVICE, before the start marker, with TB3 locked to TB1. -/
def stopped : State := (full .service).modHub (fun h => { h with
  time := { h.time with running := false, steerEn := true, tb3Ref := .tb1 } })

theorem wit_start_marker : stopped.hub.power.mode = .service ∧ stopped.hub.time.running = false ∧ stopped.hub.time.startAt = none ∧
    0 < stopped.hub.sentenceNs ∧ (stopped.hub.at_ 0).time.steerEn = true ∧ (stopped.hub.at_ 0).time.tb3Ref.hasReference = true := by decide

/-- A lane whose tick runs, with its neighbours powered, at the first tick of a sentence. -/
theorem wit_tick_and_steering : (full .voted).hub.time.running = true ∧ ((full .voted).hub.laneState 0).powered = true ∧
    ((full .voted).hub.laneState 1).powered = true ∧ (1 : LaneId) ≠ 0 ∧ ((full .voted).lane 0).started = true ∧
    (full .voted).hub.tickInSentence = 0 ∧ (full .voted).hub.time.steerEn = false := by decide

theorem wit_steering_reference :
    (let h := ((full .voted).modHub (fun h => { h with time := { h.time with steerEn := true, tb3Ref := .tb2 } })).hub
     h.time.steerEn = true ∧ h.time.tb3Ref.hasReference = true) ∧
    (let h := ((full .voted).modHub (fun h => { h with time := { h.time with steerEn := true, tb3Ref := .holdover } })).hub
     h.time.steerEn = true ∧ h.time.tb3Ref.hasReference = false) := by decide

/-- The RTC is due exactly 64 s after it was written. -/
theorem wit_rtc_due : (stopped.modHub (fun h => { h with time := { h.time with rtcWrittenAt := 5000000 } })).hub.time.tb3Ref.hasReference = true ∧
    cfg0.timeBase.rtcUpdateS * 1000000000 ≤
      ((stopped.modHub (fun h => { h with time := { h.time with rtcWrittenAt := 5000000 } })).hub.at_ 64005000000).time.now - 5000000 := by decide

theorem wit_tick_start : (full .voted).hub.vote.nextLane[(0 : LaneId)] = none ∧ ((full .voted).lane 0).started = true := by decide

/-- PTP in domain A with a tracker in a state. -/
def ptp0 (p2p : Bool) (x : TrackerState) (offs : List Int) : State := (full .voted).modHub (fun h => { h with
  cfg.ptp := ⟨#[some ⟨0, p2p, false, 3, 3, 0, 3⟩, none], rfl⟩
  time := { h.time with trackers := h.time.trackers.set 0 { state := x, offsets := offs, value := 1000, delaySeq := 9 } } })

theorem wit_ptp : (((ptp0 false .acquiring [0]).hub.at_ 0).cfg.ptp[(0 : Fin 2)]).isSome = true ∧
    ((ptp0 false .acquiring [0]).hub.at_ 0).power.mode.parser = true ∧
    ((ptp0 false .notAcquired []).hub.at_ 0).time.trackers[(0 : Fin 2)].state = .notAcquired ∧
    ((ptp0 false .holdover []).hub.at_ 0).time.trackers[(0 : Fin 2)].state = .holdover ∧
    ((ptp0 true .locked []).hub.at_ 0).time.trackers[(0 : Fin 2)].state = .locked ∧
    ((ptp0 false .acquiring [0]).hub.at_ 0).time.trackers[(0 : Fin 2)].stepUsed = false ∧
    ((ptp0 false .acquiring [0]).hub.at_ 0).time.trackers[(0 : Fin 2)].delaySeq = 9 := by decide

/-- Eight offsets 1 µs apart lock; a spread of 1,001 ns does not. -/
theorem wit_ptp_offsets : (keepLast 8 ([0, 0, 0, 0, 0, 0, 0] ++ [(1000 : Int)])).length = 8 ∧
    spread (keepLast 8 ([0, 0, 0, 0, 0, 0, 0] ++ [(1000 : Int)])) ≤ 1000 ∧
    ¬ (spread (keepLast 8 ([0, 0, 0, 0, 0, 0, 0] ++ [(1001 : Int)])) ≤ 1000) := by decide

theorem wit_supply : (full .voted).hub.power.mode ≠ .off ∧ (full .voted).hub.inject.armed = [] ∧
    (full .voted).hub.power.supplyWarn = false ∧ (15999 : Nat) < 16000 ∧ (16000 : Nat) ≤ 16000 ∧ (16800 : Nat) ≤ 16800 := by decide

/-- The supply has been good for exactly 50 ms. -/
def goodAgain : State := (full .voted).modHub (fun h => { h with
  power := { h.power with goodSince := some 5000000, supplyWarn := true, deferred := true } })

theorem wit_supply_end : goodAgain.hub.power.goodSince = some 5000000 ∧ goodAgain.hub.power.supplyWarn = true ∧
    5000000 + 50000000 ≤ (goodAgain.hub.at_ 55000000).time.now := by decide

theorem wit_backup : State.reset.hub.power.held = true ∧ State.reset.hub.power.mode = .off := by decide

/-- The Parser's firmware stands in its slot, or does not. -/
def firmware (b : Bytes) : State := (full .voted).modHub (fun h => { h with
  boot.images.running := h.boot.images.running.set 0 (some [1#8])
  boot.images.dev := h.boot.images.dev.set 0 ((h.boot.images.dev[0]).set 0 (some b)) })

theorem wit_parser_code : (firmware [1#8]).hub.power.mode.parser = true ∧
    ((firmware [1#8]).hub.dramUncorrectable 4 0 0 false .real).firmwareInSlot = true ∧
    ((firmware [2#8]).hub.dramUncorrectable 4 0 0 false .real).firmwareInSlot = false := by decide

theorem wit_safe_request : bit 1 0 = true ∧ bit 2 0 = false ∧ (full .voted).hub.time.running = true ∧
    (full .voted).hub.power.mode.isRunning = true := by decide

/-- The module off with power; in its boot; and in DORMANT. -/
def offState : State := State.reset.modHub (fun h => { h with power := { h.power with held := false } })
def bootState : State := State.reset.modHub (fun h => { h with power := { h.power with held := false, booting := true } })
def dormant (watch : Nat) (partner : Bool) : State := (full .dormant).modHub (fun h => { h with
  power := { h.power with watchPort := watch }
  boot := { h.boot with wake := true }
  cfg := { h.cfg with partner := { h.cfg.partner with enabled := partner } } })

theorem wit_power_on : State.reset.hub.power.held = true ∧ State.reset.hub.power.mode = .off ∧ bootState.hub.power.booting = true ∧
    bootState.hub.boot.handshake = false ∧ bootState.hub.imageCopy 0 1 = none ∧ bootState.hub.imageCopy 1 1 = none ∧
    offState.hub.power.held = false ∧ offState.hub.power.booting = false := by decide

theorem wit_handshake_end : (let s := (full .off).modHub (fun h => { h with boot.handshake := true })
    s.hub.boot.handshake = true ∧
      s.hub.partner.handshakeAt + s.hub.cfg.partner.handshakeMs * 1000000 ≤ (s.hub.at_ 1000000000).time.now) := by decide

def magic (port : Fin 2) : Bytes := buildEth ((dormant port.val true).hub.ifMac (if port = 0 then 1 else 0)) 1 none 0x0842 (List.replicate 8 0xFF#8)

theorem wit_wake_frame : ∀ port : Fin 2, (parseEth (magic port)).map (fun e => (e.dst, e.type, e.body.take 8)) =
      some (((dormant port.val true).hub.at_ 0).ifMac (if port = 0 then 1 else 0), (dormant port.val true).hub.cfg.system.wakeEthertype,
        (dormant port.val true).hub.cfg.system.wakePattern) ∧
    (dormant port.val true).hub.power.watchPort = port.val := by decide

theorem wit_dormant_wake : (dormant 0 true).hub.power.mode = .dormant ∧ (dormant 0 true).hub.boot.wake = true ∧
    (dormant 0 true).hub.boot.handshake = false ∧ (dormant 0 true).hub.cfg.partner.enabled = true ∧
    (dormant 0 false).hub.cfg.partner.enabled = false := by decide

theorem wit_reset_pin : (full .voted).hub.power.held = false ∧ (full .voted).hub.power.mode ≠ .off ∧ 5000 ≤ 5000 ∧ 3999 < 4000 := by decide

/-! ### Lanes and the vote -/

/-- The same hub with its vote changed. -/
def voting (f : Vote → Vote) (m : Mode) : State := (full m).modHub (fun h => { h with vote := f h.vote })

def vec0 : VoteVec := ⟨10, false, false, 0x4000⟩
def sig0 : SigFrame := ⟨10, List.replicate 8 0, List.replicate 8 0, 0⟩

/-- Lane 1 has a vector and a signature frame of the present tick. -/
def sending : State := (full .voted).modLane 1 (fun l => { l with
  own := { l.own with tick := 10 }, sigs := l.sigs.set 1 (some sig0), vec := some vec0 })

theorem wit_frames : sending.linked 0 1 = true ∧ (sending.lane 1).own.tick = (sending.lane 0).tick % 65536 ∧
    (sending.lane 1).tick % 65536 = (sending.lane 0).tick % 65536 ∧ (sending.lane 1).sigs[(1 : LaneId)] = some sig0 ∧
    sig0.tick = (sending.lane 0).tick % 65536 ∧ (sending.lane 1).vec = some vec0 ∧ vec0.tick = (sending.lane 0).tick % 65536 ∧
    sending.hub.inject.armed = [] ∧ sending.hub.time.running = true ∧ (sending.hub.laneState 1).powered = true := by decide

/-- With every receipt vector in, all three contributing lanes are selected; without lane 0's own frame in sight of any other, none is. -/
theorem wit_selection :
    ((full .voted).selection 0).filterMap ((full .voted).framesOf 0) ≠ [] ∧
    (let s := (full .voted).modLane 0 (fun l => { l with receipts := ⟨#[some 0, some 0, some 0, none], rfl⟩ })
     (s.selection 0).filterMap (s.framesOf 0) = []) ∧
    ((full .voted).hub.cfg.sdOf 0).enabled = true := by decide

/-- The self-test's victim, and a state without one. -/
theorem wit_victim : (full .voted).victim 0 = none ∧
    (let s := (full .voted).modLane 1 (fun l => { l with tick := 10 + (full .voted).hub.selftestAt })
     s.victim 1 = some (1, 1)) := by decide

theorem wit_no_majority : (voting id .voted).hub.vote.votedTick ≠ some (voting id .voted).hub.time.tick ∧ (voting id .voted).hub.active ≠ [] ∧
    (voting id .voted).hub.agreedOf (voting id .voted).hub.vote.vecsSA = none := by decide

/-- Two of three lanes agree in both halves. -/
theorem wit_majority : (let s := voting (fun v => { v with
      vecsSA := ⟨#[some vec0, some vec0, none, none], rfl⟩
      vecsSB := ⟨#[none, some vec0, some vec0, none], rfl⟩ }) .voted
    s.hub.agreedOf s.hub.vote.vecsSA = some 0x4000 ∧ s.hub.agreedOf s.hub.vote.vecsSB = some 0x4000 ∧ s.hub.power.mode.isRunning = true) := by
  decide

/-! ### State copies, SPLIT and JOIN -/

/-- A copy to lane 3 in a phase. -/
def copying (kind : CopyKind) (src : Option LaneId) (phase : Nat) (m : Mode) : State :=
  voting (fun v => { v with copy := some ⟨3, kind, src, false, phase, 0, 1⟩, laneState := ⟨#[.active, .active, .active, .resync], rfl⟩ }) m

theorem wit_loading :
    (let s := voting (fun v => { v with split := .loading, splitSchedule := 0, laneState := ⟨#[.active, .active, .splitB, .off], rfl⟩ }) .split
     s.hub.laneState 2 = .splitB ∧ s.hub.vote.split = .loading ∧ s.hub.schedule s.hub.vote.splitSchedule = some sched0) ∧
    (let s := copying .warm (some 0) 0 .voted
     s.hub.laneState 3 ≠ .splitB ∧ (s.hub.vote.copy.map (fun c => (c.target, c.phase))) = some (3, 0) ∧
     s.hub.mainSchedule.bind s.hub.schedule = some sched0) := by decide

theorem wit_copy_pass : (let s := copying .warm (some 0) 1 .voted
    (s.hub.vote.copy.map (fun c => (c.source, c.phase))) = some (some 0, 1) ∧ (0 : LaneId) ≠ 3 ∧ s.laneSchedule 0 = some sched0) := by decide

theorem wit_takeover : ∀ kind ∈ [CopyKind.warm, .join, .powerOn, .inPlace],
    (let s := copying kind (some 0) 2 .voted
     (s.hub.vote.copy.map (fun c => (c.source, c.phase, c.kind))) = some (some 0, 2, kind) ∧ s.hub.atBoundary = true ∧
     s.hub.vote.toPower = 0 ∧ kind ≠ .splitJoin) ∧
    (let s := copying kind (some 0) 2 .duplex
     s.hub.power.mode = .duplex) := by decide

theorem wit_takeover_without_source : (let s := copying .powerOn none 2 .service
    (s.hub.vote.copy.map (fun c => (c.source, c.phase, c.kind))) = some (none, 2, .powerOn) ∧ s.hub.atBoundary = true ∧
    s.hub.vote.toPower = 0) := by decide

theorem wit_takeover_join : (let s := copying .splitJoin (some 0) 2 .split
    (s.hub.vote.copy.map (fun c => (c.phase, c.kind))) = some (2, .splitJoin) ∧ s.hub.atBoundary = true ∧ s.hub.vote.toPower = 0 ∧
    s.hub.vote.toJoin = 0) := by decide

theorem wit_self_test : ∀ after, after < 3 →
    (let s := voting (fun v => { v with selfTests := [⟨3, after⟩] }) .voted
     s.hub.vote.selfTests.find? (fun y => y.lane == 3) = some ⟨3, after⟩ ∧ (s.hub.copySource 3).isSome = true ∧ s.hub.vote.copy = none) := by
  decide

theorem wit_engine_copy : (let s := voting (fun v => { v with engineCopy := [(0, 7, 0)] }) .voted
    s.hub.atBoundary = true ∧ (0, 7, 0) ∈ s.hub.vote.engineCopy ∧ 0 < s.hub.sentence) := by decide

theorem wit_latent_limit : (full .duplex).hub.atBoundary = true ∧ (full .duplex).hub.power.mode ≠ .voted ∧
    (let s := voting (fun v => { v with latentPending := 4 }) .voted
     s.hub.atBoundary = true ∧ s.hub.power.mode = .voted ∧ s.hub.laneState 2 = .active ∧ s.hub.copyBusy = false ∧
     s.hub.vote.latentPending = 2 ^ (2 : LaneId).val ∧ (allLanes.filter (fun j => s.hub.laneState j == .spareWarm)).head? = some 3) := by decide

/-- A SPLIT of lane 2 at its boundary, with the lanes as they were, or after the module has left its mode. -/
def splitting (m : Mode) : State := voting (fun v => { v with
  split := .pending, splitTarget := 1, groupB := 4, splitLanes := v.laneState, splitMode := .voted }) m

theorem wit_split_boundary : (let s := splitting .voted
    s.hub.vote.split = .pending ∧ s.hub.atBoundary = true ∧ s.hub.vote.splitTarget ≤ s.hub.sentence ∧
    (∀ l : LaneId, bit s.hub.vote.groupB l.val = true ∨ s.hub.vote.splitLanes[l] = .active → s.hub.laneState l = s.hub.vote.splitLanes[l]) ∧
    s.hub.power.mode = s.hub.vote.splitMode) ∧ (splitting .duplex).hub.power.mode ≠ (splitting .duplex).hub.vote.splitMode := by decide

theorem wit_group_b_start :
    (let s := (voting (fun v => { v with split := .loading, laneState := ⟨#[.active, .active, .splitB, .off], rfl⟩ }) .split).modLane 2
      (fun l => { l with loaded := true })
     s.hub.vote.split = .loading ∧ s.hub.atBoundary = true ∧ (∃ l, s.hub.laneState l = .splitB) ∧
     (∀ l, s.hub.laneState l = .splitB → (s.lane l).loaded = true)) := by decide

/-- A JOIN at its boundary, with a group B lane that has been copied, and without group B. -/
def joining (b : Bool) (m : Mode) : State := voting (fun v => { v with
  split := .joinPending, splitTarget := 1, splitMode := .split
  splitLanes := if b then ⟨#[.active, .active, .splitB, .off], rfl⟩ else ⟨#[.active, .active, .off, .off], rfl⟩
  joined := if b then 4 else 0
  laneState := ⟨#[.active, .active, .resync, .off], rfl⟩ }) m

theorem wit_join_boundary :
    (∀ b : Bool, (let s := joining b .split
      s.hub.vote.split = .joinPending ∧ s.hub.atBoundary = true ∧ s.hub.vote.splitTarget ≤ s.hub.sentence ∧
      (∀ l : LaneId, s.hub.vote.splitLanes[l] = .active → s.hub.laneState l = .active) ∧ s.hub.power.mode = .split)) ∧
    (∀ l : LaneId, (joining false .split).hub.vote.splitLanes[l] ≠ .splitB) ∧
    (∃ l : LaneId, (joining true .split).hub.vote.splitLanes[l] = .splitB) ∧
    ((groupLanes (joining true .split).hub.vote.joined).filter (fun l => (joining true .split).hub.laneState l == .resync)).head? = some 2 ∧
    (joining true .safe).hub.power.mode ≠ .split := by decide

/-! ### Runtime, measurement and PWM -/

/-- Task 0 of period 2 in the last tick of cycle 4, counted from T_a = 1, or in the first tick of cycle 5. -/
def tasked (tA : Nat) : State := (full .voted).modHub (fun h => { h with power := { h.power with tA := tA } })

theorem wit_application_start : (let s := (full .service).modHub (fun h => { h with power := { h.power with pending := some ⟨.voted, false, 7⟩ } })
    s.hub.power.pending = some ⟨.voted, false, 7⟩ ∧ s.hub.sched.selMain.bind s.hub.schedule = some sched0 ∧ s.hub.atBoundary = true ∧
    s.hub.power.mode = .service ∧ (s.hub.laneState 0).powered = true ∧ s.hub.laneState 0 ≠ .outvoted) := by decide

def rtReq (kind address : Nat) : RtReq := ⟨1, kind, 0, 0, 5, address, [], [1#8, 2#8, 3#8, 4#8], 11⟩

/-- A change present for the cycle after the task's, in a region of its task, and outside every region. -/
theorem wit_apply_step : ∀ x ∈ [(1, storeBase + 0x10000), (1, storeBase), (2, storeBase + 0x10040), (3, 0), (4, 0)],
    (let s : State := { tasked 1 with snap := { (tasked 1).snap with rt.present := some (rtReq x.1 x.2) } }
     s.taskTick 0 0 = some (4, s.hub.cfg.period 0 - 1) ∧ s.snap.rt.present = some (rtReq x.1 x.2) ∧ (rtReq x.1 x.2).task = 0 ∧
     (rtReq x.1 x.2).cycle = 4 + 1) := by decide

theorem wit_input_step : (tasked 0).taskTick 0 0 = some (5, 0) ∧ ((tasked 0).lane 0).mem.wf = true := by decide

theorem wit_release_step :
    (tasked 1).taskTick 0 0 = some (4, (tasked 1).hub.cfg.period 0 - 1) ∧ (tasked 1).hub.inject.armed = [] ∧
    bit (((tasked 1).lane 0).mem.readLe (tcbAddr 0 + 16) 4) 0 = false ∧
    (let s := (tasked 1).modLane 0 (fun l => { l with mem := l.mem.writeLe (tcbAddr 0 + 16) 4 1 })
     bit ((s.lane 0).mem.readLe (tcbAddr 0 + 16) 4) 0 = true) := by decide

theorem wit_monitor_step : (let s := (tasked 1).modHub (fun h => { h with cfg.safety := { task := 0 } :: List.replicate 7 {} })
    (s.hub.cfg.safety.getD 0 {}).used = true ∧ s.laneRuns 0 = true ∧ s.hub.suppressed 0 = false ∧ s.hub.cfg.period 0 ≠ 0 ∧
    s.hub.power.tA ≤ (s.lane 0).tick ∧ ((s.lane 0).tick - s.hub.power.tA) % s.hub.cfg.period 0 = s.hub.cfg.period 0 - 1) := by decide

/-- Two lanes hold equal frozen data; and none. -/
theorem wit_retained_copy :
    (let s := ((full .voted).modHub (fun h => { h with rt := { h.rt with copying := some (4, 10) } })).modLane 0 (fun l => { l with frozen := [1#8] })
     s.hub.rt.copying = some (4, 10) ∧ s.hub.sourceLane = some 0 ∧
     (s.hub.active.filter (fun k => crc32 (s.lane k).frozen == crc32 (s.lane 0).frozen)).length = 1) ∧
    ((full .voted).hub.active.filter (fun k => crc32 ((full .voted).lane k).frozen == crc32 ((full .voted).lane 0).frozen)).length = 3 := by decide

theorem wit_safety_function : (({ state := 5 } : SfState).transit {} .mixed false true false).state = 2 := by
  decide

/-! ### Measurement, PWM and trips -/

theorem wit_measurement : (full .voted).hub.time.running = true ∧ ((full .voted).hub.laneState 0).powered = true ∧
    ((full .voted).hub.cfg.sdOf 0).enabled = true ∧ ((full .voted).lane 0).sd[(0 : Fin 16)].clockLoss = false ∧
    ((full .voted).lane 0).sd[(0 : Fin 16)].stuck = false ∧ (full .voted).hub.cfg.groupChannels 0 ≠ [] ∧
    (0 : Fin 16).val ∈ (full .voted).hub.cfg.groupChannels 0 ∧ (full .voted).hub.faults.log.length < 8000 := by decide

theorem wit_preset_switch : (let s := (full .voted).modHub (fun h => { h with meas.switches := [⟨15, 10, 3, false⟩] })
    s.hub.meas.switches = [⟨15, 10, 3, false⟩] ∧ (s.lane 0).tick = 10 ∧ (s.lane 0).sd[(15 : Fin 16)].preset ≠ 3) := by decide

/-- An auto-zero measurement that is requested, and one that ends within its limit and beyond it. -/
def zeroing (sum : Int) : State := (full .voted).modLane 0 (fun l => { l with
  mem := l.mem.setAz 0 2 0 0, az := l.az.set 0 { left := 0, sum := sum } })

theorem wit_autozero : ((full .voted).hub.cfg.sdOf 0).azPairs ≠ 0 ∧ ((full .voted).hub.cfg.sdOf 0).azMode = 1 ∧
    (((full .voted).lane 0).mem.chan 0).azState = 0 ∧ (((zeroing 0).lane 0).mem.chan 0).azState = 2 ∧ ((zeroing 0).lane 0).az[(0 : Fin 16)].left = 0 ∧
    (divEven ((zeroing 400).lane 0).az[(0 : Fin 16)].sum 400).natAbs ≤ ((zeroing 400).hub.cfg.sdOf 0).azLimit ∧
    ((zeroing 0).hub.cfg.sdOf 0).azLimit < (divEven ((zeroing 400000000).lane 0).az[(0 : Fin 16)].sum 400).natAbs := by decide

theorem wit_averaging : ∀ bad : Bool, (let s := (full .voted).modHub (fun h => { h with
      meas.avg := some { channel := 15, index := 3, ticks := 1, left := 0, physical := 0, load := 0, after := 9, bad := bad } })
    (s.hub.meas.avg.map (fun a => (a.left, a.bad, a.channel))) = some (0, bad, 15)) := by decide

/-- Pair 0 complementary with a carrier, enabled. -/
def switching : State := (full .voted).modHub (fun h => { h with
  cfg.pairs := { mode := 0, half := 1000 } :: List.replicate 5 {}
  pwm := { h.pwm with enable := 1, running := 1 } })

theorem wit_pwm : switching.hub.time.running = true ∧ 4 * switching.hub.time.tickAt ≤ 19996000 ∧ (switching.hub.pairCfg 0).mode = 0 ∧
    ¬ ((vgetN switching.hub.pwm.outs 0 {}).high = true ∧ (vgetN switching.hub.pwm.outs 1 {}).high = true) ∧
    (switching.hub.pairCfg 0).mode ≠ 2 ∧ switching.hub.carrierAt 0 19996000 = 0 ∧ bit switching.hub.pwm.running 0 = true ∧
    bit (switching.hub.blockedPairs ||| switching.hub.trippedPairs) 0 = false ∧ switching.hub.power.mode.isRunning = true := by decide

theorem wit_pwm_stopped_pair : bit (full .voted).hub.pwm.running 5 = false ∧ bit 0x1F 5 = false := by decide

/-- TRIP_IN0 trips pair 0 when high; TRIP_IN1 is disabled. -/
def tripping : State := switching.modHub (fun h => { h with
  cfg.trip.ins := [(1, true), (0, false), (0, false), (0, false)]
  pwm := { h.pwm with tripLatch := 2 ^ 32 + 2 ^ 33, ins := 1 } })

theorem wit_trips : (tripping.hub.cfg.trip.ins.getD 0 (0, false)) = (1, true) ∧ (true = (tripping.hub.cfg.trip.ins.getD 0 (0, false)).2) ∧
    (tripping.hub.cfg.trip.ins.getD 0 (0, false)).1 ≠ 0 ∧ (false ≠ (tripping.hub.cfg.trip.ins.getD 0 (0, false)).2) ∧
    tripping.hub.sourceActive 32 = true ∧ tripping.hub.sourceActive 33 = false ∧ bit (2 ^ 35) 35 = true := by decide

/-- A readback that differs for one step longer than the window. -/
theorem wit_pwm_readback : (tripping.hub.pwm.buffersOff = false) ∧ 10 * tripping.hub.cfg.trip.window < 51 ∧
    2 % 3 ≠ (tripping.hub.at_ 0).pwmPin 0 := by decide

/-! ### Field inputs and outputs -/

/-- DO 0 an output with off-pulses, DO 1 an input, DO 2 safe ON; SO 0 and 1 paired; the stage runs. -/
def fieldCfg : Cfg :=
  { cfg0 with
    fieldOut := { dos := [{ mode := 0, offpulse := true }, { mode := 1 }, { mode := 0, safe := 1 }] ++ List.replicate 13 {}, sos := [1, 1] ++ List.replicate 6 2 }
    fieldIn := { wire := 1 }
    safety := { task := 0, diA := 0, diB := 1, tpA := 0, tpB := 1 } :: List.replicate 7 {} }

def field (f : Stage → Stage) : State := (full .voted).modHub (fun h => { h with
  cfg := fieldCfg, stage := f { h.stage with run := true, closed := Vector.replicate 2 true } })

/-- An output channel in a state. -/
def outCh (k : Fin 24) (c : OutCh) : State := field (fun g => { g with ch := g.ch.set k c })

theorem wit_field_inputs : ((field id).hub.laneState 0).powered = true ∧ (field id).hub.diBlind 23 = false ∧
    ((field id).lane 0).di[(23 : Fin 24)].level ≠ true ∧ bit (field id).hub.cfg.fieldIn.wire 0 = true ∧ (field id).hub.stage.run = true ∧
    ((field id).hub.cfg.doOf 1).mode = 1 ∧ bit (field id).hub.stage.doInput 1 = false ∧
    (field (fun g => { g with doRun := g.doRun.set 1 3 })).hub.stage.doRun[(1 : Fin 16)] = 3 ∧
    (field (fun g => { g with doRun := g.doRun.set 1 2 })).hub.stage.doRun[(1 : Fin 16)] < 3 := by decide

def stageFrame (safe : Bool) : StageFrame := ⟨10, 5, 1, safe⟩

theorem wit_stage_frames : ∀ safe : Bool, (let s := field (fun g => { g with sent := some (stageFrame safe), last := some (9, 0) })
    s.hub.stage.run = true ∧ s.hub.stage.sent = some (stageFrame safe) ∧ s.hub.stage.wdTripped = false ∧
    s.hub.stage.last = some (9, 0) ∧ 9 < (stageFrame safe).tick ∧ s.hub.stage.test = none) := by decide

/-- A frame that is exactly 0.98 of the watchdog's limit old. -/
theorem wit_stage_watchdog : (let s := field (fun g => { g with last := some (9, 0) })
    98 * s.hub.cfg.fieldOut.watchdog * s.hub.nCycles ≤ 100 * ((s.hub.at_ 196000).time.now - 0)) := by decide

theorem wit_test_output_end : (let s := field (fun g => { g with test := some { channel := 23, endAt := 5000000 } })
    (s.hub.stage.test.map (fun x => (x.channel, x.endAt))) = some (23, 5000000) ∧ 5000000 ≤ (s.hub.at_ 0).time.now) := by decide

theorem wit_output_on : (let s := outCh 0 { cmd := true, changedAt := 3000000 }
    (s.hub.out 0).cmd = true ∧ (s.hub.at_ 0).settled 0 = true ∧ s.hub.faultActive .fieldSupplyLow [outGroup 0] = false ∧
    vgetN s.hub.stage.closed (outGroup 0) false = true) := by decide

theorem wit_output_off : (let s := outCh 16 { changedAt := 3000000 }
    s.hub.cfg.outUsed 16 = true ∧ (s.hub.out 16).cmd = false ∧ (s.hub.at_ 0).settled 16 = true ∧ (s.hub.out 16).ext = false ∧
    (s.hub.cfg.partnerOf 16).isSome = true) := by decide

def search0 (b : Bool) : Search := { channel := 16, detectedAt := 0, cause := 0, opened := 0, searching := b }

theorem wit_search : ∀ b : Bool, (let s := field (fun g => { g with searches := [search0 b], ch := g.ch.set 0 { cmd := true } })
    s.hub.stage.searches = [search0 b] ∧ (search0 b).searching = b ∧ s.hub.cfg.pulsed 0 = true ∧ (s.hub.out 0).cmd = true ∧
    (search0 b).detectedAt + 200800000 ≤ (s.hub.at_ 200800000).time.now) := by decide

theorem wit_channel_clear : ∀ rb, rb < 3 → (let s := outCh 23 { faulty := true, readback := rb }
    s.hub.power.mode.isRunning = true ∧ (s.hub.out 23).faulty = true ∧ (s.hub.out 23).readback = rb) := by decide

theorem wit_test_pulses : (let s := field (fun g => { g with tpPresent := 8, window := some 0 })
    bit s.hub.stage.tpPresent 3 = true ∧ s.hub.stage.window = some 0 ∧ s.hub.stage.window ≠ some 3 ∧ s.hub.cfg.supplyOf 0 = some 0 ∧
    s.hub.inject.armed = [] ∧ s.hub.stage.testResult[(0 : Fin 24)] < 2 ∧ s.hub.stage.tpOff[(3 : Fin 4)] = none) := by decide

/-- A failed result stays; a supply was switched off exactly 1 s ago. -/
theorem wit_test_results_stay : (let s := field (fun g => { g with testResult := g.testResult.set 23 2, tpOff := g.tpOff.set 3 (some 0) })
    2 ≤ s.hub.stage.testResult[(23 : Fin 24)] ∧ s.hub.stage.tpOff[(3 : Fin 4)] = some 0 ∧
    0 + 1000000000 ≤ (s.hub.at_ 1000000000).time.now) := by decide

theorem wit_off_pulse : (let s := outCh 0 { cmd := true, onSince := 0 }
    s.hub.cfg.pulsed 0 = true ∧ (s.hub.out 0).cmd = true ∧ (s.hub.out 0).pulse = none ∧
    (s.hub.out 0).onSince + 200000000 ≤ (s.hub.at_ 200000000).time.now) ∧
    (let s := outCh 0 { cmd := true, pulse := some 4700000 }
     (s.hub.out 0).pulse = some 4700000 ∧ 4700000 + 1000 * s.hub.cfg.offpulseUs ≤ (s.hub.at_ 0).time.now ∧
     2 * 150 ≤ s.hub.cfg.offpulseUs ∧ s.hub.cfg.offpulseUs < 2 * 151) := by decide

/-! ### The consist network -/

def netRec : NetworkCfg := { NetworkCfg.absent with pathLossMs := 100, linkDownMs := 100, supervisionMs := 2000, entryForgetMs := 400, nodeForgetS := 60, flags := 2 }

/-- A schedule with a gate entry at tick 0. -/
def gateSched : Schedule := { sched0 with gates := [⟨0, 8, 1, 5⟩] }

def frame0 : TxFrame := { id := 0, cls := 3, bytes := zeros 60, seq := none, kind := .other }

/-- The consist network in use: E0, E1 and the spare E2 up; E0 holds a frame; a publication of task 0 and a subscription pulled. -/
def netState (f : Net → Net) (sc : Nat) : State := (full .voted).modHub (fun h => { h with
  cfg := { h.cfg with net := { h.cfg.net with
    network := some netRec
    queues := { direction := 1, owner := 1, ringLog2 := 4 } :: List.replicate 63 {}
    pubs := [⟨1000, 0xE0000001, 0, 1, 3, 0, 0, 4, 0, 0⟩]
    subs := [⟨1000, 0, 0, 0, 4, 100, true, false, 2⟩] } }
  time := { h.time with now := 100000000000 + sc }
  sched := { h.sched with schedules := [gateSched] }
  net := f { h.net with
    ports := Vector.replicate 4 { up := true, everUp := true, ready := [frame0] }
    pubs := [{}]
    pubEnable := 1
    subs := [{ lastAt := 99900000000, valid := true }] } })

theorem wit_port_poll : (netState id 0).hub.portOn 0 = true ∧ (netState id 0).hub.portOn 3 = true ∧
    ((netState (fun n => { n with ports := Vector.replicate 4 {} }) 0).hub.port 3).up = false ∧ bit 8 3 = true := by decide

theorem wit_gate : (netState id 0).hub.mainSchedule.bind (netState id 0).hub.schedule = some gateSched ∧
    (gateSched.gates[0]?.map GateEntry.tick) = some 0 ∧ (netState id 0).hub.time.running = true ∧ (netState id 0).hub.tickInSentence = 0 ∧
    bit 1 0 = true ∧ bit 1 2 = false := by decide

theorem wit_port_receives : (netState id 0).hub.portOn 0 = true ∧ ((netState id 0).hub.port 0).up = true ∧
    (netState id 0).hub.portOn 3 = true := by decide

/-- A frame with a PRP trailer, known for exactly the forget time, and one nanosecond longer. -/
def prpFrame : Bytes := zeros 11 ++ [9#8] ++ zeros 52 ++ beBytes 2 7 ++ beBytes 2 (10 * 4096 + 56) ++ beBytes 2 0x88FB

def heardTwice (ago : Nat) : State := netState (fun n => { n with dups := [(9, 7, 100000000000 - ago)] }) 0

theorem wit_duplicate : takeTrailer prpFrame = some (prpFrame.take 64, 7) ∧ be48 (prpFrame.take 64) 6 = 9 ∧
    ((heardTwice 400000000).hub.at_ 0).time.now - (100000000000 - 400000000) ≤ ((heardTwice 0).hub.at_ 0).netCfg.entryForgetMs * 1000000 ∧
    (((heardTwice 400000001).hub.at_ 0).prpRx prpFrame).2.2 = false := by decide

theorem wit_port_sends : ((netState id 0).hub.port 0).current = none ∧ (netState id 0).hub.nextFrame 0 = some frame0 ∧
    frame0.seq = none ∧ (netState id 0).hub.portLan 1 = some 1 ∧ (netState id 0).hub.portLan 3 = none ∧
    (((netState (fun n => { n with ports := n.ports.set 0 { up := true, current := some frame0 } }) 0).hub.port 0).current) = some frame0 := by decide

theorem wit_substitution : ∀ v, v < 3 → (let s := netState (fun n => { n with subst := 1, substPending := some (v, 1) }) 0
    s.hub.net.substPending = some (v, 1) ∧ (s.hub.at_ 0).atBoundary = true ∧ 1 ≤ (s.hub.at_ 0).sentence ∧
    (s.hub.net.subst = 1) ∧ ((s.hub.at_ 0).port 0).up = true) := by decide

theorem wit_doorbells : (netState id 0).hub.parserRing 0 = true ∧ (netState id 0).hub.laneState 2 = .active := by decide

theorem wit_subscription : (netState id 0).hub.cfg.net.subs[0]?.map SubCfg.timeoutMs = some 100 ∧
    99900000000 + 100 * 1000000 ≤ ((netState id 0).hub.at_ 0).time.now ∧ (netState id 0).hub.faultActive .pdTimeout [0] = false ∧
    (netState id 0).hub.net.subs[0]?.map SubState.lastAt = some 99900000000 ∧
    (netState id 0).hub.net.subs[0]?.map SubState.prTick = some none ∧
    (netState id 0).hub.cfg.net.subs[0]?.map SubCfg.pull = some 2 := by decide

/-- The last tick before T_a + P: instance 0 of a publication of every period. -/
theorem wit_publication : (netState id 0).hub.publishing = true ∧ bit (netState id 0).hub.net.pubEnable 0 = true ∧
    ((netState id 0).hub.cfg.tasks.getD 0 {}).period = 2 ∧ (netState id 0).hub.power.tA < (netState id 0).hub.time.tick ∧
    ((netState id 0).hub.time.tick - (netState id 0).hub.power.tA) % 2 = 0 ∧
    ((((netState id 0).hub.time.tick - (netState id 0).hub.power.tA) / 2 - 1) % 1 = 0) := by decide

theorem wit_path_loss : (let s := netState (fun n => { n with lanLast := ⟨#[99900000000, 99900000001], rfl⟩ }) 0
    s.hub.cfg.net.network.isSome = true ∧
    (s.hub.at_ 0).netCfg.pathLossMs * 1000000 ≤ (s.hub.at_ 0).time.now - vgetN (s.hub.at_ 0).net.lanLast 0 0 ∧
    (s.hub.at_ 0).time.now - vgetN (s.hub.at_ 0).net.lanLast 1 0 < (s.hub.at_ 0).netCfg.pathLossMs * 1000000) := by decide

theorem wit_supervision : (netState id 0).hub.net.supAt + (netState id 0).hub.netCfg.supervisionMs * 1000000 ≤
    ((netState id 0).hub.at_ 0).time.now := by decide

def arpEntry (ago tries : Nat) : ArpEntry := { iface := 1, ip := 5, mac := none, at_ := 100000000000 - ago, tries := tries }

/-- A third request is due 2 s after the first; after 3 s the entry goes. -/
theorem wit_arp : ∀ a ∈ [(2000000000, 2), (3000000000, 3)], (let s := netState (fun n => { n with arp := [arpEntry a.1 a.2] }) 0
    s.hub.net.arp.find? (fun e => e.iface == 1 && e.ip == 5 && e.mac.isNone) = some (arpEntry a.1 a.2) ∧
    ((arpEntry a.1 a.2).at_ + 3000000000 ≤ (s.hub.at_ 0).time.now ↔ a.2 = 3) ∧
    (arpEntry a.1 a.2).at_ + a.2 * 1000000000 ≤ (s.hub.at_ 0).time.now) := by decide

theorem wit_new_address : ∀ i, i < 2 → (let s := netState (fun n => { n with
      ipPending := some ⟨1, i, 1, 2, 3, 4, 5⟩, gratuitous := some (i, 100000000000) }) 0
    s.hub.net.ipPending = some ⟨1, i, 1, 2, 3, 4, 5⟩ ∧ (s.hub.at_ 0).atBoundary = true ∧ 1 ≤ (s.hub.at_ 0).sentence ∧
    s.hub.net.gratuitous = some (i, 100000000000) ∧ 100000000000 ≤ (s.hub.at_ 0).time.now) := by decide

/-! ### CAN and the Yebor bus -/

def canFrame0 (tries : Nat) (abort : Bool) : CanFrame :=
  { entry := { id := 0x123, flags := 0, dlc := 1, index := 0, data := [7#8] }, src := .slot 0, tries := tries, abort := abort }

/-- Controller 0 joined, with a frame at the head of its FIFO and two filters, the first of which lets 0x100 to 0x1FF through. -/
def can (f : CanCtl → CanCtl) : State := (full .voted).modHub (fun h => { h with
  cfg := { h.cfg with can := { h.cfg.can with
    filters := [⟨0, true, 4, 0x100, 0x700⟩, ⟨0, false, 4, 0x700, 0x7FF⟩] } }
  can := { h.can with ctl := h.can.ctl.set 0 (f { on := true, joined := true, fifo := [canFrame0 0 false] }) } })

theorem wit_can_joins : (can (fun x => { x with integrating := true, joined := false })).hub.inject.armed = [] ∧
    ((can (fun x => { x with integrating := true, joined := false })).hub.canCtl 0).on = true ∧
    ((can (fun x => { x with integrating := true, joined := false })).hub.canCtl 0).integrating = true ∧
    ((can (fun x => { x with recovering := true })).hub.canCtl 0).recovering = true := by decide

theorem wit_can_attempt : (can id).hub.canChoice 0 = some 0 ∧ ((can id).hub.canCtl 0).attempt = none ∧
    ((can id).hub.canCtl 0).busOff = false ∧ ((can id).hub.canCtl 0).listen = false ∧
    (can (fun x => { x with attempt := some 0 })).hub.canCurrent 0 = some (canFrame0 0 false) ∧
    0 < ((can id).hub.canCfg 0).retryLimit := by decide

/-- Attempts at the limit of 15 and one below it, with error counters that reach 255. -/
theorem wit_can_errors : ∀ n ∈ [14, 15], (let s := can (fun x => { x with attempt := some 0, tec := 247, fifo := [canFrame0 n false] })
    s.hub.canCurrent 0 = some (canFrame0 n false) ∧ (s.hub.canCtl 0).tec + 8 ≤ 255 ∧ (s.hub.canCfg 0).txMode = 0 ∧
    ((canFrame0 n false).tries + 1 ≤ (s.hub.canCfg 0).retryLimit ↔ n = 14)) := by decide

def canEntryOf (id : Nat) : CanEntry := { id := id % 2 ^ 29, flags := 0, dlc := 0, index := 0, data := [] }

theorem wit_can_filters : ∀ n ∈ [0x1FF, 0x200, 0x700], (
    let fs := (can id).hub.cfg.can.filters.filter (fun f => f.controller == 0)
    ((fs.filter (fun f => f.hits (canEntryOf n) && f.accept)).length = 1 ↔ n = 0x1FF) ∧
    (fs.all (fun f => !f.hits (canEntryOf n)) = true ↔ n = 0x200)) := by decide

theorem wit_can_requests : ((can (fun x => { x with busOff := true })).hub.canCtl 0).busOff = true ∧
    (can id).hub.power.mode.isRunning = true ∧ ((can id).hub.canCfg 0).txOwner = 2 ∧ bit 5 2 = true ∧ bit 5 1 = false := by decide

/-- Controller 0 with transmit buffers: buffer 2 attempts. -/
def canBuffers : State := (can (fun x => { x with attempt := some 2, bufs := Vector.replicate 3 (some (canFrame0 0 false)) })).modHub
  (fun h => { h with cfg := { h.cfg with can := { h.cfg.can with ctl := { enabled := true, txMode := 1 } :: List.replicate 3 {} } } })

theorem wit_can_buffers : (canBuffers.hub.canCfg 0).txMode ≠ 0 ∧ (canBuffers.hub.canCtl 0).attempt = some (2 : Fin 3).val ∧
    canBuffers.hub.canCurrent 0 = some (canFrame0 0 false) := by decide

/-- Node 3: static slot 1 with sync is its own, slot 2 that of node 4; minislot 3 is its own by number. -/
def ybCfg0 : YbCfg :=
  { cluster := { enabled := true, node := 3, coldstart := true, sync := true }
    slots := [⟨1, 3, 3, true, 4, 0, 0⟩, ⟨2, 4, 3, false, 4, 0, 127⟩] }

def yb (st : YbState) (f : Yebor → Yebor) : State := (full .voted).modHub (fun h => { h with
  cfg := { h.cfg with yb := ybCfg0 }
  yb := f { h.yb with state := st, agree := true, tableOk := true, roleOk := true } })

theorem wit_yb_cycle : (yb .normal id).hub.inject.armed = [] ∧ (yb .normal id).hub.yb.lossRun < (yb .normal id).hub.ybc.syncLoss ∧
    (yb .normal (fun y => { y with disagreeRun := 7 })).hub.yb.disagreeRun < 8 ∧ (2000 : Int).natAbs ≤ 2000 ∧ ¬ ((-2001 : Int).natAbs ≤ 2000) ∧
    7 ≤ (yb .coldstart (fun y => { y with inState := 7, heard := true })).hub.yb.inState := by decide

theorem wit_yb_own_slot : (yb .normal id).hub.ybSlot 1 = some ⟨1, 3, 3, true, 4, 0, 0⟩ ∧ YbState.normal.timed = true ∧
    (yb .normal id).hub.slotSender ⟨1, 3, 3, true, 4, 0, 0⟩ = some 3 ∧ (yb .normal id).hub.ybc.node = 3 ∧
    (yb .normal id).hub.ybDrivers = true ∧ (yb .coldstart id).hub.ybDrivers = true ∧
    (yb .coldstart (fun y => { y with latches := [(1, false, zeros 4)] })).hub.yb.latches.find? (fun l => l.1 == 1) =
      some (1, false, zeros 4) := by decide

/-- A frame of node 4 in slot 2, received at the window's last nanosecond and one after it. -/
def ybFrame4 : Bytes := ybFrame 0 2 0 4 (zeros 4)

set_option maxRecDepth 20000 in
theorem wit_yb_receives : (yb .normal id).hub.ybExpected 2 ybFrame4 (ybCopy ybFrame4 1500 0) = true ∧
    (yb .normal id).hub.ybExpected 1 ybFrame4 (ybCopy ybFrame4 1500 0) = false ∧ bit (yb .normal id).hub.ybc.channels 1 = true ∧
    (1500 : Int).natAbs ≤ (yb .normal id).hub.ybc.windowNs ∧ (yb .normal id).hub.ybc.windowNs < (-1501 : Int).natAbs := by decide

theorem wit_yb_slot_end : (yb .normal id).hub.ybSlot 2 = some ⟨2, 4, 3, false, 4, 0, 127⟩ ∧ (127 : Nat) < 128 := by decide

def ybEntry0 (n : Nat) : YbEntry := { minislot := 3, channels := 3, data := zeros n, parser := false, index := 0 }

/-- The longest frame that fits at the position of minislot 3, and one byte more. -/
theorem wit_yb_minislot : (let s := yb .normal (fun y => { y with queue := [ybEntry0 108] })
    s.hub.minislotOwner 3 = some s.hub.ybc.node ∧ 3 ∉ s.hub.yb.sent ∧ s.hub.yb.minislot = none ∧ (s.hub.at_ 0).ybClaim 3 = none ∧
    s.hub.yb.queue.find? (fun e => e.minislot == 3) = some (ybEntry0 108) ∧
    s.hub.ybFits 3 108 = true ∧ s.hub.ybFits 3 109 = false) := by decide

/-- Deviations that make the midpoint equal to the limit and exceed it. -/
theorem wit_yb_idle : ∀ d ∈ [(2000 : Int), 2001], (let s := yb .normal (fun y => { y with dev := [(3, d), (4, d)] })
    s.hub.yb.state.timed = true ∧ s.hub.yb.minislot = none ∧ s.hub.ybc.minSync ≤ s.hub.yb.dev.length ∧
    (s.hub.ybc.offsetLimit < (ftm (s.hub.yb.dev.map Prod.snd)).natAbs ↔ d = 2001)) ∧
    (yb .passive id).hub.yb.dev.length < (yb .passive id).hub.ybc.minSync := by decide

theorem wit_yb_coldstart : (yb .listen id).hub.ybSyncSlot = some ⟨1, 3, 3, true, 4, 0, 0⟩ ∧ (yb .listen id).hub.ybc.coldstart = true ∧
    0 + (2 * (yb .listen id).hub.ybCycle + 80 * 3) * 1000 ≤ ((yb .listen id).hub.at_ 1000000000).time.now := by decide

theorem wit_claim_release : (let s := yb .normal (fun y => { y with held := [(9, 4)], silent := [(9, 64)], claims := ⟨#[9, 0, 8, 0], rfl⟩ })
    s.hub.yb.held.any (fun p => p.1 == 9) = true ∧ s.hub.ybc.claimRelease ≤ lookupD s.hub.yb.silent 9 0 ∧
    s.hub.yb.claims[(0 : Fin 4)] = 9 ∧ s.hub.yb.claims[(2 : Fin 4)] ≠ 9) := by decide

/-! ### The rack link and the partner -/

def stn1 : StationCfg := ⟨1, true, false, 5, 0, 0, 1, 4, 4, 10⟩

/-- The rack link drives; station 1 is a host, exchanged in tick 10, and present. -/
def rack (f : Rack → Rack) (g : Station → Station) : State := (full .voted).modHub (fun h => { h with
  cfg := { h.cfg with rack := { h.cfg.rack with
    link := { h.cfg.rack.link with enabled := true }
    stations := [stn1]
    substitutes := [(1, [1#8, 2#8])] } }
  rack := f { h.rack with stations := h.rack.stations.set 1 (g { present := true }) } })

theorem wit_rack_identify : (rack id id).hub.inject.armed = [] ∧ (rack id id).hub.rackDriving = true ∧ (rack id id).hub.rack.window = none ∧
    ((rack id (fun x => { x with lost := some 0 })).hub.station 1).lost.isSome = true ∧
    0 + (rack id id).hub.cfg.rack.link.rescanMs * 1000000 ≤ ((rack id id).hub.at_ 100000000).time.now := by decide

theorem wit_rack_enumeration : (rack (fun k => { k with enumerating := true }) id).hub.rack.enumerating = true ∧
    rackTypeOk 8 8 (zeros 8) = true ∧ (rack id id).hub.stationCfg 1 = some stn1 ∧ stn1.expected = 0 ∧
    (rack id id).hub.stationCfg 30 = none := by decide

def rackReq0 : RackReq := { src := .slot 0, user := 0, station := 1, write := false, flags := 0, address := 0, length := 4, data := [] }
def tagged (q : Option Nat) : Rack → Rack := fun k => { k with
  tags := k.tags.set 63 (some { req := rackReq0, asked := 4, sentEnd := 4000000, quarantine := q }) }

theorem wit_rack_polls : (rack (tagged none) id).hub.rack.outstanding.any (fun n => match vgetN (rack (tagged none) id).hub.rack.tags n none with
      | some t => t.req.station == 1 | none => false) = true ∧
    0 + 10000 ≤ ((rack id id).hub.at_ 0).time.now ∧ stn1.host = true ∧ (((rack id id).hub.at_ 0).hostMessage 1).isNone = true ∧
    ((((rack id (fun x => { x with replies := [(10, [])] })).hub.at_ 0).hostMessage 1).map Prod.fst) = some (10, []) := by decide

theorem wit_rack_exchange : (rack id id).hub.time.running = true ∧ stn1.period ≠ 0 ∧ (rack id id).hub.time.tick % stn1.period = stn1.phase ∧
    (∀ d ∈ ((rack id id).hub.station 1).dues, d.2 ≠ (rack id id).hub.time.tick) ∧ (rack id id).hub.roleCode ≠ 2 := by decide

/-- An exchange reply of station 1 with four bytes of input, and one whose CRC is wrong. -/
def rackReply : Bytes := rackPacket true 1 0 6 (zeros 4 ++ [1#8, 2#8, 3#8, 4#8])

set_option maxRecDepth 20000 in
theorem wit_rack_reply : rackReplyOk rackReply = true ∧ rackTagOk rackReply = true ∧ u8 rackReply 0 % 32 = 1 ∧ u8 rackReply 2 = 6 ∧
    (slice rackReply 5 (be16 rackReply 3)).length = 4 + stn1.inLen ∧ u8 (slice rackReply 5 (be16 rackReply 3)) 0 = 0 ∧
    rackReplyOk (rackReply.set 5 1#8) = false ∧
    (rack (fun k => { k with window := some (1, .exchange 10) }) id).hub.rack.window = some (1, .exchange 10) := by decide

/-- The third silent window makes the station lost. -/
theorem wit_rack_lost : ∀ m ∈ [1, 2], (let s := rack (fun k => { k with window := some (1, .poll) }) (fun x => { x with missed := m })
    s.hub.rack.window = some (1, .poll) ∧ (s.hub.station 1).present = true ∧ (s.hub.stationCfg 1).isSome = true ∧
    (s.hub.cfg.rack.link.lostWindows ≤ min 255 (m + 1) ↔ m = 2)) := by decide

theorem wit_rack_hold : (let s := rack id (fun x => { x with lost := some 0, lostAt := 1000000 })
    (s.hub.station 1).substituted = false ∧ 1000000 + stn1.holdMs * 1000000 ≤ (s.hub.at_ 11000000).time.now ∧
    s.hub.cfg.rack.substitutes.find? (fun p => p.1 == 1) = some (1, [1#8, 2#8])) := by decide

theorem wit_rack_request : ∀ b : Bool, (let s := rack (fun k => { k with waiting := [rackReq0] }) (fun x => { x with present := b })
    s.hub.rack.waiting = rackReq0 :: [] ∧ s.hub.rackDriving = true ∧ (s.hub.station 1).present = b ∧
    (s.hub.at_ 0).fromPrefetch rackReq0 = none ∧ s.hub.rack.freeTag = some 0) := by decide

theorem wit_rack_tags : ∀ q : Option Nat, q = none ∨ q = some 5000000 → (rack (tagged q) id).hub.rack.tags[(63 : Fin 64)] =
    some { req := rackReq0, asked := 4, sentEnd := 4000000, quarantine := q } := by
  rintro q (rfl | rfl) <;> decide

theorem wit_tag_instants : 4000000 + (rack id id).hub.cfg.rack.link.tagTimeoutUs * 1000 ≤ ((rack id id).hub.at_ 14000000).time.now ∧
    5000000 ≤ ((rack id id).hub.at_ 0).time.now := by decide

theorem wit_rack_discards : (let s := rack id (fun x => { x with prefetch := some ⟨0, zeros 4, 0, 4000000⟩, parts := some (0, []) })
    (s.hub.station 1).prefetch = some ⟨0, zeros 4, 0, 4000000⟩ ∧ 4000000 + 1000000 ≤ (s.hub.at_ 0).time.now ∧
    (s.hub.station 1).parts = some (0, []) ∧ 0 + 100000000 ≤ (s.hub.at_ 100000000).time.now) := by decide

theorem wit_enable_req : (rack id (fun x => { x with hold := true })).hub.power.mode.isRunning = true ∧
    bit 2 1 = true ∧ bit 2 31 = false := by decide

/-- The partner link with lane 0 UP, in a role. -/
def partner (r : Role) (f : Partner → Partner) : State := (full .voted).modHub (fun h => { h with
  partner := f { h.partner with role := r, up := h.partner.up.set 0 true } })

theorem wit_partner_lanes : (partner .alone id).hub.inject.armed = [] ∧ (partner .alone id).hub.cfg.partner.enabled = true ∧
    bit (partner .alone id).hub.cfg.partner.lanes 1 = true ∧ (partner .alone id).hub.partner.down[(1 : Fin 2)] = false := by decide

theorem wit_hello : (partner .alone (fun p => { p with handshake := true, helloAt := 4000000 })).hub.partner.handshake = true ∧
    4000000 + 1000000 ≤ ((partner .alone id).hub.at_ 0).time.now ∧ (partner .alone id).hub.linksUp ≠ 0 := by decide

theorem wit_role_change : ∀ r : Role, (let s := partner .alone (fun p => { p with roleNext := some ⟨r, 10, true, 1⟩ })
    s.hub.partner.roleNext = some ⟨r, 10, true, 1⟩ ∧ 10 ≤ s.hub.time.tick) := by
  intro r; cases r <;> decide

/-- The header, the end and the ACK of a copy of 64 bytes in cycle 4. -/
def copyHeader : Bytes := partnerFrame 2 1 0 (zeros 2 ++ beBytes 6 4 ++ beBytes 4 64 ++ [1#8] ++ zeros 11)
def copyEnd : Bytes := partnerFrame 4 1 2 (zeros 2 ++ beBytes 6 4 ++ beBytes 4 (crc32 (zeros 64)))
def copyAck : Bytes := partnerFrame 5 1 0 (beBytes 4 7 ++ zeros 8 ++ [1#8] ++ zeros 3)

set_option maxRecDepth 20000 in
theorem wit_copy_header : partnerFrameOk copyHeader = true ∧ u8 copyHeader 0 = 2 ∧ bit (u8 (partnerPayload copyHeader) 12) 1 = false ∧
    bit (u8 (partnerPayload copyHeader) 12) 3 = false ∧ bit (u8 (partnerPayload copyHeader) 12) 0 = true ∧
    be48 (partnerPayload copyHeader) 2 = 4 ∧ partnerFrameOk (copyHeader.take 5) = false ∧
    (partner .standby id).hub.partner.up[(0 : Fin 2)] = true ∧ (partner .standby id).hub.partner.handshake = false := by decide

def copyIn0 : CopyIn := { cycle := 4, total := 64, data := [(0, zeros 64)] }

set_option maxRecDepth 20000 in
theorem wit_copy_end : partnerFrameOk copyEnd = true ∧ u8 copyEnd 0 = 4 ∧ be48 (partnerPayload copyEnd) 2 = copyIn0.cycle ∧
    assemble 2 0 64 copyIn0.data = some (zeros 64) ∧ crc32 (zeros 64) = be32 (partnerPayload copyEnd) 8 ∧
    (partner .standby (fun p => { p with in_ := some copyIn0 })).hub.partner.in_ = some copyIn0 := by decide

set_option maxRecDepth 20000 in
theorem wit_copy_ack : partnerFrameOk copyAck = true ∧ u8 copyAck 0 = 5 ∧ be32 (partnerPayload copyAck) 0 = 7 ∧
    (partner .active (fun p => { p with awaited := some (7, 0) })).hub.partner.awaited = some (7, 0) ∧ Role.active ≠ .standby := by decide

theorem wit_copy_send : ∀ b : Bool, (let s := partner .active (fun p => { p with switching := b })
    s.hub.p0 ≠ 0 ∧ s.hub.power.tA < s.hub.time.tick ∧ (s.hub.time.tick - s.hub.power.tA) % s.hub.p0 = 0 ∧
    s.hub.power.mode.isRunning = true ∧ s.hub.partner.switching = b ∧ s.hub.partner.out = none ∧ s.hub.sourceLane = some 0) := by decide

theorem wit_copy_sent : (partner .active (fun p => { p with out := some ⟨4, 0, 0, zeros 64⟩ })).hub.partner.out = some ⟨4, 0, 0, zeros 64⟩ := by
  decide

def image2 : ImageDecl := ⟨2, 4, [⟨storeBase, 4⟩]⟩

/-- A complete copy waits at a cycle start. -/
def applying : State := (partner .standby (fun p => { p with kept := some (4, zeros 4) })).modHub (fun h => { h with
  sched := { h.sched with schedules := [{ sched0 with images := [image2] }] } })

theorem wit_copy_apply : applying.hub.partner.kept = some (4, zeros 4) ∧
    (applying.hub.mainSchedule.bind applying.hub.schedule).bind (fun sc => sc.images.find? (fun i => i.kind == 2)) = some image2 ∧
    applying.hub.p0 ≠ 0 ∧ applying.hub.power.tA ≤ applying.hub.time.tick ∧ (zeros 4).length = image2.total ∧
    applying.hub.laneState 3 = .spareWarm := by decide

theorem wit_copy_miss : (let s := partner .standby (fun p => { p with headerAt := 4000000, missCopies := 1, copyHeld := true })
    s.hub.p0 ≠ 0 ∧ 4000000 + 1 * s.hub.p0Ns + s.hub.nCycles ≤ (s.hub.at_ 10000000).time.now ∧
    s.hub.partner.missLimit ≤ min 255 (1 + 1) ∧ s.hub.canPromote = true) := by decide

theorem wit_ack_miss : (partner .active (fun p => { p with awaited := some (7, 4975000) })).hub.partner.awaited = some (7, 4975000) ∧
    4975000 + (partner .active id).hub.nCycles ≤ ((partner .active id).hub.at_ 0).time.now := by decide

/-! ### Memories, locks, mailboxes, sessions, trace and the release -/

theorem wit_scrub : (full .voted).hub.scrubs 0 = true ∧ (full .voted).hub.scrubs 4 = true ∧ (1 : Fin 5) ≠ 0 ∧
    scrubStep 256 (255, 3) = (0, 4) ∧ scrubStep 256 (254, 3) = (255, 3) := by decide

def wear0 (copied : Bool) : WearEntry := { cls := 1, unit := 4, index := 77, counter := 3, state := .pending, born := 1, copied := copied }

theorem wit_spare_substitution : (let s := (full .voted).modHub (fun h => { h with mem := { h.mem with wear := [wear0 true] } })
    (s.modHub (Hub.at_ 5000000)).hub.time.running = true ∧ s.hub.tickInSentence = 0 ∧ s.hub.atBoundary = true ∧
    s.hub.mem.wear.filter (fun e => e.state == .pending || e.state == .noSpare) = [wear0 true] ∧
    s.hub.sparesLeft 1 4 77 ≠ 0) ∧ (wear0 false).is 1 4 77 = true := by decide

def lockState (owner : Nat) : State := (full .voted).modHub (fun h => { h with
  locks := { h.locks with lock := h.locks.lock.set 31 { held := true, owner := owner, station := if owner = 2 then 5 else 0 } } })

/-- A free lock, one held by the reader's master or another, lanes that agree and a lane that is alone. -/
theorem wit_locks : ((full .voted).hub.locks.lock[(31 : Fin 32)]).held = false ∧
    ((lockState 2).hub.locks.lock[(31 : Fin 32)]).held = true ∧ ((lockState 2).hub.locks.lock[(31 : Fin 32)]).owner = (2 : Fin 4).val ∧
    ((lockState 0).hub.locks.lock[(31 : Fin 32)]).owner ≠ (2 : Fin 4).val ∧
    2 ≤ ((lockState 0).hub.active.filter (fun l => bit 6 l.val)).length ∧
    ¬ 2 ≤ ((lockState 0).hub.active.filter (fun l => bit 4 l.val)).length := by decide

/-- Mailbox 15 in a configuration, with words in it. -/
def mailbox (a b : Nat) (x y : List Word) (f : Mailbox → Mailbox) : State := (full .voted).modHub (fun h => { h with
  mb := { h.mb with box := h.mb.box.set 15 (f { sideA := a, sideB := b, station := 1, a2b := x, b2a := y }) }
  partner := { h.partner with up := h.partner.up.set 0 true } })

/-- A lane that pushes exactly as many words as there is room for, and one more. -/
theorem wit_mailbox_push : (let s := mailbox 1 2 (List.replicate 5 0) [] id
    s.hub.inject.armed = [] ∧ (s.hub.box 15).sideA = 1 ∧ (s.hub.laneState 0).powered = true ∧
    8 - (s.snap.box 15).a2b.length - ((s.hub.box 15).pushed[(0 : LaneId)]).length = 8 - (s.snap.box 15).a2b.length ∧
    (List.replicate 8 (0 : Word)).length ≤ 8 - (s.snap.box 15).a2b.length ∧
    8 - ({ s with snap := s.hub }.snap.box 15).a2b.length < (List.replicate 4 (0 : Word)).length) := by decide

theorem wit_mailbox_consumed : (let s := mailbox 1 2 [] [1, 2] (fun m => { m with b2aConsumed := 2 ^ 32 - 1 })
    (15 : Fin 16) ≠ 0 ∧ 0 < (1 % 2 ^ 32 + 2 ^ 32 - (s.hub.box 15).b2aConsumed) % 2 ^ 32 ∧
    (1 % 2 ^ 32 + 2 ^ 32 - (s.hub.box 15).b2aConsumed) % 2 ^ 32 ≤ (s.hub.box 15).b2a.length ∧ s.hub.power.mode.parser = true ∧
    s.hub.silent = false ∧ (s.hub.box 15).sideB = 2) := by decide

/-- A PUSH of two words with the number that is expected. -/
def mbPush2 : Bytes := [15#8, 1#8, 2#8, 255#8] ++ zeros 8

theorem wit_mailbox_frame : (let s := mailbox 1 4 [] (List.replicate 6 0) (fun m => { m with nextIn := 255 })
    u8 mbPush2 0 = (15 : Fin 16).val ∧ u8 mbPush2 1 = 1 ∧ u8 mbPush2 2 = 2 ∧ (s.hub.box 15).sideB = 4 ∧ 4 + 4 * 2 ≤ mbPush2.length ∧
    u8 mbPush2 3 = (s.hub.box 15).nextIn % 256 ∧ (s.hub.box 15).b2a.length + 2 ≤ 8) := by decide

theorem wit_mailbox_resend : (let s := mailbox 1 4 [7] [] (fun m => { m with sent := 1, sentAt := 4000000 })
    (s.hub.box 15).sent ≠ 0 ∧ (s.hub.box 15).sentAt + 1000000 ≤ (s.hub.at_ 0).time.now ∧ s.hub.linksUp ≠ 0 ∧ (s.hub.box 15).a2b ≠ []) := by decide

def mbWake : Bytes := partnerFrame 7 1 0 mbPush2

set_option maxRecDepth 20000 in
theorem wit_mailbox_wake : (let s := (mailbox 1 4 [] [] id).modHub (fun h => { h with power := { h.power with mode := .dormant } })
    s.hub.power.mode = .dormant ∧ s.hub.cfg.partner.enabled = true ∧ partnerFrameOk mbWake = true ∧ u8 mbWake 0 = 7 ∧
    u8 (partnerPayload mbWake) 1 = 1 ∧ u8 (partnerPayload mbWake) 2 = 2 ∧ 4 + 4 * 2 ≤ (partnerPayload mbWake).length ∧
    (s.hub.box 15).sideB = 4) := by decide

/-- No progress for exactly the limit. -/
theorem wit_mailbox_no_progress : (let s := mailbox 1 2 [7] [] id
    (s.hub.box 15).noProgressLimit ≠ 0 ∧ (s.hub.box 15).noProgress = false ∧ (s.hub.box 15).a2b ≠ [] ∧
    (s.hub.box 15).noProgressLimit ≤ (s.hub.at_ 1000000000).mbTimer 15) := by decide

/-! ### Command packets -/

/-- A packet for the Parser: opcode 0x0001, SEQUENCE 8, four bytes of parameters. MB0 needs no TAG. -/
def packet0 : Bytes := [0x59#8, 0x42#8, 1#8, 0#8] ++ beBytes 2 1 ++ beBytes 2 4 ++ beBytes 4 8 ++ zeros 7 ++ [0xFF#8] ++ zeros 4 ++ zeros 4

theorem wit_command : (let s := (full .voted).modHub (Hub.at_ 0)
    let r := packetReq 4 0 0 (fitBytes 24 packet0)
    s.hub.receives 4 0 = true ∧ s.hub.silent = false ∧ packet0.length = 24 + be16 packet0 6 ∧ packet0.take 2 = [0x59#8, 0x42#8] ∧
    r.forward = false ∧ bit (u8 packet0 3) 0 = false ∧ bit (u8 packet0 3) 1 = false ∧
    s.hub.authentic r (packet0.take 28) (packet0.drop 28) = true ∧ (s.hub.admission r (packet0.drop 28)).2 = .accept ∧ r.headerOk = true) := by
  decide

/-- The same over UDP with a key slot that is empty. -/
def packet1 : Bytes := packet0 ++ zeros 16

theorem wit_command_refused : (let s := (full .voted).modHub (Hub.at_ 0)
    let r := packetReq 0 9 9 (fitBytes 24 packet1)
    s.hub.receives 0 9 = true ∧ packet1.length = 40 + be16 packet1 6 ∧
    s.hub.authentic r (packet1.take 28) (packet1.drop 28) = false) := by decide

def session0 : Session := { (Session.fresh req0 5000000) with high := 100, seen := [100, 37] }

/-- A session whose highest SEQUENCE is 100: 101 and 38 fit, 37 was seen, 36 lies below the window. -/
theorem wit_sequence : ∀ q ∈ [101, 38, 37, 36], (let s := (full .voted).modHub (fun h => { h with cmd := { h.cmd with sessions := [session0] } })
    let r : Req := { req0 with seq := q }
    (s.hub.cmd.sessions.filter (Session.live s.hub.time.now)).find? (fun x => x.matches r) = some session0 ∧
    ((100 < q ∨ (100 ≤ q + 63 ∧ q ≤ 100 ∧ q ∉ session0.seen)) ↔ q = 101 ∨ q = 38) ∧
    ((s.hub.admission r []).2 = .accept ↔ q = 101 ∨ q = 38)) := by decide

theorem wit_first_request : ∀ n, n < 2 → ((full .voted).hub.admission { req0 with session := n } []).2 = (if n = 1 then .accept else .replay) := by
  decide

theorem wit_mb0_sequence : (let h := { (full .voted).hub with cmd := { (full .voted).hub.cmd with mb0Seq := some 8 } }
    (∀ q, h.cmd.mb0Seq = some q → q < 9) ∧ ¬ (∀ q, h.cmd.mb0Seq = some q → q < 8)) :=
  ⟨fun q h => by cases h; decide, fun h => absurd (h 8 rfl) (by decide)⟩

theorem wit_idle_session : 5000000 + 300000000000 ≤ ((full .voted).hub.at_ 300005000000).time.now ∧
    (session0.transport = 4 ∨ ((full .voted).hub.at_ 0).time.now < session0.lastUse + 300000000000) := by decide

/-! ### Trace, injections, register writes, the release -/

theorem wit_trace_stream : (let s := (full .voted).modHub (fun h => { h with trace := { h.trace with
      stream := [⟨1, 0, 5, 1, []⟩], streamStart := 4000000, streamUsed := 255 } })
    s.hub.trace.stream ≠ [] ∧ 4000000 + 1000000 ≤ (s.hub.at_ 0).time.now ∧ s.hub.trace.streamUsed - 0 < 256) := by decide

theorem wit_trace_overflow : (let s := (full .voted).modHub (fun h => { h with trace := { h.trace with sentenceDrops := 1 } })
    s.hub.trace.sentenceDrops ≠ 0 ∧ s.hub.trace.overflow = false ∧ s.hub.trace.reportDue = false) := by decide

def injection0 (d : FaultName) : Injection :=
  { id := 4, detector := d, laneMask := 0, reportOnly := false, resource := 0, left := 1, interval := 0, start := 10, live := true }

theorem wit_injection : (let s := (full .voted).modHub (fun h => { h with inject := { h.inject with list := [injection0 .forceActive] } })
    s.hub.inject.list.find? (fun j => j.id == 4) = some (injection0 .forceActive) ∧ (s.hub.at_ 0).applicationDue (injection0 .forceActive) = true ∧
    (s.modHub (Hub.at_ 0)).evaluates (injection0 .forceActive) = true) := by decide

theorem wit_register_write : (full .voted).hub.time.running = true ∧ (0xFFFC : Nat) < 0x10000 ∧ 0xFFFC % 4 = 0 := by decide

/-- A release with nothing from the Parser and without lane frames: after SAFE, and otherwise. -/
theorem wit_release : ∀ b : Bool, (let s := (full .voted).modHub (fun h => { h with power := { h.power with safeFrames := b } })
    s.hub.vote.parserWrites = [] ∧ s.hub.cmd.exec = [] ∧ s.hub.power.safeFrames = b ∧ s.hub.usedFrames s.hub.vote.framesSA = [] ∧
    s.hub.usedFrames s.hub.vote.framesSB = [] ∧ s.hub.power.mode ≠ .safe) := by decide

/-! ### The block as a whole -/

def active0 : State := (full .voted).modHub (fun h => h.raise .busOff [1] 0 [] .real)

theorem wit_fault_records : (full .voted).hub.faults.log.any (fun r => r.same .busOff [1] .real && r.active) = false ∧
    active0.hub.faults.log.any (fun r => r.same .busOff [1] .real && r.active) = true ∧ FaultName.busOff.severity ≠ .safe ∧
    FaultName.tempCritical.severity = .safe ∧ Origin.real ≠ .reportOnly ∧ (full .voted).hub.power.mode.isRunning = true := by decide

theorem wit_invariant : State.reset.canonical ∧ State.reset.hardwired ∧ step State.reset = .next State.reset := by
  refine ⟨fun l => ?_, fun k => ?_, rfl⟩
  · revert l; decide
  · obtain ⟨l, e⟩ := k; revert l e; decide

/-- A step that changes a register and one that changes a lane's memory start from states that meet the invariant. -/
theorem wit_invariant_running : clause0.canonical ∧ clause0.hardwired ∧ moving.canonical := by
  refine ⟨fun l => ?_, fun k => ?_, fun l => ?_⟩
  · revert l; decide
  · obtain ⟨l, e⟩ := k; revert l e; decide
  · revert l; decide

end Sys2Proof.Tests
end

section
/-! Writes to g0 and p0, pair operands, and the syllables whose pair fields are undefined encodings (R62, R75). -/
namespace Sys2Proof.Machine

/-! ### Writes to g0, p0 and pairs (R62) -/

theorem isPair_eq_false_iff (n : BitVec 6) : isPair n = false ↔ n = 0#6 ∨ n.getLsbD 0 = true := by
  by_cases h : n = 0#6 <;> simp [isPair, h]

theorem Engine.writeOp_of_dst_zero (e : Engine) (o : Op) (h : o.dst = .reg 0#6 ∨ o.dst = .pred 0#3) : e.writeOp o = e := by
  rcases h with h | h
  · simp [Engine.writeOp, h, Engine.writeReg]
  · simp [Engine.writeOp, h, Engine.writePred]

/-- Neither register of a pair is g0: the write of a pair is never discarded. -/
theorem ne_zero_of_isPair {n : BitVec 6} (h : isPair n = true) : n ≠ 0#6 ∧ n + 1 ≠ 0#6 := by
  revert n; decide

theorem Op.writes_pair_even {o : Op} {n : BitVec 6} (h : o.dst = .pair n) : o.writes n = some (o.value.truncate 32) := by
  simp [Op.writes, h]

theorem Op.writes_pair_odd {o : Op} {n : BitVec 6} (h : o.dst = .pair n) :
    o.writes (n + 1) = some ((o.value >>> 32).truncate 32) := by
  simp [Op.writes, h]

theorem Op.writes_pair_other {o : Op} {n m : BitVec 6} (h : o.dst = .pair n) (he : m ≠ n) (ho : m ≠ n + 1) :
    o.writes m = none := by
  simp only [Op.writes, h, he.symm, ho.symm, if_false]

theorem high_append_low {w : Nat} (v : BitVec (w + w)) : (v >>> w).truncate w ++ v.truncate w = v := by
  apply BitVec.eq_of_getLsbD_eq
  intro i hi
  by_cases hlow : i < w
  · simp [BitVec.getLsbD_append, hlow]
  · simp [BitVec.getLsbD_append, hlow, show w + (i - w) = i by omega, show i - w < w by omega]

/-- The pair reads back as it was written: bits 31:0 in the even register, bits 63:32 in the odd one. -/
theorem Engine.writeOp_pair (e : Engine) {o : Op} {n : BitVec 6} (h : o.dst = .pair n) (hn : isPair n = true) :
    (e.writeOp o).pair n = o.value := by
  obtain ⟨heven, hodd⟩ := ne_zero_of_isPair hn
  rw [Engine.pair, e.writeOp_reg o _ hodd, e.writeOp_reg o _ heven, Op.writes_pair_odd h, Op.writes_pair_even h]
  exact high_append_low (w := 32) o.value

theorem Engine.writeOp_pair_reg_other (e : Engine) {o : Op} {n m : BitVec 6} (h : o.dst = .pair n) (he : m ≠ n)
    (ho : m ≠ n + 1) : (e.writeOp o).reg m = e.reg m := by
  by_cases hm : m = 0#6
  · simp [hm]
  · rw [e.writeOp_reg o m hm, Op.writes_pair_other h he ho]; rfl

/-! ### An undefined encoding in each shape that has pair fields (R75) -/

variable {s : State} {k : Site} {r : Running} {ok : Bool}

theorem State.issue_of_not_ok {n : Bool} {p : BitVec 3} {cause : Engine → Running → Bool → Option (Nat × Nat)}
    {eff : Engine → Running → Bool → Bundle → Bundle} (h : s.issuesAt k r) (hok : ok = false) :
    s.issue k n p ok cause eff = s.abortClause k 2 0 .real := by
  rw [hok]; exact State.issue_undefined h

theorem State.aPair_of_not_pair {slot : ASlot} {f : RegSyl} {op : DWord → DWord → DWord} (h : s.issuesAt k r)
    (hf : isPair f.dst = false ∨ isPair f.sa = false ∨ isPair f.sb = false) :
    s.aPair k slot f op = s.abortClause k 2 0 .real :=
  State.issue_of_not_ok h (by rcases hf with hf | hf | hf <;> simp [hf])

theorem State.mOp_of_not_ok {f : RegSyl} {lat : Nat} {blocking : Bool} {dst : Dest} {v : Engine → DWord × Nat}
    (h : s.issuesAt k r) (hok : ok = false) : s.mOp k f ok lat blocking dst v = s.abortClause k 2 0 .real :=
  State.issue_of_not_ok h (by simp [hok])

/-- `ok` is what an operation asks beside its pairs DST and SA: of most that SB is a pair. -/
theorem State.mF64_of_not_pair {f : RegSyl} {lat : Nat} {blocking : Bool} {op : Nat → Nat → Nat → Nat × Nat}
    (h : s.issuesAt k r) (hf : isPair f.dst = false ∨ isPair f.sa = false ∨ ok = false) :
    s.mF64 k f ok lat blocking op = s.abortClause k 2 0 .real :=
  State.mOp_of_not_ok h (by rcases hf with hf | hf | hf <;> simp [hf])

theorem State.mCmp64_of_not_pair {f : RegSyl} {op : Nat → Nat → Bool × Nat} (h : s.issuesAt k r)
    (hf : isPair f.sa = false ∨ isPair f.sb = false) : s.mCmp64 k f op = s.abortClause k 2 0 .real :=
  State.mOp_of_not_ok h (by rcases hf with hf | hf <;> simp [hf])

theorem State.accesses_of_not_ok {n : Bool} {p : BitVec 3} {cause : Engine → Running → Bool → Option (Nat × Nat)} :
    s.accesses k n p false cause = false := by
  unfold State.accesses
  dsimp only
  split <;> simp

/-- A load of an undefined encoding does not read the scratchpad: the abort is all that happens. -/
theorem State.load_of_not_ok {d n : Bool} {p : BitVec 3} {ea : Engine → Nat} {size : Nat} {dst : Dest}
    {post : Nat → DWord} {ecc : Ecc} (h : s.issuesAt k r) (hok : ok = false) :
    s.load k d n p ok ea size dst post ecc = s.abortClause k 2 0 .real := by
  simp only [State.load, hok, State.accesses_of_not_ok]
  exact State.issue_undefined h

/-- Nor does such a store touch the scratchpad's code words. -/
theorem State.store_of_not_ok {d n : Bool} {p : BitVec 3} {ea : Engine → Nat} {size : Nat} {v : Engine → Nat}
    {ecc : Ecc} (h : s.issuesAt k r) (hok : ok = false) :
    s.store k d n p ok ea size v ecc = s.abortClause k 2 0 .real := by
  simp only [State.store, hok, Bool.false_and, State.accesses_of_not_ok, Bool.not_false, if_true]
  exact State.issue_undefined h

/-! ### The syllables with pair fields, slot by slot -/

/-- What a syllable of an undefined encoding answers (R75). -/
def State.undefinedEncoding (k : Site) (s : State) : Out := .next (s.abortClause k 2 0 .real)

/-- A command whose meaning comes to the abort of an undefined encoding answers with it. -/
theorem next_eq_undefinedEncoding {t : State} (h : t = s.abortClause k 2 0 .real) : (.next t : Out) = s.undefinedEncoding k :=
  congrArg Host.Outcome.next h

theorem aSlot_of_not_pair (h : s.issuesAt k r) (slot : ASlot) (f : RegSyl) :
    (isPair f.dst = false → exec (.mfsd k slot f) s = s.undefinedEncoding k) ∧
    (isPair f.dst = false ∨ isPair f.sa = false → exec (.movd k slot f) s = s.undefinedEncoding k) ∧
    (isPair f.dst = false ∨ isPair f.sa = false ∨ isPair f.sb = false →
      exec (.addd k slot f) s = s.undefinedEncoding k ∧ exec (.subd k slot f) s = s.undefinedEncoding k) := by
  refine ⟨fun hf => ?mfsd, fun hf => ?movd, fun hf => ⟨?addd, ?subd⟩⟩
  case mfsd => exact next_eq_undefinedEncoding (State.issue_of_not_ok h (by simp [hf]))
  case movd => exact next_eq_undefinedEncoding (State.issue_of_not_ok h (by rcases hf with hf | hf <;> simp [hf]))
  case addd | subd => exact next_eq_undefinedEncoding (State.aPair_of_not_pair h hf)

theorem mSlot_of_not_pair_dst (h : s.issuesAt k r) (f : RegSyl) (hf : isPair f.dst = false) :
    exec (.mulws k f) s = s.undefinedEncoding k ∧ exec (.mulwu k f) s = s.undefinedEncoding k ∧
    exec (.fcvtDW k f) s = s.undefinedEncoding k ∧ exec (.fcvtDS k f) s = s.undefinedEncoding k := by
  refine ⟨?_, ?_, ?_, ?_⟩ <;> exact next_eq_undefinedEncoding (State.mOp_of_not_ok h (by simp [hf]))

theorem mSlot_of_not_pair_sa (h : s.issuesAt k r) (f : RegSyl) (hf : isPair f.sa = false) :
    exec (.fcvtnWD k f) s = s.undefinedEncoding k ∧ exec (.fcvtzWD k f) s = s.undefinedEncoding k ∧
    exec (.fcvtSD k f) s = s.undefinedEncoding k := by
  refine ⟨?_, ?_, ?_⟩ <;> exact next_eq_undefinedEncoding (State.mOp_of_not_ok h (by simp [hf]))

theorem fsqrtD_of_not_pair (h : s.issuesAt k r) (f : RegSyl) (hf : isPair f.dst = false ∨ isPair f.sa = false) :
    exec (.fsqrtD k f) s = s.undefinedEncoding k :=
  next_eq_undefinedEncoding (State.mF64_of_not_pair h (hf.imp_right .inl))

theorem mSlot_compares_of_not_pair (h : s.issuesAt k r) (f : RegSyl) (hf : isPair f.sa = false ∨ isPair f.sb = false) :
    exec (.fcmpeqD k f) s = s.undefinedEncoding k ∧ exec (.fcmpltD k f) s = s.undefinedEncoding k ∧
    exec (.fcmpleD k f) s = s.undefinedEncoding k ∧ exec (.fcmpunD k f) s = s.undefinedEncoding k := by
  refine ⟨?_, ?_, ?_, ?_⟩ <;> exact next_eq_undefinedEncoding (State.mCmp64_of_not_pair h hf)

theorem mSlot_arithmetic_of_not_pair (h : s.issuesAt k r) (f : RegSyl)
    (hf : isPair f.dst = false ∨ isPair f.sa = false ∨ isPair f.sb = false) :
    exec (.faddD k f) s = s.undefinedEncoding k ∧ exec (.fsubD k f) s = s.undefinedEncoding k ∧
    exec (.fmulD k f) s = s.undefinedEncoding k ∧ exec (.fmaD k f) s = s.undefinedEncoding k ∧
    exec (.fnmaD k f) s = s.undefinedEncoding k ∧ exec (.fminD k f) s = s.undefinedEncoding k ∧
    exec (.fmaxD k f) s = s.undefinedEncoding k ∧ exec (.fdivD k f) s = s.undefinedEncoding k := by
  refine ⟨?_, ?_, ?_, ?_, ?_, ?_, ?_, ?_⟩ <;> exact next_eq_undefinedEncoding (State.mF64_of_not_pair h hf)

theorem lSlot_imm_of_not_pair (h : s.issuesAt k r) (f : ImmSyl) (ecc : Ecc) (hf : isPair f.dst = false) :
    exec (.ldd k f ecc) s = s.undefinedEncoding k ∧ exec (.std k f ecc) s = s.undefinedEncoding k :=
  ⟨next_eq_undefinedEncoding (State.load_of_not_ok h hf), next_eq_undefinedEncoding (State.store_of_not_ok h hf)⟩

theorem lSlot_indexed_of_not_pair (h : s.issuesAt k r) (f : RegSyl) (ecc : Ecc) (hf : isPair f.dst = false) :
    exec (.lddx k f ecc) s = s.undefinedEncoding k ∧ exec (.stdx k f ecc) s = s.undefinedEncoding k :=
  ⟨next_eq_undefinedEncoding (State.load_of_not_ok h (by simp [hf])),
    next_eq_undefinedEncoding (State.store_of_not_ok h (by simp [hf]))⟩

/-- Settles O5, from what a write of a result does and from the undefined encodings of each slot's shapes. -/
theorem hardwiredAndPairOperands : Obligations.HardwiredAndPairOperands := by
  unfold Obligations.HardwiredAndPairOperands
  simp only [← isPair_eq_false_iff, Bool.not_eq_false]
  refine ⟨Engine.writeOp_of_dst_zero, fun e o n hn => ⟨rfl, fun ho => ⟨e.writeOp_pair ho hn, ?others⟩⟩, ?undefined⟩
  case others => exact fun m he hodd => e.writeOp_pair_reg_other ho he hodd
  case undefined =>
    exact fun s k r h => ⟨aSlot_of_not_pair h,
      fun f => ⟨mSlot_of_not_pair_dst h f, mSlot_of_not_pair_sa h f, fsqrtD_of_not_pair h f, mSlot_compares_of_not_pair h f,
        mSlot_arithmetic_of_not_pair h f⟩,
      lSlot_imm_of_not_pair h, lSlot_indexed_of_not_pair h⟩

end Sys2Proof.Machine
end

section
/-! The words of the encoding tables, the slots of a bundle, and NOP (R70, R74). -/
namespace Sys2Proof.Machine

/-! ### Words of the tables (Tables 3.5 and 3.7 to 3.9) -/

theorem tableWords_decode (k : Site) (slot : ASlot) :
    decodeA k slot 0b000001_0_0_000_000101_000010_000011_000#32 0 = .add k slot { dst := 5, sa := 2, sb := 3 } ∧
    decodeA k slot 0b010000_1_1_010_000111_000001_111111111#32 0 =
      .addi k slot { d := true, n := true, p := 2, dst := 7, sa := 1, imm := 0x1FF } ∧
    decodeA k .a0 0b010000_0_0_000_000111_000001_100000000#32 0x89ABCDEF =
      .addi k .a0 { dst := 7, sa := 1, imm := 0x100, long := 0x89ABCDEF } ∧
    decodeM k 0b100011_0_0_000_000100_000110_001000_000#32 = .fmaD k { dst := 4, sa := 6, sb := 8 } ∧
    decodeL k 0b001000_0_0_000_000011_000010_000001000#32 0 = .stw k { dst := 3, sa := 2, imm := 8 } .clean ∧
    decodeL k 0b010000_0_1_001_00000000_0000000001010#32 0 = .br k { n := true, p := 1, target := 10 } ∧
    decodeL k 0b010010_00000_0000011_1_0000000000110#32 0 = .loopi k { cnt := 3, lc := true, last := 6 } ∧
    decodeL k 0b010100_00000000000000000000000000#32 0 = .endOp k 0 :=
  ⟨rfl, rfl, rfl, rfl, rfl, rfl, rfl, rfl⟩

/-! ### The slots of a bundle -/

/-- The word of slot `i` in a bundle's 128 bits. -/
def slotWord (x : BitVec 128) (i : Nat) : Word := x.extractLsb' (32 * i) 32

/-- No slot of the bundle carries a long immediate: every slot decodes its own word. -/
theorem decodeBundle_of_no_carrier {k : Site} {x : BitVec 128} (ha : takesLong immOpsA (slotWord x 0) = false)
    (hl : takesLong immOpsL (slotWord x 3) = false) :
    decodeBundle k x = [decodeA k .a0 (slotWord x 0) (slotWord x 1), decodeA k .a1 (slotWord x 1) 0, decodeM k (slotWord x 2),
      decodeL k (slotWord x 3) (slotWord x 2)] := by
  unfold slotWord at *
  simp only [decodeBundle, ha, hl, Bool.false_eq_true, if_false]
  rfl

theorem decodeA_zero (k : Site) (slot : ASlot) (carrier : Word) : ∃ sl, decodeA k slot 0 carrier = .nop k sl 0 .clean := by
  cases slot
  · exact ⟨.a0, rfl⟩
  · exact ⟨.a1, rfl⟩

/-- A1 and M carry the long immediates of A0 and L: both issue as NOP (R74). -/
theorem decodeBundle_of_carriers {k : Site} {x : BitVec 128} (ha : takesLong immOpsA (slotWord x 0) = true)
    (hl : takesLong immOpsL (slotWord x 3) = true) :
    decodeBundle k x = [decodeA k .a0 (slotWord x 0) (slotWord x 1), .nop k .a1 0 .clean, .nop k .m 0 .clean,
      decodeL k (slotWord x 3) (slotWord x 2)] := by
  unfold slotWord at *
  simp only [decodeBundle, ha, hl, if_true]
  rfl

/-- The first operand of `++` stands in the high bits: A0 is the lowest word of the bundle. -/
theorem slotWord_append (a0 a1 m l : Word) : slotWord (l ++ m ++ a1 ++ a0) 0 = a0 ∧ slotWord (l ++ m ++ a1 ++ a0) 1 = a1 ∧
    slotWord (l ++ m ++ a1 ++ a0) 2 = m ∧ slotWord (l ++ m ++ a1 ++ a0) 3 = l := by
  have low {v : Nat} (hi : BitVec v) (lo : Word) : (hi ++ lo).extractLsb' 0 32 = lo := BitVec.extractLsb'_append_eq_right
  have high {v : Nat} (hi : BitVec v) (lo : Word) {i : Nat} (h : 32 ≤ i) :
      (hi ++ lo).extractLsb' i 32 = hi.extractLsb' (i - 32) 32 := BitVec.extractLsb'_append_eq_of_le h
  refine ⟨low _ a0, ?_, ?_, ?_⟩
  · exact (high _ a0 (by decide)).trans (low _ a1)
  · exact (high _ a0 (by decide)).trans ((high _ a1 (by decide)).trans (low _ m))
  · exact (high _ a0 (by decide)).trans ((high _ a1 (by decide)).trans ((high l m (by decide)).trans BitVec.extractLsb'_eq_self))

/-! ### A bundle in bytes (R6, R70) -/

theorem leVal_drop (b : Bytes) (n : Nat) : leVal (b.drop n) = leVal b / 256 ^ n := by
  induction n generalizing b with
  | zero => simp
  | succ n ih =>
    cases b with
    | nil => simp [leVal]
    | cons x b =>
      have hx : (x.toNat + 256 * leVal b) / 256 = leVal b := by omega
      rw [List.drop_succ_cons, ih, leVal, Nat.pow_succ', ← Nat.div_div_eq_div_mul, hx]

theorem leVal_take (b : Bytes) (n : Nat) : leVal (b.take n) = leVal b % 256 ^ n := by
  induction n generalizing b with
  | zero => simp [leVal, Nat.mod_one]
  | succ n ih =>
    cases b with
    | nil => simp [leVal]
    | cons x b =>
      have hx : (x.toNat + 256 * leVal b) / 256 = leVal b ∧ (x.toNat + 256 * leVal b) % 256 = x.toNat := by omega
      rw [List.take_succ_cons, leVal, ih, leVal, Nat.pow_succ', Nat.mod_mul, hx.1, hx.2]

theorem leVal_slice (b : Bytes) (off n : Nat) : leVal (slice b off n) = leVal b / 256 ^ off % 256 ^ n := by
  rw [slice, leVal_take, leVal_drop]

/-- Little-endian: slot `i` of a stored bundle holds bytes 4i to 4i + 3. -/
theorem slotWord_ofNat_leVal (b : Bytes) (h : b.length = 16) (i : Nat) :
    slotWord (BitVec.ofNat 128 (leVal b)) i = BitVec.ofNat 32 (leVal (slice b (4 * i) 4)) := by
  have hlt : leVal b < 2 ^ 128 := by simpa [h] using leVal_lt b
  apply BitVec.eq_of_toNat_eq
  rw [leVal_slice, Nat.pow_mul]
  simp only [slotWord, BitVec.extractLsb'_toNat, BitVec.toNat_ofNat, Nat.mod_eq_of_lt hlt, Nat.shiftRight_eq_div_pow,
    Nat.pow_mul, show 256 ^ 4 = 2 ^ 32 by decide, Nat.mod_mod]

/-- Byte 0 holds bits 7:0 of A0. -/
theorem truncate_leVal_slice (b : Bytes) : (BitVec.ofNat 32 (leVal (slice b 0 4))).truncate 8 = b.headD 0#8 := by
  cases b with
  | nil => rfl
  | cons x b =>
    apply BitVec.eq_of_toNat_eq
    simp [slice, leVal]
    omega

/-! ### NOP (R70) -/

theorem vmod_id {α : Type} {n : Nat} (v : Vector α n) (i : Fin n) : vmod v i (fun x => x) = v := by
  simp [vmod]

theorem Lane.modEng_id (e : EngineId) : Lane.modEng e (fun x => x) = fun l => l := by
  funext l
  simp only [Lane.modEng, vmod_id]

theorem State.bundled_id (s : State) (k : Site) : s.bundled k (fun b => b) = s := by
  change s.modEng k (fun e => e) = s
  simp only [State.modEng, State.modLane, Lane.modEng_id, vmod_id]

/-- With no application under way, none is taken and the hub stays as it is. -/
theorem Hub.takeArm_of_no_injection {h : Hub} (ha : h.inject.armed = []) (n : FaultName) (p : Armed → Bool) :
    h.takeArm n p = (none, h) := by
  have hkeep : { h with inject.armed := [] } = h := by rw [← ha]
  simp only [Hub.takeArm, ha, List.filter_nil, List.find?_nil, hkeep]

theorem Hub.sramRead_clean {h : Hub} (ha : h.inject.armed = []) (hb : h.mem.sramBad = []) (unit ram row word reader : Nat) :
    h.sramRead unit ram row word reader .clean = (.clean, h) := by
  simp [Hub.sramRead, hb, Hub.takeArm_of_no_injection ha]

theorem State.fetchEcc_clean {s : State} (ha : s.hub.inject.armed = []) (hb : s.hub.mem.sramBad = []) (k : Site) (slot : Slot) :
    s.fetchEcc k slot .clean = (.clean, s) := by
  unfold State.fetchEcc
  split
  · rfl
  · simp [Hub.sramRead_clean ha hb]

theorem execNop_zero {s : State} {k : Site} {r : Running} (h : s.issuesAt k r) (ha : s.hub.inject.armed = [])
    (hb : s.hub.mem.sramBad = []) (slot : Slot) : execNop k slot 0#32 .clean s = .next s := by
  simp only [execNop, State.fetchEcc_clean ha hb, BEq.rfl]
  rw [State.issue_ok h rfl, State.bundled_id]

/-- Settles O3, from the tables' words, the slots of a bundle and of its bytes, and what NOP leaves unchanged. -/
theorem syllableWordsDecode : Obligations.SyllableWordsDecode := by
  unfold Obligations.SyllableWordsDecode
  refine ⟨tableWords_decode, fun k a0 a1 m l => ?words, fun k b hb => ?bytes, fun k carrier => ?zero, ?nop⟩
  case words =>
    obtain ⟨h0, h1, h2, h3⟩ := slotWord_append a0 a1 m l
    refine ⟨fun ha hl => ?_, fun ha hl => ?_⟩
    · rw [decodeBundle_of_no_carrier (by rwa [h0]) (by rwa [h3]), h0, h1, h2, h3]
    · rw [decodeBundle_of_carriers (by rwa [h0]) (by rwa [h3]), h0, h1, h2, h3]
  case bytes =>
    have hw := slotWord_ofNat_leVal b hb
    refine ⟨truncate_leVal_slice b, fun ha hl => ?_⟩
    rw [decodeBundle_of_no_carrier (by rwa [hw]) (by rwa [hw]), hw, hw, hw, hw]
  case zero => exact ⟨fun slot => decodeA_zero k slot carrier, rfl, rfl⟩
  case nop => exact fun k slot s r h ha hb => execNop_zero h ha hb slot

end Sys2Proof.Machine
end

section
/-! SEQUENCE numbers at step 6 of R424: what marking one does to a session, where the session of a request stands in the table afterwards,
and what step 6 can answer (R427, R428). -/
namespace Sys2Proof.Machine

/-! ### Marking a SEQUENCE (R428) -/

/-- The two cases in which R428 accepts SEQUENCE `q` in a session. -/
def Session.fits (q : Nat) (x : Session) : Prop := x.high < q ∨ (x.high ≤ q + 63 ∧ q ≤ x.high ∧ q ∉ x.seen)

variable {x y : Session} {q : Nat} {r : Req} {now : Nat} {tag : Bytes} {h : Hub} {l : List Session}

theorem Session.mark_of_high_lt (hq : x.high < q) :
    x.mark q = some { x with high := q, seen := q :: x.seen.filter (fun v => decide (q ≤ v + 63)) } := by
  simp [Session.mark, hq]

theorem Session.mark_of_unseen (hq : q ≤ x.high) (hw : x.high ≤ q + 63) (hn : q ∉ x.seen) :
    x.mark q = some { x with seen := q :: x.seen } := by
  simp [Session.mark, Nat.not_lt.2 hq, hw, hn]

theorem Session.mark_eq_none_iff : x.mark q = none ↔ ¬ x.fits q := by
  unfold Session.mark Session.fits
  split
  case isTrue hq => simp [hq]
  case isFalse hq => simp [hq, Nat.le_of_not_lt hq]

theorem Session.fits_of_mark (hm : x.mark q = some y) : x.fits q := by
  refine Classical.byContradiction fun hn => ?_
  rw [Session.mark_eq_none_iff.2 hn] at hm
  cases hm

/-- A marked session has the higher H of the two, and of the 64 values ending there it has seen the new one besides those seen before. -/
theorem Session.mark_window (hm : x.mark q = some y) :
    y.high = max x.high q ∧ ∀ v, y.high ≤ v + 63 → (v ∈ y.seen ↔ v = q ∨ v ∈ x.seen) := by
  rcases Session.fits_of_mark hm with hq | ⟨hw, hq, hn⟩
  · obtain rfl := Option.some.inj ((Session.mark_of_high_lt hq).symm.trans hm)
    refine ⟨(Nat.max_eq_right (Nat.le_of_lt hq)).symm, fun v hv => ?_⟩
    have hkept : q ≤ v + 63 := hv
    simp [hkept]
  · obtain rfl := Option.some.inj ((Session.mark_of_unseen hq hw hn).symm.trans hm)
    exact ⟨(Nat.max_eq_left hq).symm, fun v _ => List.mem_cons⟩

theorem Session.mark_matches (hm : x.mark q = some y) (r : Req) : y.matches r = x.matches r := by
  rcases Session.fits_of_mark hm with hq | ⟨hw, hq, hn⟩
  · obtain rfl := Option.some.inj ((Session.mark_of_high_lt hq).symm.trans hm)
    rfl
  · obtain rfl := Option.some.inj ((Session.mark_of_unseen hq hw hn).symm.trans hm)
    rfl

/-! ### The session of a request in the table (R427) -/

/-- The live session of a request, of a session table at an instant. -/
def liveSession (now : Nat) (r : Req) (l : List Session) : Option Session :=
  (l.filter (Session.live now)).find? (fun x => x.matches r)

theorem liveSession_matches (hx : liveSession now r l = some x) : x.matches r = true :=
  List.find?_some (p := fun x : Session => x.matches r) hx

@[simp] theorem Session.fresh_matches (r : Req) (now : Nat) : (Session.fresh r now).matches r = true := by
  simp [Session.fresh, Session.matches]

@[simp] theorem Session.matches_lastUse (x : Session) (now : Nat) (r : Req) :
    ({ x with lastUse := now } : Session).matches r = x.matches r := rfl

theorem Session.live_of_lastUse (hu : x.lastUse = now) : x.live now = true := by
  simp [Session.live, hu]

theorem mem_of_mem_makeRoom (hx : x ∈ makeRoom l) : x ∈ l := by
  simp only [makeRoom] at hx
  split at hx
  · exact hx
  · split at hx
    · exact (List.mem_filter.1 hx).1
    · exact hx

/-- A new session is the one its request finds, also where room had to be made for it. -/
theorem liveSession_append_fresh (hl : liveSession now r l = none) :
    liveSession now r (makeRoom (l.filter (Session.live now)) ++ [Session.fresh r now]) = some (Session.fresh r now) := by
  have hold : ((makeRoom (l.filter (Session.live now))).filter (Session.live now)).find? (fun x => x.matches r) = none :=
    List.find?_eq_none.2 fun x hx => List.find?_eq_none.1 hl x (mem_of_mem_makeRoom (List.mem_filter.1 hx).1)
  have hlive : (Session.fresh r now).live now = true := Session.live_of_lastUse rfl
  simp [liveSession, List.filter_append, List.find?_append, hold, hlive]

/-- The table once a request has used its session, now `y`: idle sessions are gone and the idle time of `y` begins again. -/
def useSession (now : Nat) (r : Req) (y : Session) (l : List Session) : List Session :=
  (l.filter (Session.live now)).map (fun x => if x.matches r then { y with lastUse := now } else x)

theorem filter_live_useSession : (useSession now r y l).filter (Session.live now) = useSession now r y l := by
  refine List.filter_eq_self.2 fun z hz => ?_
  obtain ⟨x, hx, rfl⟩ := List.mem_map.1 hz
  split
  · exact Session.live_of_lastUse rfl
  · exact (List.mem_filter.1 hx).2

/-- The session a request has used is the one it finds again. -/
theorem liveSession_useSession (hx : liveSession now r l = some x) (hy : y.matches r = true) :
    liveSession now r (useSession now r y l) = some { y with lastUse := now } := by
  have hfound : ((fun z : Session => z.matches r) ∘ fun z : Session => if z.matches r then { y with lastUse := now } else z) =
      fun z => z.matches r := by
    funext z
    by_cases hz : z.matches r = true
    · simp [hz, hy]
    · simp [hz]
  rw [liveSession, filter_live_useSession, useSession, List.find?_map, hfound]
  have hxr : x.matches r = true := liveSession_matches hx
  rw [liveSession] at hx
  simp [hx, hxr]

/-! ### What step 6 answers (R424, R428) -/

theorem Hub.admission_of_session_zero (ht : r.transport ≠ 4) (hs : r.session = 0) : h.admission r tag = (h, .replay) := by
  simp [Hub.admission, ht, hs]

/-- Without a live session, a SESSION above the highest of its key slot opens one. -/
theorem Hub.admission_of_no_session (ht : r.transport ≠ 4) (hs : r.session ≠ 0)
    (hf : liveSession h.time.now r h.cmd.sessions = none) :
    ((h.admission r tag).2 = .accept ↔ (vgetN h.cmd.keys r.slot {}).highestSession < r.session) ∧
    ((h.admission r tag).2 = .accept → (h.admission r tag).1.cmd.sessions =
      makeRoom (h.cmd.sessions.filter (Session.live h.time.now)) ++ [Session.fresh r h.time.now]) := by
  rw [liveSession] at hf
  by_cases hk : r.session ≤ (vgetN h.cmd.keys r.slot {}).highestSession
  · simp [Hub.admission, ht, hs, hf, hk]
  · simp [Hub.admission, ht, hs, hf, hk, Nat.lt_of_not_le hk]

/-- In a live session, a request is accepted and marked, or it leaves the session's SEQUENCE numbers as they are: it does not fit, it repeats
the last request answered (R429), or it repeats one in execution (R435). -/
theorem Hub.admission_of_session (ht : r.transport ≠ 4) (hs : r.session ≠ 0)
    (hf : liveSession h.time.now r h.cmd.sessions = some x) :
    (∃ y, x.mark r.seq = some y ∧ (h.admission r tag).2 = .accept ∧
      (h.admission r tag).1.cmd.sessions = useSession h.time.now r y h.cmd.sessions) ∨
    ((h.admission r tag).2 ≠ .accept ∧ (h.admission r tag).1.cmd.sessions = useSession h.time.now r x h.cmd.sessions ∧
      (x.mark r.seq = none ∨ (∃ l, x.last = some l ∧ l.1 = r.seq ∧ l.2.1 = tag) ∨ (r, tag) ∈ h.cmd.tags)) := by
  rw [liveSession] at hf
  simp only [Hub.admission, ht, hs, hf, if_false]
  split
  case h_1 pkts hrep =>
    refine .inr ⟨nofun, rfl, .inr (.inl ?_)⟩
    split at hrep
    case h_1 last hlast =>
      split at hrep
      case isTrue hsame => exact ⟨last, hlast, hsame⟩
      case isFalse => cases hrep
    case h_2 => cases hrep
  case h_2 =>
    split
    case isTrue hbusy =>
      obtain ⟨-, hmem⟩ := Bool.and_eq_true_iff.1 hbusy
      exact .inr ⟨nofun, rfl, .inr (.inr (List.contains_iff_mem.1 hmem))⟩
    case isFalse =>
      split
      case h_1 y hmark => exact .inl ⟨y, hmark, rfl, rfl⟩
      case h_2 hmark => exact .inr ⟨nofun, rfl, .inl hmark⟩

/-- MB0 preserves order: a SEQUENCE is accepted when it exceeds H, and any other leaves the hub as it is. -/
theorem Hub.admission_mb0 (ht : r.transport = 4) :
    ((h.admission r tag).2 = .accept ↔ ∀ q, h.cmd.mb0Seq = some q → q < r.seq) ∧
    ((h.admission r tag).2 = .accept → (h.admission r tag).1.cmd.mb0Seq = some r.seq) ∧
    ((h.admission r tag).2 ≠ .accept → (h.admission r tag).1 = h) := by
  simp only [Hub.admission, ht, if_true, Hub.admissionMb0]
  cases hq : h.cmd.mb0Seq with
  | none => simp
  | some q => by_cases hlt : q < r.seq <;> simp [hlt]

/-- A request that opens a session sets its H, and is all that the session has seen. -/
theorem Hub.admission_first_request (ht : r.transport ≠ 4) (hs : r.session ≠ 0)
    (hf : liveSession h.time.now r h.cmd.sessions = none) (ha : (h.admission r tag).2 = .accept) :
    ∃ y, liveSession h.time.now r (h.admission r tag).1.cmd.sessions = some y ∧ y.high = r.seq ∧ y.seen = [r.seq] := by
  rw [(Hub.admission_of_no_session ht hs hf).2 ha]
  exact ⟨_, liveSession_append_fresh hf, rfl, rfl⟩

section
variable (ht : r.transport ≠ 4) (hs : r.session ≠ 0) (hf : liveSession h.time.now r h.cmd.sessions = some x)
include ht hs hf

theorem Hub.fits_of_admission_accept (ha : (h.admission r tag).2 = .accept) : x.fits r.seq := by
  rcases Hub.admission_of_session ht hs hf with ⟨y, hmark, -⟩ | ⟨hna, -⟩
  · exact Session.fits_of_mark hmark
  · exact absurd ha hna

theorem Hub.admission_accept_of_fits (hfit : x.fits r.seq) (hlast : ∀ l, x.last = some l → l.1 = r.seq → l.2.1 ≠ tag)
    (htags : (r, tag) ∉ h.cmd.tags) : (h.admission r tag).2 = .accept := by
  rcases Hub.admission_of_session ht hs hf with ⟨y, -, ha, -⟩ | ⟨-, -, hmark | ⟨l, hl, hseq, htag⟩ | hmem⟩
  · exact ha
  · exact absurd hfit (Session.mark_eq_none_iff.1 hmark)
  · exact absurd htag (hlast l hl hseq)
  · exact absurd hmem htags

theorem Hub.admission_accept_window (ha : (h.admission r tag).2 = .accept) :
    ∃ y, liveSession h.time.now r (h.admission r tag).1.cmd.sessions = some y ∧ y.high = max x.high r.seq ∧
      ∀ v, y.high ≤ v + 63 → (v ∈ y.seen ↔ v = r.seq ∨ v ∈ x.seen) := by
  rcases Hub.admission_of_session ht hs hf with ⟨y, hmark, -, htable⟩ | ⟨hna, -⟩
  · have hmatches : y.matches r = true := (Session.mark_matches hmark r).trans (liveSession_matches hf)
    obtain ⟨hhigh, hseen⟩ := Session.mark_window hmark
    rw [htable]
    exact ⟨_, liveSession_useSession hf hmatches, hhigh, hseen⟩
  · exact absurd ha hna

theorem Hub.admission_refused_window (ha : (h.admission r tag).2 ≠ .accept) :
    ∃ y, liveSession h.time.now r (h.admission r tag).1.cmd.sessions = some y ∧ y.high = x.high ∧ y.seen = x.seen := by
  rcases Hub.admission_of_session ht hs hf with ⟨y, -, hacc, -⟩ | ⟨-, htable, -⟩
  · exact absurd hacc ha
  · rw [htable]
    exact ⟨_, liveSession_useSession hf (liveSession_matches hf), rfl, rfl⟩
end

/-- Settles O56, from what step 6 answers without a session, in a live one and on MB0. -/
theorem sequenceNumbers : Obligations.SequenceNumbers := by
  unfold Obligations.SequenceNumbers
  refine fun h r tag => ⟨fun ht ha hs => ?zero, fun ht hs hf => ⟨?opens, ?first⟩, fun x ht hs hf => ?live, Hub.admission_mb0⟩
  case zero => simp [Hub.admission_of_session_zero ht hs] at ha
  case opens => exact (Hub.admission_of_no_session ht hs hf).1
  case first => exact Hub.admission_first_request ht hs hf
  case live =>
    exact ⟨Hub.fits_of_admission_accept ht hs hf, Hub.admission_accept_of_fits ht hs hf,
      Hub.admission_accept_window ht hs hf, Hub.admission_refused_window ht hs hf⟩

end Sys2Proof.Machine
end

section
/-! The fields of a syllable's word, and decode of encode (R70 to R74). -/
namespace Sys2Proof.Machine
open BitVec

/-! ### The fields of a word of each format (Table 3.5) -/

theorem opField_encodeReg (op : BitVec 6) (f : RegSyl) : opField (encodeReg op f) = op := by
  simp (disch := omega) only [opField, encodeReg, extractLsb'_append_eq_of_le, extractLsb'_eq_self, Nat.reduceSub]

theorem opField_encodeImm (op : BitVec 6) (f : ImmSyl) : opField (encodeImm op f) = op := by
  simp (disch := omega) only [opField, encodeImm, extractLsb'_append_eq_of_le, extractLsb'_eq_self, Nat.reduceSub]

theorem opField_encodeTgt (op : BitVec 6) (f : TgtSyl) : opField (encodeTgt op f) = op := by
  simp (disch := omega) only [opField, encodeTgt, extractLsb'_append_eq_of_le, extractLsb'_eq_self, Nat.reduceSub]

theorem opField_encodeLp (op : BitVec 6) (f : LpSyl) : opField (encodeLp op f) = op := by
  simp (disch := omega) only [opField, encodeLp, extractLsb'_append_eq_of_le, extractLsb'_eq_self, Nat.reduceSub]

theorem opField_append (op : BitVec 6) (r : BitVec 26) : opField (op ++ r) = op := extractLsb'_append_eq_left

theorem regFields_encodeReg (op : BitVec 6) (f : RegSyl) : regFields (encodeReg op f) = f := by
  simp (disch := omega) only [regFields, encodeReg, extractLsb'_append_eq_of_le, extractLsb'_append_eq_of_add_le,
    extractLsb'_eq_self, getLsbD_append, getLsbD_ofBool, Nat.reduceSub, Nat.reduceLT, if_true, if_false, decide_true, Bool.true_and]

theorem tgtFields_encodeTgt (op : BitVec 6) (f : TgtSyl) : tgtFields (encodeTgt op f) = f := by
  simp (disch := omega) only [tgtFields, encodeTgt, extractLsb'_append_eq_of_le, extractLsb'_append_eq_of_add_le,
    extractLsb'_eq_self, getLsbD_append, getLsbD_ofBool, Nat.reduceSub, Nat.reduceLT, if_true, if_false, decide_true, Bool.true_and]

theorem lpFields_encodeLp (op : BitVec 6) (f : LpSyl) : lpFields (encodeLp op f) = f := by
  simp (disch := omega) only [lpFields, encodeLp, extractLsb'_append_eq_of_le, extractLsb'_append_eq_of_add_le,
    extractLsb'_eq_self, getLsbD_append, getLsbD_ofBool, Nat.reduceSub, Nat.reduceLT, if_true, if_false, decide_true, Bool.true_and]

/-- The long immediate is all that an IMM syllable takes from its carrier, and it takes it only beside the field 0x100 (R74). -/
theorem immFields_encodeImm (op : BitVec 6) {f : ImmSyl} (hf : immOk f = true) : immFields (encodeImm op f) f.long = f := by
  have hlong : (if f.imm = 0x100#9 then f.long else 0) = f.long := by
    by_cases h : f.imm = 0x100#9
    · simp [h]
    · rw [if_neg h]; symm; simpa [immOk, h] using hf
  simp (disch := omega) only [immFields, encodeImm, extractLsb'_append_eq_of_le, extractLsb'_append_eq_of_add_le,
    extractLsb'_eq_self, getLsbD_append, getLsbD_ofBool, Nat.reduceSub, Nat.reduceLT, if_true, if_false, decide_true, Bool.true_and, hlong]

/-! ### The rows of each slot's table (Tables 3.7 to 3.9) -/

section
variable (k : Site) (slot : ASlot) (w c : Word)

theorem decodeA_of_unlisted (h : (opField w).toNat = 0 ∨ 0x2D < (opField w).toNat) :
    decodeA k slot w c = .nop k (match slot with | .a0 => .a0 | .a1 => .a1) w .clean := by
  unfold decodeA
  split
  case h_46 => rfl
  all_goals omega

theorem decodeM_of_unlisted (h : (opField w).toNat = 0 ∨ (0x0A ≤ (opField w).toNat ∧ (opField w).toNat ≤ 0x0F) ∨
    0x31 < (opField w).toNat) : decodeM k w = .nop k .m w .clean := by
  unfold decodeM
  split
  case h_44 => rfl
  all_goals omega

theorem decodeL_of_unlisted (h : (opField w).toNat = 0 ∨ (opField w).toNat = 7 ∨ 0x15 < (opField w).toNat) :
    decodeL k w c = .nop k .l w .clean := by
  unfold decodeL
  split
  case h_21 => rfl
  all_goals omega
end

/-! ### Decode of encode -/

/-- Some slot decodes the word to the command, a scratchpad access to one whose memory word was sound. -/
def DecodesTo (i : Instr) (w : Word) : Prop :=
  (∃ k slot carrier, decodeA k slot w carrier = i) ∨ (∃ k, decodeM k w = i) ∨ (∃ k carrier, decodeL k w carrier = accessClean i)

theorem syllable_decodes (i : Instr) (w : Word) (hwf : i.wf = true) (hw : i.syllable = some w)
    (hnop : ∀ k sl raw ecc, i ≠ .nop k sl raw ecc) : DecodesTo i w := by
  cases i
  case nop k sl raw ecc => exact absurd rfl (hnop k sl raw ecc)
  case add k slot f | sub k slot f | andOp k slot f | orOp k slot f | xorOp k slot f | andn k slot f | shl k slot f | shr k slot f |
      sar k slot f | ror k slot f | min k slot f | max k slot f | minu k slot f | maxu k slot f | sel k slot f | cmpeq k slot f |
      cmpne k slot f | cmplt k slot f | cmpltu k slot f | cmple k slot f | cmpleu k slot f | pand k slot f | por k slot f |
      pxor k slot f | pandn k slot f | mfs k slot f | mfsd k slot f | mts k slot f | movd k slot f | clz k slot f | popc k slot f |
      addd k slot f | subd k slot f | fneg k slot f | fabs k slot f =>
    cases hw
    exact .inl ⟨k, slot, 0, by unfold decodeA; rw [opField_encodeReg, regFields_encodeReg]; rfl⟩
  case addi k slot f | andi k slot f | ori k slot f | xori k slot f | shli k slot f | shri k slot f | sari k slot f | rori k slot f |
      cmpeqi k slot f | cmplti k slot f =>
    cases hw
    exact .inl ⟨k, slot, f.long, by unfold decodeA; rw [opField_encodeImm, immFields_encodeImm _ hwf]; rfl⟩
  case mul k f | mulhs k f | mulhu k f | mulws k f | mulwu k f | divs k f | divu k f | rems k f | remu k f | faddS k f | fsubS k f |
      fmulS k f | fmaS k f | fnmaS k f | fminS k f | fmaxS k f | fdivS k f | fsqrtS k f | fcmpeqS k f | fcmpltS k f | fcmpleS k f |
      fcmpunS k f | fcvtSW k f | fcvtnWS k f | fcvtzWS k f | faddD k f | fsubD k f | fmulD k f | fmaD k f | fnmaD k f | fminD k f |
      fmaxD k f | fdivD k f | fsqrtD k f | fcmpeqD k f | fcmpltD k f | fcmpleD k f | fcmpunD k f | fcvtDW k f | fcvtnWD k f |
      fcvtzWD k f | fcvtDS k f | fcvtSD k f =>
    cases hw
    exact .inr (.inl ⟨k, by unfold decodeM; rw [opField_encodeReg, regFields_encodeReg]; rfl⟩)
  case ldw k f ecc | ldh k f ecc | ldhu k f ecc | ldb k f ecc | ldbu k f ecc | ldd k f ecc | stw k f ecc | sth k f ecc | stb k f ecc |
      std k f ecc =>
    cases hw
    exact .inr (.inr ⟨k, f.long, by unfold decodeL; rw [opField_encodeImm, immFields_encodeImm _ hwf]; rfl⟩)
  case ldwx k f ecc | lddx k f ecc | stwx k f ecc | stdx k f ecc =>
    cases hw
    exact .inr (.inr ⟨k, 0, by unfold decodeL; rw [opField_encodeReg, regFields_encodeReg]; rfl⟩)
  case br k f =>
    cases hw
    exact .inr (.inr ⟨k, 0, by unfold decodeL; rw [opField_encodeTgt, tgtFields_encodeTgt]; rfl⟩)
  case bri k f | xset k f =>
    cases hw
    exact .inr (.inr ⟨k, 0, by unfold decodeL; rw [opField_encodeReg, regFields_encodeReg]; rfl⟩)
  case loopi k f | loopr k f =>
    cases hw
    exact .inr (.inr ⟨k, 0, by unfold decodeL; rw [opField_encodeLp, lpFields_encodeLp]; rfl⟩)
  case endOp k r =>
    cases hw
    exact .inr (.inr ⟨k, 0, by unfold decodeL; rw [opField_append, extractLsb'_append_eq_right]; rfl⟩)
  all_goals cases hw

/-- Settles O4, from the fields of each format's word and the rows of each slot's table. -/
theorem syllableDecodeEncode : Obligations.SyllableDecodeEncode := by
  unfold Obligations.SyllableDecodeEncode
  refine ⟨syllable_decodes, fun k w c h => ⟨?_, ?_⟩, decodeM_of_unlisted, decodeL_of_unlisted⟩
  · exact decodeA_of_unlisted k .a0 w c h
  · exact decodeA_of_unlisted k .a1 w c h

end Sys2Proof.Machine
end

section
/-! What issuing gives, shape by shape, and the results of the A, M and L slots (R77 to R82). -/
namespace Sys2Proof.Machine

variable {s : State} {k : Site} {r : Running}

/-! ### The shapes of the A slots (R77) -/

theorem b2n_eq_toNat (b : Bool) : b2n b = b.toNat := by cases b <;> rfl

theorem bne_eq_decide_ne (a b : Word) : (a != b) = decide (a ≠ b) := by
  rw [Bool.eq_iff_iff]; simp

theorem isPred_eq_true {n : BitVec 6} (h : n < 8#6) : isPred n = true := decide_eq_true h

section
variable {slot : ASlot} {f : RegSyl} (h : s.issuesAt k r) (hg : s.guarded k f.n f.p) (hx : f.x = 0#3)
include h hg hx

theorem State.aBin_ok (op : Word → Word → Word) : s.aBin k slot f op = s.bundled k (Bundle.withOp r.cyc slot.num 1 (.reg f.dst)
    ((op ((s.engine k).reg f.sa) ((s.engine k).reg f.sb)).zeroExtend 64) 0 f.d) := by
  rw [State.aBin, hx]; exact State.aReg_ok h hg

theorem State.aUn_ok (hb : f.sb = 0#6) (op : Word → Word) : s.aUn k slot f op = s.bundled k (Bundle.withOp r.cyc slot.num 1 (.reg f.dst)
    ((op ((s.engine k).reg f.sa)).zeroExtend 64) 0 f.d) := by
  rw [State.aUn, hx, hb]; exact State.aReg_ok h hg

theorem State.aCmp_ok (hd : f.dst < 8#6) (op : Word → Word → Bool) : s.aCmp k slot f op =
    s.bundled k (Bundle.withOp r.cyc slot.num 1 (.pred (f.dst.truncate 3))
      (BitVec.ofNat 64 (op ((s.engine k).reg f.sa) ((s.engine k).reg f.sb)).toNat) 0 f.d) := by
  rw [State.aCmp, hx, isPred_eq_true hd, ← b2n_eq_toNat]; exact State.aReg_ok h hg

theorem State.aPred_ok (hd : f.dst < 8#6) (ha : f.sa < 8#6) (hb : f.sb < 8#6) (op : Bool → Bool → Bool) : s.aPred k slot f op =
    s.bundled k (Bundle.withOp r.cyc slot.num 1 (.pred (f.dst.truncate 3))
      (BitVec.ofNat 64 (op ((s.engine k).pred (f.sa.truncate 3)) ((s.engine k).pred (f.sb.truncate 3))).toNat) 0 f.d) := by
  rw [State.aPred, hx, isPred_eq_true hd, isPred_eq_true ha, isPred_eq_true hb, ← b2n_eq_toNat]; exact State.aReg_ok h hg

theorem State.aPair_ok (hd : isPair f.dst = true) (ha : isPair f.sa = true) (hb : isPair f.sb = true) (op : DWord → DWord → DWord) :
    s.aPair k slot f op = s.bundled k (Bundle.withOp r.cyc slot.num 1 (.pair f.dst)
      (op ((s.engine k).pair f.sa) ((s.engine k).pair f.sb)) 0 f.d) := by
  rw [State.aPair, hx, hd, ha, hb]; exact State.aReg_ok h hg
end

section
variable {slot : ASlot} {f : ImmSyl} (h : s.issuesAt k r) (hg : s.guarded k f.n f.p) (hl : f.imm = 0x100#9 → slot = .a0)

theorem ImmSyl.okIn_of_long (hl : f.imm = 0x100#9 → slot = .a0) : f.okIn slot = true := by
  by_cases hi : f.imm = 0x100#9
  · rw [hl hi]; simp [ImmSyl.okIn, show (ASlot.a0 == ASlot.a1) = false from rfl]
  · simp [ImmSyl.okIn, hi]

include h hg hl

theorem State.aImm_ok {ok : Bool} (hok : ok = true) (op : Word → Word → Word) : s.aImm k slot f ok op =
    s.bundled k (Bundle.withOp r.cyc slot.num 1 (.reg f.dst) ((op ((s.engine k).reg f.sa) f.value).zeroExtend 64) 0 f.d) := by
  rw [State.aImm, ImmSyl.okIn_of_long hl, hok]
  exact State.issue_op (v := fun e _ => (op (e.reg f.sa) f.value).zeroExtend 64) (fl := fun _ => 0) h hg

theorem State.aCmpImm_ok (hd : f.dst < 8#6) (op : Word → Word → Bool) : s.aCmpImm k slot f op =
    s.bundled k (Bundle.withOp r.cyc slot.num 1 (.pred (f.dst.truncate 3))
      (BitVec.ofNat 64 (op ((s.engine k).reg f.sa) f.value).toNat) 0 f.d) := by
  rw [State.aCmpImm, ImmSyl.okIn_of_long hl, isPred_eq_true hd, ← b2n_eq_toNat]
  exact State.issue_op (v := fun e _ => BitVec.ofNat 64 (b2n (op (e.reg f.sa) f.value))) (fl := fun _ => 0) h hg
end

/-! ### Results of Table 3.7 as numbers -/

theorem ite_slt_eq_ofInt_min (a b : Word) : (if a.slt b then a else b) = BitVec.ofInt 32 (min a.toInt b.toInt) := by
  rw [BitVec.slt_eq_decide]
  by_cases h : a.toInt < b.toInt
  · simp [h, Int.min_eq_left (Int.le_of_lt h)]
  · simp [h, Int.min_eq_right (Int.not_lt.1 h)]

theorem ite_slt_eq_ofInt_max (a b : Word) : (if a.slt b then b else a) = BitVec.ofInt 32 (max a.toInt b.toInt) := by
  rw [BitVec.slt_eq_decide]
  by_cases h : a.toInt < b.toInt
  · simp [h, Int.max_eq_right (Int.le_of_lt h)]
  · simp [h, Int.max_eq_left (Int.not_lt.1 h)]

theorem ite_lt_eq_ofNat_min (a b : Word) : (if a < b then a else b) = BitVec.ofNat 32 (min a.toNat b.toNat) := by
  by_cases h : a < b
  · simp [h, Nat.min_eq_left (Nat.le_of_lt (BitVec.lt_def.1 h))]
  · simp [h, Nat.min_eq_right (Nat.not_lt.1 (mt BitVec.lt_def.2 h))]

theorem ite_lt_eq_ofNat_max (a b : Word) : (if a < b then b else a) = BitVec.ofNat 32 (max a.toNat b.toNat) := by
  by_cases h : a < b
  · simp [h, Nat.max_eq_right (Nat.le_of_lt (BitVec.lt_def.1 h))]
  · simp [h, Nat.max_eq_left (Nat.not_lt.1 (mt BitVec.lt_def.2 h))]

/-- A mantissa of n bits lies from 2^(n − 1) to 2^n − 1. -/
theorem lt_two_pow_bitLen (m : Nat) : m < 2 ^ bitLen m ∧ (m ≠ 0 → 2 ^ (bitLen m - 1) ≤ m) := by
  by_cases h : m = 0
  · simp [h, bitLen]
  · simp [bitLen, h, Nat.lt_log2_self, Nat.log2_self_le]

theorem bitLen_le {m n : Nat} (h : m < 2 ^ n) : bitLen m ≤ n := by
  by_cases hm : m = 0
  · simp [hm, bitLen]
  · simpa [bitLen, hm, Nat.succ_le_iff] using (Nat.log2_lt hm).2 h

/-- CLZ counts the zeros above the highest bit that is set. -/
theorem leading_zeros_spec (a : Word) : 32 - bitLen a.toNat ≤ 32 ∧ a.toNat < 2 ^ (32 - (32 - bitLen a.toNat)) ∧
    (32 - bitLen a.toNat < 32 → 2 ^ (31 - (32 - bitLen a.toNat)) ≤ a.toNat) := by
  have hle : bitLen a.toNat ≤ 32 := bitLen_le a.isLt
  obtain ⟨hlt, hge⟩ := lt_two_pow_bitLen a.toNat
  rw [show 32 - (32 - bitLen a.toNat) = bitLen a.toNat by omega, show 31 - (32 - bitLen a.toNat) = bitLen a.toNat - 1 by omega]
  refine ⟨Nat.sub_le .., hlt, fun h => hge fun h0 => ?_⟩
  simp [h0, bitLen] at h

/-- Settles O6, from the shapes of the A slots and Table 3.7's results as numbers. -/
theorem aLaneRegisterResults : Obligations.ALaneRegisterResults := by
  unfold Obligations.ALaneRegisterResults
  refine fun k slot f s r h hg => ⟨congrArg Host.Outcome.next (State.aReg_ok h hg), fun hx => ?_⟩
  have bin := State.aBin_ok (slot := slot) h hg hx
  refine ⟨congrArg _ (bin _), congrArg _ (bin _), congrArg _ (bin _), congrArg _ (bin _), congrArg _ (bin _), congrArg _ (bin _),
    congrArg _ (bin _), congrArg _ (bin _), congrArg _ (bin _), congrArg _ (bin _), ?min, ?max, ?minu, ?maxu, fun hb => ?_⟩
  case min => exact congrArg _ ((bin _).trans (by rw [ite_slt_eq_ofInt_min]))
  case max => exact congrArg _ ((bin _).trans (by rw [ite_slt_eq_ofInt_max]))
  case minu => exact congrArg _ ((bin _).trans (by rw [ite_lt_eq_ofNat_min]))
  case maxu => exact congrArg _ ((bin _).trans (by rw [ite_lt_eq_ofNat_max]))
  have un := State.aUn_ok (slot := slot) h hg hx hb
  exact ⟨congrArg _ (un _), congrArg _ (un _), ⟨_, congrArg _ (un _), leading_zeros_spec _⟩, congrArg _ (un _)⟩

/-- Settles O7, from the shape of the immediate forms. -/
theorem aLaneImmediateResults : Obligations.ALaneImmediateResults := by
  unfold Obligations.ALaneImmediateResults
  refine fun k slot f s r h hg hl => ?_
  have imm {ok} (hok : ok = true) := State.aImm_ok (slot := slot) h hg hl hok
  refine ⟨congrArg _ (imm rfl _), congrArg _ (imm rfl _), congrArg _ (imm rfl _), congrArg _ (imm rfl _), fun hv => ?shift, fun hd => ?test⟩
  case shift =>
    have hok : f.okShift = true := decide_eq_true hv
    exact ⟨congrArg _ (imm hok _), congrArg _ (imm hok _), congrArg _ (imm hok _), congrArg _ (imm hok _)⟩
  case test =>
    have cmp := State.aCmpImm_ok (slot := slot) h hg hl hd
    exact ⟨congrArg _ (cmp _), congrArg _ ((cmp _).trans (by rw [BitVec.slt_eq_decide]; rfl))⟩

/-- Settles O8, from the shapes of compares and predicate operations. -/
theorem aLanePredicateResults : Obligations.ALanePredicateResults := by
  unfold Obligations.ALanePredicateResults
  refine fun k slot f s r h hg hx hd => ?_
  have cmp := State.aCmp_ok (slot := slot) h hg hx hd
  refine ⟨congrArg _ (cmp _), ?ne, ?lt, congrArg _ (cmp _), ?le, congrArg _ (cmp _), fun ha hb => ?preds⟩
  case ne => exact congrArg _ ((cmp _).trans (by rw [bne_eq_decide_ne]))
  case lt => exact congrArg _ ((cmp _).trans (by rw [BitVec.slt_eq_decide]))
  case le => exact congrArg _ ((cmp _).trans (by rw [BitVec.sle_eq_decide]))
  case preds =>
    have pred := State.aPred_ok (slot := slot) h hg hx hd ha hb
    exact ⟨congrArg _ (pred _), congrArg _ (pred _), congrArg _ (pred _), congrArg _ (pred _)⟩

end Sys2Proof.Machine
end

section
/-! Results of pairs and special registers, of the M slot, and the control syllables (R62 to R66, R78 to R87). -/
namespace Sys2Proof.Machine

variable {s : State} {k : Site} {r : Running}

/-! ### Pairs and special registers (R62, R65, R66) -/

/-- An issue that changes the bundle under its guard, whatever it changes. -/
theorem State.issue_guarded {n : Bool} {p : BitVec 3} {ok : Bool} {cause : Engine → Running → Bool → Option (Nat × Nat)}
    {eff : Engine → Running → Bool → Bundle → Bundle} (h : s.issuesAt k r) (hg : s.guarded k n p) (hok : ok = true)
    (hc : cause (s.engine k) r true = none) : s.issue k n p ok cause eff = s.bundled k (eff (s.engine k) r true) := by
  unfold State.guarded at hg
  rw [hok, State.issue_ok h (by rw [hg]; exact hc), hg]

theorem State.aReg_of_ok {slot : ASlot} {f : RegSyl} {ok : Bool} {dst : Dest} {v : Engine → DWord} (h : s.issuesAt k r)
    (hg : s.guarded k f.n f.p) (hok : ok = true) :
    s.aReg k slot f ok dst v = s.bundled k (Bundle.withOp r.cyc slot.num 1 dst (v (s.engine k)) 0 f.d) := by
  rw [hok]; exact State.aReg_ok h hg

/-- Settles O9, from the pair shape and the issue of each special register access. -/
theorem pairAndSpecialResults : Obligations.PairAndSpecialResults := by
  unfold Obligations.PairAndSpecialResults
  refine fun k slot f s r h hg hx => ⟨fun hd ha hb => ?arith, fun hd ha hb => ?movd, fun hb ha => ?mfs, fun hb hd ha => ?tick,
    fun hb hd ha => ?tb0, fun hd hf ha => ?flags, fun hd hf ha => ?status⟩
  case arith =>
    have pair := State.aPair_ok (slot := slot) h hg hx hd ha hb
    exact ⟨congrArg _ (pair _), congrArg _ (pair _)⟩
  case movd =>
    have hok : (f.x == 0#3 && f.sb == 0#6 && isPair f.dst && isPair f.sa) = true := by simp [hx, hb, hd, ha]
    exact congrArg _ (State.aReg_of_ok h hg hok)
  case mfs => exact congrArg _ (State.issue_guarded h hg (by simp [hx, hb, ha]) rfl)
  case tick => exact congrArg _ (Eq.trans (State.issue_guarded h hg (by simp [hx, hb, hd, ha]) rfl) (by rw [ha]; rfl))
  case tb0 => exact congrArg _ (Eq.trans (State.issue_guarded h hg (by simp [hx, hb, hd, ha]) rfl) (by rw [ha]; rfl))
  case flags => exact congrArg _ (Eq.trans (State.issue_guarded h hg (by simp [hx, hd, hf, ha]) rfl) (by rw [ha]; rfl))
  case status => exact congrArg _ (Eq.trans (State.issue_guarded h hg (by simp [hx, hd, hf, ha]) rfl) (by rw [ha]; rfl))

/-! ### The M slot (R78, R81, R82) -/

theorem ofInt_tdiv (a b : Word) : a.sdiv b = BitVec.ofInt 32 (a.toInt.tdiv b.toInt) := by
  apply BitVec.eq_of_toInt_eq
  rw [BitVec.toInt_sdiv, BitVec.toInt_ofInt]

theorem ofInt_tmod (a b : Word) : a.srem b = BitVec.ofInt 32 (a.toInt.tmod b.toInt) := by
  rw [← BitVec.toInt_srem, BitVec.ofInt_toInt]

theorem ofNat_div (a b : Word) : a / b = BitVec.ofNat 32 (a.toNat / b.toNat) := by
  rw [← BitVec.toNat_udiv, BitVec.ofNat_toNat, BitVec.setWidth_eq]

theorem ofNat_mod (a b : Word) : a % b = BitVec.ofNat 32 (a.toNat % b.toNat) := by
  rw [← BitVec.toNat_umod, BitVec.ofNat_toNat, BitVec.setWidth_eq]

theorem State.mOp_of_ok {f : RegSyl} {ok : Bool} {lat : Nat} {dst : Dest} {v : Engine → DWord × Nat} (h : s.issuesM k r)
    (hg : s.guarded k f.n f.p) (hx : f.x = 0#3) (hok : ok = true) : s.mOp k f ok lat false dst v =
      s.bundled k (Bundle.withOp r.cyc 2 lat dst (v (s.engine k)).1 (v (s.engine k)).2 f.d) := by
  rw [hok]; exact State.mOp_ok h hg hx

/-- Settles O10, from the M slot's shapes and the divisions by zero and by anything else. -/
theorem mLaneIntegerResults : Obligations.MLaneIntegerResults := by
  unfold Obligations.MLaneIntegerResults
  refine fun k f s r h hg hx => ?_
  have short {dst} (v : Engine → DWord × Nat) := State.mOp_ok (dst := dst) (lat := 3) (v := v) h hg hx
  have long (v : Engine → DWord × Nat) := State.mOp_blocking (dst := .reg f.dst) (lat := 18) (v := v) h hg hx
  refine ⟨congrArg _ (short _), congrArg _ (short _), congrArg _ (short _), fun hd => ?wide, fun hb => ?zero, fun hb => ?nonzero⟩
  case wide => exact ⟨congrArg _ (State.mOp_of_ok h hg hx hd), congrArg _ (State.mOp_of_ok h hg hx hd)⟩
  case zero =>
    refine ⟨congrArg _ ((long _).trans ?_), congrArg _ ((long _).trans ?_), congrArg _ ((long _).trans ?_), congrArg _ ((long _).trans ?_)⟩
    · simp only [divS, hb, if_true]
    · simp only [divU, hb, if_true]
    · simp only [remS, hb, if_true]
    · simp only [remU, hb, if_true]
  case nonzero =>
    refine ⟨congrArg _ ((long _).trans ?_), congrArg _ ((long _).trans ?_), congrArg _ ((long _).trans ?_), congrArg _ ((long _).trans ?_)⟩
    · simp only [divS, hb, if_false, ofInt_tdiv]
    · simp only [divU, hb, if_false, ofNat_div]
    · simp only [remS, hb, if_false, ofInt_tmod]
    · simp only [remU, hb, if_false, ofNat_mod]

section
variable {f : RegSyl} (h : s.issuesM k r) (hg : s.guarded k f.n f.p) (hx : f.x = 0#3)
include h hg hx

theorem State.mF32_ok {ok : Bool} (hok : ok = true) {lat : Nat} (op : Nat → Nat → Nat → Nat × Nat) :
    let v := op ((s.engine k).reg f.sa).toNat ((s.engine k).reg f.sb).toNat ((s.engine k).reg f.dst).toNat
    s.mF32 k f ok lat false op = s.bundled k (Bundle.withOp r.cyc 2 lat (.reg f.dst) (BitVec.ofNat 64 (v.1 % 2 ^ 32)) v.2 f.d) := by
  rw [hok]; exact State.mOp_ok h hg hx

theorem State.mF32_blocking {ok : Bool} (hok : ok = true) {lat : Nat} (op : Nat → Nat → Nat → Nat × Nat) :
    let v := op ((s.engine k).reg f.sa).toNat ((s.engine k).reg f.sb).toNat ((s.engine k).reg f.dst).toNat
    s.mF32 k f ok lat true op = s.bundled k (fun b =>
      { b.withOp r.cyc 2 lat (.reg f.dst) (BitVec.ofNat 64 (v.1 % 2 ^ 32)) v.2 f.d with mFree := some (r.cyc + lat) }) := by
  rw [hok]; exact State.mOp_blocking h hg hx

theorem State.mCmp32_ok (hd : f.dst < 8#6) (op : Nat → Nat → Bool × Nat) :
    let v := op ((s.engine k).reg f.sa).toNat ((s.engine k).reg f.sb).toNat
    s.mCmp32 k f op =
      s.bundled k (Bundle.withOp r.cyc 2 4 (.pred (f.dst.truncate 3)) (BitVec.ofNat 64 v.1.toNat) v.2 f.d) := by
  intro v
  rw [State.mCmp32, isPred_eq_true hd, ← b2n_eq_toNat]; exact State.mOp_ok h hg hx

theorem State.mF64_ok {ok : Bool} (hok : ok = true) (hd : isPair f.dst = true) (ha : isPair f.sa = true) {lat : Nat}
    (op : Nat → Nat → Nat → Nat × Nat) :
    let v := op ((s.engine k).pair f.sa).toNat ((s.engine k).pair f.sb).toNat ((s.engine k).pair f.dst).toNat
    s.mF64 k f ok lat false op = s.bundled k (Bundle.withOp r.cyc 2 lat (.pair f.dst) (BitVec.ofNat 64 v.1) v.2 f.d) := by
  rw [State.mF64, hok, hd, ha]; exact State.mOp_ok h hg hx

theorem State.mF64_blocking {ok : Bool} (hok : ok = true) (hd : isPair f.dst = true) (ha : isPair f.sa = true) {lat : Nat}
    (op : Nat → Nat → Nat → Nat × Nat) :
    let v := op ((s.engine k).pair f.sa).toNat ((s.engine k).pair f.sb).toNat ((s.engine k).pair f.dst).toNat
    s.mF64 k f ok lat true op = s.bundled k (fun b =>
      { b.withOp r.cyc 2 lat (.pair f.dst) (BitVec.ofNat 64 v.1) v.2 f.d with mFree := some (r.cyc + lat) }) := by
  rw [State.mF64, hok, hd, ha]; exact State.mOp_blocking h hg hx

theorem State.mCmp64_ok (hd : f.dst < 8#6) (ha : isPair f.sa = true) (hb : isPair f.sb = true) (op : Nat → Nat → Bool × Nat) :
    let v := op ((s.engine k).pair f.sa).toNat ((s.engine k).pair f.sb).toNat
    s.mCmp64 k f op =
      s.bundled k (Bundle.withOp r.cyc 2 5 (.pred (f.dst.truncate 3)) (BitVec.ofNat 64 v.1.toNat) v.2 f.d) := by
  intro v
  rw [State.mCmp64, isPred_eq_true hd, ha, hb, ← b2n_eq_toNat]; exact State.mOp_ok h hg hx
end

/-- Settles O11, from the binary32 shapes. -/
theorem singleFloatResults : Obligations.SingleFloatResults := by
  unfold Obligations.SingleFloatResults
  refine fun k f s r h hg hx => ?_
  have short (op) := State.mF32_ok h hg hx (ok := true) rfl (lat := 4) op
  have long {ok} (hok : ok = true) (op) := State.mF32_blocking h hg hx hok (lat := 12) op
  refine ⟨congrArg _ (short _), congrArg _ (short _), congrArg _ (short _), congrArg _ (short _), congrArg _ (short _), congrArg _ (short _),
    congrArg _ (short _), congrArg _ (long rfl _), fun hb => congrArg _ (long (beq_iff_eq.2 hb) _), fun hd => ?compares⟩
  have cmp (op) := State.mCmp32_ok h hg hx hd op
  exact ⟨congrArg _ (cmp _), congrArg _ (cmp _), congrArg _ (cmp _), congrArg _ (cmp _)⟩

/-- Settles O12, from the binary64 shapes. -/
theorem doubleFloatResults : Obligations.DoubleFloatResults := by
  unfold Obligations.DoubleFloatResults
  refine fun k f s r h hg hx ha => ⟨fun hd hb => ?arith, fun hd hb => ?sqrt, fun hd hb => ?compares⟩
  case arith =>
    have op {lat} (op) := State.mF64_ok h hg hx hb hd ha (lat := lat) op
    exact ⟨congrArg _ (op _), congrArg _ (op _), congrArg _ (op _), congrArg _ (op _), congrArg _ (op _), congrArg _ (op _),
      congrArg _ (op _), congrArg _ (State.mF64_blocking h hg hx hb hd ha _)⟩
  case sqrt => exact congrArg _ (State.mF64_blocking h hg hx (beq_iff_eq.2 hb) hd ha _)
  case compares =>
    have cmp (op) := State.mCmp64_ok h hg hx hd ha hb op
    exact ⟨congrArg _ (cmp _), congrArg _ (cmp _), congrArg _ (cmp _), congrArg _ (cmp _)⟩

/-- Settles O13, from the M slot's shape. -/
theorem conversionResults : Obligations.ConversionResults := by
  unfold Obligations.ConversionResults
  refine fun k f s r h hg hx hb => ?_
  have op {ok lat dst v} (hok : ok = true) := State.mOp_of_ok (lat := lat) (dst := dst) (v := v) h hg hx hok
  have hsb : (f.sb == 0#6) = true := beq_iff_eq.2 hb
  have hword : BitVec.ofNat 32 ((s.engine k).reg f.sa).toNat = (s.engine k).reg f.sa := by
    rw [BitVec.ofNat_toNat, BitVec.setWidth_eq]
  refine ⟨congrArg _ ((op hsb).trans (by simp only [hword])), congrArg _ (op hsb), congrArg _ (op hsb), fun hd => ?dst, fun ha => ?src⟩
  case dst =>
    have hok : (f.sb == 0#6 && isPair f.dst) = true := by rw [hsb, hd]; rfl
    exact ⟨congrArg _ ((op hok).trans (by simp only [hword])), congrArg _ (op hok)⟩
  case src =>
    have hok : (f.sb == 0#6 && isPair f.sa) = true := by rw [hsb, ha]; rfl
    exact ⟨congrArg _ (op hok), congrArg _ (op hok), congrArg _ (op hok)⟩

/-! ### The control syllables (R80, R83 to R87) -/

theorem any_last_eq_false {ls : List Loop} {pc : Nat} (h : ∀ l ∈ ls, l.last ≠ pc) : ls.any (fun l => l.last == pc) = false := by
  simpa using h

/-- Two loops that nest: another counter, and an end not beyond that of the outer one (R85). -/
theorem loopCause_eq_none {e : Engine} {lc : Bool} {last : Nat} (hlen : e.loops.length < 2)
    (hl : ∀ l ∈ e.loops, l.lc ≠ lc ∧ last ≤ l.last) (g : Bool) : loopCause lc last e r g = none := by
  have hlc : e.loops.any (fun l => l.lc == lc) = false := by simpa using fun l hm => (hl l hm).1
  unfold loopCause
  rw [hlc]
  cases hloops : e.loops with
  | nil => rfl
  | cons l ls =>
    have hlast : last ≤ l.last := (hl l (by simp [hloops])).2
    have hls : ls = [] := by
      rw [hloops, List.length_cons] at hlen
      exact List.eq_nil_of_length_eq_zero (by omega)
    simp [hls, Nat.not_lt.2 hlast]

theorem State.startLoop_ok {f : LpSyl} {okCnt : Bool} {count : Engine → Word} (h : s.issuesAt k r) (hrest : f.rest = 0#5)
    (hcnt : okCnt = true) (hend : r.pc < f.last.toNat) (hlen : (s.engine k).loops.length < 2)
    (hl : ∀ l ∈ (s.engine k).loops, l.lc ≠ f.lc ∧ f.last.toNat ≤ l.last) : s.startLoop k f okCnt count =
      s.bundled k (fun b => { b with loop := some (⟨f.lc, r.pc + 1, f.last.toNat⟩, count (s.engine k)) }) := by
  have hok : (f.rest == 0#5 && okCnt && decide (r.pc < f.last.toNat)) = true := by simp [hrest, hcnt, hend]
  simp only [State.startLoop, h.1, hok]
  exact State.issue_ok h (loopCause_eq_none hlen hl _)

/-- Settles O16, from the issue of each control syllable. -/
theorem controlSyllables : Obligations.ControlSyllables := by
  unfold Obligations.ControlSyllables
  refine fun k s r h => ⟨fun f hg hd hr hl => ?br, fun f hg hd hdst hb hx hl ht => ?bri, fun f hr he hlen hl => ⟨?loopi, fun hc => ?loopr⟩,
    ?endOp, fun f hg hd hx => ?xset, fun slot ha hb => execNop_zero h ha hb slot⟩
  case br =>
    have htarget : ¬ 8191 < f.target.toNat := Nat.not_lt.2 (Nat.le_of_lt_succ f.target.isLt)
    exact congrArg _ (State.issue_guarded h hg (by simp [hd, hr]) (by simp [branchCause, any_last_eq_false hl, htarget]))
  case bri =>
    exact congrArg _ (State.issue_guarded h hg (by simp [hd, hdst, hb, hx]) (by simp [branchCause, any_last_eq_false hl, ht]))
  case loopi => exact congrArg _ (State.startLoop_ok h hr rfl he hlen hl)
  case loopr =>
    have hfield : (f.cnt >>> 1).truncate 6 = f.cnt.extractLsb' 1 6 := by
      apply BitVec.eq_of_toNat_eq
      simp [BitVec.extractLsb'_toNat]
    exact congrArg _ ((State.startLoop_ok h hr (by rw [hc]; rfl) he hlen hl).trans (by rw [hfield]))
  case endOp => exact congrArg _ (State.issue_ok h rfl)
  case xset => exact congrArg _ (State.issue_guarded h hg (by simp [hd, hx]) rfl)

end Sys2Proof.Machine
end

section
/-! What issuing leaves unchanged, loads and stores, and undefined encodings (R61, R63, R67, R68, R75, R79, R89). -/
namespace Sys2Proof.Machine

variable {s t u : State} {k : Site} {r : Running}

/-! ### Access to lanes and engines -/

theorem State.lane_of_lanes (h : t.lanes = s.lanes) (l : LaneId) : t.lane l = s.lane l := by
  rw [State.lane, State.lane, h]

theorem State.engine_of_lanes (h : t.lanes = s.lanes) (k : Site) : t.engine k = s.engine k := by
  rw [State.engine, State.engine, State.lane_of_lanes h]

/-- An engine beside the one updated is as it was. -/
theorem State.modEng_engine_eq (s : State) (k j : Site) (f : Engine → Engine) :
    (s.modEng k f).engine j = if j = k then f (s.engine k) else s.engine j := by
  by_cases h : j = k
  · subst h; simp
  · simp [h, State.modEng_engine_ne s k f h]

theorem State.abortClause_engine_ne (h : (s.engine k).run = some r) (c a : Nat) (o : Origin) {j : Site} (hj : j ≠ k) :
    (s.abortClause k c a o).engine j = s.engine j := by
  unfold State.abortClause
  simp only [h]
  rw [State.engine_of_lanes (State.clauseRecord_lanes ..), State.abortFault_engine, State.modEng_engine_ne _ _ _ hj]

/-! ### The frame of an issue -/

theorem Engine.sameRegisters.refl (e : Engine) : e.sameRegisters e := ⟨rfl, rfl, rfl, rfl, rfl, rfl, rfl, rfl, rfl⟩

theorem Engine.sameRegisters.trans {a b c : Engine} (h : a.sameRegisters b) (h' : b.sameRegisters c) : a.sameRegisters c := by
  obtain ⟨h1, h2, h3, h4, h5, h6, h7, h8, h9⟩ := h
  obtain ⟨g1, g2, g3, g4, g5, g6, g7, g8, g9⟩ := h'
  exact ⟨g1.trans h1, g2.trans h2, g3.trans h3, g4.trans h4, g5.trans h5, g6.trans h6, g7.trans h7, g8.trans h8, g9.trans h9⟩

/-- Two states that differ in nothing that a program can see but the bundles in the making, and in nothing of the queue. -/
def State.sameVisible (s t : State) : Prop :=
  (∀ k : Site, (s.engine k).sameRegisters (t.engine k)) ∧ (∀ l, (t.lane l).mem = (s.lane l).mem) ∧ t.pending = s.pending

theorem State.sameVisible.refl (s : State) : s.sameVisible s := ⟨fun _ => .refl _, fun _ => rfl, rfl⟩

theorem State.sameVisible.trans (h : s.sameVisible t) (h' : t.sameVisible u) : s.sameVisible u := by
  obtain ⟨he, hm, hp⟩ := h
  obtain ⟨he', hm', hp'⟩ := h'
  exact ⟨fun k => (he k).trans (he' k), fun l => (hm' l).trans (hm l), hp'.trans hp⟩

theorem State.sameVisible_of_lanes (hl : t.lanes = s.lanes) (hp : t.pending = s.pending) : s.sameVisible t :=
  ⟨fun k => by rw [State.engine_of_lanes hl k]; exact .refl _, fun l => by rw [State.lane_of_lanes hl], hp⟩

theorem State.sameVisible_modEng {f : Engine → Engine} (hf : ∀ e : Engine, e.sameRegisters (f e)) : s.sameVisible (s.modEng k f) := by
  refine ⟨fun j => ?_, fun l => State.modEng_mem .., rfl⟩
  rw [State.modEng_engine_eq]
  split
  case isTrue h => rw [h]; exact hf _
  case isFalse => exact .refl _

theorem State.sameVisible_bundled (s : State) (k : Site) (f : Bundle → Bundle) : s.sameVisible (s.bundled k f) :=
  State.sameVisible_modEng fun _ => ⟨rfl, rfl, rfl, rfl, rfl, rfl, rfl, rfl, rfl⟩

theorem State.sameVisible_abortClause (s : State) (k : Site) (c a : Nat) (o : Origin) : s.sameVisible (s.abortClause k c a o) := by
  refine ⟨fun j => ?_, State.abortClause_mem c a o, State.abortClause_pending c a o⟩
  cases h : (s.engine k).run with
  | none => rw [State.abortClause, h]; exact .refl _
  | some r =>
    by_cases hj : j = k
    · rw [hj, State.abortClause_engine h]; exact ⟨rfl, rfl, rfl, rfl, rfl, rfl, rfl, rfl, rfl⟩
    · rw [State.abortClause_engine_ne h c a o hj]; exact .refl _

theorem State.sameVisible_lowerAbort (s : State) (k : Site) (r : Running) (c a : Nat) : s.sameVisible (s.lowerAbort k r c a) :=
  .trans (State.sameVisible_modEng (f := fun e => { e with run := some { r with aborted := some (c, r.cyc) }, prevCause := c })
    fun _ => ⟨rfl, rfl, rfl, rfl, rfl, rfl, rfl, rfl, rfl⟩) (State.sameVisible_of_lanes rfl rfl)

theorem State.sameVisible_issue (s : State) (k : Site) (n : Bool) (p : BitVec 3) (ok : Bool)
    (cause : Engine → Running → Bool → Option (Nat × Nat)) (eff : Engine → Running → Bool → Bundle → Bundle) :
    s.sameVisible (s.issue k n p ok cause eff) := by
  rcases State.issue_cases (s := s) (k := k) (n := n) (p := p) (ok := ok) (cause := cause) (eff := eff) with
    h | ⟨f, h⟩ | ⟨c, a, h⟩ | ⟨r, c, a, h⟩
  · rw [h]; exact .refl s
  · rw [h]; exact s.sameVisible_bundled k f
  · rw [h]; exact s.sameVisible_abortClause k c a .real
  · rw [h]; exact s.sameVisible_lowerAbort k r c a

/-! ### Reads of the scratchpad (R67, R68) -/

@[simp] theorem State.scratchEcc_lanes (s : State) (k : Site) (a reader : Nat) (ecc : Ecc) : (s.scratchEcc k a reader ecc).2.lanes = s.lanes := rfl
@[simp] theorem State.scratchEcc_pending (s : State) (k : Site) (a reader : Nat) (ecc : Ecc) :
    (s.scratchEcc k a reader ecc).2.pending = s.pending := rfl
@[simp] theorem State.scratchEcc_engine (s : State) (k j : Site) (a reader : Nat) (ecc : Ecc) :
    (s.scratchEcc k a reader ecc).2.engine j = s.engine j := rfl

@[simp] theorem State.fetchEcc_lanes (s : State) (k : Site) (slot : Slot) (ecc : Ecc) : (s.fetchEcc k slot ecc).2.lanes = s.lanes := by
  unfold State.fetchEcc; split <;> rfl
@[simp] theorem State.fetchEcc_pending (s : State) (k : Site) (slot : Slot) (ecc : Ecc) :
    (s.fetchEcc k slot ecc).2.pending = s.pending := by
  unfold State.fetchEcc; split <;> rfl

@[simp] theorem Lane.advance_eng (poison : List Nat) (c : Nat) (l : Lane) : (l.advance poison c).eng = l.eng := rfl

@[simp] theorem State.advance_engine (s : State) (l : LaneId) (c : Nat) (k : Site) : (s.advance l c).engine k = s.engine k := by
  rw [State.engine, State.advance, State.modLane_lane_eq]
  split
  case isTrue h => subst h; rfl
  case isFalse => rfl

/-- Without a transfer on its way, nothing reaches the lane's memory before an access. -/
theorem State.sameVisible_advance {l : LaneId} (hx : (s.lane l).xfers = []) (c : Nat) : s.sameVisible (s.advance l c) := by
  refine ⟨fun k => by rw [State.advance_engine]; exact .refl _, fun m => ?_, rfl⟩
  rw [State.advance, State.modLane_lane_eq]
  split
  case isTrue h => rw [h, Lane.advance, hx]; rfl
  case isFalse => rfl

theorem State.sameVisible_load {d n : Bool} {p : BitVec 3} {ok : Bool} {ea : Engine → Nat} {size : Nat} {dst : Dest}
    {post : Nat → DWord} {ecc : Ecc} (hx : (s.lane k.lane).xfers = []) : s.sameVisible (s.load k d n p ok ea size dst post ecc) := by
  have hadvance : s.sameVisible (if s.accesses k n p ok (addrCause ea size) then (match (s.engine k).run with
      | some r => s.advance k.lane r.tickCycle
      | none => s) else s) := by
    split
    · split
      · exact State.sameVisible_advance hx _
      · exact .refl s
    · exact .refl s
  refine hadvance.trans (.trans ?_ (State.sameVisible_issue ..))
  split
  · exact State.sameVisible_of_lanes (State.scratchEcc_lanes ..) (State.scratchEcc_pending ..)
  · exact .refl _

/-- After its issue a store changes the hub's record of its memory words alone. -/
theorem State.store_lanes {d n : Bool} {p : BitVec 3} {ok : Bool} {ea : Engine → Nat} {size : Nat} {v : Engine → Nat} {ecc : Ecc} :
    let issued := s.issue k n p (ok && !d) (addrCause ea size) (fun e _ g b =>
      if g then { b with store := some (ea e, leBytes size (v e), size) } else b)
    (s.store k d n p ok ea size v ecc).lanes = issued.lanes ∧ (s.store k d n p ok ea size v ecc).pending = issued.pending := by
  unfold State.store
  dsimp only
  split
  · exact ⟨rfl, rfl⟩
  · split
    · exact ⟨rfl, rfl⟩
    · split <;> exact ⟨rfl, rfl⟩

theorem State.sameVisible_store {d n : Bool} {p : BitVec 3} {ok : Bool} {ea : Engine → Nat} {size : Nat} {v : Engine → Nat} {ecc : Ecc} :
    s.sameVisible (s.store k d n p ok ea size v ecc) :=
  (State.sameVisible_issue ..).trans (State.sameVisible_of_lanes State.store_lanes.1 State.store_lanes.2)

theorem State.sameVisible_execNop {slot : Slot} {raw : Word} {ecc : Ecc} (h : execNop k slot raw ecc s = .next t) : s.sameVisible t := by
  cases h
  exact (State.sameVisible_of_lanes (State.fetchEcc_lanes ..) (State.fetchEcc_pending ..)).trans (State.sameVisible_issue ..)

theorem State.sameVisible_mOp {f : RegSyl} {ok : Bool} {lat : Nat} {blocking : Bool} {dst : Dest} {v : Engine → DWord × Nat} :
    s.sameVisible (s.mOp k f ok lat blocking dst v) := State.sameVisible_issue ..

theorem sameVisible_of_exec_syllable {i : Instr} (hi : i.syllable.isSome = true) (hx : ∀ l, (s.lane l).xfers = [])
    (h : exec i s = .next t) : s.sameVisible t := by
  cases i
  case nop => exact State.sameVisible_execNop h
  case ldw | ldh | ldhu | ldb | ldbu | ldd | ldwx | lddx => cases h; exact State.sameVisible_load (hx _)
  case stw | sth | stb | std | stwx | stdx => cases h; exact State.sameVisible_store
  case add | sub | andOp | orOp | xorOp | andn | shl | shr | sar | ror | min | max | minu | maxu | sel | addi | andi | ori | xori | shli |
      shri | sari | rori | cmpeq | cmpne | cmplt | cmpltu | cmple | cmpleu | cmpeqi | cmplti | pand | por | pxor | pandn | mfs | mfsd |
      mts | movd | clz | popc | addd | subd | fneg | fabs | br | bri | loopi | loopr | endOp | xset =>
    cases h; exact State.sameVisible_issue ..
  case mul | mulhs | mulhu | mulws | mulwu | divs | divu | rems | remu | faddS | fsubS | fmulS | fmaS | fnmaS | fminS | fmaxS | fdivS |
      fsqrtS | fcmpeqS | fcmpltS | fcmpleS | fcmpunS | fcvtSW | fcvtnWS | fcvtzWS | faddD | fsubD | fmulD | fmaD | fnmaD | fminD |
      fmaxD | fdivD | fsqrtD | fcmpeqD | fcmpltD | fcmpleD | fcmpunD | fcvtDW | fcvtnWD | fcvtzWD | fcvtDS | fcvtSD =>
    cases h; exact State.sameVisible_mOp
  all_goals cases hi

/-- Settles O17, from the frame of an issue and of the scratchpad accesses. -/
theorem issueFrame : Obligations.IssueFrame := by
  unfold Obligations.IssueFrame
  intro i s t hi hx h
  obtain ⟨he, hm, hp⟩ := sameVisible_of_exec_syllable hi hx h
  exact ⟨he, fun l a => by rw [hm l], hp⟩

/-! ### Loads and stores (R67, R68, R79) -/

section
variable {d n : Bool} {p : BitVec 3} {ok : Bool} {ea : Engine → Nat} {size : Nat} {ecc : Ecc}

theorem addrCause_eq_none {e : Engine} (ha : scratchOk (ea e) size) (g : Bool) : addrCause ea size e r g = none := by
  obtain ⟨hlt, hmod⟩ := ha
  simp [addrCause, Nat.not_le.2 hlt, hmod]

theorem State.accesses_of_scratchOk (h : s.issuesAt k r) (hg : s.guarded k n p) (hok : ok = true)
    (ha : scratchOk (ea (s.engine k)) size) : s.accesses k n p ok (addrCause ea size) = true := by
  obtain ⟨hrun, hissues⟩ := h
  unfold State.guarded at hg
  simp [State.accesses, hrun, hissues, hg, hok, addrCause_eq_none ha]

/-- The bytes a load delivers: those read, with the wrong bits of an uncorrectable word (R401). -/
def loadedValue (s : State) (k : Site) (addr size : Nat) (found : Ecc) : Nat :=
  ((BitVec.ofNat 64 ((s.lane k.lane).mem.readLe (scratchBase k.eng.val + addr) size) ^^^
    BitVec.ofNat 64 ((eccFlips found).toNat / 2 ^ (8 * (addr % 8)))).toNat) % 2 ^ (8 * size)

theorem State.load_ok {dst : Dest} {post : Nat → DWord} (h : s.issuesAt k r) (hg : s.guarded k n p) (hok : ok = true)
    (ha : scratchOk (ea (s.engine k)) size) :
    let seen := (s.advance k.lane r.tickCycle).scratchEcc k (ea (s.engine k)) 0 ecc
    s.load k d n p ok ea size dst post ecc = seen.2.bundled k (Bundle.withOp r.cyc 3 2 dst
      (post (loadedValue (s.advance k.lane r.tickCycle) k (ea (s.engine k)) size seen.1)) 0 d) := by
  have hhit := State.accesses_of_scratchOk h hg hok ha
  subst hok
  simp only [State.load, hhit, if_true, h.1, State.advance_engine]
  refine (State.issue_ok (r := r) ?_ ?_).trans ?_
  · simpa only [State.issuesAt, State.scratchEcc_engine, State.advance_engine] using h
  · simpa only [State.scratchEcc_engine, State.advance_engine] using addrCause_eq_none ha _
  · unfold State.guarded at hg
    simp only [State.scratchEcc_engine, State.advance_engine, hg]
    rfl

theorem State.store_ok {v : Engine → Nat} (h : s.issuesAt k r) (hg : s.guarded k n p) (hd : d = false) (hok : ok = true)
    (ha : scratchOk (ea (s.engine k)) size) :
    let t := s.store k d n p ok ea size v ecc
    t.lanes = (s.bundled k (fun b => { b with store := some (ea (s.engine k), leBytes size (v (s.engine k)), size) })).lanes ∧
      t.pending = s.pending := by
  have hissue : s.issue k n p (ok && !d) (addrCause ea size) (fun e _ g b =>
      if g then { b with store := some (ea e, leBytes size (v e), size) } else b) =
      s.bundled k (fun b => { b with store := some (ea (s.engine k), leBytes size (v (s.engine k)), size) }) :=
    State.issue_guarded h hg (by rw [hok, hd]; rfl) (addrCause_eq_none ha true)
  obtain ⟨hl, hp⟩ := State.store_lanes (s := s) (k := k) (d := d) (n := n) (p := p) (ok := ok) (ea := ea) (size := size) (v := v) (ecc := ecc)
  rw [hissue] at hl hp
  exact ⟨hl, hp⟩
end

/-- Settles O15, from what a load and what a store under a true guard at a sound address come to. -/
theorem loadsAndStores : Obligations.LoadsAndStores := by
  unfold Obligations.LoadsAndStores
  refine ⟨fun k s r ecc h => ⟨fun f hg => ?imm, fun f hg hx => ?indexed⟩, fun k s r ecc h => ⟨fun f hg hd => ?store, fun f hg hd hx => ?storex⟩⟩
  case imm =>
    have load {ok size dst post} (hok : ok = true) ha := State.load_ok (d := f.d) (ok := ok) (ea := eaImm f) (size := size) (dst := dst)
      (post := post) (ecc := ecc) h hg hok ha
    exact ⟨fun ha => congrArg _ (load rfl ha), fun ha => ⟨congrArg _ (load rfl ha), congrArg _ (load rfl ha)⟩,
      fun ha => ⟨congrArg _ (load rfl ha), congrArg _ (load rfl ha)⟩, fun ha hp => congrArg _ (load hp ha)⟩
  case indexed =>
    have hx0 : (f.x == 0#3) = true := beq_iff_eq.2 hx
    have load {ok size dst post} (hok : ok = true) ha := State.load_ok (d := f.d) (ok := ok) (ea := eaReg f) (size := size) (dst := dst)
      (post := post) (ecc := ecc) h hg hok ha
    exact ⟨fun ha => congrArg _ (load hx0 ha), fun ha hp => congrArg _ (load (by rw [hx0, hp]; rfl) ha)⟩
  case store =>
    have store {ok size v} (hok : ok = true) ha := State.store_ok (ok := ok) (ea := eaImm f) (size := size) (v := v) (ecc := ecc) h hg hd hok ha
    exact ⟨fun ha => ⟨_, rfl, store rfl ha⟩, fun ha => ⟨_, rfl, store rfl ha⟩, fun ha => ⟨_, rfl, store rfl ha⟩,
      fun ha hp => ⟨_, rfl, store hp ha⟩⟩
  case storex =>
    have hx0 : (f.x == 0#3) = true := beq_iff_eq.2 hx
    have store {ok size v} (hok : ok = true) ha := State.store_ok (ok := ok) (ea := eaReg f) (size := size) (v := v) (ecc := ecc) h hg hd hok ha
    exact ⟨fun ha => ⟨_, rfl, store hx0 ha⟩, fun ha hp => ⟨_, rfl, store (by rw [hx0, hp]; rfl) ha⟩⟩

/-! ### Undefined encodings and aborts (R61, R75, R89) -/

theorem isPred_eq_false {n : BitVec 6} (h : 7#6 < n) : isPred n = false := by
  revert n; decide

theorem State.mOp_of_fixed_field {f : RegSyl} {ok : Bool} {lat : Nat} {blocking : Bool} {dst : Dest} {v : Engine → DWord × Nat}
    (h : s.issuesAt k r) (hx : f.x ≠ 0#3) : s.mOp k f ok lat blocking dst v = s.abortClause k 2 0 .real :=
  State.issue_of_not_ok h (by simp [hx])

/-- A command that is one issue of an undefined encoding aborts its clause. -/
theorem next_issue_of_not_ok {n : Bool} {p : BitVec 3} {ok : Bool} {cause : Engine → Running → Bool → Option (Nat × Nat)}
    {eff : Engine → Running → Bool → Bundle → Bundle} (h : s.issuesAt k r) (hok : ok = false) :
    (.next (s.issue k n p ok cause eff) : Out) = s.undefinedEncoding k :=
  next_eq_undefinedEncoding (State.issue_of_not_ok h hok)

/-- A word whose opcode is listed for no operation of its slot, fetched without an error. -/
theorem execNop_of_nonzero {slot : Slot} {raw : Word} (h : s.issuesAt k r) (ha : s.hub.inject.armed = []) (hb : s.hub.mem.sramBad = [])
    (hraw : raw ≠ 0#32) : execNop k slot raw .clean s = s.undefinedEncoding k := by
  simp only [execNop, State.fetchEcc_clean ha hb]
  exact next_issue_of_not_ok h (beq_eq_false_iff_ne.2 hraw)

/-- Settles O20, from the issue of an undefined encoding and from what an abort makes of its engine. -/
theorem aborts : Obligations.Aborts := by
  unfold Obligations.Aborts
  refine ⟨fun k slot s r h => ⟨fun f hx => ?fixed, fun f hd => ?pair, fun f hd => ?pred, fun f hi => ?long, fun f hv => ?shift,
    fun sl raw hraw ha hb => execNop_of_nonzero h ha hb hraw⟩, fun k cause addr o s r h => ?abort⟩
  case fixed =>
    have hx0 : (f.x == 0#3) = false := beq_eq_false_iff_ne.2 hx
    have mSlot {ok lat blocking dst v} := next_eq_undefinedEncoding (State.mOp_of_fixed_field (ok := ok) (lat := lat)
      (blocking := blocking) (dst := dst) (v := v) h hx)
    exact ⟨next_issue_of_not_ok h hx0, next_issue_of_not_ok h (by simp [hx0]), next_issue_of_not_ok h (by simp [hx0]),
      next_issue_of_not_ok h (by simp [hx0]), mSlot, mSlot, mSlot, next_issue_of_not_ok h (by simp [hx0])⟩
  case pair =>
    exact ⟨next_issue_of_not_ok h (by simp [hd]), next_issue_of_not_ok h (by simp [hd]),
      next_eq_undefinedEncoding (State.mOp_of_not_ok h hd), next_eq_undefinedEncoding (State.mF64_of_not_pair h (.inl hd))⟩
  case pred =>
    have hp := isPred_eq_false hd
    exact ⟨next_issue_of_not_ok h (by simp [hp]), next_issue_of_not_ok h (by simp [hp]),
      next_eq_undefinedEncoding (State.mOp_of_not_ok h hp)⟩
  case long =>
    have hl : f.okIn .a1 = false := by rw [ImmSyl.okIn, hi]; rfl
    refine ⟨?_, ?_⟩ <;> exact next_issue_of_not_ok h (by rw [hl]; rfl)
  case shift =>
    have hs : f.okShift = false := decide_eq_false (Nat.not_lt.2 hv)
    refine ⟨?_, ?_⟩ <;> exact next_issue_of_not_ok h (by rw [hs, Bool.and_false])
  case abort =>
    obtain ⟨he, hm, hp⟩ := s.sameVisible_abortClause k cause addr o
    have hk := State.abortClause_engine h cause addr o
    exact ⟨by rw [hk], by rw [hk], by rw [hk], by rw [hk], by rw [hk], he k, hm, hp⟩

end Sys2Proof.Machine
end

section
/-! The laws of a lane's memory, and the beats of a transfer (R67, R68, R100). -/
namespace Sys2Proof.Machine

/-! ### Runs of bytes -/

@[simp] theorem Mem.readN_length (m : Mem) (x n : Nat) : (m.readN x n).length = n := by
  induction n generalizing x with
  | zero => rfl
  | succ n ih => simp [Mem.readN, ih]

theorem Mem.readN_getElem? (m : Mem) (x n i : Nat) : (m.readN x n)[i]? = if i < n then some (m.read (x + i)) else none := by
  induction n generalizing x i with
  | zero => rfl
  | succ n ih =>
    cases i with
    | zero => simp [Mem.readN]
    | succ i => simp [Mem.readN, ih, Nat.add_assoc, Nat.add_comm 1]

/-- Two memories that read alike on a run of bytes give the same bytes. -/
theorem Mem.readN_congr {m m' : Mem} {x x' n : Nat} (h : ∀ i, i < n → m.read (x + i) = m'.read (x' + i)) : m.readN x n = m'.readN x' n := by
  refine List.ext_getElem? fun i => ?_
  rw [Mem.readN_getElem?, Mem.readN_getElem?]
  split
  case isTrue hi => rw [h i hi]
  case isFalse => rfl

/-- What a memory reads after a run of bytes has been written. -/
theorem Mem.read_writeN {m : Mem} (h : m.wf = true) (x a : Nat) (b : Bytes) :
    (m.writeN x b).read a = if x ≤ a ∧ a < x + b.length then b.getD (a - x) 0#8 else m.read a := by
  induction b generalizing m x with
  | nil => simp [Mem.writeN, show ¬ (x ≤ a ∧ a < x) by omega]
  | cons v vs ih =>
    rw [Mem.writeN, ih (Mem.wf_write h x v), Mem.read_write h]
    rcases Nat.lt_trichotomy a x with hlt | rfl | hgt
    · simp [show ¬ x + 1 ≤ a by omega, show ¬ x ≤ a by omega, show a ≠ x by omega]
    · simp [show ¬ a + 1 ≤ a by omega]
    · have hsub : a - x = (a - (x + 1)) + 1 := by omega
      simp [show x + 1 ≤ a by omega, show x ≤ a by omega, show a ≠ x by omega, hsub, Nat.add_assoc, Nat.add_comm 1]

theorem Mem.read_writeN_outside {m : Mem} (h : m.wf = true) {x a : Nat} {b : Bytes} (ha : a < x ∨ x + b.length ≤ a) :
    (m.writeN x b).read a = m.read a := by
  rw [Mem.read_writeN h, if_neg (by omega)]

theorem Mem.readN_writeN {m : Mem} (h : m.wf = true) (x : Nat) (b : Bytes) : (m.writeN x b).readN x b.length = b := by
  refine List.ext_getElem? fun i => ?_
  rw [Mem.readN_getElem?, Mem.read_writeN h]
  by_cases hi : i < b.length
  · simp [hi]
  · simp [hi]

/-! ### Equal contents are equal data -/

theorem Mem.read_head {lo : Nat} {c : Host.Cell} {m : Mem} (h : Mem.wfFrom lo (c :: m) = true) :
    Mem.read (c :: m) c.1 = c.2 ∧ c.2 ≠ unlistedByte ∧ Mem.wfFrom (c.1 + 1) m = true ∧ lo ≤ c.1 := by
  simp only [Mem.wfFrom, Bool.and_eq_true, decide_eq_true_eq, bne_iff_ne] at h
  exact ⟨by simp [Mem.read], h.1.2, h.2, h.1.1⟩

theorem Mem.read_tail {lo : Nat} {c : Host.Cell} {m : Mem} (h : Mem.wfFrom lo (c :: m) = true) (a : Nat) :
    Mem.read m a = if a = c.1 then unlistedByte else Mem.read (c :: m) a := by
  obtain ⟨-, -, htail, -⟩ := Mem.read_head h
  by_cases ha : a = c.1
  · simp [ha, Mem.read_below htail (Nat.lt_succ_self _)]
  · by_cases hlt : a < c.1
    · simp [Mem.read, ha, hlt, Mem.read_below htail (Nat.lt_succ_of_lt hlt)]
    · simp [Mem.read, ha, hlt]

/-- The first cells of two canonical memories of the same contents stand at the same address. -/
theorem Mem.head_le_of_read_eq {lo : Nat} {c d : Host.Cell} {m m' : Mem} (h : Mem.wfFrom lo (c :: m) = true)
    (he : ∀ a, Mem.read (c :: m) a = Mem.read (d :: m') a) : d.1 ≤ c.1 := by
  obtain ⟨hread, hne, -, -⟩ := Mem.read_head h
  refine Nat.le_of_not_lt fun hlt => hne ?_
  rw [← hread, he]
  simp [Mem.read, hlt, Nat.ne_of_lt hlt]

theorem Mem.eq_of_read_eq {m m' : Mem} : ∀ {lo : Nat}, Mem.wfFrom lo m = true → Mem.wfFrom lo m' = true →
    (∀ a, m.read a = m'.read a) → m = m' := by
  induction m generalizing m' with
  | nil =>
    intro lo h h' he
    cases m' with
    | nil => rfl
    | cons d m' =>
      obtain ⟨hread, hne, -, -⟩ := Mem.read_head h'
      exact absurd (hread.symm.trans (he d.1).symm) hne
  | cons c m ih =>
    intro lo h h' he
    cases m' with
    | nil =>
      obtain ⟨hread, hne, -, -⟩ := Mem.read_head h
      exact absurd (hread.symm.trans (he c.1)) hne
    | cons d m' =>
      have haddr : c.1 = d.1 := Nat.le_antisymm (Mem.head_le_of_read_eq h' fun a => (he a).symm) (Mem.head_le_of_read_eq h he)
      obtain ⟨hc, -, htail, -⟩ := Mem.read_head h
      obtain ⟨hd, -, htail', -⟩ := Mem.read_head h'
      have hcell : c = d := Prod.ext haddr (by rw [← hc, he, haddr, hd])
      subst hcell
      rw [ih htail htail' fun a => by rw [Mem.read_tail h, Mem.read_tail h', he]]

/-- Settles O19, from reads after writes, the canonical form kept and its uniqueness. -/
theorem memoryLaws : Obligations.MemoryLaws := by
  unfold Obligations.MemoryLaws
  exact ⟨fun m x b h => Mem.readN_writeN h x b, fun m x a b h ha => Mem.read_writeN_outside h ha,
    fun m src x len b h hs => ⟨Mem.wf_writeN h x b, Mem.wf_clear h x len, Mem.wf_keep h x len, Mem.wf_copyFrom h hs x len⟩,
    fun m m' h h' he => Mem.eq_of_read_eq h h' he⟩

/-! ### The beats of a transfer (R100) -/

theorem ceilDiv_mul_ge {a b : Nat} (hb : 0 < b) : a ≤ ceilDiv a b * b := by
  have h := Nat.div_add_mod (a + b - 1) b
  have hlt := Nat.mod_lt (a + b - 1) hb
  rw [Nat.mul_comm] at h
  unfold ceilDiv
  omega

section
variable {x : Xfer} (hdst : x.dstPort ≠ .hubFrame)
include hdst

/-- One beat: the bytes of the source, written at the destination. -/
theorem moveBeats_succ (k : Nat) (m : Mem) (acc : Bytes) (j : Nat) : moveBeats x (k + 1) (m, acc) j =
    moveBeats x k (m.writeN (x.dst + j * x.beat) (m.readN (x.src + j * x.beat) (min x.beat (x.len - j * x.beat))),
      acc ++ m.readN (x.src + j * x.beat) (min x.beat (x.len - j * x.beat))) (j + 1) := by
  simp [moveBeats, hdst]

/-- `k` beats from beat `j` on copy the bytes of these beats and touch no others, where source and destination do not overlap. -/
theorem moveBeats_read (hsep : x.src + x.len ≤ x.dst ∨ x.dst + x.len ≤ x.src) (k : Nat) : ∀ (m : Mem) (acc : Bytes) (j : Nat),
    m.wf = true → ∀ a, (moveBeats x k (m, acc) j).1.read a =
      if x.dst + j * x.beat ≤ a ∧ a < x.dst + min x.len ((j + k) * x.beat) then m.read (x.src + (a - x.dst)) else m.read a := by
  induction k with
  | zero =>
    intro m acc j _ a
    rw [Nat.add_zero, if_neg (by omega)]
    rfl
  | succ k ih =>
    intro m acc j hm a
    rw [moveBeats_succ hdst, ih _ _ _ (Mem.wf_writeN hm _ _), show j + (k + 1) = j + 1 + k by omega]
    have hnext : (j + 1) * x.beat = j * x.beat + x.beat := Nat.succ_mul ..
    have hend : (j + 1) * x.beat ≤ (j + 1 + k) * x.beat := Nat.mul_le_mul_right _ (Nat.le_add_right ..)
    generalize hn : min x.beat (x.len - j * x.beat) = n
    have hwrite := fun b => Mem.read_writeN hm (x.dst + j * x.beat) b (m.readN (x.src + j * x.beat) n)
    simp only [Mem.readN_length] at hwrite
    by_cases hlate : x.dst + (j + 1) * x.beat ≤ a ∧ a < x.dst + min x.len ((j + 1 + k) * x.beat)
    · rw [if_pos hlate, if_pos (by omega), hwrite, if_neg (by omega)]
    · rw [if_neg hlate, hwrite]
      by_cases hnow : x.dst + j * x.beat ≤ a ∧ a < x.dst + j * x.beat + n
      · rw [if_pos hnow, if_pos (by omega), List.getD_eq_getElem?_getD, Mem.readN_getElem?, if_pos (by omega), Option.getD_some]
        congr 1
        omega
      · rw [if_neg hnow, if_neg (by omega)]
end

/-- The step of a transfer that no beat has moved yet, once all its beats have. -/
theorem Xfer.step_all_beats {x : Xfer} {poison : List Nat} {c : Nat} (m : Mem) (hf : x.failed = false) (ho : x.atOnce = false) (hb : x.beats = 0)
    (hh : x.held = none) (hlen : x.len ≠ 0) (hpos : 0 < x.beat) (hc : x.dataAt + ceilDiv x.len x.beat ≤ c) :
    (x.step poison c m).1 = (moveBeats x (ceilDiv x.len x.beat) (m, []) 0).1 := by
  have hdone : min (ceilDiv x.len x.beat) (c - x.dataAt) = ceilDiv x.len x.beat := by omega
  have htotal : ¬ ceilDiv x.len x.beat ≤ 0 := fun h0 => by
    have := ceilDiv_mul_ge (a := x.len) hpos
    rw [Nat.le_zero.1 h0] at this
    omega
  simp [Xfer.step, hf, ho, hb, hh, hdone, htotal]

/-- A transfer without bytes moves nothing. -/
theorem Xfer.step_empty {x : Xfer} {poison : List Nat} {c : Nat} (m : Mem) (hf : x.failed = false) (ho : x.atOnce = false)
    (hlen : x.len = 0) (hpos : 0 < x.beat) : (x.step poison c m).1 = m := by
  have htotal : ceilDiv 0 x.beat = 0 := Nat.div_eq_of_lt (by omega)
  simp [Xfer.step, hf, ho, hlen, htotal]

theorem State.advance_mem_of_one {s : State} {lane : LaneId} {x : Xfer} (h : (s.lane lane).xfers = [x]) (c : Nat) :
    ((s.advance lane c).lane lane).mem = (x.step (s.hub.poisonOf lane.val) c (s.lane lane).mem).1 := by
  simp [State.advance, Lane.advance, h, stepAll]

/-- Settles O23, by induction on the beats. -/
theorem transferMovesBytes : Obligations.TransferMovesBytes := by
  unfold Obligations.TransferMovesBytes
  intro s lane x c hm hx hf ho hdst hb hh hpos hsep hc
  rw [State.advance_mem_of_one hx]
  by_cases hlen : x.len = 0
  · rw [Xfer.step_empty _ hf ho hlen hpos]
    exact ⟨fun j hj => by omega, fun a _ => rfl⟩
  · rw [Xfer.step_all_beats _ hf ho hb hh hlen hpos hc]
    have hread := moveBeats_read hdst hsep (ceilDiv x.len x.beat) (s.lane lane).mem [] 0 hm
    have hlast : min x.len ((0 + ceilDiv x.len x.beat) * x.beat) = x.len := by
      rw [Nat.zero_add]; exact Nat.min_eq_left (ceilDiv_mul_ge hpos)
    simp only [hlast, Nat.zero_mul, Nat.add_zero] at hread
    refine ⟨fun j hj => ?_, fun a ha => ?_⟩
    · rw [hread, if_pos (by omega), Nat.add_sub_cancel_left]
    · rw [hread, if_neg (by omega)]

end Sys2Proof.Machine
end

section
/-! The life of a clause, and a transfer's start, completion and delay (R61, R66, R87, R88, R96, R97, R100, R102, R133). -/
namespace Sys2Proof.Machine

variable {s : State} {k : Site} {r : Running}

/-! ### A lane's own fields and its engines -/

theorem State.modLane_engine {l : LaneId} {g : Lane → Lane} (h : (g (s.lane l)).eng = (s.lane l).eng) (k : Site) :
    (s.modLane l g).engine k = s.engine k := by
  rw [State.engine, State.engine, State.modLane_lane_eq]
  split
  case isTrue hk => subst hk; simp only [h]
  case isFalse => rfl

theorem Lane.setAborted_eng (task cause clause : Nat) (l : Lane) : (l.setAborted task cause clause).eng = l.eng := by
  unfold Lane.setAborted
  split
  · rfl
  · dsimp only; split <;> rfl

theorem State.retire_engine (s : State) (k : Site) (r : Running) (cause : Nat) : (s.retire k r cause).engine k = (s.engine k).idle := by
  rw [State.retire, State.modEng_engine, State.modLane_engine (Lane.setAborted_eng ..)]

theorem State.clauseRecord_engine (s : State) (k : Site) (r : Running) (cause cycles : Nat) (j : Site) :
    (s.clauseRecord k r cause cycles).engine j = s.engine j := rfl

/-! ### The life of a clause -/

/-- A clause that a schedule lists for this tick, on an idle engine, with its consumed transfers complete. -/
theorem execClauseStart_ok {lane : LaneId} {clause : Nat} {ecc : Ecc} {sc : Schedule} {c : ClauseEntry} {e : EngineId}
    (hsc : s.laneSchedule lane = some sc) (hc : sc.clauses[clause]? = some c) (he : fin? 8 c.engine = some e)
    (hruns : s.laneRuns lane = true) (htick : c.tick = (s.lane lane).tick % s.hub.sTicks) (hsup : s.hub.suppressed c.task = false)
    (hidle : (s.engine ⟨lane, e⟩).run = none) (hok : (s.lane lane).consumerOk sc clause = true) :
    execClauseStart lane clause ecc s = .next ((s.modEng ⟨lane, e⟩ (Engine.startClause clause c)).startEcc ⟨lane, e⟩ c.first ecc) := by
  have hok' : ((s.modEng ⟨lane, e⟩ (Engine.startClause clause c)).lane lane).consumerOk sc clause = true := by
    rw [State.modEng, State.modLane_lane]; exact hok
  simp [execClauseStart, hsc, hc, he, hruns, htick, hsup, hidle, hok']

theorem execClauseComplete_ok (hrun : (s.engine k).run = some r) (hended : r.ended = true) (hflight : (s.engine k).flight = [])
    (habort : r.aborted = none) (hcyc : r.cyc ≤ r.budget + 1) : execClauseComplete k s =
      .next ((s.modEng k (fun e => { e.idle with prevAbort := false, prevCause := 0, lastClause := r.clause })).clauseRecord k r 0 (r.cyc - 1)) := by
  simp [execClauseComplete, hrun, hended, hflight, habort, hcyc]

/-- Past cycle B: the clause is aborted and retired; an injection of CLAUSE_BUDGET has then acted. -/
theorem execClauseBudget_ok (hrun : (s.engine k).run = some r) (habort : r.aborted = none) (hcyc : r.budget < r.cyc)
    (hopen : ¬ (r.ended = true ∧ (s.engine k).flight = [])) :
    ∃ f, execClauseBudget k s = .next (((s.abortClause k 1 0 .real).retire k r 1).modHub f) := by
  have hopen' : (r.ended && (s.engine k).flight.isEmpty) = false := by
    rw [Bool.eq_false_iff]; simpa using hopen
  simp only [execClauseBudget, hrun, habort, hcyc, hopen', Option.isNone_none, decide_true, Bool.not_false, Bool.and_self, if_true]
  split
  · exact ⟨_, rfl⟩
  · exact ⟨id, rfl⟩

/-- Settles O21, from what a start, a completion and the end of the budget come to. -/
theorem clauseLife : Obligations.ClauseLife := by
  unfold Obligations.ClauseLife
  refine ⟨fun s lane clause ecc sc c e hsc hc he hruns htick hsup hidle hok => ?start,
    fun s k r hrun hflight hended habort hcyc => ?complete, fun s k r hrun habort hcyc hopen => ?budget⟩
  case start =>
    have heng := s.modEng_engine ⟨lane, e⟩ (Engine.startClause clause c)
    have hecc {j} : ((s.modEng ⟨lane, e⟩ (Engine.startClause clause c)).startEcc ⟨lane, e⟩ c.first ecc).engine j =
      (s.modEng ⟨lane, e⟩ (Engine.startClause clause c)).engine j := rfl
    refine ⟨_, execClauseStart_ok hsc hc he hruns htick hsup hidle hok, ?_⟩
    rw [hecc, heng]
    exact ⟨rfl, rfl, rfl, rfl, rfl⟩
  case complete =>
    refine ⟨_, execClauseComplete_ok hrun hflight hended habort hcyc, ?_⟩
    rw [State.clauseRecord_engine, State.modEng_engine]
    exact ⟨rfl, rfl, rfl, rfl, rfl, fun l => State.modEng_mem ..⟩
  case budget =>
    obtain ⟨f, hf⟩ := execClauseBudget_ok hrun habort hcyc hopen
    refine ⟨_, hf, ?_⟩
    rw [State.modHub_engine, State.retire_engine, State.abortClause_engine hrun]
    exact ⟨rfl, rfl, rfl, rfl, rfl⟩

/-! ### The start of a transfer (R97) -/

theorem execTransferStart_ok {lane : LaneId} {index : Nat} {sc : Schedule} {x : TransferEntry} {src dst : Port}
    (hsc : s.laneSchedule lane = some sc) (hx : sc.transfers[index]? = some x) (hsrc : Port.ofCode x.srcPort = some src)
    (hdst : Port.ofCode x.dstPort = some dst) (hruns : s.laneRuns lane = true) (htick : x.tick = (s.lane lane).tick % s.hub.sTicks)
    (hsup : s.hub.suppressed x.task = false) (hparam : x.param = false) (hfree : ∀ y ∈ (s.lane lane).xfers, y.index ≠ index) :
    execTransferStart lane index s = .next ((s.advance lane x.start).beginXfer lane index x src dst x.src x.dst true) := by
  have hany : (s.lane lane).xfers.any (fun y => y.index == index) = false := by simpa using hfree
  simp [execTransferStart, hsc, hx, hsrc, hdst, hruns, htick, hsup, hparam, hany]

/-! ### What a transfer's completion touches (R96, R100) -/

/-- A lane's push to a mailbox is the hub's matter, but that its engine learns of a rejection (R441). -/
theorem State.laneMbPush_lanes (s : State) (l : LaneId) (n : Nat) (w : List Word) (e : EngineId) :
    (s.laneMbPush l n w e).lanes = s.lanes ∨
    (s.laneMbPush l n w e).lanes = (s.modEng ⟨l, e⟩ (fun e => { e with mbFull := true })).lanes := by
  unfold State.laneMbPush
  extract_lets m level arm injected real accepted pushed rejected detail report reported
  clear_value report arm
  split
  · exact .inl rfl
  · split
    · cases arm <;> exact .inl rfl
    · exact .inr rfl

/-- What the codes of a source find is the hub's matter. -/
theorem State.xferSource_cases (s : State) (l : LaneId) (x : Xfer) (sram : List (Nat × Ecc)) (dram : List DramErr) :
    ∃ f, (s.xferSource l x sram dram).1 = s.modHub f := by
  unfold State.xferSource
  dsimp only
  split
  · exact ⟨fun _ => _, rfl⟩
  · exact ⟨id, rfl⟩
  · split
    · exact ⟨fun _ => _, rfl⟩
    · exact ⟨id, rfl⟩

/-- A completion writes its destination in the lane's memory or in its output frame, or hands it to the hub. -/
theorem State.xferDest_cases (s : State) (l : LaneId) (x : Xfer) (d : Bytes) (sram : List (Nat × Ecc)) (dram : List DramErr) :
    (∃ f, s.xferDest l x d sram dram = (s.modLane l (fun k =>
      ({ k with mem := writeDiff k.mem x.dst (if x.atOnce then [] else x.held.getD []) d }).markDirty x.dst d.length)).modHub f) ∨
    s.xferDest l x d sram dram = s.modLane l (Lane.frameWrite (x.dst - windowBase) d) ∨
    (∃ f, s.xferDest l x d sram dram = s.modHub f) ∨
    (∃ n w e, s.xferDest l x d sram dram = s.laneMbPush l n w e) := by
  unfold State.xferDest
  dsimp only
  split
  · exact .inl ⟨_, rfl⟩
  · exact .inr (.inl rfl)
  · refine .inr (.inr ?_)
    split
    · split
      · exact .inl ⟨_, rfl⟩
      · exact .inl ⟨id, rfl⟩
    · split
      · exact .inr ⟨_, _, _, rfl⟩
      · exact .inl ⟨id, rfl⟩
  · refine .inl ?_
    split
    · exact ⟨_, rfl⟩
    · exact ⟨id, rfl⟩

theorem State.modEng_xfers (s : State) (k : Site) (u : Engine → Engine) (l : LaneId) : ((s.modEng k u).lane l).xfers = (s.lane l).xfers := by
  rw [State.modEng, State.modLane_lane_eq]
  split
  case isTrue h => rw [h]; rfl
  case isFalse => rfl

theorem State.laneMbPush_xfers (s : State) (l : LaneId) (n : Nat) (w : List Word) (e : EngineId) :
    ((s.laneMbPush l n w e).lane l).xfers = (s.lane l).xfers := by
  rcases s.laneMbPush_lanes l n w e with h | h
  · rw [State.lane_of_lanes h]
  · rw [State.lane_of_lanes h, State.modEng_xfers]

theorem State.xferDest_xfers (s : State) (l : LaneId) (x : Xfer) (d : Bytes) (sram : List (Nat × Ecc)) (dram : List DramErr) :
    ((s.xferDest l x d sram dram).lane l).xfers = (s.lane l).xfers := by
  rcases s.xferDest_cases l x d sram dram with ⟨f, h⟩ | h | ⟨f, h⟩ | ⟨n, w, e, h⟩
  · rw [h, State.modHub_lane, State.modLane_lane]; rfl
  · rw [h, State.modLane_lane]; rfl
  · rw [h]; rfl
  · rw [h, State.laneMbPush_xfers]

theorem State.xferSource_lane (s : State) (l : LaneId) (x : Xfer) (sram : List (Nat × Ecc)) (dram : List DramErr) (m : LaneId) :
    (s.xferSource l x sram dram).1.lane m = s.lane m := by
  obtain ⟨f, h⟩ := s.xferSource_cases l x sram dram
  rw [h]; rfl

/-- The lane after a completion: it is the lane that the destination's write left, with the issue on record. -/
theorem State.endXfer_lane {l : LaneId} {x : Xfer} {sram : List (Nat × Ecc)} {dram : List DramErr} (hf : x.failed = false) :
    let s0 := s.modLane l (fun k => { k with xfers := k.xfers.filter (fun y => y.index != x.index) })
    let src := s0.xferSource l x sram dram
    (s.endXfer l x sram dram).lane l = (((src.1.xferDest l x src.2 sram dram).lane l).foldData x src.2).issue x.index true := by
  simp [State.endXfer, hf]

theorem Lane.foldData_mem (x : Xfer) (d : Bytes) (l : Lane) : (l.foldData x d).mem = l.mem := by
  unfold Lane.foldData; split <;> rfl

theorem Lane.foldData_xfers (x : Xfer) (d : Bytes) (l : Lane) : (l.foldData x d).xfers = l.xfers := by
  unfold Lane.foldData; split <;> rfl

theorem State.endXfer_xfers {l : LaneId} {x : Xfer} {sram : List (Nat × Ecc)} {dram : List DramErr} (hf : x.failed = false) :
    ((s.endXfer l x sram dram).lane l).xfers = (s.lane l).xfers.filter (fun y => y.index != x.index) := by
  rw [State.endXfer_lane hf]
  change (((_ : State).lane l).foldData x _).xfers = _
  rw [Lane.foldData_xfers, State.xferDest_xfers, State.xferSource_lane, State.modLane_lane]

/-! ### Sound words (R400, R401) -/

/-- Nothing to be found in error: no word in error, none kept as a double error and no injection. -/
theorem sramCandidates_sound {h : Hub} (ha : h.inject.armed = []) (hb : h.mem.sramBad = []) (unit mac base off len : Nat) :
    sramCandidates h unit mac base off len [] = [] := by
  simp [sramCandidates, ha, hb]

/-- A source inside the lane whose words are sound delivers the bytes that the beats have moved. -/
theorem State.xferSource_sound {l : LaneId} {x : Xfer} {dram : List DramErr} (ho : x.atOnce = false) (ha : s.hub.inject.armed = [])
    (hb : s.hub.mem.sramBad = []) : (s.xferSource l x [] dram).2 = x.held.getD [] := by
  simp only [Xfer.atOnce, Bool.or_eq_false_iff, beq_eq_false_iff_ne, ne_eq] at ho
  obtain ⟨⟨⟨hdram, -⟩, hlink⟩, -⟩ := ho
  unfold State.xferSource
  dsimp only
  split
  case h_1 h => exact absurd h hdram
  case h_2 h => exact absurd h hlink
  case h_3 =>
    split
    · simp [Hub.sramSource, sramCandidates_sound ha hb]
    · rfl

/-- Bytes that have been moved already are not written again. -/
theorem writeDiff_self (m : Mem) (a : Nat) (b : Bytes) : writeDiff m a b b = m := by
  induction b generalizing a with
  | nil => rfl
  | cons v vs ih => simp [writeDiff, ih]

theorem State.xferDest_mem_of_moved {l : LaneId} {x : Xfer} {sram : List (Nat × Ecc)} {dram : List DramErr} (ho : x.atOnce = false) :
    ((s.xferDest l x (x.held.getD []) sram dram).lane l).mem = (s.lane l).mem := by
  rcases s.xferDest_cases l x (x.held.getD []) sram dram with ⟨f, h⟩ | h | ⟨f, h⟩ | ⟨n, w, e, h⟩
  · rw [h, State.modHub_lane, State.modLane_lane, ho]
    exact writeDiff_self ..
  · rw [h, State.modLane_lane]; rfl
  · rw [h]; rfl
  · rw [h]
    rcases s.laneMbPush_lanes l n w e with h | h
    · rw [State.lane_of_lanes h]
    · rw [State.lane_of_lanes h, State.modEng_mem]

theorem State.endXfer_mem_sound {l : LaneId} {x : Xfer} {dram : List DramErr} (hf : x.failed = false) (ho : x.atOnce = false)
    (ha : s.hub.inject.armed = []) (hb : s.hub.mem.sramBad = []) :
    ((s.endXfer l x [] dram).lane l).mem = (s.lane l).mem := by
  have hsound := State.xferSource_sound (l := l) (dram := dram)
    (s := s.modLane l (fun k => { k with xfers := k.xfers.filter (fun y => y.index != x.index) })) ho ha hb
  rw [State.endXfer_lane hf]
  change (((_ : State).lane l).foldData x _).mem = _
  rw [Lane.foldData_mem, hsound, State.xferDest_mem_of_moved ho, State.xferSource_lane, State.modLane_lane]

/-- A step of a transfer moves its bytes; which transfer it is and which path it takes stay. -/
theorem Xfer.step_atOnce (poison : List Nat) (c : Nat) (m : Mem) (x : Xfer) : (x.step poison c m).2.atOnce = x.atOnce := by
  unfold Xfer.step
  split
  · rfl
  · split
    · split <;> rfl
    · dsimp only; split <;> rfl

theorem State.advance_xfers_of_one {lane : LaneId} {x : Xfer} (h : (s.lane lane).xfers = [x]) (c : Nat) :
    ((s.advance lane c).lane lane).xfers = [(x.step (s.hub.poisonOf lane.val) c (s.lane lane).mem).2] := by
  simp [State.advance, Lane.advance, h, stepAll]

theorem execTransferComplete_of_one {lane : LaneId} {x y : Xfer} {sram : List (Nat × Ecc)} {dram : List DramErr}
    (hx : (s.lane lane).xfers = [x]) (hy : ((s.advance lane (x.completion + 1)).lane lane).xfers = [y]) (hindex : x.index = y.index) :
    execTransferComplete lane x.index sram dram s = .next ((s.advance lane (x.completion + 1)).endXfer lane y sram dram) := by
  simp [execTransferComplete, hx, hy, hindex]

/-- Settles O22, from what a start, a completion and a retry come to. -/
theorem transferSteps : Obligations.TransferSteps := by
  unfold Obligations.TransferSteps
  refine ⟨fun s lane index sc x src dst hsc hx hsrc hdst hruns htick hsup hparam hfree => ?start,
    fun s lane x y hx hfx hy hfy hindex => ?complete, fun s lane x delay hx hlink => ?retry⟩
  case start =>
    refine ⟨_, execTransferStart_ok hsc hx hsrc hdst hruns htick hsup hparam hfree, ?_⟩
    rw [State.beginXfer, State.modLane_lane]
    exact ⟨_, List.mem_append_right _ (List.mem_singleton_self _), rfl, rfl, rfl, rfl, rfl, rfl, rfl, rfl, rfl⟩
  case complete =>
    refine ⟨_, execTransferComplete_of_one hx hy hindex, ?free, ?issued, fun ho ha hb => ?mem⟩
    case free => simp [State.endXfer_xfers hfy, hy]
    case issued =>
      rw [State.endXfer_lane hfy, hindex]
      exact List.find?_cons_of_pos (beq_iff_eq.2 rfl)
    case mem =>
      have hpath : y.atOnce = x.atOnce := by
        rw [State.advance_xfers_of_one hx, List.singleton_inj] at hy
        rw [← hy, Xfer.step_atOnce]
      exact State.endXfer_mem_sound hfy (hpath.trans ho) ha hb
  case retry =>
    have hlink' : (x.srcPort != .hubLink && x.dstPort != .hubLink) = false := by
      rcases hlink with h | h <;> simp [h]
    refine ⟨_, by simp only [exec, execTransferPacketRetry, hx, List.find?_cons, BEq.rfl, hlink']; rfl, ?_⟩
    simp [hx]

end Sys2Proof.Machine
end

section
/-! Settles O1, O2 and O58: what the operations that records, counters, replies, faults and changes of the mode share leave of the hub.
Three views of a hub forget what a kind of operation may change; an operation's rule says that its view stays. -/
namespace Sys2Proof.Machine

/-! ### The step, and the state after reset -/

/-- Settles O1: `step` takes the first command, and no row of the opcode table spells a word. -/
theorem stepRunsFrontCommand : Obligations.StepRunsFrontCommand := by
  unfold Obligations.StepRunsFrontCommand
  refine ⟨fun i rest s => rfl, fun s hs => ?idle, fun s nbits w => ⟨rfl, rfl⟩⟩
  case idle => simp [step, hs]

theorem State.reset_lane (l : LaneId) : State.reset.lane l = {} := Vector.getElem_replicate (n := 4) l.isLt

theorem State.reset_engine (k : Site) : State.reset.engine k = {} := by
  rw [State.engine, State.reset_lane]
  exact Vector.getElem_replicate (n := 8) k.eng.isLt

/-- Settles O2: every lane and every engine after reset is the default one. -/
theorem resetState : Obligations.ResetState := by
  unfold Obligations.ResetState
  refine ⟨rfl, fun l => ?mem, fun k => ?hard, fun k => ?engine, rfl, rfl, rfl, rfl⟩
  case mem => rw [State.reset_lane]; rfl
  case hard => rw [State.reset_engine]; decide
  case engine =>
    rw [State.reset_engine]
    exact ⟨rfl, fun n => by simp [Engine.reg], by decide, rfl, rfl, rfl⟩

/-! ### Vectors -/

section vectors
variable {α β : Type} {n : Nat}

@[simp] theorem vmap_getElem (f : α → β) (v : Vector α n) (i : Nat) (h : i < n) : (vmap f v)[i] = f v[i] := by
  simp [vmap]

theorem mapIdxFrom_eq_mapIdx (f : Nat → α → β) (k : Nat) (l : List α) : mapIdxFrom f k l = l.mapIdx (fun i => f (k + i)) := by
  induction l generalizing k with
  | nil => rfl
  | cons x xs ih => simp [mapIdxFrom, ih, List.mapIdx_cons, Nat.add_comm, Nat.add_left_comm]

@[simp] theorem vmapIdx_getElem (f : Nat → α → β) (v : Vector α n) (i : Nat) (h : i < n) : (vmapIdx f v)[i] = f i v[i] := by
  simp [vmapIdx, mapIdxFrom_eq_mapIdx]

@[simp] theorem vmod_getElem_self (v : Vector α n) (i : Fin n) (f : α → α) : (vmod v i f)[i] = f v[i] := by
  simp [vmod]

theorem vmod_getElem_ne (v : Vector α n) (f : α → α) {i j : Fin n} (h : j ≠ i) : (vmod v i f)[j] = v[j] := by
  simpa [vmod] using Vector.getElem_set_ne (xs := v) i.isLt j.isLt (fun e => h (Fin.ext e.symm))

theorem vset_getElem_ne (v : Vector α n) (x : α) {i j : Fin n} (h : j ≠ i) : (v.set i x)[j] = v[j] :=
  Vector.getElem_set_ne (xs := v) i.isLt j.isLt (fun e => h (Fin.ext e.symm))

theorem vgetN_of_lt (v : Vector α n) (d : α) {i : Nat} (h : i < n) : vgetN v i d = v[i] := by
  simp [vgetN, h]

@[simp] theorem vgetN_fin (v : Vector α n) (d : α) (i : Fin n) : vgetN v i.val d = v[i] := by
  simp [vgetN]

theorem vmodN_of_lt (v : Vector α n) (f : α → α) {i : Nat} (h : i < n) : vmodN v i f = vmod v ⟨i, h⟩ f := by
  simp [vmodN, vmod, h]

/-- A view of the members that does not see a change of one of them. -/
theorem vmap_vmodN_of_forall (g : α → β) {f : α → α} (v : Vector α n) (i : Nat) (h : ∀ x, g (f x) = g x) :
    vmap g (vmodN v i f) = vmap g v := by
  ext j hj
  unfold vmodN
  split
  case isTrue hi =>
    by_cases hij : i = j
    · subst hij; simp [h]
    · simp [Vector.getElem_set_ne _ hj hij]
  case isFalse => rfl

theorem vmap_vmap {γ : Type} (g : β → γ) (f : α → β) (v : Vector α n) : vmap g (vmap f v) = vmap (fun x => g (f x)) v := by
  ext i hi
  simp

end vectors

/-! ### Three views of the hub -/

/-- The hub without what trace records and event counters change (R501 to R507, R513). -/
def Hub.untraced (h : Hub) : Hub :=
  { h with trace := {}, counters := Vector.replicate 48 {}, outbox := [], inject.armed := [] }

/-- The hub without what answering requests changes (R419, R429, R431). -/
def Hub.unreplied (h : Hub) : Hub :=
  { h with
    cmd.sessions := [], cmd.tags := [], cmd.mb0Out := [], cmd.exec := [], mb.box := h.mb.box.set 0 {}, outbox := []
    rack.stations := vmap (fun x => { x with replies := [] }) h.rack.stations, partner.seq := 0 }

/-- The hub without what a change of mode ends and how it tells so: all but the mode itself, the faults and PAIR_CTRL's owner (Table 19.1). -/
def Hub.unended (h : Hub) : Hub :=
  { h.unreplied with
    trace := {}, counters := Vector.replicate 48 {}, inject := {}, partner.seq := 0, partner.switching := false
    meas.avg := none, rt.queue := [], rt.present := none, rt.status := 0, pwm := {}, yb.txValid := 0, locks := {} }

/-- The hub without what a fault report, with the SAFE decision and the change of mode that it may bring, changes (R485, R497). -/
def Hub.still (h : Hub) : Hub :=
  { h.unended with
    faults := {}, power.mode := .off, power.safeCause := 0, power.safeTick := 0, power.safeFrames := false, power.pending := none
    power.modeAt := none, vote.nextMode := none }

@[simp] theorem Hub.unreplied_unreplied (h : Hub) : h.unreplied.unreplied = h.unreplied := by
  simp only [Hub.unreplied, Vector.set_set, vmap_vmap]

theorem Hub.unended_of_untraced {h t : Hub} (e : t.untraced = h.untraced) : t.unended = h.unended :=
  (congrArg Hub.unended e : t.untraced.unended = h.untraced.unended)

theorem Hub.unended_unreplied (h : Hub) : h.unreplied.unended = h.unended := by
  rw [Hub.unended, Hub.unended, Hub.unreplied_unreplied]

theorem Hub.unended_of_unreplied {h t : Hub} (e : t.unreplied = h.unreplied) : t.unended = h.unended := by
  rw [← Hub.unended_unreplied, e, Hub.unended_unreplied]

theorem Hub.still_of_unended {h t : Hub} (e : t.unended = h.unended) : t.still = h.still := by
  rw [Hub.still, e, Hub.still]

theorem Hub.still_of_untraced {h t : Hub} (e : t.untraced = h.untraced) : t.still = h.still := still_of_unended (unended_of_untraced e)

theorem Hub.still_of_unreplied {h t : Hub} (e : t.unreplied = h.unreplied) : t.still = h.still :=
  still_of_unended (unended_of_unreplied e)

/-- A fold whose steps keep a view keeps it. -/
theorem foldl_view {σ τ ι : Type} (view : σ → τ) {f : σ → ι → σ} (h : ∀ s x, view (f s x) = view s) (l : List ι) (s : σ) :
    view (l.foldl f s) = view s := by
  induction l generalizing s with
  | nil => rfl
  | cons x xs ih => rw [List.foldl_cons, ih, h]

section views
variable (h : Hub)

/-! ### Records and counters -/

@[simp] theorem Hub.send_untraced (x : Sent) : (h.send x).untraced = h.untraced := rfl

@[simp] theorem Hub.count_untraced (event : Nat) (accept : Nat → Nat) : (h.count event accept).untraced = h.untraced := rfl

@[simp] theorem Hub.disarm_untraced (n : FaultName) : (h.disarm n).untraced = h.untraced := rfl

@[simp] theorem Hub.takeArm_untraced (n : FaultName) (p : Armed → Bool) : (h.takeArm n p).2.untraced = h.untraced := rfl

@[simp] theorem Hub.disarmLane_untraced (a : Armed) (l : LaneId) : (h.disarmLane a l).untraced = h.untraced := rfl

@[simp] theorem Hub.disarmAll_untraced : h.disarmAll.untraced = h.untraced := rfl

@[simp] theorem Hub.streamFlush_untraced : h.streamFlush.untraced = h.untraced := by
  unfold Hub.streamFlush
  split
  · rfl
  · dsimp only; split <;> rfl

@[simp] theorem Hub.streamPut_untraced (pos : Nat) (r : TraceRec) : (h.streamPut pos r).untraced = h.untraced := by
  unfold Hub.streamPut
  split
  · rfl
  · extract_lets have_ h'
    have hflush : h'.untraced = h.untraced := by
      simp only [h']
      split
      · exact h.streamFlush_untraced
      · rfl
    split <;> exact hflush

@[simp] theorem Hub.ringWrite_untraced (r : TraceRec) : (h.ringWrite r).untraced = h.untraced := by
  unfold Hub.ringWrite
  extract_lets arm _ _ h' pos real o
  have harm : h'.untraced = h.untraced := by
    simp only [h']; split <;> exact h.takeArm_untraced ..
  clear_value h'
  split
  · rw [Hub.streamPut_untraced]; exact harm
  · exact harm

@[simp] theorem Hub.afterDrop_untraced : h.afterDrop.untraced = h.untraced := by
  unfold Hub.afterDrop
  split
  · rfl
  · dsimp only
    split
    · rw [Hub.ringWrite_untraced, Hub.ringWrite_untraced]; rfl
    · rfl

@[simp] theorem Hub.emit_untraced (r : TraceRec) : (h.emit r).untraced = h.untraced := by
  unfold Hub.emit
  split
  · rw [Hub.ringWrite_untraced, Hub.afterDrop_untraced]
  · rfl

@[simp] theorem Hub.emitLane_untraced (l : LaneId) (r : TraceRec) : (h.emitLane l r).untraced = h.untraced := by
  unfold Hub.emitLane
  split
  · dsimp only; split <;> rfl
  · rfl

@[simp] theorem Hub.countFault_untraced (n : FaultName) (lanes : Nat) : (h.countFault n lanes).untraced = h.untraced := rfl

/-! ### Replies -/

@[simp] theorem Hub.mb0Fill_unreplied : h.mb0Fill.unreplied = h.unreplied := by
  simp [Hub.mb0Fill, Hub.unreplied]

@[simp] theorem Hub.partnerSend_unreplied (type : Nat) (payload : Bytes) : (h.partnerSend type payload).unreplied = h.unreplied := by
  unfold Hub.partnerSend
  split <;> rfl

@[simp] theorem Hub.sendPackets_unreplied (r : Req) (pkts : List Bytes) : (h.sendPackets r pkts).unreplied = h.unreplied := by
  unfold Hub.sendPackets
  split
  case h_1 => rw [Hub.mb0Fill_unreplied]; rfl
  case h_2 => simp [Hub.unreplied, vmap_vmodN_of_forall]
  case h_3 => exact foldl_view Hub.unreplied (fun _ _ => Hub.partnerSend_unreplied ..) ..
  case h_4 => exact foldl_view Hub.unreplied (fun s p => (rfl : (s.send (.reply r.transport r.source r.port p)).unreplied = s.unreplied)) ..

@[simp] theorem Hub.replyCode_unreplied (r : Req) (opcode : Nat) (st : Status) (params : Bytes) :
    (h.replyCode r opcode st params).unreplied = h.unreplied := by
  unfold Hub.replyCode
  rw [Hub.sendPackets_unreplied]
  rfl

@[simp] theorem Hub.reply_unreplied (r : Req) (op : Opcode) (st : Status) (params : Bytes) :
    (h.reply r op st params).unreplied = h.unreplied := h.replyCode_unreplied ..

@[simp] theorem Hub.defer_unreplied (r : Req) (op : Opcode) (params : Bytes) (key : List Nat) :
    (h.defer r op params key).unreplied = h.unreplied := rfl

@[simp] theorem Hub.finish_unreplied (which : Exec → Bool) (st : Status) (params : Exec → Bytes) :
    (h.finish which st params).unreplied = h.unreplied :=
  foldl_view Hub.unreplied (fun _ _ => Hub.reply_unreplied ..) ..

/-! ### The mode, the SAFE decision and fault reports -/

@[simp] theorem Hub.emit_still (r : TraceRec) : (h.emit r).still = h.still := still_of_untraced (h.emit_untraced r)

@[simp] theorem Hub.finish_still (which : Exec → Bool) (st : Status) (params : Exec → Bytes) :
    (h.finish which st params).still = h.still := still_of_unreplied (h.finish_unreplied ..)

@[simp] theorem Hub.emit_unended (r : TraceRec) : (h.emit r).unended = h.unended := unended_of_untraced (h.emit_untraced r)

@[simp] theorem Hub.finish_unended (which : Exec → Bool) (st : Status) (params : Exec → Bytes) :
    (h.finish which st params).unended = h.unended := unended_of_unreplied (h.finish_unreplied ..)

@[simp] theorem Hub.modeEnds_unended (m : Mode) : (h.modeEnds m).unended = h.unended := by
  unfold Hub.modeEnds
  extract_lets _ h1 _ _ h2 _ _ h3 _ h4
  have e1 : h1.unended = h.unended := Hub.finish_unended ..
  have e2 : h2.unended = h1.unended := by
    simp only [h2]; split
    · rfl
    · exact Hub.finish_unended ..
  have e3 : h3.unended = h2.unended := by simp only [h3]; split <;> rfl
  have e4 : h4.unended = h3.unended := by simp only [h4]; split <;> rfl
  calc h4.pwmHold.unended = h4.unended := rfl
    _ = h.unended := by rw [e4, e3, e2, e1]

/-- What a change of mode does beyond what it ends: the mode itself and, on leaving SAFE, the faults that clear by it. -/
theorem Hub.setMode_unended (m : Mode) (cause : Nat) (hm : h.power.mode ≠ m) : (h.setMode m cause).unended =
    ({ (if h.power.mode = .safe then h.clearAll FaultName.clearsByLeavingSafe else h) with power.mode := m } : Hub).unended := by
  unfold Hub.setMode
  rw [if_neg hm]
  extract_lets keep h1 _ _ h2 h3
  have e3 : h3.unended = h2.unended := by simp only [h3]; split <;> rfl
  rw [Hub.emit_unended, Hub.modeEnds_unended, e3]
  simp only [h2, h1]
  split <;> rfl

theorem Hub.setMode_faults (m : Mode) (cause : Nat) (hs : h.power.mode ≠ .safe) : (h.setMode m cause).faults = h.faults := by
  by_cases hm : h.power.mode = m
  · simp [Hub.setMode, hm]
  · have e := (congrArg Hub.faults (h.setMode_unended m cause hm) :)
    rw [if_neg hs] at e
    exact e

@[simp] theorem Hub.setMode_power (m : Mode) (cause : Nat) : (h.setMode m cause).power = { h.power with mode := m } := by
  by_cases hm : h.power.mode = m
  · subst hm; simp [Hub.setMode]
  · have e := (congrArg Hub.power (h.setMode_unended m cause hm) :)
    refine Eq.trans e ?_
    split <;> rfl

@[simp] theorem Hub.setMode_still (m : Mode) (cause : Nat) : (h.setMode m cause).still = h.still := by
  by_cases hm : h.power.mode = m
  · simp [Hub.setMode, hm]
  · rw [Hub.still, Hub.setMode_unended _ _ _ hm]
    split <;> rfl

@[simp] theorem Hub.safeDecision_still (cause : Nat) : (h.safeDecision cause).still = h.still := by
  unfold Hub.safeDecision
  split
  · rw [Hub.setMode_still, Hub.finish_still]; rfl
  · rfl

@[simp] theorem Hub.react_still (n : FaultName) (o : Origin) : (h.react n o).still = h.still := by
  unfold Hub.react
  split
  · exact h.safeDecision_still _
  · rfl

@[simp] theorem Hub.newRecord_still (n : FaultName) (key : List Nat) (lanes : Nat) (d : Detail) (o : Origin) :
    (h.newRecord n key lanes d o).still = h.still := by
  unfold Hub.newRecord
  rw [Hub.still_of_untraced (Hub.countFault_untraced ..), Hub.emit_still]
  rfl

@[simp] theorem Hub.repeatRecord_still (p : FaultRec → Bool) (n : FaultName) (lanes : Nat) :
    (h.repeatRecord p n lanes).still = h.still := rfl

@[simp] theorem Hub.raise_still (n : FaultName) (key : List Nat) (lanes : Nat) (d : Detail) (o : Origin) :
    (h.raise n key lanes d o).still = h.still := by
  unfold Hub.raise
  rw [Hub.react_still]
  split
  · rfl
  · exact Hub.newRecord_still ..

@[simp] theorem Hub.raiseEvent_still (rep : FaultRec → Bool) (n : FaultName) (key : List Nat) (lanes : Nat) (d : Detail) (o : Origin) :
    (h.raiseEvent rep n key lanes d o).still = h.still := by
  unfold Hub.raiseEvent
  rw [Hub.react_still]
  split
  · split
    · rfl
    · exact Hub.newRecord_still ..
  · exact Hub.newRecord_still ..

@[simp] theorem Hub.event_still (n : FaultName) (key : List Nat) (lanes : Nat) (d : Detail) (o : Origin) :
    (h.event n key lanes d o).still = h.still := h.raiseEvent_still ..

@[simp] theorem Hub.eventPerTick_still (n : FaultName) (key : List Nat) (lanes : Nat) (d : Detail) (o : Origin) :
    (h.eventPerTick n key lanes d o).still = h.still := h.raiseEvent_still ..

@[simp] theorem Hub.laneEvent_still (rep : FaultRec → Bool) (n : FaultName) (key : List Nat) (l : LaneId) (d : Detail) (o : Origin) :
    (h.laneEvent rep n key l d o).still = h.still := by
  unfold Hub.laneEvent
  dsimp only
  split
  · split
    · rw [Hub.react_still]; rfl
    · exact Hub.raiseEvent_still ..
  · exact Hub.raiseEvent_still ..

@[simp] theorem Hub.laneRaise_still (n : FaultName) (key : List Nat) (l : LaneId) (off : Nat) (d : Detail) (o : Origin) :
    (h.laneRaise n key l off d o).still = h.still := by
  unfold Hub.laneRaise
  dsimp only
  split
  · split
    · rw [Hub.react_still]; rfl
    · exact Hub.raise_still ..
  · exact Hub.raise_still ..

@[simp] theorem Hub.clearFault_still (n : FaultName) (key : List Nat) (d : Detail → Detail) :
    (h.clearFault n key d).still = h.still := rfl

@[simp] theorem Hub.clearAll_still (p : FaultName → Bool) : (h.clearAll p).still = h.still := rfl

/-! ### Faults and the mode after a report -/

@[simp] theorem Hub.emit_faults (r : TraceRec) : (h.emit r).faults = h.faults := (congrArg Hub.faults (h.emit_untraced r) :)

@[simp] theorem Hub.emit_power (r : TraceRec) : (h.emit r).power = h.power := (congrArg Hub.power (h.emit_untraced r) :)

@[simp] theorem Hub.countFault_faults (n : FaultName) (lanes : Nat) : (h.countFault n lanes).faults = h.faults := rfl

@[simp] theorem Hub.finish_faults (which : Exec → Bool) (st : Status) (params : Exec → Bytes) :
    (h.finish which st params).faults = h.faults := (congrArg Hub.faults (h.finish_unreplied which st params) :)

@[simp] theorem Hub.finish_power (which : Exec → Bool) (st : Status) (params : Exec → Bytes) :
    (h.finish which st params).power = h.power := (congrArg Hub.power (h.finish_unreplied which st params) :)

/-- A SAFE decision leaves the fault log as it is: it is never taken in SAFE, which alone clears by leaving. -/
@[simp] theorem Hub.safeDecision_faults (cause : Nat) : (h.safeDecision cause).faults = h.faults := by
  unfold Hub.safeDecision
  split
  next hm =>
    dsimp only
    rw [Hub.setMode_faults, Hub.finish_faults]
    rw [Hub.finish_power]
    rcases hm with hm | hm <;> intro hs <;> simp_all [Mode.isRunning]
  next => rfl

theorem Hub.safeDecision_power (cause : Nat) (hm : h.power.mode = .service ∨ h.power.mode.isRunning = true) :
    (h.safeDecision cause).power = { h.power with
      mode := .safe, safeCause := cause, safeTick := h.time.tick, safeFrames := true, pending := none, modeAt := none } := by
  unfold Hub.safeDecision
  rw [if_pos hm, Hub.setMode_power, Hub.finish_power]

@[simp] theorem Hub.react_faults (n : FaultName) (o : Origin) : (h.react n o).faults = h.faults := by
  unfold Hub.react
  split
  · exact h.safeDecision_faults _
  · rfl

theorem Hub.react_of_no_reaction {n : FaultName} {o : Origin} (hn : n.severity ≠ .safe ∨ o = .reportOnly) : h.react n o = h := by
  unfold Hub.react
  rw [if_neg (by rcases hn with hn | hn <;> simp [hn])]

theorem Hub.react_of_safe {n : FaultName} {o : Origin} (hn : n.severity = .safe) (ho : o ≠ .reportOnly) :
    h.react n o = h.safeDecision n.code := by
  rw [Hub.react, if_pos ⟨hn, ho⟩]

/-- The record that an occurrence writes (Table 19.14). -/
def Hub.recordOf (n : FaultName) (key : List Nat) (lanes : Nat) (d : Detail) (o : Origin) (h : Hub) : FaultRec :=
  { seq := wrapAdd 32 h.faults.seq 1, name := n, origin := o, lanes := lanes % 16, active := n.hasActive, tick := h.time.tick,
    tb3 := h.time.tb3, detail := d, repeats := 0, key := key, lastTick := h.time.tick, lastLanes := lanes }

@[simp] theorem Hub.newRecord_faults (n : FaultName) (key : List Nat) (lanes : Nat) (d : Detail) (o : Origin) :
    (h.newRecord n key lanes d o).faults = { h.faults with
      log := (h.recordOf n key lanes d o :: h.faults.log).take 8192, seq := wrapAdd 32 h.faults.seq 1, faultNew := true,
      warningSet := h.faults.warningSet || n.severity == Severity.warning } := by
  unfold Hub.newRecord
  rw [Hub.countFault_faults, Hub.emit_faults]
  rfl

@[simp] theorem Hub.newRecord_power (n : FaultName) (key : List Nat) (lanes : Nat) (d : Detail) (o : Origin) :
    (h.newRecord n key lanes d o).power = h.power := by
  unfold Hub.newRecord
  exact Hub.emit_power ..

/-- What a report puts into the log, before any reaction. -/
def Hub.record (n : FaultName) (key : List Nat) (lanes : Nat) (d : Detail) (o : Origin) (h : Hub) : Hub :=
  if h.faults.log.any (fun r => r.same n key o && r.active) then h.repeatRecord (fun r => r.same n key o && r.active) n lanes
  else h.newRecord n key lanes d o

theorem Hub.raise_eq (n : FaultName) (key : List Nat) (lanes : Nat) (d : Detail) (o : Origin) :
    h.raise n key lanes d o = (h.record n key lanes d o).react n o := rfl

@[simp] theorem Hub.record_power (n : FaultName) (key : List Nat) (lanes : Nat) (d : Detail) (o : Origin) :
    (h.record n key lanes d o).power = h.power := by
  unfold Hub.record
  split
  · rfl
  · exact Hub.newRecord_power ..

theorem Hub.raise_faults (n : FaultName) (key : List Nat) (lanes : Nat) (d : Detail) (o : Origin) :
    (h.raise n key lanes d o).faults = (h.record n key lanes d o).faults := by
  rw [Hub.raise_eq, Hub.react_faults]

/-- A report takes the mode to SAFE or leaves the power state as it is. -/
theorem Hub.raise_power (n : FaultName) (key : List Nat) (lanes : Nat) (d : Detail) (o : Origin) :
    (h.raise n key lanes d o).power = h.power ∨ (h.raise n key lanes d o).power.mode = .safe := by
  rw [Hub.raise_eq, Hub.react]
  split
  · rw [Hub.safeDecision]
    split
    · right; rw [Hub.setMode_power]
    · left; exact Hub.record_power ..
  · left; exact Hub.record_power ..

end views

/-! ### The log -/

theorem updateFirst_length (p : FaultRec → Bool) (f : FaultRec → FaultRec) (l : List FaultRec) :
    (updateFirst p f l).length = l.length := by
  induction l with
  | nil => rfl
  | cons r rs ih => simp only [updateFirst]; split <;> simp [ih]

/-- Every record is still there, unchanged or updated. -/
theorem updateFirst_getElem? (p : FaultRec → Bool) (f : FaultRec → FaultRec) (l : List FaultRec) (i : Nat) (r : FaultRec)
    (hr : l[i]? = some r) : (updateFirst p f l)[i]? = some r ∨ (updateFirst p f l)[i]? = some (f r) := by
  induction l generalizing i with
  | nil => simp at hr
  | cons x xs ih =>
    simp only [updateFirst]
    split <;> cases i <;> simp_all

/-- An update that keeps a test keeps whether a record meets it. -/
theorem any_updateFirst (p q : FaultRec → Bool) (f : FaultRec → FaultRec) (hf : ∀ r, q (f r) = q r) (l : List FaultRec) :
    (updateFirst p f l).any q = l.any q := by
  induction l with
  | nil => rfl
  | cons r rs ih =>
    simp only [updateFirst]
    split <;> simp [hf, ih]

/-- A fault with an active state is active after a report of it. -/
theorem Hub.raise_active (h : Hub) {n : FaultName} (key : List Nat) (lanes : Nat) (d : Detail) (o : Origin) (hn : n.hasActive = true) :
    (h.raise n key lanes d o).faultActive n key = true := by
  unfold Hub.faultActive
  rw [Hub.raise_faults, Hub.record]
  split
  case isTrue hany =>
    refine (any_updateFirst _ _ _ ?_ h.faults.log).trans ?_
    · exact fun _ => rfl
    simp only [List.any_eq_true, FaultRec.same, Bool.and_eq_true, beq_iff_eq] at hany ⊢
    obtain ⟨r, hr, ⟨⟨hname, hkey⟩, -⟩, hactive⟩ := hany
    exact ⟨r, hr, ⟨hname, hkey⟩, hactive⟩
  case isFalse =>
    rw [Hub.newRecord_faults]
    simp [Hub.recordOf, hn]

theorem Hub.clearFault_inactive (h : Hub) (n : FaultName) (key : List Nat) (f : Detail → Detail) :
    (h.clearFault n key f).faultActive n key = false := by
  simp only [Hub.faultActive, Hub.clearFault, List.any_map, List.any_eq_false]
  intro r _
  dsimp only [Function.comp_apply]
  split <;> simp_all

theorem Hub.clearFault_active_of_ne (h : Hub) {n m : FaultName} {key k : List Nat} (f : Detail → Detail) (hne : ¬ (m = n ∧ k = key)) :
    (h.clearFault n key f).faultActive m k = h.faultActive m k := by
  simp only [Hub.faultActive, Hub.clearFault, List.any_map]
  refine List.any_congr rfl (fun r => ?_)
  dsimp only [Function.comp_apply]
  split
  next hr =>
    simp only [Bool.and_eq_true, beq_iff_eq] at hr
    obtain ⟨⟨hname, hkey⟩, -⟩ := hr
    have hother : (r.name == m && r.key == k) = false := by
      rw [Bool.eq_false_iff, Ne, Bool.and_eq_true, beq_iff_eq, beq_iff_eq, hname, hkey]
      exact fun ⟨hm, hk⟩ => hne ⟨hm.symm, hk.symm⟩
    simp only [hother, Bool.and_false, Bool.false_and]
  next => rfl

/-! ### Reports without a reaction, and wear -/

/-- The hub without what a report that takes no SAFE decision changes. -/
def Hub.quiet (h : Hub) : Hub := { h.untraced with faults := {} }

/-- The hub without what an event counted against a resource changes (R406 to R408). -/
def Hub.unworn (h : Hub) : Hub := { h.quiet with mem.wear := [], mem.order := 0 }

section
variable (h : Hub) {n : FaultName} {o : Origin}

theorem Hub.quiet_of_untraced {h t : Hub} (e : t.untraced = h.untraced) : t.quiet = h.quiet := by
  rw [Hub.quiet, e, Hub.quiet]

theorem Hub.unworn_of_quiet {h t : Hub} (e : t.quiet = h.quiet) : t.unworn = h.unworn := by
  rw [Hub.unworn, e, Hub.unworn]

@[simp] theorem Hub.newRecord_quiet (key : List Nat) (lanes : Nat) (d : Detail) : (h.newRecord n key lanes d o).quiet = h.quiet := by
  unfold Hub.newRecord
  rw [Hub.quiet_of_untraced (Hub.countFault_untraced ..), Hub.quiet_of_untraced (Hub.emit_untraced ..)]
  rfl

@[simp] theorem Hub.repeatRecord_quiet (p : FaultRec → Bool) (lanes : Nat) : (h.repeatRecord p n lanes).quiet = h.quiet := rfl

@[simp] theorem Hub.clearFault_quiet (key : List Nat) (d : Detail → Detail) : (h.clearFault n key d).quiet = h.quiet := rfl

@[simp] theorem Hub.clearAll_quiet (p : FaultName → Bool) : (h.clearAll p).quiet = h.quiet := rfl

theorem Hub.raise_quiet (hn : n.severity ≠ .safe ∨ o = .reportOnly) (key : List Nat) (lanes : Nat) (d : Detail) :
    (h.raise n key lanes d o).quiet = h.quiet := by
  rw [Hub.raise_eq, Hub.react_of_no_reaction _ hn, Hub.record]
  split
  · rfl
  · exact Hub.newRecord_quiet ..

theorem Hub.raiseEvent_quiet (hn : n.severity ≠ .safe ∨ o = .reportOnly) (rep : FaultRec → Bool) (key : List Nat) (lanes : Nat)
    (d : Detail) : (h.raiseEvent rep n key lanes d o).quiet = h.quiet := by
  unfold Hub.raiseEvent
  rw [Hub.react_of_no_reaction _ hn]
  split
  · split
    · rfl
    · exact Hub.newRecord_quiet ..
  · exact Hub.newRecord_quiet ..

theorem Hub.event_quiet (hn : n.severity ≠ .safe ∨ o = .reportOnly) (key : List Nat) (lanes : Nat) (d : Detail) :
    (h.event n key lanes d o).quiet = h.quiet := h.raiseEvent_quiet hn ..

theorem Hub.eventPerTick_quiet (hn : n.severity ≠ .safe ∨ o = .reportOnly) (key : List Nat) (lanes : Nat) (d : Detail) :
    (h.eventPerTick n key lanes d o).quiet = h.quiet := h.raiseEvent_quiet hn ..

theorem Hub.laneEvent_quiet (hn : n.severity ≠ .safe ∨ o = .reportOnly) (rep : FaultRec → Bool) (key : List Nat) (l : LaneId)
    (d : Detail) : (h.laneEvent rep n key l d o).quiet = h.quiet := by
  unfold Hub.laneEvent
  dsimp only
  split
  · split
    · rw [Hub.react_of_no_reaction _ hn]; rfl
    · exact Hub.raiseEvent_quiet _ hn ..
  · exact Hub.raiseEvent_quiet _ hn ..

theorem Hub.laneRaise_quiet (hn : n.severity ≠ .safe ∨ o = .reportOnly) (key : List Nat) (l : LaneId) (off : Nat) (d : Detail) :
    (h.laneRaise n key l off d o).quiet = h.quiet := by
  unfold Hub.laneRaise
  dsimp only
  split
  · split
    · rw [Hub.react_of_no_reaction _ hn]; rfl
    · exact Hub.raise_quiet _ hn ..
  · exact Hub.raise_quiet _ hn ..

theorem Memory.enter_frame (m : Memory) (cls unit index : Nat) :
    ({ m.enter cls unit index with wear := [], order := 0 } : Memory) = { m with wear := [], order := 0 } := by
  unfold Memory.enter
  split <;> rfl

theorem Hub.enter_unworn (cls unit index : Nat) : ({ h with mem := h.mem.enter cls unit index } : Hub).unworn = h.unworn :=
  congrArg (fun m : Memory => { h.quiet with mem := m }) (h.mem.enter_frame cls unit index)

@[simp] theorem Hub.wearReached_unworn (e : WearEntry) : (h.wearReached e o).unworn = h.unworn := by
  unfold Hub.wearReached
  dsimp only
  rw [Hub.unworn_of_quiet (Hub.raise_quiet _ (.inl (by decide)) ..)]
  rfl

@[simp] theorem Hub.wearHit_unworn (cls unit index : Nat) (n : Option Nat) : (h.wearHit cls unit index n).unworn = h.unworn := by
  unfold Hub.wearHit
  extract_lets index0 h1 th
  have e1 : h1.unworn = h.unworn := h.enter_unworn ..
  clear_value h1
  split
  · exact e1
  · extract_lets c e h2
    have e2 : h2.unworn = h.unworn := e1
    clear_value h2
    split
    · rw [Hub.wearReached_unworn]; exact e2
    · exact e2

@[simp] theorem Hub.wearForce_unworn (cls unit index : Nat) : (h.wearForce cls unit index o).unworn = h.unworn := by
  unfold Hub.wearForce
  split
  · exact Hub.unworn_of_quiet (Hub.raise_quiet _ (.inl (by decide)) ..)
  · dsimp only
    split
    · rw [Hub.wearReached_unworn]; exact h.enter_unworn ..
    · exact h.enter_unworn ..

@[simp] theorem Hub.wearDone_unworn (cls unit index : Nat) : (h.wearDone cls unit index).unworn = h.unworn := rfl

@[simp] theorem Hub.wearServed_unworn (cls unit index : Nat) : (h.wearServed cls unit index).unworn = h.unworn := by
  unfold Hub.wearServed
  split
  · exact h.wearDone_unworn ..
  · rfl

theorem Hub.armed_of_no_injection {h : Hub} (ha : h.inject.armed = []) (n : FaultName) (p : Armed → Bool) : h.armed n p = none := by
  simp [Hub.armed, ha]

end

/-- Settles O58, from what a report puts into the log and what its reaction does. -/
theorem faultRecords : Obligations.FaultRecords := by
  unfold Obligations.FaultRecords
  intro h n key lanes d o
  refine ⟨fun hnew hn => ?new, fun hold hn => ?repeated, fun hn ho hm => ?safe, fun ho => ?reportOnly,
    fun f => ⟨h.clearFault_inactive .., fun m k => h.clearFault_active_of_ne f⟩⟩
  case new =>
    rw [Hub.raise_faults, Hub.record, hnew]
    simp [Hub.recordOf]
  case repeated =>
    rw [Hub.raise_faults, Hub.record, hold]
    refine ⟨updateFirst_length .., rfl, fun i r hr => ?_⟩
    rcases updateFirst_getElem? _ _ _ i r hr with hx | hx
    · exact ⟨_, hx, rfl, rfl, .inl rfl⟩
    · exact ⟨_, hx, rfl, rfl, .inr rfl⟩
  case safe =>
    rw [Hub.raise_eq, Hub.react_of_safe _ hn ho, Hub.safeDecision_power _ _ (by rw [Hub.record_power]; exact .inr hm)]
    exact ⟨rfl, rfl, rfl⟩
  case reportOnly => rw [Hub.raise_eq, Hub.react_of_no_reaction _ (.inr ho), Hub.record_power]

end Sys2Proof.Machine
end

section
/-! Settles O25: the two phases of a confirmed request, from the checks that both packets of it pass. -/
namespace Sys2Proof.Machine

variable {d : OpSpec} {r : Req} {p : Bytes} {code : Nat} {s : State}

/-- The packet of the first phase passes steps 8 to 10. -/
theorem OpSpec.run_firstPhase (hsilent : s.hub.silent = false) (hauth : d.authorityOk r p s = true) (hhead : r.headerOk = true)
    (htwo : d.twoPhase s p = true) (hlayout : d.layout p = true) (hconfirm : r.confirm = false) : d.run r p s = d.firstPhase r p s := by
  simp [OpSpec.run, hsilent, hauth, hhead, htwo, hlayout, hconfirm]

/-- The packet of the second phase, which carries the code behind the parameters, passes steps 8 to 10. -/
theorem OpSpec.run_secondPhase (hsilent : s.hub.silent = false) (hauth : d.authorityOk r p s = true) (hhead : r.headerOk = true)
    (htwo : d.twoPhase s p = true) (hlayout : d.layout p = true) (hconfirm : r.confirm = true) :
    d.run r (p ++ beBytes 4 code) s = d.secondPhase r (p ++ beBytes 4 code) s := by
  have hlong : ¬ p.length + 4 < 4 := by omega
  simp [OpSpec.run, hsilent, hauth, hhead, htwo, hlayout, hconfirm, hlong]

/-- The second phase with a code of the session that has not expired: the code is used up, and it decides with the opcode and the
parameters that it was drawn for. -/
theorem OpSpec.secondPhase_of_code {x : Session} {c : Confirm} (hcode : code < 2 ^ 32)
    (hx : s.hub.cmd.sessions.find? (fun x => x.matches r) = some x) (hc : x.confirm = some c)
    (hage : s.hub.time.now - c.at_ ≤ 10000000000) : d.secondPhase r (p ++ beBytes 4 code) s =
      if c.code = code ∧ c.opcode = d.op.code ∧ c.params = p then d.execute r p (s.codeUsed r)
      else d.answer r .confirmMismatch (s.codeUsed r) := by
  have hval : beVal (beBytes 4 code) = code := by
    rw [beVal_beBytes]; exact Nat.mod_eq_of_lt hcode
  unfold OpSpec.secondPhase
  rw [hx]
  dsimp only
  rw [hc]
  dsimp only
  rw [if_neg (by omega)]
  simp only [List.length_append, beBytes_length, Nat.add_sub_cancel, List.take_left, List.drop_left, hval]
  rfl

/-- Settles O25. -/
theorem twoPhaseRequests : Obligations.TwoPhaseRequests := by
  unfold Obligations.TwoPhaseRequests
  intro d r p s hsilent hauth hhead htwo hlayout hbusy
  refine ⟨fun hconfirm hcheck => ?first, fun code hc => ?second, fun code x c hconfirm hcode hx hc hage hne => ?wrong⟩
  case first =>
    rw [OpSpec.run_firstPhase hsilent hauth hhead htwo hlayout hconfirm]
    simp [OpSpec.firstPhase, hbusy, hcheck]
  case second => exact OpSpec.run_confirms hc
  case wrong =>
    rw [OpSpec.run_secondPhase hsilent hauth hhead htwo hlayout hconfirm, OpSpec.secondPhase_of_code hcode hx hc hage,
      if_neg (fun h => hne h.1)]

end Sys2Proof.Machine
end

section
/-! Settles O32 and O34: starting, aligning and steering the tick, the RTC, and the PTP trackers. -/
namespace Sys2Proof.Machine

variable {s : State} {h : Hub}

theorem next_of_pos {c : Prop} [Decidable c] {a b : State} (hc : c) : (.next (if c then a else b) : Out) = .next a := by
  rw [if_pos hc]

theorem next_of_neg {c : Prop} [Decidable c] {a b : State} (hc : ¬ c) : (.next (if c then a else b) : Out) = .next b := by
  rw [if_neg hc]

theorem next_modHub {f : Hub → Hub} {x : Hub} (e : f s.hub = x) : (.next (s.modHub f) : Out) = .next { s with hub := x } :=
  congrArg (fun h => Host.Outcome.next { s with hub := h }) e

/-! ### Starting, aligning and steering the tick (R32 to R39, R48 to R51) -/

theorem add_sub_mod_self {d : Nat} (hd : 0 < d) (a : Nat) : (a + (d - a % d) % d) % d = 0 := by
  have hlt := Nat.mod_lt a hd
  have hdiv := Nat.div_add_mod a d
  have hsum : a + (d - a % d) = d * (a / d + 1) := by rw [Nat.mul_add_one]; omega
  rw [Nat.add_mod_mod, hsum, Nat.mul_mod_right]

theorem Hub.le_startInstant (h : Hub) : h.time.now + 20000 ≤ h.startInstant := by
  unfold Hub.startInstant
  dsimp only
  split
  · exact Nat.le_add_right ..
  · exact Nat.le_refl _

/-- Where steering has a reference, the start instant lies on TB3's sentence grid. -/
theorem Hub.startInstant_grid (hen : h.time.steerEn = true) (href : h.time.tb3Ref.hasReference = true) (hd : 0 < h.sentenceNs) :
    (h.time.tb3 + (h.startInstant - h.time.now)) % h.sentenceNs = 0 := by
  simp only [Hub.startInstant, hen, href, Bool.and_self, if_true]
  generalize hx : (h.sentenceNs - (h.time.tb3 + 20000) % h.sentenceNs) % h.sentenceNs = x
  rw [show h.time.tb3 + (h.time.now + 20000 + x - h.time.now) = h.time.tb3 + 20000 + x by omega, ← hx]
  exact add_sub_mod_self hd _

theorem execTickStartMarker_ok {now : Nat} (hmode : s.hub.power.mode = .service) (hrun : s.hub.time.running = false)
    (hstart : s.hub.time.startAt = none) : execTickStartMarker now s = .next (State.mapLanes (fun _ l => { l with steerAcc := 0, started := false })
      { s with hub := ({ s.hub.at_ now with time := { (s.hub.at_ now).time with
          startAt := some (s.hub.at_ now).startInstant, first := true, steerAcc := 0 } } : Hub).send (.startMarker (s.hub.at_ now).startInstant) }) := by
  unfold execTickStartMarker
  rw [if_pos ⟨hmode, hrun, hstart⟩]
  rfl

@[simp] theorem State.mapLanes_lane (f : Nat → Lane → Lane) (s : State) (l : LaneId) : (s.mapLanes f).lane l = f l.val (s.lane l) :=
  vmapIdx_getElem ..

/-- The steering carries what it does not give to the guard over to the next tick (R39). -/
theorem steerStep_conserves (n : Nat) (ppb acc : Int) :
    1000000000 * (steerStep n ppb acc).1 + (steerStep n ppb acc).2 = acc + n * ppb := by
  simp only [steerStep]
  omega

/-- Settles O32. -/
theorem tickAndSteering : Obligations.TickAndSteering := by
  unfold Obligations.TickAndSteering
  refine ⟨fun s => ⟨fun now hmode hrun hstart hd => ?marker, fun lane sender d hrun hlane hsender hne => ?received,
    fun lane hrun hstarted => ?guard⟩, fun s => ⟨fun f hrun htick => ?steer, fun now href hdue => ?rtc, fun v => ?select, fun on => rfl⟩⟩
  case marker =>
    refine ⟨_, _, execTickStartMarker_ok hmode hrun hstart, rfl, (s.hub.at_ now).le_startInstant,
      fun hen href => Hub.startInstant_grid hen href hd, rfl, fun l => ?_⟩
    rw [State.mapLanes_lane]
    exact ⟨rfl, rfl⟩
  case received =>
    have hc : (s.hub.time.running && (s.hub.laneState sender).powered && (s.hub.laneState lane).powered && sender != lane) = true := by
      simp [hrun, hlane, hsender, hne]
    refine ⟨_, next_of_pos hc, ?_, fun j hj => ?_, fun l hl => State.modLane_lane_ne _ _ _ hl, rfl⟩
    · rw [State.modLane_lane]; simp
    · rw [State.modLane_lane]
      exact vset_getElem_ne _ _ hj
  case guard =>
    refine ⟨_, next_of_pos (by simp [hrun, hstarted]), rfl, ?_, ?_, ?_⟩ <;> rw [State.modLane_lane]
    exact steerStep_conserves ..
  case steer =>
    exact ⟨_, _, next_of_pos (by simp [hrun, htick]), rfl, fun hen => by simp [hen], fun hen href => by simp [hen, href],
      fun hen href => by simp [hen, href]⟩
  case rtc =>
    refine ⟨_, next_modHub (if_pos ⟨href, hdue⟩), rfl, rfl, ?_, rfl⟩
    change (s.hub.at_ now).time.tb3 % 1000000000 * 32768 / 1000000000 < 32768
    omega
  case select =>
    refine ⟨if v = 1 ∨ v = 2 then v else s.hub.time.select, ?_, fun hv => if_pos hv, fun hv => if_neg hv⟩
    simp only [exec, execTb3Select, Hub.setSelect, State.modHub]
    split <;> rfl

/-! ### PTP trackers (R42 to R45, R57) -/

section trackers
variable (i : Fin 2) (f : Tracker → Tracker)

@[simp] theorem Hub.modTracker_tracker (h : Hub) : (h.modTracker i f).time.trackers[i] = f h.time.trackers[i] := vmod_getElem_self ..

theorem Hub.trackerLocks_tracker (h : Hub) : (h.trackerLocks i).time.trackers[i] =
    { h.time.trackers[i] with state := .locked, lockedAt := h.time.now, loss := false, offsets := [] } := h.modTracker_tracker ..

theorem Hub.correctRate_tracker (h : Hub) : (h.correctRate i).time.trackers[i] =
    { h.time.trackers[i] with ratePpb := clampInt (-500000) 500000 (Config.trackerRate h.free) } := h.modTracker_tracker ..

end trackers

/-- What a Sync does to a tracker that is configured (R44, R45). -/
def Hub.ptpSync (i : Fin 2) (port origin : Nat) (h : Hub) : Hub :=
  let k := h.time.trackers[i]
  let off : Int := (k.value : Int) - origin - k.meanPathDelay
  let h := h.modTracker i (fun k => { k with lastSyncTb0 := h.tb0Now })
  match k.state with
  | .notAcquired | .holdover => h
  | .locked => (h.modTracker i (fun k => { k with masterOffset := off, port := port })).correctRate i
  | .acquiring =>
    let h := h.modTracker i (fun k => { k with masterOffset := off, port := port })
    if k.stepUsed then
      let h := h.correctRate i
      if -1000 ≤ off ∧ off ≤ 1000 then h.trackerLocks i else h
    else
      let offs := keepLast 8 (k.offsets ++ [off])
      if offs.length = 8 ∧ spread offs ≤ 1000 then
        let mean := tdiv (sumInt offs) 8
        (h.modTracker i (fun k => { k with value := ((k.value : Int) - mean).toNat, stepUsed := true, stepNs := -mean })).trackerLocks i
      else h.modTracker i (fun k => { k with offsets := offs })

theorem execPtpSyncReceived_ok {i : Fin 2} {now port origin : Nat} {c : PtpCfg} (hc : (s.hub.at_ now).cfg.ptp[i] = some c)
    (hmode : (s.hub.at_ now).power.mode.parser = true) :
    execPtpSyncReceived i now port origin s = .next { s with hub := (s.hub.at_ now).ptpSync i port origin } :=
  next_modHub ((if_neg (by rw [hc, hmode]; exact Bool.false_ne_true)).trans rfl)

section sync
variable {i : Fin 2} {port origin : Nat}

theorem Hub.ptpSync_lastSync : (h.ptpSync i port origin).time.trackers[i].lastSyncTb0 = h.tb0Now := by
  unfold Hub.ptpSync
  dsimp only
  split
  case h_1 => rw [Hub.modTracker_tracker]
  case h_2 => rw [Hub.modTracker_tracker]
  case h_3 => rw [Hub.correctRate_tracker, Hub.modTracker_tracker, Hub.modTracker_tracker]
  case h_4 =>
    split
    · split
      · rw [Hub.trackerLocks_tracker, Hub.correctRate_tracker, Hub.modTracker_tracker, Hub.modTracker_tracker]
      · rw [Hub.correctRate_tracker, Hub.modTracker_tracker, Hub.modTracker_tracker]
    · split
      · rw [Hub.trackerLocks_tracker, Hub.modTracker_tracker, Hub.modTracker_tracker, Hub.modTracker_tracker]
      · rw [Hub.modTracker_tracker, Hub.modTracker_tracker, Hub.modTracker_tracker]

theorem Hub.ptpSync_locked (hk : h.time.trackers[i].state = .locked) : h.ptpSync i port origin =
    ((h.modTracker i (fun k => { k with lastSyncTb0 := h.tb0Now })).modTracker i (fun k => { k with
      masterOffset := (h.time.trackers[i].value : Int) - origin - h.time.trackers[i].meanPathDelay, port := port })).correctRate i := by
  simp only [Hub.ptpSync, hk]

/-- An acquiring tracker whose step is still to come: eight offsets within 1 µs step and lock it, else it goes on collecting. -/
theorem Hub.ptpSync_acquiring {off : Int} {offs : List Int} (hk : h.time.trackers[i].state = .acquiring)
    (hstep : h.time.trackers[i].stepUsed = false) (hoff : off = (h.time.trackers[i].value : Int) - origin - h.time.trackers[i].meanPathDelay)
    (hoffs : offs = keepLast 8 (h.time.trackers[i].offsets ++ [off])) : (h.ptpSync i port origin).time.trackers[i] =
      let k := { h.time.trackers[i] with lastSyncTb0 := h.tb0Now, masterOffset := off, port := port }
      if offs.length = 8 ∧ spread offs ≤ 1000 then
        { k with
          value := ((k.value : Int) - tdiv (sumInt offs) 8).toNat, stepUsed := true, stepNs := -tdiv (sumInt offs) 8
          state := .locked, lockedAt := h.time.now, loss := false, offsets := [] }
      else { k with offsets := offs } := by
  subst hoffs hoff
  simp only [Hub.ptpSync, hk, hstep, Bool.false_eq_true, if_false]
  split
  · rw [Hub.trackerLocks_tracker, Hub.modTracker_tracker, Hub.modTracker_tracker, Hub.modTracker_tracker]; rfl
  · simp only [Hub.modTracker_tracker, hk, hstep]

end sync

/-- A tracker after an Announce of its master (R44). -/
def Tracker.announced (port master clockClass : Nat) (utcOffset : Int) (utcValid : Bool) (k : Tracker) : Tracker :=
  let k := { k with port := port, masterId := master, clockClass := clockClass, utcOffset := utcOffset, utcValid := utcValid }
  match k.state with
  | .notAcquired | .holdover => { k with state := .acquiring, offsets := [] }
  | _ => k

theorem Tracker.announced_without_master {port master cls : Nat} {utc : Int} {valid : Bool} {k : Tracker}
    (hk : k.state = .notAcquired ∨ k.state = .holdover) : k.announced port master cls utc valid = { k with
      port := port, masterId := master, clockClass := cls, utcOffset := utc, utcValid := valid, state := .acquiring, offsets := [] } := by
  rcases hk with hk | hk <;> simp only [Tracker.announced, hk]

theorem Tracker.announced_with_master {port master cls : Nat} {utc : Int} {valid : Bool} {k : Tracker}
    (hk : ¬ (k.state = .notAcquired ∨ k.state = .holdover)) : k.announced port master cls utc valid = { k with
      port := port, masterId := master, clockClass := cls, utcOffset := utc, utcValid := valid } := by
  unfold Tracker.announced
  dsimp only
  split
  case h_1 hs => exact absurd (.inl hs) hk
  case h_2 hs => exact absurd (.inr hs) hk
  case h_3 => rfl

theorem execPtpAnnounceReceived_ok {i : Fin 2} {now port master cls : Nat} {utc : Int} {valid : Bool} {c : PtpCfg}
    (hc : (s.hub.at_ now).cfg.ptp[i] = some c) (hmode : (s.hub.at_ now).power.mode.parser = true) :
    execPtpAnnounceReceived i now port master cls utc valid s =
      .next { s with hub := (s.hub.at_ now).modTracker i (Tracker.announced port master cls utc valid) } :=
  next_modHub ((if_neg (by rw [hc, hmode]; exact Bool.false_ne_true)).trans rfl)

theorem Hub.ptpLoss_tracker (h : Hub) (i : Fin 2) : (h.ptpLoss i .real).time.trackers[i] =
    { h.time.trackers[i] with state := .holdover, lossCount := wrapAdd 32 h.time.trackers[i].lossCount 1, loss := true, offsets := [] } := by
  have htime := congrArg Hub.time (Hub.raise_still (h.modTracker i (fun k =>
    { k with state := .holdover, lossCount := wrapAdd 32 k.lossCount 1, loss := true, offsets := [] })) .ptpDomainLoss [i.val] 0
    [(1, i.val + 1), (1, match h.cfg.ptp[i] with | some c => c.domain | none => 0), (8, h.time.trackers[i].masterId)] .real)
  exact (congrArg (fun x : Time => x.trackers[i]) htime).trans (h.modTracker_tracker ..)

theorem Hub.foldl_send {ι : Type} (g : ι → Sent) (l : List ι) (h : Hub) :
    l.foldl (fun h q => h.send (g q)) h = { h with outbox := h.outbox ++ l.map g } := by
  induction l generalizing h with
  | nil => simp
  | cons x xs ih => rw [List.foldl_cons, ih]; simp [Hub.send]

theorem execPtpDelayReqSend_ok {i : Fin 2} {now : Nat} {c : PtpCfg} (hc : (s.hub.at_ now).cfg.ptp[i] = some c)
    (hmode : (s.hub.at_ now).power.mode.parser = true) :
    let h := s.hub.at_ now
    let seq := wrapAdd 16 h.time.trackers[i].delaySeq 1
    let x := h.modTracker i (fun k => { k with delaySeq := seq })
    let y :=
      if c.p2p then (bitsSet 2 c.ports).foldl (fun h q => h.send (.ptp 1 c.domain (q + 1) seq)) x
      else if x.time.trackers[i].state = .notAcquired then x
      else x.send (.ptp 0 c.domain x.time.trackers[i].port seq)
    execPtpDelayReqSend i now s = .next { s with hub := y } := by
  refine next_modHub ?_
  dsimp only
  rw [hc]
  dsimp only
  rw [hmode]
  rfl

theorem Vector.getElem_fin_mem_toList {α : Type} {n : Nat} (v : Vector α n) (i : Fin n) : v[i] ∈ v.toList := by
  simp

theorem execPtpTimeout_ok {i : Fin 2} {now other : Nat} (hk : (s.hub.at_ now).time.trackers[i].state = .locked ∨
    (s.hub.at_ now).time.trackers[i].state = .acquiring) :
    let h := s.hub.at_ now
    let x := if other ≠ 0 then h.modTracker i (fun k => { k with port := other }) else h.ptpLoss i .real
    execPtpTimeout i now other s = .next { s with hub := x } := by
  refine next_modHub ?_
  dsimp only
  rcases hk with hk | hk <;> rw [hk]

/-- Settles O34. -/
theorem ptpTrackers : Obligations.PtpTrackers := by
  unfold Obligations.PtpTrackers
  intro s i now h k
  refine ⟨fun c hc hmode => ?configured, fun hk => ⟨fun other hother => ?moved, ?lost⟩⟩
  case configured =>
    refine ⟨fun port master cls utc valid => ?announce, fun port origin => ?sync, fun hp2p hstate => ?delayReq, fun hp2p => ?pdelayReq,
      fun seq delay hseq => ?resp, fun port domain seq hp2p hport hpos => ?pdelayResp⟩
    case announce =>
      refine ⟨_, execPtpAnnounceReceived_ok hc hmode, ?_⟩
      rw [Hub.modTracker_tracker]
      by_cases hk : k.state = .notAcquired ∨ k.state = .holdover
      · rw [Tracker.announced_without_master hk]
        exact ⟨rfl, rfl, rfl, rfl, rfl, rfl, fun _ => ⟨rfl, rfl⟩, fun hn => absurd hk hn, rfl⟩
      · rw [Tracker.announced_with_master hk]
        exact ⟨rfl, rfl, rfl, rfl, rfl, rfl, fun hy => absurd hy hk, fun _ => ⟨rfl, rfl⟩, rfl⟩
    case sync =>
      refine ⟨_, execPtpSyncReceived_ok hc hmode, rfl, Hub.ptpSync_lastSync, fun hk => ?locked, fun hk hstep => ⟨fun hoffs => ?step,
        fun hoffs => ?collect⟩⟩
      case locked =>
        rw [Hub.ptpSync_locked hk, Hub.correctRate_tracker, Hub.modTracker_tracker, Hub.modTracker_tracker]
        exact ⟨rfl, rfl, hk⟩
      case step =>
        rw [Hub.ptpSync_acquiring hk hstep rfl rfl, if_pos hoffs]
        exact ⟨rfl, rfl, rfl⟩
      case collect =>
        rw [Hub.ptpSync_acquiring hk hstep rfl rfl, if_neg hoffs]
        exact ⟨hk, rfl, rfl⟩
    case delayReq =>
      refine ⟨_, execPtpDelayReqSend_ok hc hmode, ?_⟩
      rw [hp2p, if_neg Bool.false_ne_true, Hub.modTracker_tracker, if_neg hstate]
      refine ⟨?_, rfl⟩
      exact congrArg Tracker.delaySeq (h.modTracker_tracker ..)
    case pdelayReq =>
      refine ⟨_, execPtpDelayReqSend_ok hc hmode, ?_⟩
      rw [hp2p, if_pos rfl]
      rw [Hub.foldl_send]
      exact ⟨congrArg Tracker.delaySeq (h.modTracker_tracker ..), rfl⟩
    case resp =>
      refine ⟨_, next_modHub (if_pos ⟨by rw [hc]; rfl, hseq⟩), ?_, rfl⟩
      rw [Hub.modTracker_tracker]
    case pdelayResp =>
      have huses : (h.cfg.ptp.toList.any (fun c => match c with
          | some c => c.p2p && bit c.ports (port - 1) && decide (1 ≤ port)
          | none => false) && h.power.mode.parser) = true := by
        rw [hmode, Bool.and_true, List.any_eq_true]
        exact ⟨_, Vector.getElem_fin_mem_toList _ i, by simp [hc, hp2p, hport, hpos]⟩
      refine ⟨_, next_modHub (if_pos huses), ?_, rfl⟩
      simp [Hub.send]
      rfl
  case moved => exact (execPtpTimeout_ok hk).trans (congrArg (fun x => Host.Outcome.next { s with hub := x }) (if_pos hother))
  case lost =>
    refine ⟨_, execPtpTimeout_ok hk, ?_⟩
    dsimp only
    rw [if_neg (fun hn => hn rfl), Hub.ptpLoss_tracker]
    exact ⟨rfl, rfl, rfl, Hub.raise_active _ _ _ _ _ rfl⟩

end Sys2Proof.Machine
end

section
/-! What every step keeps: the queue, and of each lane the canonical form of its memory with g0 and p0 hard-wired (R62). The relation
`State.Keeps` says so of two states; it is closed under sequence, branches and folds, and whatever works on the hub alone meets it. -/
namespace Sys2Proof.Machine

/-- g0 holds 0 and p0 holds 1 (R62). -/
def Engine.hard (e : Engine) : Prop := e.regs[0] = 0#32 ∧ e.preds.getLsbD 0 = true

/-- The invariant of a lane. -/
def Lane.good (l : Lane) : Prop := l.mem.wf = true ∧ ∀ e : EngineId, l.eng[e].hard

/-- The queue of `s` stands in `t`, and where every lane of `s` is good every lane of `t` is. -/
structure State.Keeps (s t : State) : Prop where
  pending : t.pending = s.pending
  good : (∀ l, (s.lane l).good) → ∀ l, (t.lane l).good

variable {s t u : State} {l : LaneId}

theorem State.good_iff : (∀ l, (s.lane l).good) ↔ s.canonical ∧ s.hardwired :=
  ⟨fun h => ⟨fun l => (h l).1, fun k => (h k.lane).2 k.eng⟩, fun ⟨hc, hh⟩ l => ⟨hc l, fun e => hh ⟨l, e⟩⟩⟩

namespace State.Keeps

theorem refl (s : State) : s.Keeps s := ⟨rfl, id⟩

theorem trans (h : s.Keeps t) (h' : t.Keeps u) : s.Keeps u := ⟨h'.pending.trans h.pending, h'.good ∘ h.good⟩

theorem of_lanes (hl : t.lanes = s.lanes) (hp : t.pending = s.pending) : s.Keeps t :=
  ⟨hp, fun h l => by rw [State.lane_of_lanes hl]; exact h l⟩

theorem of_sameVisible (h : s.sameVisible t) : s.Keeps t := by
  obtain ⟨he, hm, hp⟩ := h
  refine ⟨hp, fun hg l => ⟨by rw [hm l]; exact (hg l).1, fun e => ?_⟩⟩
  obtain ⟨hregs, hpreds, -⟩ := he ⟨l, e⟩
  exact ⟨(congrArg (fun v : Vector Word 64 => v[0]) hregs).trans ((hg l).2 e).1,
    (congrArg (fun v : BitVec 8 => v.getLsbD 0) hpreds).trans ((hg l).2 e).2⟩

theorem ite {c : Prop} [Decidable c] (h : c → s.Keeps t) (h' : ¬ c → s.Keeps u) : s.Keeps (if c then t else u) := by
  split
  · exact h ‹_›
  · exact h' ‹_›

theorem modHub (s : State) (f : Hub → Hub) : s.Keeps (s.modHub f) := ⟨rfl, id⟩

theorem withHub (s : State) (h : Hub) : s.Keeps { s with hub := h } := ⟨rfl, id⟩

theorem modLane {f : Lane → Lane} (hf : (s.lane l).good → (f (s.lane l)).good) : s.Keeps (s.modLane l f) := by
  refine ⟨rfl, fun h m => ?_⟩
  rw [State.modLane_lane_eq]
  split
  · exact hf (h l)
  · exact h m

theorem mapLanes {f : Nat → Lane → Lane} (hf : ∀ i k, k.good → (f i k).good) : s.Keeps (s.mapLanes f) := by
  refine ⟨rfl, fun h m => ?_⟩
  rw [State.mapLanes_lane]
  exact hf _ _ (h m)

theorem foldl {ι : Type} {f : State → ι → State} (hf : ∀ (s : State) x, s.Keeps (f s x)) (xs : List ι) (s : State) : s.Keeps (xs.foldl f s) := by
  induction xs generalizing s with
  | nil => exact refl s
  | cons x xs ih => exact (hf s x).trans (ih _)

end State.Keeps

theorem Lane.good_modEng {f : Engine → Engine} {k : Lane} (e : EngineId) (hf : k.eng[e].hard → (f k.eng[e]).hard) (h : k.good) :
    (Lane.modEng e f k).good := by
  refine ⟨h.1, fun j => ?_⟩
  by_cases hj : j = e
  · subst hj
    simp only [Lane.modEng, vmod_getElem_self]
    exact hf (h.2 j)
  · simp only [Lane.modEng, vmod_getElem_ne _ _ hj]
    exact h.2 j

theorem State.Keeps.modEng {k : Site} {f : Engine → Engine} (hf : (s.engine k).hard → (f (s.engine k)).hard) : s.Keeps (s.modEng k f) :=
  .modLane (Lane.good_modEng k.eng hf)

/-- A memory that is written canonically. -/
theorem Lane.good_withMem {k : Lane} {m : Mem} (hm : k.mem.wf = true → m.wf = true) (h : k.good) : Lane.good { k with mem := m } :=
  ⟨hm h.1, h.2⟩

theorem Lane.good_default : Lane.good {} :=
  ⟨rfl, fun e => by
    have he : (({} : Lane).eng[e] : Engine) = {} := Vector.getElem_replicate (n := 8) e.isLt
    rw [he]; exact ⟨rfl, rfl⟩⟩

/-! ### The clause engine -/

theorem Mem.wf_moveBeats {x : Xfer} (n : Nat) {mb : Mem × Bytes} (j : Nat) (h : mb.1.wf = true) : (moveBeats x n mb j).1.wf = true := by
  induction n generalizing mb j with
  | zero => exact h
  | succ n ih =>
    refine ih (j + 1) ?_
    dsimp only
    split
    · exact h
    · exact Mem.wf_writeN h ..

theorem Xfer.step_wf (poison : List Nat) (c : Nat) {m : Mem} (x : Xfer) (h : m.wf = true) : (x.step poison c m).1.wf = true := by
  unfold Xfer.step
  split
  · exact h
  · split
    · split <;> exact h
    · dsimp only
      split
      · exact h
      · exact Mem.wf_moveBeats _ _ h

theorem stepAll_wf (poison : List Nat) (c : Nat) {m : Mem} (xs : List Xfer) (h : m.wf = true) : (stepAll poison c m xs).1.wf = true := by
  induction xs generalizing m with
  | nil => exact h
  | cons x xs ih => exact ih (Xfer.step_wf poison c x h)

theorem Lane.good_advance (poison : List Nat) (c : Nat) {k : Lane} (h : k.good) : (k.advance poison c).good :=
  ⟨stepAll_wf poison c k.xfers h.1, h.2⟩

theorem State.keeps_advance (l : LaneId) (c : Nat) : s.Keeps (s.advance l c) := .modLane (Lane.good_advance _ c)

theorem State.keeps_issue {k : Site} {n : Bool} {p : BitVec 3} {ok : Bool} {cause : Engine → Running → Bool → Option (Nat × Nat)}
    {eff : Engine → Running → Bool → Bundle → Bundle} : s.Keeps (s.issue k n p ok cause eff) :=
  .of_sameVisible (State.sameVisible_issue ..)

theorem State.keeps_startLoop {k : Site} {f : LpSyl} {okCnt : Bool} {count : Engine → Word} : s.Keeps (s.startLoop k f okCnt count) := by
  unfold State.startLoop
  exact State.keeps_issue

theorem State.keeps_load {k : Site} {d n : Bool} {p : BitVec 3} {ok : Bool} {ea : Engine → Nat} {size : Nat} {dst : Dest}
    {post : Nat → DWord} {ecc : Ecc} : s.Keeps (s.load k d n p ok ea size dst post ecc) := by
  have hadvance : s.Keeps (if s.accesses k n p ok (addrCause ea size) then (match (s.engine k).run with
      | some r => s.advance k.lane r.tickCycle
      | none => s) else s) := by
    refine .ite (fun _ => ?_) (fun _ => .refl s)
    split
    · exact State.keeps_advance ..
    · exact .refl s
  unfold State.load
  refine hadvance.trans (.trans ?_ State.keeps_issue)
  split
  · exact .of_lanes (State.scratchEcc_lanes ..) (State.scratchEcc_pending ..)
  · exact .refl _

/-- A syllable, in whatever state. -/
theorem exec_syllable_keeps {i : Instr} (hi : i.syllable.isSome = true) (s : State) : ∃ t, exec i s = .next t ∧ s.Keeps t := by
  cases i
  case nop => exact ⟨_, rfl, .of_sameVisible (State.sameVisible_execNop rfl)⟩
  case ldw | ldh | ldhu | ldb | ldbu | ldd | ldwx | lddx => exact ⟨_, rfl, State.keeps_load⟩
  case stw | sth | stb | std | stwx | stdx => exact ⟨_, rfl, .of_sameVisible State.sameVisible_store⟩
  case add | sub | andOp | orOp | xorOp | andn | shl | shr | sar | ror | min | max | minu | maxu | sel | addi | andi | ori | xori | shli |
      shri | sari | rori | cmpeq | cmpne | cmplt | cmpltu | cmple | cmpleu | cmpeqi | cmplti | pand | por | pxor | pandn | mfs | mfsd |
      mts | movd | clz | popc | addd | subd | fneg | fabs | br | bri | endOp | xset =>
    exact ⟨_, rfl, State.keeps_issue⟩
  case loopi | loopr => exact ⟨_, rfl, State.keeps_startLoop⟩
  case mul | mulhs | mulhu | mulws | mulwu | divs | divu | rems | remu | faddS | fsubS | fmulS | fmaS | fnmaS | fminS | fmaxS | fdivS |
      fsqrtS | fcmpeqS | fcmpltS | fcmpleS | fcmpunS | fcvtSW | fcvtnWS | fcvtzWS | faddD | fsubD | fmulD | fmaD | fnmaD | fminD |
      fmaxD | fdivD | fsqrtD | fcmpeqD | fcmpltD | fcmpleD | fcmpunD | fcvtDW | fcvtnWD | fcvtzWD | fcvtDS | fcvtSD =>
    exact ⟨_, rfl, .of_sameVisible State.sameVisible_mOp⟩
  all_goals cases hi

/-! ### Requests (R424) -/

/-- A request keeps what its opcode's execution keeps: steps 8 to 11 answer or work on the session alone. -/
theorem OpSpec.run_keeps {d : OpSpec} (hact : ∀ r p (s : State), s.Keeps (d.act r p s)) (r : Req) (p : Bytes) (s : State) :
    s.Keeps (d.run r p s) := by
  have hanswer (st : Status) (s : State) : s.Keeps (d.answer r st s) := .modHub s _
  have hexecute (p : Bytes) (s : State) : s.Keeps (d.execute r p s) := by
    unfold OpSpec.execute
    refine .ite (fun _ => hanswer ..) (fun _ => ?_)
    split
    · exact hanswer ..
    · exact hact ..
  have hfirst (p : Bytes) : s.Keeps (d.firstPhase r p s) := by
    unfold OpSpec.firstPhase
    refine .ite (fun _ => hanswer ..) (fun _ => ?_)
    split
    · exact hanswer ..
    · exact .modHub s _
  have hsecond : s.Keeps (d.secondPhase r p s) := by
    unfold OpSpec.secondPhase
    dsimp only
    split
    · exact hanswer ..
    · split
      · exact hanswer ..
      · refine .ite (fun _ => hanswer ..) (fun _ => .ite (fun _ => ?_) (fun _ => ?_))
        · exact State.Keeps.trans (.modHub s _) (hexecute ..)
        · exact State.Keeps.trans (.modHub s _) (hanswer ..)
  unfold OpSpec.run
  exact .ite (fun _ => .refl s) fun _ => .ite (fun _ => hanswer ..) fun _ => .ite (fun _ => hanswer ..) fun _ => .ite (fun _ => hanswer ..)
    fun _ => .ite (fun _ => hanswer ..) fun _ => .ite (fun _ => .ite (fun _ => hsecond) fun _ => hfirst _) fun _ => hexecute ..

end Sys2Proof.Machine
end

section
/-! Settles O37: frames between lanes and to the hub, from what a receiver makes of a frame on its link. -/
namespace Sys2Proof.Machine

variable {s : State}

/-- The hub without what a failed frame counts (R133). -/
def Hub.unlinked (h : Hub) : Hub := { h.unworn with vote.linkErrors := Vector.replicate 10 0, vote.linkNow := 0 }

theorem Hub.unlinked_of_unworn {h t : Hub} (e : t.unworn = h.unworn) : t.unlinked = h.unlinked := by
  rw [Hub.unlinked, e, Hub.unlinked]

theorem Hub.laneWear_unworn {n : FaultName} {o : Origin} (hn : n.severity ≠ .safe ∨ o = .reportOnly) (key : List Nat) (lanes : Nat)
    (d : Detail) (h : Hub) : (h.laneWear n key lanes d o).unworn = h.unworn := by
  have hevent : (h.eventPerTick n key lanes d o).unworn = h.unworn := Hub.unworn_of_quiet (h.eventPerTick_quiet hn ..)
  unfold Hub.laneWear
  dsimp only
  split
  · exact hevent
  · exact (foldl_view Hub.unworn (fun _ _ => Hub.wearHit_unworn ..) ..).trans hevent

/-- A failed frame counts against its link, and the report of it leaves that count. -/
theorem Hub.linkFault_unworn (link kind : Nat) (h : Hub) : (h.linkFault link kind .real).unworn =
    ({ h with vote.linkErrors := vmodN h.vote.linkErrors link (satAdd 16 · 1), vote.linkNow := setBit h.vote.linkNow link } : Hub).unworn :=
  Hub.laneWear_unworn (.inl (by decide)) ..

@[simp] theorem Hub.linkFault_unlinked (link kind : Nat) (o : Origin) (h : Hub) : (h.linkFault link kind o).unlinked = h.unlinked := by
  unfold Hub.linkFault
  dsimp only
  rw [Hub.unlinked_of_unworn (Hub.laneWear_unworn (.inl (by decide)) ..)]
  split <;> rfl

theorem Hub.linkFault_linkErrors {link : Nat} (hl : link < 10) (kind : Nat) (h : Hub) :
    vgetN (h.linkFault link kind .real).vote.linkErrors link 0 = satAdd 16 (vgetN h.vote.linkErrors link 0) 1 := by
  have he : (h.linkFault link kind .real).vote.linkErrors = vmodN h.vote.linkErrors link (satAdd 16 · 1) :=
    (congrArg (fun x : Hub => x.vote.linkErrors) (h.linkFault_unworn link kind) :)
  rw [he, vmodN_of_lt _ _ hl, vgetN_of_lt _ _ hl, vgetN_of_lt _ _ hl]
  exact vmod_getElem_self _ ⟨link, hl⟩ _

theorem laneLink_lt {a b : LaneId} (h : a ≠ b) : laneLink a b < 10 := by
  revert a b; decide

/-! ### What a receiver makes of a frame -/

theorem State.frameCrc_lanes (link : Nat) (rx : Rx) (s : State) : (s.frameCrc link rx).1.lanes = s.lanes := by
  unfold State.frameCrc
  dsimp only
  split <;> rfl

theorem State.frameCrc_pending (link : Nat) (rx : Rx) (s : State) : (s.frameCrc link rx).1.pending = s.pending := by
  unfold State.frameCrc
  dsimp only
  split <;> rfl

theorem State.frameCrc_whole (ha : s.hub.inject.armed = []) (link : Nat) : s.frameCrc link .whole = (s, .whole) := by
  simp only [State.frameCrc, Hub.takeArm_of_no_injection ha]

theorem State.frameCrc_crcError (ha : s.hub.inject.armed = []) (link : Nat) :
    s.frameCrc link .crcError = (s.modHub (Hub.linkFault link 0 .real), .crcError) := by
  simp only [State.frameCrc, Hub.takeArm_of_no_injection ha]

/-- The receiver has heard of the sender. -/
def State.hearing (s : State) (l sender : LaneId) (kind : Nat) : State :=
  s.modLane l (fun x => { x with heard := setBit x.heard (kind + sender.val) })

theorem State.frameRx_whole (ha : s.hub.inject.armed = []) (l sender : LaneId) (kind : Nat) :
    s.frameRx l sender kind .whole = (s.hearing l sender kind, .whole) :=
  State.frameCrc_whole (s := s.hearing l sender kind) ha _

theorem State.frameRx_crcError (ha : s.hub.inject.armed = []) (l sender : LaneId) (kind : Nat) :
    s.frameRx l sender kind .crcError = ((s.hearing l sender kind).modHub (Hub.linkFault (laneLink l sender) 0 .real), .crcError) :=
  State.frameCrc_crcError (s := s.hearing l sender kind) ha _

theorem State.hearing_lane (s : State) (l sender : LaneId) (kind : Nat) :
    (s.hearing l sender kind).lane l = { s.lane l with heard := setBit (s.lane l).heard (kind + sender.val) } := State.modLane_lane ..

theorem State.hearing_lane_ne (s : State) {l sender : LaneId} (kind : Nat) (h : sender ≠ l) : (s.hearing l sender kind).lane sender = s.lane sender :=
  State.modLane_lane_ne _ _ _ h

theorem State.linked_ne {l sender : LaneId} (h : s.linked l sender = true) : sender ≠ l := by
  unfold State.linked at h
  simp only [Bool.and_eq_true, bne_iff_ne, ne_eq] at h
  exact fun e => h.1.1.2 e.symm

/-! ### The five kinds of frames -/

section received
variable {lane sender : LaneId} (ha : s.hub.inject.armed = [])
include ha

theorem execAgreementFrameReceived_whole (hl : s.linked lane sender = true) (ht : (s.lane sender).own.tick = (s.lane lane).tick % 65536) :
    execAgreementFrameReceived lane sender .whole s = .next ((s.hearing lane sender 0).modLane lane (fun l => { l with
      frames := l.frames.set sender (some (s.lane sender).own) })) := by
  simp [execAgreementFrameReceived, hl, State.frameRx_whole ha, State.hearing_lane, State.hearing_lane_ne _ _ (State.linked_ne hl), ht]

theorem execAgreementFrameReceived_crcError (hl : s.linked lane sender = true) : execAgreementFrameReceived lane sender .crcError s =
    .next ((s.hearing lane sender 0).modHub (Hub.linkFault (laneLink lane sender) 0 .real)) := by
  simp [execAgreementFrameReceived, hl, State.frameRx_crcError ha]

theorem execReceiptVectorReceived_whole (hl : s.linked lane sender = true) (ht : (s.lane sender).tick % 65536 = (s.lane lane).tick % 65536) :
    execReceiptVectorReceived lane sender .whole s = .next ((s.hearing lane sender 4).modLane lane (fun l => { l with
      receipts := l.receipts.set sender ((s.lane sender).receipts[sender]) })) := by
  simp [execReceiptVectorReceived, hl, State.frameRx_whole ha, State.hearing_lane, State.hearing_lane_ne _ _ (State.linked_ne hl), ht]

theorem execSignatureFrameReceived_whole {f : SigFrame} (hl : s.linked lane sender = true) (hf : (s.lane sender).sigs[sender] = some f)
    (ht : f.tick = (s.lane lane).tick % 65536) : execSignatureFrameReceived lane sender .whole s =
      .next ((s.hearing lane sender 8).modLane lane (fun l => { l with sigs := l.sigs.set sender (some f) })) := by
  simp only [execSignatureFrameReceived, hl, if_true, State.frameRx_whole ha, State.hearing_lane_ne _ _ (State.linked_ne hl), hf]
  rw [if_pos (by rw [State.hearing_lane]; exact ht)]

theorem execVoteVectorReceived_lane {v : VoteVec} (hl : s.linked lane sender = true) (hv : (s.lane sender).vec = some v)
    (ht : v.tick = (s.lane lane).tick % 65536) : execVoteVectorReceived (.lane lane) sender .whole s =
      .next ((s.hearing lane sender 12).modLane lane (fun l => { l with vecs := l.vecs.set sender (some v) })) := by
  simp only [execVoteVectorReceived, hl, if_true, State.frameRx_whole ha, State.hearing_lane_ne _ _ (State.linked_ne hl), hv]
  rw [if_pos (by rw [State.hearing_lane]; exact ht)]

theorem execVoteVectorReceived_half {half : Rcv} {v : VoteVec} (hhalf : half = .sa ∨ half = .sb) (hrun : s.hub.time.running = true)
    (hp : (s.hub.laneState sender).powered = true) (hv : (s.lane sender).vec = some v) :
    execVoteVectorReceived half sender .whole s = .next (
      if half = .sa then s.modHub (fun h => { h with vote.vecsSA := h.vote.vecsSA.set sender (some v) })
      else s.modHub (fun h => { h with vote.vecsSB := h.vote.vecsSB.set sender (some v) })) := by
  rcases hhalf with rfl | rfl <;>
    simp [execVoteVectorReceived, hrun, hp, State.frameCrc_whole ha, hv, Hub.armed_of_no_injection ha]

theorem execOutputFrameReceived_sa (hrun : s.hub.time.running = true) (hp : (s.hub.laneState sender).powered = true) :
    execOutputFrameReceived .sa sender .whole s =
      .next (s.modHub (fun h => { h with vote.framesSA := h.vote.framesSA.set sender (s.lane sender).sentOut })) := by
  simp [execOutputFrameReceived, hrun, hp, State.frameCrc_whole ha]

theorem execOutputFrameReceived_sb (hrun : s.hub.time.running = true) (hp : (s.hub.laneState sender).powered = true) :
    execOutputFrameReceived .sb sender .whole s =
      .next (s.modHub (fun h => { h with vote.framesSB := h.vote.framesSB.set sender (s.lane sender).sentOut })) := by
  simp [execOutputFrameReceived, hrun, hp, State.frameCrc_whole ha]

end received

/-- Settles O37. -/
theorem framesBetweenLanes : Obligations.FramesBetweenLanes := by
  unfold Obligations.FramesBetweenLanes
  refine fun s lane sender ha => ⟨fun hl => ⟨fun ht => ?agreement, ?crc, fun ht => ?receipt, fun f hf ht => ?signature, fun v hv ht => ?vector⟩,
    fun hrun hp => ⟨fun v hv => ⟨?vectorSA, ?vectorSB⟩, ?outputSA, ?outputSB⟩⟩
  case agreement => exact ⟨_, execAgreementFrameReceived_whole ha hl ht, by rw [State.modLane_lane, State.hearing_lane]⟩
  case crc =>
    refine ⟨_, execAgreementFrameReceived_crcError ha hl, ?_, ?_⟩
    · rw [State.modHub_lane, State.hearing_lane]
    · exact Hub.linkFault_linkErrors (laneLink_lt (State.linked_ne hl).symm) 0 _
  case receipt => exact ⟨_, execReceiptVectorReceived_whole ha hl ht, by rw [State.modLane_lane, State.hearing_lane]⟩
  case signature => exact ⟨_, execSignatureFrameReceived_whole ha hl hf ht, by rw [State.modLane_lane, State.hearing_lane]⟩
  case vector => exact ⟨_, execVoteVectorReceived_lane ha hl hv ht, by rw [State.modLane_lane, State.hearing_lane]⟩
  case vectorSA => exact ⟨_, execVoteVectorReceived_half ha (.inl rfl) hrun hp hv, rfl, rfl⟩
  case vectorSB => exact ⟨_, execVoteVectorReceived_half ha (.inr rfl) hrun hp hv, rfl, rfl⟩
  case outputSA => exact ⟨_, execOutputFrameReceived_sa ha hrun hp, rfl, rfl⟩
  case outputSB => exact ⟨_, execOutputFrameReceived_sb ha hrun hp, rfl, rfl⟩

end Sys2Proof.Machine
end

section
/-! Settles O39: the vote. What the reports of a verdict change leaves the lanes, the decision and the mode as they are. -/
namespace Sys2Proof.Machine

variable {s t u : State}

/-! ### Steps that work on the hub alone -/

/-- `t` has the lanes and the queue of `s`. -/
def State.sameLanes (s t : State) : Prop := t.lanes = s.lanes ∧ t.pending = s.pending

namespace State.sameLanes

theorem refl (s : State) : s.sameLanes s := ⟨rfl, rfl⟩

theorem trans (h : s.sameLanes t) (h' : t.sameLanes u) : s.sameLanes u := ⟨h'.1.trans h.1, h'.2.trans h.2⟩

theorem modHub (s : State) (f : Hub → Hub) : s.sameLanes (s.modHub f) := ⟨rfl, rfl⟩

theorem ite {c : Prop} [Decidable c] (h : c → s.sameLanes t) (h' : ¬ c → s.sameLanes u) : s.sameLanes (if c then t else u) := by
  split
  · exact h ‹_›
  · exact h' ‹_›

theorem foldl {ι : Type} {f : State → ι → State} (hf : ∀ (s : State) x, s.sameLanes (f s x)) (xs : List ι) (s : State) :
    s.sameLanes (xs.foldl f s) := by
  induction xs generalizing s with
  | nil => exact refl s
  | cons x xs ih => exact (hf s x).trans (ih _)

theorem keeps (h : s.sameLanes t) : s.Keeps t := .of_lanes h.1 h.2

theorem lane (h : s.sameLanes t) (l : LaneId) : t.lane l = s.lane l := State.lane_of_lanes h.1 l

end State.sameLanes

/-! ### Missing frames (R133) -/

/-- A late frame is noted in the receiver alone. -/
theorem State.reportMissing_eq (l : LaneId) (kind : Nat) (s : State) : ∃ (n : Nat → Nat) (f : Hub → Hub), s.reportMissing l kind =
    ((s.modHub f).modLane l (fun x => { x with heard := n x.heard })) ∧ ∀ h : Hub, (f h).unlinked = h.unlinked := by
  unfold State.reportMissing
  extract_lets late s1
  have hs1 : s1 = s.modHub (fun h => late.foldl (fun h j => h.linkFault (laneLink l j) 1 .real) h) := by
    simp only [s1]
    clear_value late
    induction late generalizing s with
    | nil => rfl
    | cons j js ih => exact (ih (s := s.modHub _)).trans rfl
  refine ⟨fun m => late.foldl (fun m j => setBit m (kind + j.val)) m, _, by rw [hs1],
    fun h => foldl_view Hub.unlinked (fun _ _ => Hub.linkFault_unlinked ..) ..⟩

theorem State.reportMissing_unlinked (l : LaneId) (kind : Nat) (s : State) : (s.reportMissing l kind).hub.unlinked = s.hub.unlinked := by
  obtain ⟨n, f, h, hf⟩ := s.reportMissing_eq l kind
  rw [h]
  exact hf _

theorem State.reportMissing_keeps (l : LaneId) (kind : Nat) (s : State) : s.Keeps (s.reportMissing l kind) := by
  obtain ⟨n, f, h, -⟩ := s.reportMissing_eq l kind
  rw [h]
  exact (State.Keeps.modHub s f).trans (.modLane id)

theorem State.reportMissing_lane (l : LaneId) (kind : Nat) (s : State) (m : LaneId) : ∃ n,
    (s.reportMissing l kind).lane m = { s.lane m with heard := n } := by
  obtain ⟨n, f, h, -⟩ := s.reportMissing_eq l kind
  rw [h, State.modLane_lane_eq]
  split
  · next e => subst e; exact ⟨_, rfl⟩
  · exact ⟨_, rfl⟩

/-! ### What the records of a verdict leave (R126 to R131) -/

/-- What a vote decides. -/
def Hub.decision (h : Hub) : Option Nat × Nat × Option Nat := (h.vote.decided, h.vote.verdicts, h.vote.votedTick)

theorem Hub.decision_of_still {h t : Hub} (e : t.still = h.still) : t.decision = h.decision := (congrArg Hub.decision e :)
theorem Hub.decision_of_quiet {h t : Hub} (e : t.quiet = h.quiet) : t.decision = h.decision := (congrArg Hub.decision e :)
theorem Hub.decision_of_unworn {h t : Hub} (e : t.unworn = h.unworn) : t.decision = h.decision := (congrArg Hub.decision e :)
theorem Hub.decision_of_unlinked {h t : Hub} (e : t.unlinked = h.unlinked) : t.decision = h.decision := (congrArg Hub.decision e :)

/-- `t` comes of `s` by records alone: the same lanes and queue, and the same decision. -/
def State.recorded (s t : State) : Prop := s.sameLanes t ∧ t.hub.decision = s.hub.decision

namespace State.recorded

theorem refl (s : State) : s.recorded s := ⟨.refl s, rfl⟩

theorem trans (h : s.recorded t) (h' : t.recorded u) : s.recorded u := ⟨h.1.trans h'.1, h'.2.trans h.2⟩

theorem modHub {f : Hub → Hub} (hf : (f s.hub).decision = s.hub.decision) : s.recorded (s.modHub f) := ⟨.modHub s f, hf⟩

theorem foldl {ι : Type} {f : State → ι → State} (hf : ∀ (s : State) x, s.recorded (f s x)) (xs : List ι) (s : State) :
    s.recorded (xs.foldl f s) := by
  induction xs generalizing s with
  | nil => exact refl s
  | cons x xs ih => exact (hf s x).trans (ih _)

end State.recorded

theorem State.noteMismatch_recorded (field : Nat) (j : LaneId) (dead : Bool) (source : Nat) (s : State) :
    s.recorded (s.noteMismatch field j dead source).1 := by
  unfold State.noteMismatch
  split
  · exact .modHub rfl
  · exact .refl s

theorem Hub.latentLimit_decision (j : LaneId) (o : Origin) (h : Hub) : (h.latentLimit j o).decision = h.decision := by
  unfold Hub.latentLimit
  dsimp only
  rw [Hub.decision_of_still (Hub.raise_still ..)]
  split <;> rfl

theorem Hub.noteLatent_decision (j : LaneId) (o : Origin) (h : Hub) : (h.noteLatent j o).decision = h.decision := by
  unfold Hub.noteLatent
  split
  · rfl
  · extract_lets log first
    split
    · exact h.latentLimit_decision ..
    · rfl

theorem Hub.eventPerTick_decision (n : FaultName) (key : List Nat) (lanes : Nat) (d : Detail) (o : Origin) (h : Hub) :
    (h.eventPerTick n key lanes d o).decision = h.decision := Hub.decision_of_still (h.eventPerTick_still ..)

theorem Hub.noMajority_decision (leaving : Nat) (h : Hub) : (h.noMajority leaving).decision = h.decision :=
  Hub.decision_of_still (h.raise_still ..)

theorem State.recordVerdict_recorded (field : Nat) (j : LaneId) (s : State) : s.recorded (s.recordVerdict field j) := by
  unfold State.recordVerdict
  extract_lets v m duplexLane source
  split
  · have hnote := s.noteMismatch_recorded field j true 0
    revert hnote
    generalize s.noteMismatch field j true 0 = p
    obtain ⟨s1, d⟩ := p
    intro hnote
    dsimp only
    split
    · exact hnote
    · refine hnote.trans (.modHub ?_)
      rw [Hub.noteLatent_decision]
      exact Hub.decision_of_unworn (Hub.laneWear_unworn (.inl (by decide)) ..)
  · split
    · have hnote := s.noteMismatch_recorded field j false source
      revert hnote
      generalize s.noteMismatch field j false source = p
      obtain ⟨s1, d⟩ := p
      intro hnote
      dsimp only
      have hcount : s.recorded (s1.modHub (fun h => { h with vote.liveCount := h.vote.liveCount.set j (satAdd 16 h.vote.liveCount[j] 1) })) :=
        hnote.trans (.modHub rfl)
      split
      · exact hcount
      · exact hcount.trans (.modHub (Hub.eventPerTick_decision ..))
    · exact .refl s

theorem State.reportOnlyVote_quiet (s : State) : s.sameLanes s.reportOnlyVote ∧ s.reportOnlyVote.hub.quiet = s.hub.quiet := by
  have hstep (s : State) (n : FaultName) : ∀ o : Option Armed, (match o with
      | some a => s.modHub (Hub.eventPerTick n (bitsSet 4 a.lanes) a.lanes [(1, 0), (1, 0), (2, 2 ^ (a.resource % 9))] .reportOnly)
      | none => s).hub.quiet = s.hub.quiet ∧ s.sameLanes (match o with
      | some a => s.modHub (Hub.eventPerTick n (bitsSet 4 a.lanes) a.lanes [(1, 0), (1, 0), (2, 2 ^ (a.resource % 9))] .reportOnly)
      | none => s)
    | some a => ⟨Hub.eventPerTick_quiet _ (.inr rfl) .., .modHub s _⟩
    | none => ⟨rfl, .refl s⟩
  exact ⟨.foldl (fun s n => (hstep s n _).2) .., foldl_view (fun s : State => s.hub.quiet) (fun s n => (hstep s n _).1) ..⟩

/-- A lane that leaves a pair ends in DUPLEX_MISMATCH or NO_MAJORITY. -/
theorem State.pairLeaves_recorded (liveish : Bool) (field : Nat) (out : List LaneId) (j : LaneId) (s : State) :
    s.recorded (if liveish then
      let (s, d) := s.noteMismatch field j false 0
      s.modHub (Hub.raise .duplexMismatch [] (laneMask out) d (s.divOrigin .duplexMismatch j))
    else s.modHub (Hub.noMajority (laneMask out))) := by
  split
  · have hnote := s.noteMismatch_recorded field j false 0
    revert hnote
    generalize s.noteMismatch field j false 0 = p
    obtain ⟨s1, d⟩ := p
    exact fun hnote => hnote.trans (.modHub (Hub.decision_of_still (Hub.raise_still ..)))
  · exact .modHub (Hub.noMajority_decision ..)

theorem State.applyDecided_recorded (field : Nat) (wrong : List LaneId) (s : State) : s.recorded (s.applyDecided field wrong) := by
  unfold State.applyDecided
  extract_lets c leaves out setLane spares badSpares badResync others liveish
  have hset (st : LaneState) (s : State) (j : LaneId) : s.recorded (setLane st s j) := .modHub rfl
  have hothers (s : State) : s.recorded (others s) := .foldl (hset _) ..
  generalize s.hub.power.mode = m
  clear_value out liveish others setLane
  cases m
  case voted =>
    rcases out with _ | ⟨j, _ | ⟨k, js⟩⟩
    · exact hothers s
    · dsimp only
      split
      · exact ((hothers s).trans (hset ..)).trans (hset ..)
      · exact ((hothers s).trans (hset ..)).trans (.modHub rfl)
    · exact .modHub (Hub.noMajority_decision ..)
  case duplex | split =>
    rcases out with _ | ⟨j, js⟩
    · exact hothers s
    · exact State.pairLeaves_recorded ..
  all_goals exact .refl s

theorem Hub.voteRec_decision (field flags : Nat) (h : Hub) : (h.voteRec field flags).decision = h.decision := by
  unfold Hub.voteRec
  dsimp only
  split
  · rfl
  · exact Hub.decision_of_still (h.emit_still _)

/-- Without a field that SA and SB agree on, a running mode ends in SAFE (R128). -/
theorem Hub.noMajority_mode {h : Hub} (leaving : Nat) (hm : h.power.mode.isRunning = true) : (h.noMajority leaving).power.mode = .safe := by
  unfold Hub.noMajority
  rw [Hub.raise_eq, Hub.react_of_safe _ rfl (by decide), Hub.safeDecision_power _ _ (by rw [Hub.record_power]; exact .inr hm)]

/-- The reports of missing frames leave what the halves agree on. -/
theorem Hub.agreedOf_of_unlinked {h t : Hub} (e : t.unlinked = h.unlinked) :
    t.agreedOf t.vote.vecsSA = h.agreedOf h.vote.vecsSA ∧ t.agreedOf t.vote.vecsSB = h.agreedOf h.vote.vecsSB :=
  ⟨(congrArg (fun x : Hub => x.agreedOf x.vote.vecsSA) e :), (congrArg (fun x : Hub => x.agreedOf x.vote.vecsSB) e :)⟩

/-- What a vote has come to before its report-only records (R127): the decision on the agreed field, or none and the loss of a majority. -/
def Hub.votedBy (h before : Hub) (a b : Option Nat) : Prop :=
  h.vote.votedTick = before.vote.votedTick ∧
    (∀ field, a = some field → b = some field → h.vote.decided = some field ∧ h.vote.verdicts = field) ∧
    (before.power.mode.isRunning = true → (a = none ∨ a ≠ b) → h.vote.decided = none ∧ h.power.mode = .safe)

/-- The records of an agreed field leave the decision on it. -/
theorem Hub.votedBy_of_decided {before h : Hub} {a b : Option Nat} {field : Nat} (ha : a = some field) (hab : a = b)
    (hd : h.decision = (some field, field, before.vote.votedTick)) : h.votedBy before a b := by
  have hdecided : h.vote.decided = some field := congrArg Prod.fst hd
  have hverdicts : h.vote.verdicts = field := congrArg (fun d => d.2.1) hd
  refine ⟨congrArg (fun d => d.2.2) hd, fun f hf _ => ?_, fun _ hno => ?_⟩
  · obtain rfl : field = f := Option.some.inj (ha.symm.trans hf)
    exact ⟨hdecided, hverdicts⟩
  · rcases hno with hno | hno
    · exact absurd (ha.symm.trans hno) (by simp)
    · exact absurd hab hno

/-- Without an agreed field nothing is decided, and a running mode has lost its majority. -/
theorem State.votedBy_of_undecided {a b : Option Nat} (s : State) (hno : a = none ∨ a ≠ b) :
    (if s.hub.power.mode.isRunning then (s.modHub (fun h => { h with vote.decided := none })).modHub (Hub.noMajority 0)
      else s.modHub (fun h => { h with vote.decided := none })).hub.votedBy s.hub a b := by
  have hagree (P : Prop) (field : Nat) (ha : a = some field) (hb : b = some field) : P := by
    rcases hno with hno | hno
    · exact absurd (ha.symm.trans hno) (by simp)
    · exact absurd (ha.trans hb.symm) hno
  split
  next hrun =>
    have hd := Hub.noMajority_decision 0 { s.hub with vote.decided := none }
    exact ⟨congrArg (fun d => d.2.2) hd, fun f ha hb => hagree _ f ha hb, fun _ _ => ⟨congrArg Prod.fst hd, Hub.noMajority_mode 0 hrun⟩⟩
  next hrun => exact ⟨rfl, fun f ha hb => hagree _ f ha hb, fun hr => absurd hr hrun⟩

/-- Settles O39: the reports of the tick leave the lanes' vectors and then the decision as they are. -/
theorem voteDecides : Obligations.VoteDecides := by
  unfold Obligations.VoteDecides
  intro s hrun hvoted hactive
  simp only [exec]
  unfold execVectorConsensus
  rw [if_neg (by simp [hrun, hvoted, hactive])]
  extract_lets s1 s2 a b tested passed s3 s4 s5 s6
  have hmissing : s2.hub.unlinked = s1.hub.unlinked := foldl_view (fun s : State => s.hub.unlinked) (fun _ _ => State.reportMissing_unlinked ..) ..
  obtain ⟨ha, hb⟩ : a = s.hub.agreedOf s.hub.vote.vecsSA ∧ b = s.hub.agreedOf s.hub.vote.vecsSB := Hub.agreedOf_of_unlinked (h := s1.hub) hmissing
  have htick : s3.hub.vote.votedTick = some s.hub.time.tick := (congrArg (fun h : Hub => h.vote.votedTick) hmissing :)
  have hmode : s3.hub.power.mode = s.hub.power.mode := (congrArg (fun h : Hub => h.power.mode) hmissing :)
  clear_value a b s3 tested passed
  have hdecision : s5.hub.votedBy s3.hub a b := by
    rcases a with _ | field
    · exact s3.votedBy_of_undecided (.inl rfl)
    · by_cases hab : some field = b
      · refine Hub.votedBy_of_decided rfl hab ?_
        simp only [s5, if_pos hab]
        refine (Hub.voteRec_decision ..).trans ((State.applyDecided_recorded ..).2.trans ?_)
        refine (foldl_view (fun s : State => s.hub.decision) (fun _ _ => Hub.eventPerTick_decision ..) ..).trans ?_
        exact foldl_view (fun s : State => s.hub.decision) (fun _ _ => (State.recordVerdict_recorded ..).2) ..
      · simp only [s5, if_neg hab]
        exact s3.votedBy_of_undecided (.inr hab)
  obtain ⟨hvt, hagreed, hnone⟩ := hdecision
  obtain ⟨-, hquiet⟩ := s5.reportOnlyVote_quiet
  have hsame : s6.hub.decision = s5.hub.decision := Hub.decision_of_quiet hquiet
  have hpower : s6.hub.power = s5.hub.power := (congrArg Hub.power hquiet :)
  clear_value s5 s6
  refine ⟨_, rfl, ?_, fun field hsa hsb => ?_, fun hr hno => ?_⟩
  · exact ((congrArg (fun d => d.2.2) hsame).trans hvt).trans htick
  · obtain ⟨hd, hv⟩ := hagreed field (ha.trans hsa) (hb.trans hsb)
    exact ⟨(congrArg (fun d => d.1) hsame).trans hd, (congrArg (fun d => d.2.1) hsame).trans hv⟩
  · obtain ⟨hd, hsafe⟩ := hnone (hmode ▸ hr) (by rw [ha, hb]; exact hno)
    exact ⟨(congrArg (fun d => d.1) hsame).trans hd, (congrArg Power.mode hpower).trans hsafe⟩

end Sys2Proof.Machine
end

section
/-! Settles O38: what a lane sends and computes in its tick. -/
namespace Sys2Proof.Machine

variable {s t : State} {lane : LaneId}

/-! ### Frames and receipt vectors (R115) -/

theorem State.reportMissing_framesOf (l : LaneId) (kind : Nat) (s : State) (m : LaneId) : (s.reportMissing l kind).framesOf m = s.framesOf m := by
  obtain ⟨n, h⟩ := s.reportMissing_lane l kind m
  funext j
  simp only [State.framesOf, h]

theorem State.reportMissing_laneState (l : LaneId) (kind : Nat) (s : State) (m : LaneId) :
    (s.reportMissing l kind).hub.laneState m = s.hub.laneState m :=
  (congrArg (fun h : Hub => h.laneState m) (s.reportMissing_unlinked l kind) :)

theorem State.reportMissing_selection (l : LaneId) (kind : Nat) (s : State) (m : LaneId) :
    (s.reportMissing l kind).selection m = s.selection m := by
  obtain ⟨n, h⟩ := s.reportMissing_lane l kind m
  have hpeers : (s.reportMissing l kind).peers m = s.peers m := by
    have hc : (s.reportMissing l kind).hub.contributing = s.hub.contributing :=
      (congrArg Hub.contributing (s.reportMissing_unlinked l kind) :)
    simp only [State.peers, State.reportMissing_laneState, hc]
  simp only [State.selection, hpeers, State.reportMissing_framesOf, h]

theorem execReceiptVectorSend_ok (hrun : s.hub.time.running = true) (hp : (s.hub.laneState lane).powered = true) :
    execReceiptVectorSend lane s = .next ((s.reportMissing lane 0).modLane lane (fun l => { l with
      receipts := l.receipts.set lane (some (laneMask (allLanes.filter (fun j => (s.framesOf lane j).isSome))))
      heard := setBit l.heard (4 + lane.val) })) := by
  simp [execReceiptVectorSend, hrun, State.powered, hp, State.reportMissing_framesOf]

/-! ### Signatures (R124, R125, R132) -/

theorem execSignatureCapture_ok (hrun : s.hub.time.running = true) (hp : (s.hub.laneState lane).powered = true) :
    execSignatureCapture lane s = .next (s.modLane lane (fun l => { l with
      eng := vmap (fun e => { e with capLive := e.live, capDead := e.dead }) l.eng, capXfer := l.xsig })) := by
  simp [execSignatureCapture, hrun, hp]

/-- The signature frame of a lane's captured signatures. -/
def Lane.sigFrame (l : Lane) : SigFrame :=
  { tick := l.tick % 65536, live := l.eng.toList.map (fun e => e.capLive), dead := l.eng.toList.map (fun e => e.capDead), xfer := l.capXfer }

/-- The frame sent: with one live signature inverted where the lane is the self-test's victim. -/
def State.sentSig (s : State) (lane : LaneId) : SigFrame :=
  match s.victim lane with
  | some (w, e) => if w = lane then (s.lane lane).sigFrame.invert e else (s.lane lane).sigFrame
  | none => (s.lane lane).sigFrame

theorem execSignatureFrameSend_ok (hrun : s.hub.time.running = true) (hp : (s.hub.laneState lane).powered = true) :
    ∃ t, execSignatureFrameSend lane s = .next t ∧ t.hub = s.hub ∧ t.lane lane = { s.lane lane with
      sigs := (s.lane lane).sigs.set lane (some (s.sentSig lane))
      sentOut := some { tick := (s.lane lane).tick % 65536, entries := (s.lane lane).outFrame }
      heard := setBit (s.lane lane).heard (8 + lane.val) } := by
  unfold execSignatureFrameSend
  rw [if_pos (by simp [hrun, hp])]
  exact ⟨_, rfl, rfl, State.modLane_lane ..⟩

theorem State.sentSig_of_not_victim (h : ∀ e, s.victim lane ≠ some (lane, e)) : s.sentSig lane = (s.lane lane).sigFrame := by
  unfold State.sentSig
  split
  next w e hv => exact if_neg (fun hw => h e (by rw [hv, hw]))
  next => rfl

theorem State.sentSig_of_victim {e : Nat} (h : s.victim lane = some (lane, e)) : s.sentSig lane = (s.lane lane).sigFrame.invert e := by
  simp [State.sentSig, h]

/-- The inversion changes live signatures alone. -/
theorem State.sentSig_dead (s : State) (lane : LaneId) : (s.sentSig lane).dead = (s.lane lane).eng.toList.map Engine.capDead ∧
    (s.sentSig lane).xfer = (s.lane lane).capXfer ∧ (s.sentSig lane).tick = (s.lane lane).tick % 65536 := by
  unfold State.sentSig
  split
  · split <;> exact ⟨rfl, rfl, rfl⟩
  · exact ⟨rfl, rfl, rfl⟩

/-! ### Verdicts (R126) -/

theorem classVerdict_le (live dead : Option (List DWord)) (f : SigFrame) : classVerdict live dead f ≤ 3 := by
  unfold classVerdict
  repeat' split
  all_goals decide

theorem State.verdict_lt (s : State) (l j : LaneId) : s.verdict l j < 16 := by
  unfold State.verdict
  extract_lets st mis gone rest frames live members dead b
  clear_value st mis gone rest frames live members dead b
  have hclass (f : SigFrame) : classVerdict live dead f < 16 := Nat.lt_of_le_of_lt (classVerdict_le live dead f) (by decide)
  repeat' split
  all_goals first | exact hclass _ | decide

theorem State.verdict_of_unpowered (l : LaneId) {j : LaneId} (hj : (s.hub.laneState j).powered = false) : s.verdict l j = 0 := by
  simp [State.verdict, hj]

/-- Four hexadecimal digits read back from their sum. -/
theorem digit_of_sum {a b c d : Nat} (ha : a < 16) (hb : b < 16) (hc : c < 16) (hd : d < 16) :
    (a + b * 16 + c * 256 + d * 4096) / 1 % 16 = a ∧ (a + b * 16 + c * 256 + d * 4096) / 16 % 16 = b ∧
      (a + b * 16 + c * 256 + d * 4096) / 256 % 16 = c ∧ (a + b * 16 + c * 256 + d * 4096) / 4096 % 16 = d := by omega

/-- The vector holds each lane's verdict in its digit. -/
theorem State.verdictOf_verdictField (s : State) (l j : LaneId) : verdictOf (s.verdictField l) j = s.verdict l j := by
  have hsum : s.verdictField l = s.verdict l 0 + s.verdict l 1 * 16 + s.verdict l 2 * 256 + s.verdict l 3 * 4096 := by
    simp [State.verdictField, allLanes, sumNat, show (3 : LaneId).val = 3 from rfl]
  obtain ⟨h0, h1, h2, h3⟩ := digit_of_sum (s.verdict_lt l 0) (s.verdict_lt l 1) (s.verdict_lt l 2) (s.verdict_lt l 3)
  unfold verdictOf
  rw [hsum]
  match j with
  | 0 => exact h0
  | 1 => exact h1
  | 2 => exact h2
  | 3 => exact h3

/-- `t` differs from `s` by what a verdict's comparisons note in the hub. -/
def State.compared (s t : State) : Prop := s.sameLanes t ∧ t.hub.vote.laneState = s.hub.vote.laneState

theorem State.compared.trans {u : State} (h : s.compared t) (h' : t.compared u) : s.compared u :=
  ⟨h.1.trans h'.1, h'.2.trans h.2⟩

theorem State.compared.modHub {f : Hub → Hub} (h : (f s.hub).vote.laneState = s.hub.vote.laneState) : s.compared (s.modHub f) :=
  ⟨.modHub s f, h⟩

theorem State.evaluateAlignment_compared (tick : Nat) (s : State) : s.compared (s.evaluateAlignment tick) := by
  unfold State.evaluateAlignment
  split
  · exact ⟨.refl s, rfl⟩
  extract_lets real all first off reporters detail s1 s2 s3
  have h1 : s.compared s1 := .modHub rfl
  have h2 : s1.compared s2 := by
    unfold s2
    split
    · exact ⟨.refl s1, rfl⟩
    · exact .modHub (congrArg (fun h : Hub => h.vote.laneState) (Hub.laneWear_unworn (h := s1.hub) (n := .tickAlignment) (.inl (by decide)) _ _ _) :)
  have h3 : s2.compared s3 := by
    unfold s3
    split
    · exact .modHub (congrArg (fun h : Hub => h.vote.laneState) (Hub.eventPerTick_quiet (h := s2.hub) (n := .tickAlignment) (.inl (by decide)) _ _ _) :)
    · exact ⟨.refl s2, rfl⟩
  exact ((h1.trans h2).trans h3).trans (.modHub rfl)

theorem State.selfTest_compared (l : LaneId) (s : State) : s.compared (s.selfTest l).1 := by
  unfold State.selfTest
  have hraise (o : Origin) (key : List Nat) (m : Nat) (det : Detail) (s : State) :
      s.compared (s.modHub (Hub.eventPerTick .comparatorSelftest key m det o)) :=
    .modHub (congrArg (fun h : Hub => h.vote.laneState)
      (Hub.eventPerTick_quiet (h := s.hub) (n := .comparatorSelftest) (.inl (by decide)) _ _ _) :)
  split
  · exact ⟨.refl s, rfl⟩
  split
  · exact ⟨.refl s, rfl⟩
  extract_lets held det raise arm real inj rep s1
  have h1 : s.compared s1 := by
    unfold s1
    split
    · exact hraise ..
    · exact ⟨.refl s, rfl⟩
  split
  · exact (h1.trans (hraise ..)).trans (.modHub rfl)
  · exact h1

/-- The vector formed carries the lane's tick, and the verdict 0 of every lane without power. -/
theorem execVerdictFormation_ok (hrun : s.hub.time.running = true) (hp : (s.hub.laneState lane).powered = true) :
    ∃ t v, execVerdictFormation lane s = .next t ∧ (t.lane lane).vec = some v ∧ (t.lane lane).vecs[lane] = some v ∧
      v.tick = (s.lane lane).tick % 65536 ∧ ∀ j, (s.hub.laneState j).powered = false → verdictOf v.field j = 0 := by
  unfold execVerdictFormation
  rw [if_pos (by simp [hrun, hp])]
  extract_lets s1 s2
  generalize hs3 : s2.selfTest lane = p
  obtain ⟨s3, seen⟩ := p
  have h : s1.compared s3 := by
    have := State.selfTest_compared lane s2
    rw [hs3] at this
    exact (State.evaluateAlignment_compared _ s1).trans this
  obtain ⟨n, hlane⟩ := s.reportMissing_lane lane 8 lane
  have htick : (s3.lane lane).tick = (s.lane lane).tick := by rw [h.1.lane, hlane]
  refine ⟨_, _, rfl, congrArg Lane.vec (State.modLane_lane ..), ?_, congrArg (· % 65536) htick, fun j hj => ?_⟩
  · simp [State.modLane_lane]
  · rw [State.verdictOf_verdictField]
    refine State.verdict_of_unpowered _ ?_
    have hstate : s3.hub.laneState j = s1.hub.laneState j := congrArg (fun v : Vector LaneState 4 => v[j]) h.2
    rw [hstate, State.reportMissing_laneState, hj]

/-! ### Agreement (R117 to R120, R186 to R196, R540) -/

/-- `t` comes of `s` by steps of a lane's agreement that leave its agreed image and the configuration. -/
structure State.Selects (l : LaneId) (s t : State) : Prop where
  keeps : s.Keeps t
  cfg : t.hub.cfg = s.hub.cfg
  agreed : (t.lane l).agreed = (s.lane l).agreed
  count : (t.lane l).agreedK = (s.lane l).agreedK

namespace State.Selects

theorem refl (l : LaneId) (s : State) : Selects l s s := ⟨.refl s, rfl, rfl, rfl⟩

theorem trans {u : State} (h : Selects lane s t) (h' : Selects lane t u) : Selects lane s u :=
  ⟨h.keeps.trans h'.keeps, h'.cfg.trans h.cfg, h'.agreed.trans h.agreed, h'.count.trans h.count⟩

theorem ite {c : Prop} [Decidable c] {u : State} (h : Selects lane s t) (h' : Selects lane s u) :
    Selects lane s (if c then t else u) := by
  split
  · exact h
  · exact h'

theorem modHub {f : Hub → Hub} (hf : (f s.hub).cfg = s.hub.cfg) : Selects lane s (s.modHub f) := ⟨.modHub s f, hf, rfl, rfl⟩

theorem raise (n : FaultName) (key : List Nat) (m : Nat) (d : Detail) (o : Origin) :
    Selects lane s (s.modHub (Hub.raise n key m d o)) := modHub (congrArg Hub.cfg (Hub.raise_still ..) :)

theorem clearFault (n : FaultName) (key : List Nat) (d : Detail → Detail) :
    Selects lane s (s.modHub (Hub.clearFault n key d)) := modHub rfl

theorem emitLane (r : TraceRec) : Selects lane s (s.modHub (Hub.emitLane lane r)) :=
  modHub (congrArg Hub.cfg (Hub.emitLane_untraced ..) :)

theorem modLane {f : Lane → Lane} (hg : (s.lane lane).good → (f (s.lane lane)).good) (ha : (f (s.lane lane)).agreed = (s.lane lane).agreed)
    (hk : (f (s.lane lane)).agreedK = (s.lane lane).agreedK) : Selects lane s (s.modLane lane f) :=
  ⟨.modLane hg, rfl, by rw [State.modLane_lane, ha], by rw [State.modLane_lane, hk]⟩

theorem foldl {ι : Type} {f : State → ι → State} (hf : ∀ (s : State) x, Selects lane s (f s x)) (xs : List ι) (s : State) :
    Selects lane s (xs.foldl f s) := by
  induction xs generalizing s with
  | nil => exact refl lane s
  | cons x xs ih => exact (hf s x).trans (ih _)

end State.Selects

theorem State.diChannel_selects (sel : List LaneId) (k : Nat) (s : State) : Selects lane s (s.diChannel lane sel k) := by
  unfold State.diChannel
  extract_lets level differs real seen rep x hit run cnt due act s1 det mask
  have h1 : Selects lane s s1 := .modLane id rfl rfl
  clear_value s1
  exact .ite h1 (.ite (h1.trans (.raise ..)) (.ite (.ite h1 (h1.trans (.raise ..))) (.ite (h1.trans (.clearFault ..)) h1)))

theorem State.wireBreakOf_selects (sel : List LaneId) (k : Nat) (s : State) : Selects lane s (s.wireBreakOf lane sel k) := by
  unfold State.wireBreakOf
  split
  · exact .refl lane s
  · exact .ite (.raise ..) (.ite (.raise ..) (.ite (.clearFault ..) (.refl lane s)))

theorem State.spreadChannel_selects (sel : List LaneId) (k : Nat) (s : State) : Selects lane s (s.spreadChannel lane sel k).1 := by
  unfold State.spreadChannel
  extract_lets c wide real seen rep run due on s1 v det active s2
  have h1 : Selects lane s s1 := .modLane id rfl rfl
  have h2 : Selects lane s1 s2 :=
    .ite (.raise ..) (.ite (.raise ..) (.ite (.clearFault ..) (.refl lane s1)))
  split
  · exact .refl lane s
  split
  · exact h1
  · exact h1.trans h2

theorem State.convertChannel_selects (r : SdRec) (k : Nat) (s : State) : Selects lane s (s.convertChannel lane r k) := by
  unfold State.convertChannel
  extract_lets x c v real arm forced side q s1 bound det s2 s3
  have h1 : Selects lane s s1 :=
    .modLane (Lane.good_withMem fun h => Mem.wf_writeLe (Mem.wf_writeLe (Mem.wf_writeLe h ..) ..) ..) rfl rfl
  have h2 : Selects lane s1 s2 := .ite (.raise ..) (.refl lane s1)
  have h3 : Selects lane s2 s3 := by
    unfold s3
    clear_value s2 arm
    cases arm with
    | none => exact .refl lane s2
    | some a => exact .ite (.raise ..) (.refl lane s2)
  exact .ite h1 (.ite ((h1.trans (h2.trans h3)).trans (.clearFault ..)) (h1.trans (h2.trans h3)))

theorem State.averageTick_selects (s : State) : Selects lane s (s.averageTick lane) := by
  unfold State.averageTick
  split
  · exact .ite (.modHub rfl) (.refl lane s)
  · exact .refl lane s

theorem State.agreeTrace_selects (differ k spreadMask : Nat) (a : AgFrame) (s : State) :
    Selects lane s (s.agreeTrace lane differ k spreadMask a) := by
  unfold State.agreeTrace
  exact (State.Selects.ite (.refl lane s) (.emitLane _)).trans (.foldl (fun s i => .emitLane _) ..)

theorem Mem.wf_setAz (k state result : Nat) (offset : Int) {m : Mem} (h : m.wf = true) : (m.setAz k state result offset).wf = true :=
  Mem.wf_writeLe (Mem.wf_writeN h ..) ..

/-- Auto-zero writes a lane's memory and its own records alone. -/
theorem Lane.azTick_frame (c : SdCfg) (blocked : Bool) (r : SdRec) (k : Fin 16) (l : Lane) : ∃ m z,
    l.azTick c blocked r k = { l with mem := m, az := z } ∧ (l.mem.wf = true → m.wf = true) := by
  unfold Lane.azTick
  extract_lets st z
  split
  · exact ⟨l.mem, l.az, rfl, id⟩
  split
  · exact ⟨l.mem, _, rfl, id⟩
  split
  · split
    · exact ⟨_, _, rfl, fun h => Mem.wf_setAz (h := h) ..⟩
    · exact ⟨_, _, rfl, fun h => Mem.wf_setAz (h := h) ..⟩
  · exact ⟨l.mem, _, rfl, id⟩

theorem Mem.wf_accumulate (a : AgFrame) (t : Nat) {m : Mem} (h : m.wf = true) : (accumulate a m t).wf = true := by
  unfold accumulate
  extract_lets m1
  have h1 : m1.wf = true := Mem.wf_writeLe h ..
  clear_value m1
  generalize bitsSet 24 a.edge = ks
  induction ks generalizing m1 with
  | nil => exact h1
  | cons k ks ih => exact ih _ (Mem.wf_writeLe h1 ..)

theorem Mem.wf_accumulated (a : AgFrame) (tasks : List Nat) {m : Mem} (h : m.wf = true) :
    (tasks.foldl (accumulate a) m).wf = true := by
  induction tasks generalizing m with
  | nil => exact h
  | cons t ts ih => exact ih (Mem.wf_accumulate a t h)

/-- The image a lane selects, before the records are stamped: the previous one where the selection set is empty. -/
def Cfg.image (c : Cfg) (tick : Nat) (fs : List AgFrame) (before : AgFrame) : AgFrame :=
  if fs.length = 0 then { before with tick := tick % 65536 } else c.select tick fs

/-- The records of an image with the tick and SPREAD. -/
def AgFrame.stamped (tick : Nat) (spread : List Bool) (a : AgFrame) : AgFrame :=
  { a with sd := mapIdxFrom (fun i (r : SdRec) => { r with
    tick := tick % 65536, quality := clearBit r.quality 4 + 16 * b2n (spread.getD i false) }) 0 a.sd }

/-- Stamping leaves the fine value of a record. -/
theorem AgFrame.stamped_fine (tick : Nat) (spread : List Bool) (a : AgFrame) (k : Nat) :
    ((a.stamped tick spread).sd.getD k {}).fine = (a.sd.getD k {}).fine := by
  simp only [AgFrame.stamped, mapIdxFrom_eq_mapIdx, List.getD_eq_getElem?_getD, List.getElem?_mapIdx]
  cases a.sd[k]? <;> rfl

/-- The auto-zero of every channel leaves the agreed image. -/
theorem Lane.azTicks_frame (cfg : Cfg) (blocked : SdCfg → Bool) (r : Nat → SdRec) (is : List (Fin 16)) (l : Lane) : ∃ m z,
    is.foldl (fun (l : Lane) (i : Fin 16) =>
      if (cfg.sdOf i).enabled then l.azTick (cfg.sdOf i) (blocked (cfg.sdOf i)) (r i) i else l) l = { l with mem := m, az := z } ∧
    (l.mem.wf = true → m.wf = true) := by
  induction is generalizing l with
  | nil => exact ⟨l.mem, l.az, rfl, id⟩
  | cons i is ih =>
    have hstep : ∃ m z, (if (cfg.sdOf i).enabled then l.azTick (cfg.sdOf i) (blocked (cfg.sdOf i)) (r i) i else l) =
        { l with mem := m, az := z } ∧ (l.mem.wf = true → m.wf = true) := by
      split
      · exact Lane.azTick_frame ..
      · exact ⟨l.mem, l.az, rfl, id⟩
    obtain ⟨m, z, h, hm⟩ := hstep
    obtain ⟨m', z', h', hm'⟩ := ih { l with mem := m, az := z }
    exact ⟨m', z', by rw [List.foldl_cons, h, h'], hm' ∘ hm⟩

theorem State.spreads_selects (sel : List LaneId) (is : List Nat) (p : State × List Bool) :
    State.Selects lane p.1 (is.foldl (fun (p : State × List Bool) i =>
      let r := p.1.spreadChannel lane sel i
      (r.1, p.2 ++ [r.2])) p).1 := by
  induction is generalizing p with
  | nil => exact .refl lane p.1
  | cons i is ih => exact (State.spreadChannel_selects sel i p.1).trans (ih (_, _))

theorem execAgreementSelection_ok (hrun : s.hub.time.running = true) (hp : s.powered lane = true) :
    ∃ t spread, execAgreementSelection lane s = .next t ∧ s.Keeps t ∧
      (t.lane lane).agreedK = ((s.selection lane).filterMap (s.framesOf lane)).length ∧
      (t.lane lane).agreed = (s.hub.cfg.image (s.lane lane).tick ((s.selection lane).filterMap (s.framesOf lane))
        (s.lane lane).agreed).stamped (s.lane lane).tick spread := by
  unfold execAgreementSelection
  rw [if_neg (by simp [hrun, hp])]
  extract_lets s1 sel fs k tick before s2 src
  have hsel : sel = s.selection lane := State.reportMissing_selection ..
  have hfs : fs = (s.selection lane).filterMap (s.framesOf lane) := by simp only [fs, hsel, s1, State.reportMissing_framesOf]
  have h1 : State.Selects lane s s1 := by
    obtain ⟨n, hn⟩ := s.reportMissing_lane lane 4 lane
    exact ⟨State.reportMissing_keeps .., (congrArg Hub.cfg (State.reportMissing_unlinked ..) :), by rw [hn], by rw [hn]⟩
  have h2 : State.Selects lane s1 s2 :=
    .ite (.refl lane s1) (.foldl (fun s i => (State.diChannel_selects ..).trans (State.wireBreakOf_selects ..)) ..)
  generalize hs3 : (if k = 0 then (s2, List.replicate 16 true) else _ : State × List Bool) = p
  have h3 : State.Selects lane s2 p.1 := by
    rw [← hs3]
    split
    · exact .refl lane s2
    · exact State.spreads_selects sel _ (s2, [])
  obtain ⟨s3, spread⟩ := p
  dsimp -zeta only at h3 ⊢
  extract_lets base sd agreed tasks s4 s5 s6 s7 x differ spreadMask s8
  have hold : State.Selects lane s s3 := (h1.trans h2).trans h3
  have htick : tick = (s.lane lane).tick := by
    obtain ⟨n, hn⟩ := s.reportMissing_lane lane 4 lane
    simp only [tick, s1, hn]
  have hagreed : agreed = (s.hub.cfg.image (s.lane lane).tick ((s.selection lane).filterMap (s.framesOf lane))
      (s.lane lane).agreed).stamped (s.lane lane).tick spread := by
    have hsrc : src = (s.lane lane).agreed := h1.agreed
    have hbase : base = s.hub.cfg.image tick fs (s.lane lane).agreed := by
      simp only [base, Cfg.image, k, hsrc, hold.cfg]
    rw [← htick, ← hfs, ← hbase]
    rfl
  have h4 : s3.Keeps s4 :=
    .modLane (Lane.good_withMem (k := s3.lane lane) fun h => Mem.wf_accumulated agreed tasks (Mem.wf_writeN h ..))
  have h4l : (s4.lane lane).agreed = agreed ∧ (s4.lane lane).agreedK = k := by
    rw [State.modLane_lane]
    exact ⟨rfl, rfl⟩
  have h5 : State.Selects lane s4 s5 := .foldl (fun s i => State.convertChannel_selects ..) ..
  have h6 : State.Selects lane s5 s6 := State.averageTick_selects s5
  have h7 : State.Selects lane s6 s7 := by
    obtain ⟨m, z, h, hm⟩ := Lane.azTicks_frame s6.hub.cfg s6.snap.azBlocked (fun i => agreed.sd.getD i {}) (List.finRange 16) (s6.lane lane)
    exact .modLane (fun hg => by rw [h]; exact Lane.good_withMem hm hg) (by rw [h]) (by rw [h])
  have h8 : State.Selects lane s7 s8 := State.agreeTrace_selects ..
  have hrest := ((h5.trans h6).trans h7).trans h8
  refine ⟨_, spread, rfl, ((hold.keeps.trans h4).trans hrest.keeps).trans (.modHub ..), ?_, ?_⟩
  · exact (hrest.count.trans h4l.2).trans (congrArg List.length hfs)
  · exact (hrest.agreed.trans h4l.1).trans hagreed

/-- Settles O38: the receipt, selection, signature and vector clauses, each from its own lemma. -/
theorem laneTickCommands : Obligations.LaneTickCommands := by
  unfold Obligations.LaneTickCommands
  intro s lane hrun hp x
  refine ⟨?_, ?_, ?_, ?_, execVerdictFormation_ok hrun hp⟩
  · refine ⟨_, execReceiptVectorSend_ok hrun hp, ?_⟩
    obtain ⟨n, hn⟩ := s.reportMissing_lane lane 0 lane
    rw [State.modLane_lane, hn]
  · obtain ⟨t, spread, he, -, hk, ha⟩ := execAgreementSelection_ok (s := s) hrun hp
    extract_lets fs
    rw [AgFrame.stamped, Cfg.image] at ha
    refine ⟨t, he, ?_, hk, fun h0 => ?_, fun h0 => ?_⟩
    · rw [ha]
      split <;> rfl
    · rw [if_pos (by rw [← List.length_nil, ← h0])] at ha
      rw [ha]
      exact ⟨rfl, rfl⟩
    · have hlen : ¬ fs.length = 0 := fun h => h0 (List.length_eq_zero_iff.mp h)
      rw [if_neg hlen] at ha
      refine ⟨by rw [ha]; rfl, by rw [ha]; rfl, by rw [ha]; rfl, by rw [ha]; rfl, fun k hen => ?_⟩
      rw [ha]
      refine (AgFrame.stamped_fine _ spread _ k).trans ?_
      simp [Cfg.select, hen, agreeRecord, List.getD_eq_getElem?_getD, Function.comp_def, fs]
  · refine ⟨_, execSignatureCapture_ok hrun hp, rfl, by rw [State.modLane_lane], fun e => ?_⟩
    simp [State.engine, State.modLane_lane]
  · obtain ⟨t, he, hhub, hl⟩ := execSignatureFrameSend_ok (s := s) hrun hp
    obtain ⟨hdead, hxfer, htick⟩ := s.sentSig_dead lane
    refine ⟨t, s.sentSig lane, he, hhub, by simp [hl], htick, hxfer, hdead, fun h => ?_, fun e h => ?_, by rw [hl]⟩
    · rw [State.sentSig_of_not_victim h]
      rfl
    · rw [State.sentSig_of_victim h]
      rfl

end Sys2Proof.Machine
end

section
/-! Settles O40: state copies, repair of lanes, SPLIT and JOIN. -/
namespace Sys2Proof.Machine

/-! ### Bits of a number -/

theorem bit_clearBits (v m i : Nat) : bit (clearBits v m) i = (bit v i && !bit m i) := by
  unfold bit clearBits
  induction i generalizing v m with
  | zero =>
    have hle : v &&& m ≤ v := Nat.and_le_left
    have hmod := Nat.and_mod_two_eq_one (a := v) (b := m)
    simp only [Nat.testBit_zero]
    generalize v &&& m = w at hle hmod ⊢
    by_cases hv : v % 2 = 1 <;> by_cases hm : m % 2 = 1 <;> simp [hv, hm] at hmod ⊢ <;> omega
  | succ i ih =>
    have hle : v &&& m ≤ v := Nat.and_le_left
    have hdiv := Nat.and_div_two (a := v) (b := m)
    have hmod := Nat.and_mod_two_eq_one (a := v) (b := m)
    have hhalf : (v - (v &&& m)) / 2 = v / 2 - (v / 2 &&& m / 2) := by
      rw [← hdiv]
      generalize v &&& m = w at hle hmod hdiv ⊢
      by_cases hv : v % 2 = 1 <;> by_cases hm : m % 2 = 1 <;> simp [hv, hm] at hmod <;> omega
    rw [Nat.testBit_succ, hhalf, ih, Nat.testBit_succ, Nat.testBit_succ]

theorem bit_clearBit (v i j : Nat) : bit (clearBit v i) j = (bit v j && decide (i ≠ j)) := by
  rw [clearBit, bit_clearBits]
  simp [bit, Nat.testBit_two_pow]

theorem bit_setBit (v i j : Nat) : bit (setBit v i) j = (bit v j || decide (i = j)) := by
  simp [setBit, bit, Nat.testBit_two_pow]

theorem clearBit_zero (i : Nat) : clearBit 0 i = 0 := by simp [clearBit, clearBits]

theorem bit_zero (i : Nat) : bit 0 i = false := Nat.zero_testBit i

theorem mem_allLanes (l : LaneId) : l ∈ allLanes := by
  match l with
  | 0 | 1 | 2 | 3 => simp [allLanes]

theorem allLanes_nodup : allLanes.Nodup := by decide

/-! ### Changes of a lane's state (Table 5.2) -/

/-- The hub without what a change of a lane's state and the copies that it ends change. -/
def Hub.lasting (h : Hub) : Hub :=
  { h.untraced with
    vote.laneState := Vector.replicate 4 .off, vote.nextLane := Vector.replicate 4 none, vote.nextMode := none, vote.copy := none
    vote.toJoin := 0, vote.toPower := 0 }

theorem Hub.lasting_of_untraced {h t : Hub} (e : t.untraced = h.untraced) : t.lasting = h.lasting := by
  rw [Hub.lasting, e, Hub.lasting]

/-- What the end or restart of a copy leaves. -/
def Hub.placed (h : Hub) : Hub × Vector LaneState 4 × Nat := (h.lasting, h.vote.laneState, h.vote.toPower)

theorem Hub.placed_of_untraced {h t : Hub} (e : t.untraced = h.untraced) : t.placed = h.placed := by
  have hs : t.vote.laneState = h.vote.laneState := (congrArg (fun h : Hub => h.vote.laneState) e :)
  have hp : t.vote.toPower = h.vote.toPower := (congrArg (fun h : Hub => h.vote.toPower) e :)
  rw [Hub.placed, Hub.placed, Hub.lasting_of_untraced e, hs, hp]

theorem Hub.failCopy_placed (h : Hub) : h.failCopy.placed = h.placed := by
  unfold Hub.failCopy
  split
  · rfl
  extract_lets
  split
  · split <;> rfl
  · rfl

theorem Hub.copySourceLeft_placed (l : LaneId) (h : Hub) : (h.copySourceLeft l).placed = h.placed := by
  unfold Hub.copySourceLeft
  split
  · rfl
  split
  · rfl
  split
  · split
    · exact Hub.failCopy_placed h
    · rfl
  · exact Hub.failCopy_placed h

theorem Hub.copySourceLeft_of_none (l : LaneId) {h : Hub} (hc : h.vote.copy = none) : h.copySourceLeft l = h := by
  simp [Hub.copySourceLeft, hc]

/-- What a change of a lane's state does to the lane itself. -/
def Lane.entering (st : LaneState) (x : Lane) : Lane :=
  match st with
  | .outvoted => { x with eng := vmap Engine.idle x.eng, xfers := [] }
  | .off | .spareCold => {}
  | _ => x

theorem Lane.entering_of_powered {st : LaneState} (hp : st.powered = true) (ho : st ≠ .outvoted) (x : Lane) : x.entering st = x := by
  cases st <;> simp_all [Lane.entering, LaneState.powered]

/-- What a change of a lane's state does. -/
structure State.Moves (l : LaneId) (st : LaneState) (s t : State) : Prop where
  states : t.hub.vote.laneState = s.hub.vote.laneState.set l st
  lasting : t.hub.lasting = s.hub.lasting
  lane : s.hub.laneState l ≠ st → t.lane l = (s.lane l).entering st
  same : s.hub.laneState l = st → t = s
  other : ∀ m, m ≠ l → t.lane m = s.lane m
  noCopy : s.hub.vote.copy = none → t.hub.vote.copy = none ∧ t.hub.vote.toJoin = s.hub.vote.toJoin
  noPower : s.hub.vote.toPower = 0 → t.hub.vote.toPower = 0
  keeps : s.Keeps t

theorem Lane.good_entering (st : LaneState) {x : Lane} (h : x.good) : (x.entering st).good := by
  cases st
  case outvoted => exact ⟨h.1, fun e => (congrArg Engine.hard (vmap_getElem Engine.idle x.eng e.val e.isLt)).mpr (h.2 e)⟩
  case off => exact Lane.good_default
  case spareCold => exact Lane.good_default
  all_goals exact h

/-- The copies that a lane's change of state ends. -/
def Hub.copiesEnd (l : LaneId) (st : LaneState) (h : Hub) : Hub :=
  let h := if st = .active then h else h.copySourceLeft l
  match h.vote.copy with
  | some c => if c.target == l && st != LaneState.resync && !(c.kind == CopyKind.inPlace && st == LaneState.active) then
      { h with vote.copy := none } else h
  | none => h

theorem Hub.copiesEnd_placed (l : LaneId) (st : LaneState) (h : Hub) : (h.copiesEnd l st).placed = h.placed := by
  unfold Hub.copiesEnd
  extract_lets h1
  have e1 : h1.placed = h.placed := by
    unfold h1
    split
    · rfl
    · exact Hub.copySourceLeft_placed l h
  clear_value h1
  split
  · split <;> exact e1
  · exact e1

theorem Hub.copiesEnd_of_none (l : LaneId) (st : LaneState) {h : Hub} (hc : h.vote.copy = none) : h.copiesEnd l st = h := by
  simp [Hub.copiesEnd, Hub.copySourceLeft_of_none l hc, hc]

/-- The lane's new state, with what it awaited gone. -/
def Hub.enter (l : LaneId) (st : LaneState) (h : Hub) : Hub := { h with
  vote.laneState := h.vote.laneState.set l st, vote.nextLane := h.vote.nextLane.set l none
  vote.toPower := if st = .resync then h.vote.toPower else clearBit h.vote.toPower l.val }

theorem State.setLaneState_eq {l : LaneId} {st : LaneState} {s : State} (hne : s.hub.laneState l ≠ st) (cause : Nat) :
    s.setLaneState l st cause = ((s.modHub (Hub.enter l st)).modLane l (Lane.entering st)).modHub
      (fun h => (h.copiesEnd l st).emit ((h.copiesEnd l st).stateRec cause)) := by
  unfold State.setLaneState
  rw [if_neg hne]
  have hid (t : State) : t.modLane l (fun x => x) = t := by simp [State.modLane, vmod]
  cases st
  case active | resync | spareWarm | splitB => exact congrArg (State.modHub _) (hid (s.modHub _)).symm
  all_goals rfl

theorem State.setLaneState_moves (l : LaneId) (st : LaneState) (cause : Nat) (s : State) : State.Moves l st s (s.setLaneState l st cause) := by
  by_cases he : s.hub.laneState l = st
  · rw [State.setLaneState, if_pos he]
    refine ⟨?_, rfl, fun h => absurd he h, fun _ => rfl, fun _ _ => rfl, fun h => ⟨h, rfl⟩, id, .refl s⟩
    rw [← he]
    exact (Vector.set_getElem_self ..).symm
  · rw [State.setLaneState_eq he]
    have hplaced : ∀ h : Hub, ((h.copiesEnd l st).emit ((h.copiesEnd l st).stateRec cause)).placed = h.placed := fun h =>
      (Hub.placed_of_untraced (Hub.emit_untraced ..)).trans (h.copiesEnd_placed l st)
    have hp := hplaced (s.hub.enter l st)
    refine ⟨(congrArg (fun p => p.2.1) hp :), (congrArg Prod.fst hp :), fun _ => ?_, fun h => absurd h he, fun m hm => ?_, fun hc => ?_,
      fun h0 => ?_, ?_⟩
    · exact State.modLane_lane ..
    · exact State.modLane_lane_ne _ _ _ hm
    · have hc' : (s.hub.enter l st).vote.copy = none := hc
      show _ ∧ _
      simp only [State.modHub_hub, State.modLane_hub, Hub.copiesEnd_of_none l st hc']
      have h := Hub.emit_untraced (s.hub.enter l st) ((s.hub.enter l st).stateRec cause)
      exact ⟨((congrArg (fun h : Hub => h.vote.copy) h :)).trans hc, (congrArg (fun h : Hub => h.vote.toJoin) h :)⟩
    · refine ((congrArg (fun p => p.2.2) hp :)).trans ?_
      show (if st = .resync then s.hub.vote.toPower else clearBit s.hub.vote.toPower l.val) = 0
      rw [h0, clearBit_zero, ite_self]
    · exact ((State.Keeps.modHub s _).trans (.modLane (Lane.good_entering st))).trans (.modHub ..)

namespace State.Moves
variable {l : LaneId} {st : LaneState} {s t : State}

theorem laneState (h : Moves l st s t) : t.hub.laneState l = st := by
  rw [Hub.laneState, h.states]
  exact Vector.getElem_set_self ..

theorem laneState_ne (h : Moves l st s t) {m : LaneId} (hm : m ≠ l) : t.hub.laneState m = s.hub.laneState m := by
  rw [Hub.laneState, h.states]
  exact vset_getElem_ne _ _ hm

/-- A lane that keeps its power, and is not found bad, keeps what it holds. -/
theorem lanes (h : Moves l st s t) (hp : st.powered = true) (ho : st ≠ .outvoted) (m : LaneId) : t.lane m = s.lane m := by
  by_cases hm : m = l
  · subst hm
    by_cases he : s.hub.laneState m = st
    · rw [h.same he]
    · rw [h.lane he, Lane.entering_of_powered hp ho]
  · exact h.other m hm

theorem mode (h : Moves l st s t) : t.hub.power.mode = s.hub.power.mode := (congrArg (fun h : Hub => h.power.mode) h.lasting :)

end State.Moves

/-! ### Loading and copying (R134, R135, R137) -/

variable {s t : State} {lane : LaneId}

theorem execLaneLoadComplete_splitB {sc : Schedule} (hst : s.hub.laneState lane = .splitB) (hsp : s.hub.vote.split = .loading)
    (hsc : s.hub.schedule s.hub.vote.splitSchedule = some sc) : execLaneLoadComplete lane s = .next (s.modLane lane (Lane.load sc)) := by
  simp [execLaneLoadComplete, hst, hsp, hsc]

theorem execLaneLoadComplete_copy {c : Copy} {sc : Schedule} (hst : s.hub.laneState lane ≠ .splitB) (hc : s.hub.vote.copy = some c)
    (ht : c.target = lane) (hp : c.phase = 0) (hsc : s.hub.mainSchedule.bind s.hub.schedule = some sc) :
    execLaneLoadComplete lane s = .next ((s.modLane lane (fun l => { l.load sc with schedule := some sc.number })).modHub
      (fun h => { h with vote.copy := some { c with phase := if c.source.isSome then 1 else 2 } })) := by
  unfold execLaneLoadComplete
  split
  next h => exact absurd h hst
  next => simp only [hc, hsc, ht, hp, and_self, if_true]

theorem State.copyImage_eq {src : LaneId} {sc : Schedule} (h : s.laneSchedule src = some sc) (dst : LaneId) : s.copyImage src dst =
    s.modLane dst (fun l => { l with mem := sc.laneRegions.foldl (fun d r => (s.lane src).mem.copyFrom r.1 r.2 d) l.mem }) := by
  simp only [State.copyImage, h]

@[simp] theorem State.copyImage_hub (src dst : LaneId) (s : State) : (s.copyImage src dst).hub = s.hub := by
  unfold State.copyImage
  split <;> rfl

@[simp] theorem State.copyRegisters_hub (src dst : LaneId) (s : State) : (s.copyRegisters src dst).hub = s.hub := by
  unfold State.copyRegisters
  split <;> rfl

theorem State.copyImage_lane_ne {src dst m : LaneId} (hm : m ≠ dst) (s : State) : (s.copyImage src dst).lane m = s.lane m := by
  unfold State.copyImage
  split
  · rfl
  · exact State.modLane_lane_ne _ _ _ hm

theorem execStateCopyPassComplete_ok {c : Copy} {src : LaneId} (hc : s.hub.vote.copy = some c) (hs : c.source = some src)
    (hp : c.phase = 1) (last : Bool) : execStateCopyPassComplete last s =
    .next (((s.copyImage src c.target).modLane src (fun l => { l with dirty := [] })).modHub
      (fun h => { h with vote.copy := some { c with passes := c.passes + 1, phase := if last then 2 else 1 } })) := by
  simp [execStateCopyPassComplete, hc, hs, hp]

/-! ### The takeover (R134 step 4, R544) -/

/-- The lanes after a takeover: from the source, or cleared where there is none. -/
def State.takenOver (c : Copy) (s : State) : State :=
  match c.source with
  | some src => s.takeover src c.target
  | none => s.modLane c.target (fun l => { l with eng := vmap (fun (e : Engine) =>
      { e with regs := Vector.replicate 64 0#32, preds := 1#8, lc0 := 0#32, lc1 := 0#32 }) l.eng })

@[simp] theorem State.takenOver_hub (c : Copy) (s : State) : (s.takenOver c).hub = s.hub := by
  unfold State.takenOver
  split
  · simp [State.takeover]
  · rfl

theorem State.nextPowerCopy_of_none (h : s.hub.vote.toPower = 0) : s.nextPowerCopy = s := by
  have hnone : allLanes.filter (fun l => bit s.hub.vote.toPower l.val) = [] := by simp [h, bit_zero]
  simp only [State.nextPowerCopy, hnone]
  split
  next heq => cases heq
  next => rfl

theorem State.nextJoinCopy_of_none (h : s.hub.vote.toJoin = 0) : s.nextJoinCopy = s := by
  have hnone : allLanes.filter (fun l => bit s.hub.vote.toJoin l.val) = [] := by simp [h, bit_zero]
  unfold State.nextJoinCopy
  split
  next heq => cases hnone.symm.trans heq
  next => rfl

/-- What a takeover makes of its lane's state, and of the mode, by the kind of copy (Table 5.2, R544). -/
def State.landed (c : Copy) (done : State) : State :=
  match c.kind with
  | .inPlace => done
  | .warm => done.setLaneState c.target .spareWarm 0
  | .powerOn => done.setLaneState c.target .active 0
  | .join =>
    if done.hub.power.mode = .voted ∨ done.hub.power.mode = .split then done.setLaneState c.target .spareWarm 0
    else
      let d := done.setLaneState c.target .active 0
      if done.hub.power.mode = .duplex then d.modHub (Hub.setMode .voted 0) else d
  | .splitJoin => (done.modHub (fun h => { h with vote.joined := setBit h.vote.joined c.target.val })).nextJoinCopy

/-- The copy is over. -/
def State.copied (c : Copy) (s : State) : State := (s.takenOver c).modHub (fun h => { h with vote.copy := none })

@[simp] theorem State.copied_hub (c : Copy) (s : State) : (s.copied c).hub = { s.hub with vote.copy := none } := by
  simp [State.copied]

theorem execStateCopyTakeover_eq {c : Copy} (hc : s.hub.vote.copy = some c) (hp : c.phase = 2) (hb : s.hub.atBoundary = true) :
    execStateCopyTakeover s = .next ((s.copied c).landed c).nextPowerCopy := by
  unfold execStateCopyTakeover
  rw [hc]
  have hgo : ¬ (c.phase ≠ 2 ∨ s.hub.atBoundary = false) := by simp [hp, hb]
  exact congrArg (fun t => Host.Outcome.next (State.nextPowerCopy t)) (if_neg hgo)

/-- What the copy's end leaves, and the state of its lane by the kind of copy. -/
structure State.Lands (c : Copy) (s t : State) : Prop where
  lanes : ∀ m, t.lane m = s.lane m
  copy : t.hub.vote.copy = none
  power : s.hub.vote.toPower = 0 → t.hub.vote.toPower = 0
  warm : c.kind = .warm → t.hub.laneState c.target = .spareWarm
  powerOn : c.kind = .powerOn → t.hub.laneState c.target = .active
  inPlace : c.kind = .inPlace → t.hub.laneState c.target = s.hub.laneState c.target
  join : c.kind = .join → s.hub.power.mode = .duplex → t.hub.laneState c.target = .active ∧ t.hub.power.mode = .voted
  joinSpare : c.kind = .join → s.hub.power.mode = .voted → t.hub.laneState c.target = .spareWarm

theorem State.lands_of_moves {c : Copy} {st : LaneState} (h : State.Moves c.target st s t) (hc : s.hub.vote.copy = none)
    (hst : st = .spareWarm ∨ st = .active) (hw : c.kind = .warm → st = .spareWarm) (hp : c.kind = .powerOn → st = .active)
    (hi : c.kind ≠ .inPlace) (hj : c.kind = .join → s.hub.power.mode ≠ .duplex) (hs : c.kind = .join → st = .spareWarm) :
    State.Lands c s t where
  lanes := h.lanes (by rcases hst with rfl | rfl <;> rfl) (by rcases hst with rfl | rfl <;> decide)
  copy := (h.noCopy hc).1
  power := h.noPower
  warm k := hw k ▸ h.laneState
  powerOn k := hp k ▸ h.laneState
  inPlace k := absurd k hi
  join k hm := absurd hm (hj k)
  joinSpare k _ := hs k ▸ h.laneState

theorem State.landed_lands {c : Copy} (hc : s.hub.vote.copy = none) (hk : c.kind ≠ .splitJoin) : State.Lands c s (s.landed c) := by
  have hmoves := fun st => State.setLaneState_moves c.target st 0 s
  unfold State.landed
  split
  next hi =>
    exact ⟨fun _ => rfl, hc, id, by simp [hi], by simp [hi], fun _ => rfl, by simp [hi], by simp [hi]⟩
  next hw => exact State.lands_of_moves (hmoves .spareWarm) hc (.inl rfl) (fun _ => rfl) (by simp [hw]) (by simp [hw]) (by simp [hw]) (by simp [hw])
  next ho => exact State.lands_of_moves (hmoves .active) hc (.inr rfl) (by simp [ho]) (fun _ => rfl) (by simp [ho]) (by simp [ho]) (by simp [ho])
  next hj =>
    have hw : c.kind ≠ .warm := by simp [hj]
    have ho : c.kind ≠ .powerOn := by simp [hj]
    have hi : c.kind ≠ .inPlace := by simp [hj]
    split
    next hm =>
      have hd : s.hub.power.mode ≠ .duplex := by rcases hm with hm | hm <;> rw [hm] <;> decide
      exact State.lands_of_moves (hmoves .spareWarm) hc (.inl rfl) (absurd · hw) (absurd · ho) hi (fun _ => hd) (fun _ => rfl)
    next hm =>
      extract_lets d
      have h : State.Moves c.target .active s d := hmoves .active
      have hv : s.hub.power.mode ≠ .voted := fun e => hm (.inl e)
      split
      next hd =>
        have hstill := d.hub.setMode_still .voted 0
        have hstate : (d.hub.setMode .voted 0).laneState c.target = d.hub.laneState c.target :=
          (congrArg (fun h : Hub => h.laneState c.target) hstill :)
        have hcopy : (d.hub.setMode .voted 0).vote.copy = d.hub.vote.copy := (congrArg (fun h : Hub => h.vote.copy) hstill :)
        have hpower : (d.hub.setMode .voted 0).vote.toPower = d.hub.vote.toPower := (congrArg (fun h : Hub => h.vote.toPower) hstill :)
        exact {
          lanes := h.lanes rfl (by decide)
          copy := hcopy.trans (h.noCopy hc).1
          power := fun h0 => hpower.trans (h.noPower h0)
          warm := (absurd · hw)
          powerOn := (absurd · ho)
          inPlace := (absurd · hi)
          join := fun _ _ => ⟨hstate.trans h.laneState, by simp⟩
          joinSpare := fun _ e => absurd e hv }
      next hd =>
        exact {
          lanes := h.lanes rfl (by decide)
          copy := (h.noCopy hc).1
          power := h.noPower
          warm := (absurd · hw)
          powerOn := (absurd · ho)
          inPlace := (absurd · hi)
          join := fun _ e => absurd e hd
          joinSpare := fun _ e => absurd e hv }
  next hj => exact absurd hj hk

theorem execStateCopyTakeover_ok {c : Copy} (hc : s.hub.vote.copy = some c) (hp : c.phase = 2) (hb : s.hub.atBoundary = true)
    (h0 : s.hub.vote.toPower = 0) (hk : c.kind ≠ .splitJoin) : ∃ t, execStateCopyTakeover s = .next t ∧
      State.Lands c (s.copied c) t := by
  have h : State.Lands c (s.copied c) ((s.copied c).landed c) := State.landed_lands (by simp) hk
  refine ⟨_, (execStateCopyTakeover_eq hc hp hb).trans (congrArg _ (State.nextPowerCopy_of_none (h.power ?_))), h⟩
  simp [h0]

/-- The registers that LIVENESS marks for an engine (R108). -/
def Schedule.liveRegs (sc : Schedule) (e : Nat) : Nat := ((sc.liveness.find? (fun x => x.engine == e)).map LiveEntry.regs).getD 0

theorem State.copyRegisters_regs {src dst : LaneId} {sc : Schedule} (hsc : s.laneSchedule src = some sc) (e : EngineId) (n : Fin 64) :
    ((s.copyRegisters src dst).engine ⟨dst, e⟩).regs[n] =
      if n ≠ 0 ∧ bit (sc.liveRegs e) n then (s.engine ⟨src, e⟩).regs[n] else 0#32 := by
  simp only [State.engine, State.copyRegisters, hsc, State.modLane_lane]
  refine (congrArg (fun e : Engine => e.regs[n]) (vmapIdx_getElem _ _ e.val e.isLt)).trans ?_
  simp only [Engine.takeLive, Schedule.liveRegs, vgetN_fin]
  refine (vmapIdx_getElem _ _ n.val n.isLt).trans ?_
  have hn : n.val ≠ 0 ↔ n ≠ 0 := not_congr (Fin.ext_iff (a := n) (b := 0)).symm
  have hlive : ((sc.liveness.find? (fun x => x.engine == e.val)).getD { engine := 0, preds := 0, loops := 0, regs := 0 }).regs =
      ((sc.liveness.find? (fun x => x.engine == e.val)).map LiveEntry.regs).getD 0 := by
    cases sc.liveness.find? (fun x => x.engine == e.val) <;> rfl
  simp only [hn, hlive, and_comm]
  rfl

/-- The lane taken over: the source's agreed image, and the registers that LIVENESS marks (R108, R134). -/
theorem State.takeover_lane {src dst : LaneId} {sc : Schedule} (hne : src ≠ dst) (hsc : s.laneSchedule src = some sc) :
    ((s.takeover src dst).lane dst).agreed = (s.lane src).agreed ∧ ∀ (e : EngineId) (n : Fin 64),
      ((s.takeover src dst).engine ⟨dst, e⟩).regs[n] =
        if n ≠ 0 ∧ bit (sc.liveRegs e) n then (s.engine ⟨src, e⟩).regs[n] else 0#32 := by
  have hl : (s.copyImage src dst).lane src = s.lane src := State.copyImage_lane_ne hne s
  have hsc' : (s.copyImage src dst).laneSchedule src = some sc := by simp [State.laneSchedule, hl, ← hsc]
  refine ⟨by simp [State.takeover], fun e n => ?_⟩
  have heng : (s.copyImage src dst).engine ⟨src, e⟩ = s.engine ⟨src, e⟩ := congrArg (fun l : Lane => l.eng[e]) hl
  rw [State.takeover, State.modLane_engine rfl, State.copyRegisters_regs hsc', heng]

theorem execStateCopyTakeover_splitJoin {c : Copy} (hc : s.hub.vote.copy = some c) (hp : c.phase = 2) (hb : s.hub.atBoundary = true)
    (hk : c.kind = .splitJoin) (h0 : s.hub.vote.toPower = 0) (hj : s.hub.vote.toJoin = 0) : ∃ t, execStateCopyTakeover s = .next t ∧
      t.hub = { s.hub with vote.copy := none, vote.joined := setBit s.hub.vote.joined c.target.val } := by
  have hland : (s.copied c).landed c =
      (s.copied c).modHub (fun h => { h with vote.joined := setBit h.vote.joined c.target.val }) := by
    unfold State.landed
    rw [hk]
    exact State.nextJoinCopy_of_none (by simp [hj])
  refine ⟨_, (execStateCopyTakeover_eq hc hp hb).trans (congrArg _ (State.nextPowerCopy_of_none ?_)), ?_⟩
  · simp [hland, h0]
  · simp [hland]

/-! ### The failure of a copy (R135) -/

theorem Hub.failCopy_target {h : Hub} {c : Copy} (hc : h.vote.copy = some c) :
    h.failCopy.vote.nextLane[c.target] = some .outvoted := by
  have hself : (h.vote.nextLane.set c.target (some LaneState.outvoted))[c.target] = some .outvoted := Vector.getElem_set_self ..
  unfold Hub.failCopy
  split
  next hn => exact absurd (hc.symm.trans hn) (by simp)
  next c' hc' =>
  obtain rfl : c = c' := Option.some.inj (hc.symm.trans hc')
  extract_lets
  split
  next hact =>
    split
    next i is hi =>
      have hmem : i ∈ allLanes.filter (fun j => h.laneState j == .spareWarm) := hi ▸ List.mem_cons_self
      have hst : h.laneState i = .spareWarm := by simpa using (List.mem_filter.mp hmem).2
      have hne : c.target ≠ i := by
        rintro rfl
        have hact' : h.laneState c.target = .active := hact.1
        exact absurd (hst.symm.trans hact') (by decide)
      exact (vset_getElem_ne _ _ hne).trans hself
    next => exact hself
  next => exact hself

theorem State.nextJoinCopy_nextLane (s : State) : s.nextJoinCopy.hub.vote.nextLane = s.hub.vote.nextLane ∧
    s.nextJoinCopy.hub.vote.toPower = s.hub.vote.toPower := by
  unfold State.nextJoinCopy
  split <;> exact ⟨rfl, rfl⟩

theorem execStateCopyFailed_ok {c : Copy} (hc : s.hub.vote.copy = some c) (h0 : s.hub.vote.toPower = 0) :
    ∃ t, execStateCopyFailed s = .next t ∧ t.hub.vote.nextLane[c.target] = some .outvoted := by
  obtain ⟨hnext, hpower⟩ := State.nextJoinCopy_nextLane (s.modHub Hub.failCopy)
  have hfail : s.hub.failCopy.vote.toPower = s.hub.vote.toPower := (congrArg (fun p => p.2.2) s.hub.failCopy_placed :)
  have hnone : (s.modHub Hub.failCopy).nextJoinCopy.nextPowerCopy = (s.modHub Hub.failCopy).nextJoinCopy :=
    State.nextPowerCopy_of_none (hpower.trans (hfail.trans h0))
  refine ⟨_, rfl, ?_⟩
  rw [hnone]
  simp only [hnext]
  exact Hub.failCopy_target hc

/-! ### The self-test and the spare engine (Table 5.2, R136) -/

theorem execLaneSelfTestEnd_failed {x : SelfTest} (hx : s.hub.vote.selfTests.find? (fun y => y.lane == lane) = some x) :
    ∃ t, execLaneSelfTestEnd lane false s = .next t ∧ t.hub.laneState lane = .off := by
  simp only [execLaneSelfTestEnd, hx]
  exact ⟨_, rfl, (State.setLaneState_moves ..).laneState⟩

theorem execLaneSelfTestEnd_cold {x : SelfTest} (hx : s.hub.vote.selfTests.find? (fun y => y.lane == lane) = some x) (ha : x.after = 1) :
    ∃ t, execLaneSelfTestEnd lane true s = .next t ∧ t.hub.laneState lane = .spareCold := by
  simp only [execLaneSelfTestEnd, hx, ha]
  exact ⟨_, rfl, (State.setLaneState_moves ..).laneState⟩

theorem execLaneSelfTestEnd_copies {x : SelfTest} (hx : s.hub.vote.selfTests.find? (fun y => y.lane == lane) = some x) (ha : x.after ≠ 1)
    (hsrc : (s.hub.copySource lane).isSome = true) (hc : s.hub.vote.copy = none) :
    ∃ t y, execLaneSelfTestEnd lane true s = .next t ∧ t.hub.laneState lane = .resync ∧ t.hub.vote.copy = some y ∧ y.target = lane ∧
      y.phase = 0 := by
  unfold execLaneSelfTestEnd
  rw [hx]
  extract_lets s1
  have hsrc1 : (s1.hub.copySource lane).isSome = true := hsrc
  have hc1 : s1.hub.vote.copy = none := hc
  have hno : ¬ (x.after = 1 ∨ (s1.hub.copySource lane).isNone = true ∨ s1.hub.vote.copy.isSome = true) := by
    have hnot : (s1.hub.copySource lane).isNone = false := by rw [← Option.not_isSome, hsrc1]; rfl
    simp only [ha, hc1, hnot, Option.isSome_none, Bool.false_eq_true, or_self, not_false_eq_true]
  refine ⟨_, _, congrArg Host.Outcome.next (if_neg hno), ?_, rfl, rfl, rfl⟩
  exact (State.setLaneState_moves ..).laneState

theorem vgetN_vmodN_self {α : Type} {n : Nat} (v : Vector α n) {i : Nat} (hi : i < n) (f : α → α) (d : α) :
    vgetN (vmodN v i f) i d = f (vgetN v i d) := by
  rw [vmodN_of_lt v f hi, vgetN_of_lt _ d hi, vgetN_of_lt _ d hi]
  exact vmod_getElem_self v ⟨i, hi⟩ f

theorem vgetN_vmodN_ne {α : Type} {n : Nat} (v : Vector α n) {i j : Nat} (hne : j ≠ i) (f : α → α) (d : α) :
    vgetN (vmodN v i f) j d = vgetN v j d := by
  by_cases hj : j < n
  · by_cases hi : i < n
    · rw [vmodN_of_lt v f hi, vgetN_of_lt _ d hj, vgetN_of_lt _ d hj]
      exact vmod_getElem_ne v f (i := ⟨i, hi⟩) (j := ⟨j, hj⟩) (by simpa using hne)
    · simp [vmodN, hi]
  · simp [vgetN, hj]

theorem execEngineSubstitution_ok {eng : EngineId} {q : Nat} (hb : s.hub.atBoundary = true)
    (hm : (lane, eng.val, q) ∈ s.hub.vote.engineCopy) (hq : q < s.hub.sentence) :
    ∃ t, execEngineSubstitution lane eng s = .next t ∧ t.lanes = s.lanes ∧
      vgetN t.hub.vote.engineMap[lane] eng.val 0 = vgetN s.hub.vote.engineMap[lane] 8 0 ∧
      vgetN t.hub.vote.engineMap[lane] 8 0 = vgetN s.hub.vote.engineMap[lane] eng.val 0 := by
  have hany : s.hub.vote.engineCopy.any (fun c => c.1 == lane && c.2.1 == eng.val && decide (c.2.2 < s.hub.sentence)) = true :=
    List.any_eq_true.mpr ⟨_, hm, by simp [hq]⟩
  have heng : eng.val < 9 := by omega
  have hne : eng.val ≠ 8 := by omega
  have hspare : vgetN s.hub.vote.engineMap[lane] 8 8 = vgetN s.hub.vote.engineMap[lane] 8 0 := by
    rw [vgetN_of_lt _ _ (by decide), vgetN_of_lt _ _ (by decide)]
  have hserved (h : Hub) (old : Nat) : (h.wearServed 3 lane.val old).vote.engineMap = h.vote.engineMap :=
    (congrArg (fun h : Hub => h.vote.engineMap) (h.wearServed_unworn 3 lane.val old) :)
  unfold execEngineSubstitution
  rw [if_pos (by rw [hb, hany]; rfl)]
  refine ⟨_, rfl, rfl, ?_⟩
  simp only [State.modHub_hub, hserved]
  have hset (v : Vector (Vector Nat 9) 4) (x : Vector Nat 9) : (v.set lane x)[lane] = x := Vector.getElem_set_self ..
  rw [hset, vgetN_vmodN_ne _ hne, vgetN_vmodN_self _ heng, vgetN_vmodN_self _ (by decide)]
  exact ⟨hspare, rfl⟩

/-! ### LATENT_LIMIT (R131, R537) -/

/-- The action of one lane. -/
def State.latentAction (s : State) (j : LaneId) : State :=
  if !bit s.hub.vote.latentPending j.val then s
  else if s.hub.power.mode ≠ .voted ∨ s.hub.laneState j ≠ .active then s.modHub (Hub.clearLatentLimit j 2)
  else if s.hub.copyBusy then s
  else match allLanes.filter (fun i => s.hub.laneState i == .spareWarm) with
    | i :: _ =>
      let s := ((s.setLaneState i .active 0x0212).setLaneState j .resync 0x0212).startCopy j .warm 2 1
      s.modHub (Hub.clearLatentLimit j 0)
    | [] => (s.startCopy j .inPlace 4 1).modHub (Hub.clearLatentLimit j 1)

theorem execLatentLimitAction_eq (hb : s.hub.atBoundary = true) :
    execLatentLimitAction s = .next (allLanes.foldl State.latentAction s) := by
  unfold execLatentLimitAction
  rw [if_neg (by simp [hb])]
  rfl

theorem State.latentAction_of_clear {j : LaneId} (h : bit s.hub.vote.latentPending j.val = false) : s.latentAction j = s := by
  simp [State.latentAction, h]

/-- Outside VOTED the action of a lane only clears what is pending. -/
theorem State.latentAction_clears (hm : s.hub.power.mode ≠ .voted) (j i : LaneId) :
    (s.latentAction j).hub.power.mode = s.hub.power.mode ∧
      bit (s.latentAction j).hub.vote.latentPending i.val = (bit s.hub.vote.latentPending i.val && decide (j ≠ i)) := by
  unfold State.latentAction
  split
  next h =>
    refine ⟨rfl, ?_⟩
    by_cases hij : j = i
    · subst hij; simpa using h
    · simp [hij]
  next h =>
    rw [if_pos (.inl hm)]
    refine ⟨rfl, ?_⟩
    simp [Hub.clearLatentLimit, Hub.clearFault, bit_clearBit, Fin.ext_iff]

theorem State.latentActions_clear (js : List LaneId) (hm : s.hub.power.mode ≠ .voted) (i : LaneId) :
    bit (js.foldl State.latentAction s).hub.vote.latentPending i.val = (bit s.hub.vote.latentPending i.val && decide (i ∉ js)) := by
  induction js generalizing s with
  | nil => simp
  | cons j js ih =>
    obtain ⟨hmode, hbit⟩ := State.latentAction_clears hm j i
    rw [List.foldl_cons, ih (by rwa [hmode]), hbit]
    by_cases hij : j = i
    · simp [hij]
    · simp [hij, Ne.symm hij]

theorem foldl_of_fixed {σ ι : Type} {f : σ → ι → σ} {t : σ} (h : ∀ x, f t x = t) (l : List ι) : l.foldl f t = t := by
  induction l with
  | nil => rfl
  | cons x xs ih => rw [List.foldl_cons, h, ih]

/-- Where all but one element leave the state, so does the fold. -/
theorem foldl_single {σ ι : Type} {f : σ → ι → σ} {s : σ} {a : ι} (h : ∀ x, x ≠ a → f s x = s) (h' : ∀ x, f (f s a) x = f s a)
    {l : List ι} (ha : a ∈ l) : l.foldl f s = f s a := by
  induction l with
  | nil => cases ha
  | cons x xs ih =>
    by_cases hx : x = a
    · subst hx
      exact foldl_of_fixed h' xs
    · rw [List.foldl_cons, h x hx]
      exact ih ((List.mem_cons.mp ha).resolve_left (Ne.symm hx))

theorem bit_two_pow (i j : Nat) : bit (2 ^ i) j = decide (i = j) := by simp [bit, Nat.testBit_two_pow]

/-- The copy that LATENT_LIMIT starts, with its record closed. -/
theorem State.startCopy_cleared (s : State) (j : LaneId) (kind : CopyKind) (shown phase action : Nat) :
    let t := (s.startCopy j kind shown phase).modHub (Hub.clearLatentLimit j action)
    t.hub.vote.latentPending = clearBit s.hub.vote.latentPending j.val ∧ t.hub.vote.laneState = s.hub.vote.laneState ∧
      t.hub.vote.copy = some { target := j, kind := kind, source := s.hub.copySource j, shown := shown, phase := phase } :=
  ⟨rfl, rfl, rfl⟩

/-- With a spare the latent lane is copied anew and the spare takes its place (R537). -/
theorem execLatentLimitAction_spare {i : LaneId} (hb : s.hub.atBoundary = true) (hm : s.hub.power.mode = .voted)
    (hl : s.hub.laneState lane = .active) (hcb : s.hub.copyBusy = false) (hp : s.hub.vote.latentPending = 2 ^ lane.val)
    (hi : (allLanes.filter (fun j => s.hub.laneState j == .spareWarm)).head? = some i) :
    ∃ t y, execLatentLimitAction s = .next t ∧ t.hub.laneState i = .active ∧ t.hub.laneState lane = .resync ∧
      t.hub.vote.copy = some y ∧ y.target = lane ∧ y.kind = .warm := by
  obtain ⟨is, his⟩ := List.head?_eq_some_iff.mp hi
  have hspare : s.hub.laneState i = .spareWarm := by
    have hmem : i ∈ allLanes.filter (fun j => s.hub.laneState j == .spareWarm) := his ▸ List.mem_cons_self
    simpa using (List.mem_filter.mp hmem).2
  have hne : i ≠ lane := by
    rintro rfl
    rw [hspare] at hl
    cases hl
  have hbit (j : LaneId) : bit s.hub.vote.latentPending j.val = decide (lane = j) := by
    rw [hp, bit_two_pow]
    simp [Fin.ext_iff]
  have m1 := State.setLaneState_moves i .active 0x0212 s
  have m2 := State.setLaneState_moves lane .resync 0x0212 (s.setLaneState i .active 0x0212)
  have hact : s.latentAction lane = (((s.setLaneState i .active 0x0212).setLaneState lane .resync 0x0212).startCopy lane .warm 2 1).modHub
      (Hub.clearLatentLimit lane 0) := by
    simp [State.latentAction, hbit, hm, hl, hcb, his]
  have hpend : ((s.setLaneState i .active 0x0212).setLaneState lane .resync 0x0212).hub.vote.latentPending = 2 ^ lane.val :=
    ((congrArg (fun h : Hub => h.vote.latentPending) (m2.lasting.trans m1.lasting) :)).trans hp
  obtain ⟨hnow, hstates, hcopy⟩ := State.startCopy_cleared ((s.setLaneState i .active 0x0212).setLaneState lane .resync 0x0212) lane .warm 2 1 0
  rw [← hact] at hnow hstates hcopy
  have hclear (j : LaneId) : bit (s.latentAction lane).hub.vote.latentPending j.val = false := by
    rw [hnow, hpend, bit_clearBit, bit_two_pow]
    simp
  have hfold : allLanes.foldl State.latentAction s = s.latentAction lane :=
    foldl_single (fun j hj => State.latentAction_of_clear (by simp [hbit, Ne.symm hj]))
      (fun j => State.latentAction_of_clear (hclear j)) (mem_allLanes lane)
  have hkept (m : LaneId) : (s.latentAction lane).hub.laneState m =
      ((s.setLaneState i .active 0x0212).setLaneState lane .resync 0x0212).hub.laneState m :=
    congrArg (fun v : Vector LaneState 4 => v[m]) hstates
  refine ⟨_, _, (execLatentLimitAction_eq hb).trans (congrArg _ hfold), ?_, ?_, hcopy, rfl, rfl⟩
  · exact (hkept i).trans ((m2.laneState_ne hne).trans m1.laneState)
  · exact (hkept lane).trans m2.laneState

/-! ### SPLIT and JOIN (R137 to R139) -/

theorem mem_groupLanes {mask : Nat} {l : LaneId} : l ∈ groupLanes mask ↔ bit mask l.val = true := by
  simp [groupLanes, mem_allLanes]

/-- A lane joins group B: no schedule, nothing loaded, its engines idle. -/
def State.toGroupB (s : State) (l : LaneId) : State :=
  (s.setLaneState l .splitB 0x0204).modLane l (fun x => { x with schedule := none, loaded := false, eng := vmap Engine.idle x.eng, xfers := [] })

theorem State.toGroupB_self (s : State) (l : LaneId) : (s.toGroupB l).hub.laneState l = .splitB ∧
    ((s.toGroupB l).lane l).schedule = none ∧ ((s.toGroupB l).lane l).loaded = false := by
  refine ⟨(State.setLaneState_moves ..).laneState, ?_, ?_⟩
  · rw [State.toGroupB, State.modLane_lane]
  · rw [State.toGroupB, State.modLane_lane]

/-- A lane of group B stays so when another joins. -/
theorem State.toGroupB_other (s : State) {l m : LaneId} (hm : m ≠ l) : (s.toGroupB l).hub.laneState m = s.hub.laneState m ∧
    (s.toGroupB l).lane m = s.lane m := by
  have h := State.setLaneState_moves l .splitB 0x0204 s
  refine ⟨h.laneState_ne hm, ?_⟩
  rw [State.toGroupB, State.modLane_lane_ne _ _ _ hm, h.other m hm]

theorem State.toGroupB_lasting (s : State) (l : LaneId) : (s.toGroupB l).hub.lasting = s.hub.lasting :=
  (State.setLaneState_moves l .splitB 0x0204 s).lasting

/-- What visiting one element brings about and visiting another keeps holds after a fold over a list with that element. -/
theorem foldl_reaches {σ ι : Type} {f : σ → ι → σ} {a : ι} {P : σ → Prop} (hself : ∀ s, P (f s a)) (hother : ∀ s x, x ≠ a → P s → P (f s x))
    {l : List ι} (ha : a ∈ l) (s : σ) : P (l.foldl f s) := by
  have hkeep (l : List ι) (s : σ) (hs : P s) : P (l.foldl f s) := by
    induction l generalizing s with
    | nil => exact hs
    | cons x xs ih =>
      refine ih (f s x) ?_
      by_cases hx : x = a
      · exact hx ▸ hself s
      · exact hother s x hx hs
  induction l generalizing s with
  | nil => cases ha
  | cons x xs ih =>
    by_cases hx : x = a
    · exact hkeep xs (f s x) (hx ▸ hself s)
    · exact ih ((List.mem_cons.mp ha).resolve_left (Ne.symm hx)) (f s x)

theorem State.groupB_of_mem {ls : List LaneId} {l : LaneId} (hl : l ∈ ls) (s : State) :
    (ls.foldl State.toGroupB s).hub.laneState l = .splitB ∧ ((ls.foldl State.toGroupB s).lane l).schedule = none ∧
      ((ls.foldl State.toGroupB s).lane l).loaded = false := by
  refine foldl_reaches (P := fun t : State => t.hub.laneState l = .splitB ∧ (t.lane l).schedule = none ∧ (t.lane l).loaded = false)
    (fun t => State.toGroupB_self t l) (fun t m hm ht => ?_) hl s
  obtain ⟨hst, hlane⟩ := State.toGroupB_other t (Ne.symm hm)
  rw [hst, hlane]
  exact ht

theorem execSplitBoundary_ok (hsp : s.hub.vote.split = .pending) (hb : s.hub.atBoundary = true) (hq : s.hub.vote.splitTarget ≤ s.hub.sentence)
    (hst : ∀ l : LaneId, bit s.hub.vote.groupB l.val = true ∨ s.hub.vote.splitLanes[l] = .active → s.hub.laneState l = s.hub.vote.splitLanes[l])
    (hm : s.hub.power.mode = s.hub.vote.splitMode) : ∃ t, execSplitBoundary s = .next t ∧ t.hub.power.mode = .split ∧
      t.hub.vote.split = .loading ∧ ∀ l : LaneId, bit s.hub.vote.groupB l.val = true →
        t.hub.laneState l = .splitB ∧ (t.lane l).schedule = none ∧ (t.lane l).loaded = false := by
  unfold execSplitBoundary
  rw [if_neg (by simp [hsp, hb, hq])]
  extract_lets v named same
  have hsame : (!same) = false := by
    simp only [same, named, Bool.not_eq_false', Bool.and_eq_true, beq_iff_eq, List.all_eq_true, List.mem_filter, Bool.or_eq_true]
    exact ⟨fun l hl => hst l hl.2, hm⟩
  have hif : ¬ ((!same) = true) := by simp [hsame]
  rw [if_neg hif]
  have hstill (h : Hub) := h.setMode_still .split 0x0204
  refine ⟨_, rfl, ?_, ?_, fun l hl => ?_⟩
  · exact (congrArg Power.mode (Hub.setMode_power ..) :)
  · exact (congrArg (fun h : Hub => h.vote.split) (hstill _) :)
  · obtain ⟨h1, h2⟩ := State.groupB_of_mem (mem_groupLanes.mpr hl) s
    exact ⟨((congrArg (fun h : Hub => h.laneState l) (hstill _) :)).trans h1, h2⟩

theorem execSplitBoundary_cancels (hsp : s.hub.vote.split = .pending) (hb : s.hub.atBoundary = true)
    (hq : s.hub.vote.splitTarget ≤ s.hub.sentence) (hm : s.hub.power.mode ≠ s.hub.vote.splitMode) : execSplitBoundary s =
      .next (s.modHub (fun h => { h with vote.split := .cancelled })) := by
  unfold execSplitBoundary
  rw [if_neg (by simp [hsp, hb, hq])]
  extract_lets v named same
  have hsame : (!same) = true := by simp [same, v, hm]
  rw [if_pos hsame]

/-- A lane of group B gets the schedule of its split. -/
def State.scheduleB (s : State) (l : LaneId) : State := s.modLane l (fun x => { x with schedule := some s.hub.vote.splitSchedule })

theorem State.scheduleBs_hub (ls : List LaneId) (s : State) : (ls.foldl State.scheduleB s).hub = s.hub :=
  foldl_view State.hub (f := State.scheduleB) (fun _ _ => rfl) ls s

theorem State.scheduleB_of_mem {ls : List LaneId} {l : LaneId} (hl : l ∈ ls) (s : State) :
    ((ls.foldl State.scheduleB s).lane l).schedule = some s.hub.vote.splitSchedule := by
  rw [← State.scheduleBs_hub ls s]
  refine foldl_reaches (P := fun t : State => (t.lane l).schedule = some t.hub.vote.splitSchedule) (fun t => ?_) (fun t m hm ht => ?_) hl s
  · rw [State.scheduleB, State.modLane_lane]
    rfl
  · rw [State.scheduleB, State.modLane_lane_ne _ _ _ (Ne.symm hm)]
    exact ht

theorem execGroupBStart_ok (hsp : s.hub.vote.split = .loading) (hb : s.hub.atBoundary = true) (hex : ∃ l, s.hub.laneState l = .splitB)
    (hload : ∀ l, s.hub.laneState l = .splitB → (s.lane l).loaded = true) : ∃ t, execGroupBStart s = .next t ∧
      t.hub.vote.split = .running ∧ ∀ l, s.hub.laneState l = .splitB → (t.lane l).schedule = some s.hub.vote.splitSchedule := by
  have hmem (l : LaneId) : l ∈ allLanes.filter (fun l => s.hub.laneState l == .splitB) ↔ s.hub.laneState l = .splitB := by
    simp [mem_allLanes]
  obtain ⟨l0, hl0⟩ := hex
  unfold execGroupBStart
  extract_lets b
  have hb0 : b ≠ [] := List.ne_nil_of_mem ((hmem l0).mpr hl0)
  have hall : b.all (fun l => (s.lane l).loaded) = true := List.all_eq_true.mpr (fun l hl => hload l ((hmem l).mp hl))
  rw [if_pos ⟨hsp, hb, hb0, hall⟩]
  exact ⟨_, rfl, rfl, fun l hl => State.scheduleB_of_mem ((hmem l).mpr hl) s⟩

/-- A lane that is made a spare; the others keep their states. -/
theorem State.spares_laneState {a : LaneId} (cause : Nat) {ls : List LaneId} (ha : a ∉ ls) (s : State) :
    (ls.foldl (fun (s : State) (l : LaneId) => s.setLaneState l .spareWarm cause) s).hub.laneState a = s.hub.laneState a := by
  induction ls generalizing s with
  | nil => rfl
  | cons l ls ih =>
    rw [List.mem_cons, not_or] at ha
    rw [List.foldl_cons, ih ha.2, (State.setLaneState_moves ..).laneState_ne ha.1]

theorem State.spares_lasting (st : LaneState) (cause : Nat) (ls : List LaneId) (s : State) :
    (ls.foldl (fun (s : State) (l : LaneId) => s.setLaneState l st cause) s).hub.lasting = s.hub.lasting :=
  foldl_view (fun s : State => s.hub.lasting) (fun _ _ => (State.setLaneState_moves ..).lasting) ls s

section join
variable (hsp : s.hub.vote.split = .joinPending) (hb : s.hub.atBoundary = true) (hq : s.hub.vote.splitTarget ≤ s.hub.sentence)
include hsp hb hq

theorem execJoinBoundary_duplex (hst : ∀ l : LaneId, s.hub.vote.splitLanes[l] = .active → s.hub.laneState l = .active)
    (hm : s.hub.power.mode = .split) (hno : ∀ l : LaneId, s.hub.vote.splitLanes[l] ≠ .splitB) :
    ∃ t, execJoinBoundary s = .next t ∧ t.hub.power.mode = .duplex ∧ t.hub.vote.split = .none := by
  unfold execJoinBoundary
  rw [if_neg (by simp [hsp, hb, hq])]
  extract_lets v grpA same named ready done
  have hsame : ¬ ((!same) = true) := by
    simp only [same, grpA, Bool.not_eq_true', Bool.not_eq_false, Bool.and_eq_true, beq_iff_eq, List.all_eq_true, List.mem_filter]
    exact ⟨fun l hl => hst l hl.2, hm⟩
  have hnamed : named.isEmpty = true := by
    simp only [named, List.isEmpty_iff, List.filter_eq_nil_iff, beq_iff_eq]
    exact fun l _ => hno l
  rw [if_neg hsame, if_pos hnamed]
  exact ⟨_, rfl, (congrArg Power.mode (Hub.setMode_power ..) :), (congrArg (fun h : Hub => h.vote.split) (Hub.setMode_still ..) :)⟩

theorem execJoinBoundary_voted (hst : ∀ l : LaneId, s.hub.vote.splitLanes[l] = .active → s.hub.laneState l = .active)
    (hm : s.hub.power.mode = .split) {a : LaneId} (hex : ∃ l : LaneId, s.hub.vote.splitLanes[l] = .splitB)
    (ha : ((groupLanes s.hub.vote.joined).filter (fun l => s.hub.laneState l == .resync)).head? = some a) :
    ∃ t, execJoinBoundary s = .next t ∧ t.hub.power.mode = .voted ∧ t.hub.laneState a = .active ∧ t.hub.vote.split = .none := by
  obtain ⟨rest, hrest⟩ := List.head?_eq_some_iff.mp ha
  have hnot : a ∉ rest := by
    have h := (allLanes_nodup.filter (fun l => bit s.hub.vote.joined l.val)).filter (fun l => s.hub.laneState l == .resync)
    exact (List.nodup_cons.mp (hrest ▸ h)).1
  unfold execJoinBoundary
  rw [if_neg (by simp [hsp, hb, hq])]
  extract_lets v grpA same named ready done
  have hsame : ¬ ((!same) = true) := by
    simp only [same, grpA, Bool.not_eq_true', Bool.not_eq_false, Bool.and_eq_true, beq_iff_eq, List.all_eq_true, List.mem_filter]
    exact ⟨fun l hl => hst l hl.2, hm⟩
  have hnamed : ¬ (named.isEmpty = true) := by
    obtain ⟨l, hl⟩ := hex
    simp only [named, List.isEmpty_iff, List.filter_eq_nil_iff, beq_iff_eq]
    exact fun h => h l (mem_allLanes l) hl
  have hready : ready = a :: rest := hrest
  rw [if_neg hsame, if_neg hnamed, hready]
  have m := State.setLaneState_moves a .active 0x0205 (done s)
  have hspare := State.spares_laneState 0x0205 hnot ((done s).setLaneState a .active 0x0205)
  have hlast := State.spares_lasting .spareWarm 0x0205 rest ((done s).setLaneState a .active 0x0205)
  refine ⟨_, rfl, (congrArg Power.mode (Hub.setMode_power ..) :), ?_, ?_⟩
  · exact ((congrArg (fun h : Hub => h.laneState a) (Hub.setMode_still ..) :)).trans (hspare.trans m.laneState)
  · refine ((congrArg (fun h : Hub => h.vote.split) (Hub.setMode_still ..) :)).trans ?_
    exact (congrArg (fun h : Hub => h.vote.split) (hlast.trans m.lasting) :)

theorem execJoinBoundary_cancels (hm : s.hub.power.mode ≠ .split) :
    execJoinBoundary s = .next (s.modHub (fun h => { h with vote.split := .cancelled })) := by
  unfold execJoinBoundary
  rw [if_neg (by simp [hsp, hb, hq])]
  extract_lets v grpA same named ready done
  have hsame : (!same) = true := by simp [same, hm]
  rw [if_pos hsame]

end join

/-- Settles O40. -/
theorem laneStates : Obligations.LaneStates := by
  unfold Obligations.LaneStates
  refine ⟨fun s lane => ⟨fun sc h1 h2 h3 => ?_, fun c sc h1 h2 h3 h4 h5 => ?_, fun c src last hc hs hp => ?_,
    fun c src sc hc hs hp hb h0 hne hk hsc => ?_, fun c hc hs hp hk hb h0 => ?_, fun c hc hp hk hb h0 hj => ?_,
    fun c hc h0 => execStateCopyFailed_ok hc h0, fun x hx => ⟨execLaneSelfTestEnd_failed hx, execLaneSelfTestEnd_cold hx,
      execLaneSelfTestEnd_copies hx⟩, fun eng q hb hm hq => execEngineSubstitution_ok hb hm hq, fun hb hm => ?_,
    fun i hb hm hl hcb hp hi => execLatentLimitAction_spare hb hm hl hcb hp hi⟩,
    fun s => ⟨fun h1 h2 h3 => ⟨execSplitBoundary_ok h1 h2 h3, fun hm => ⟨_, execSplitBoundary_cancels h1 h2 h3 hm, rfl, rfl, rfl⟩⟩,
      execGroupBStart_ok, fun h1 h2 h3 => ⟨fun hst hm => ⟨execJoinBoundary_duplex h1 h2 h3 hst hm,
        fun a => execJoinBoundary_voted h1 h2 h3 hst hm⟩, fun hm => ⟨_, execJoinBoundary_cancels h1 h2 h3 hm, rfl, rfl⟩⟩,
      ⟨_, rfl, rfl, fun l => State.mapLanes_lane ..⟩, ⟨_, rfl, rfl, rfl⟩, ⟨_, rfl, rfl, rfl⟩⟩⟩
  · exact ⟨_, execLaneLoadComplete_splitB h1 h2 h3, State.modLane_lane .., rfl⟩
  · exact ⟨_, execLaneLoadComplete_copy h1 h2 h3 h4 h5, State.modLane_lane .., rfl⟩
  · refine ⟨_, execStateCopyPassComplete_ok hc hs hp last, rfl, fun hne sc hsc => ?_⟩
    rw [State.modHub_lane, State.modLane_lane_ne _ _ _ (Ne.symm hne), State.copyImage_eq hsc, State.modLane_lane]
  · obtain ⟨t, he, h⟩ := execStateCopyTakeover_ok hc hp hb h0 hk
    have htaken : s.takenOver c = s.takeover src c.target := by rw [State.takenOver, hs]
    obtain ⟨hagreed, hregs⟩ := State.takeover_lane hne hsc
    have hlane : t.lane c.target = (s.takeover src c.target).lane c.target := by
      rw [h.lanes, ← htaken]
      rfl
    have hmode : (s.copied c).hub.power.mode = s.hub.power.mode := by rw [State.copied_hub]
    have hstate : (s.copied c).hub.laneState c.target = s.hub.laneState c.target := by
      rw [State.copied_hub]
      rfl
    refine ⟨t, he, by rw [hlane, hagreed], fun e n => ?_, h.warm, h.powerOn, fun k => (h.inPlace k).trans hstate,
      fun k hm => h.join k (hmode.trans hm), fun k hm => h.joinSpare k (hmode.trans hm), h.copy⟩
    exact (congrArg (fun l : Lane => l.eng[e].regs[n]) hlane).trans (hregs e n)
  · obtain ⟨t, he, h⟩ := execStateCopyTakeover_ok hc hp hb h0 (by rw [hk]; decide)
    refine ⟨t, he, h.powerOn hk, h.copy, fun e => ?_⟩
    have htaken : (s.copied c).lane c.target = (s.takenOver c).lane c.target := rfl
    have hlane := h.lanes c.target
    simp only [htaken, State.takenOver, hs, State.modLane_lane] at hlane
    refine (congrArg (fun l : Lane => l.eng[e].regs) hlane).trans ?_
    exact (congrArg Engine.regs (vmap_getElem _ _ e.val e.isLt) :)
  · obtain ⟨t, he, hhub⟩ := execStateCopyTakeover_splitJoin hc hp hb hk h0 hj
    refine ⟨t, he, ?_, ?_, by rw [hhub]⟩
    · rw [hhub, bit_setBit]
      simp
    · rw [hhub]
      rfl
  · refine ⟨_, execLatentLimitAction_eq hb, fun j => ?_⟩
    rw [State.latentActions_clear allLanes hm j]
    simp [mem_allLanes]

end Sys2Proof.Machine
end

section
/-! What the operations on an engine, a memory and a lane keep of the invariant of `Lane.good`: g0 and p0 hard-wired (R62) and the
memory canonical. -/
namespace Sys2Proof.Machine

/-! ### Engines -/

namespace Engine
variable {e : Engine}

theorem hard_of_cleared {e' : Engine} (hr : e'.regs = Vector.replicate 64 0#32) (hp : e'.preds = 1#8) : e'.hard := by
  refine ⟨?_, by rw [hp]; rfl⟩
  rw [hr]
  rfl

theorem hard_record (dead : Bool) (cls : Nat) (v : Word) (h : e.hard) : (e.record dead cls v).hard := by
  unfold record
  split <;> exact h

theorem hard_writeReg (n : BitVec 6) (v : Word) (dead : Bool) (h : e.hard) : (e.writeReg n v dead).hard := by
  unfold writeReg
  split
  · exact h
  next hn =>
    refine hard_record _ _ _ ⟨?_, ?_⟩
    · have hn' : n.toNat ≠ 0 := fun h0 => hn (BitVec.eq_of_toNat_eq h0)
      simp only [setReg, hn, if_false]
      rw [Vector.getElem_set_ne _ _ hn']
      exact h.1
    · simp only [setReg, hn, if_false]
      exact h.2

theorem hard_writePred (n : BitVec 3) (b dead : Bool) (h : e.hard) : (e.writePred n b dead).hard := by
  unfold writePred
  split
  · exact h
  next hn =>
    have hn' : n.toNat ≠ 0 := fun h0 => hn (BitVec.eq_of_toNat_eq h0)
    have hbit : (1#8 <<< n.toNat).getLsbD 0 = false := by simp [Nat.pos_of_ne_zero hn']
    refine hard_record _ _ _ ?_
    simp only [setPred, hn, if_false]
    refine ⟨h.1, ?_⟩
    have h2 := h.2
    cases b
    · simp only [Bool.false_eq_true, if_false, BitVec.getLsbD_and, BitVec.getLsbD_not, hbit, h2]
      rfl
    · simp only [if_true, BitVec.getLsbD_or, h2, Bool.true_or]

theorem hard_setLc (lc : Bool) (v : Word) (h : e.hard) : (e.setLc lc v).hard := by
  unfold setLc
  split <;> exact h

theorem hard_writeOp (o : Op) (h : e.hard) : (e.writeOp o).hard := by
  unfold writeOp
  split
  · exact h
  · exact hard_writeReg _ _ _ h
  · exact hard_writeReg _ _ _ (hard_writeReg _ _ _ h)
  · exact hard_writePred _ _ _ h

theorem hard_writeOps (os : List Op) (h : e.hard) : (os.foldl writeOp e).hard := by
  induction os generalizing e with
  | nil => exact h
  | cons o os ih => exact ih (hard_writeOp o h)

theorem hard_writeDue (cyc : Nat) (h : e.hard) : (e.writeDue cyc).hard := hard_writeOps _ h

theorem hard_commitXset (h : e.hard) : e.commitXset.hard := by
  unfold commitXset
  split
  · exact h
  · exact hard_record _ _ _ (hard_record _ _ _ h)

theorem hard_recordStore (addr : Nat) (b : Bytes) (h : e.hard) : (e.recordStore addr b).hard := by
  have h' := hard_record false 0x48 (BitVec.ofNat 32 addr) h
  unfold recordStore
  split
  · exact hard_record _ _ _ h'
  · exact hard_record _ _ _ h'
  · exact hard_record _ _ _ (hard_record _ _ _ h')
  · exact hard_record _ _ _ h'

theorem hard_loopEnd (pc fuel : Nat) (h : e.hard) : (loopEnd pc fuel e).1.hard := by
  induction fuel generalizing e with
  | zero => exact h
  | succ fuel ih =>
    unfold loopEnd
    split
    · exact h
    split
    · exact h
    split
    · exact hard_setLc _ _ h
    · exact ih (hard_setLc _ _ h : Engine.hard _)

theorem hard_nextBundle (r : Running) (h : e.hard) : (e.nextBundle r).1.hard := by
  unfold nextBundle
  split
  · exact h
  split
  · exact h
  split
  · dsimp only
    split
    · exact hard_setLc _ _ h
    · exact hard_setLc _ _ h
  · exact hard_loopEnd _ _ h

theorem hard_endCycle (r : Running) (h : e.hard) : (e.endCycle r).hard := by
  unfold endCycle
  extract_lets issued e1 e2
  have h1 : e1.hard := hard_commitXset (hard_writeDue _ h)
  have h2 : e2.hard := by
    unfold e2
    split
    · exact hard_recordStore _ _ h1
    · exact h1
  have h3 : (if issued = true then e2.nextBundle r else (e2, { r with bubbles := r.bubbles - 1 })).1.hard := by
    split
    · exact hard_nextBundle r h2
    · exact h2
  exact h3

end Engine

/-! ### Memories -/

namespace Mem
variable {m : Mem}

theorem wf_foldl {ι : Type} {f : Mem → ι → Mem} (hf : ∀ (m : Mem) x, m.wf = true → (f m x).wf = true) (xs : List ι) (h : m.wf = true) :
    (xs.foldl f m).wf = true := by
  induction xs generalizing m with
  | nil => exact h
  | cons x xs ih => exact ih (hf m x h)

theorem wf_storeSafety (n : Nat) (x : SfState) (h : m.wf = true) : (x.store n m).wf = true := by
  unfold SfState.store
  exact Mem.wf_writeN h _ _

theorem wf_changeByte (a : Nat) (v : Byte) (h : m.wf = true) : (m.changeByte a v).1.wf = true := by
  unfold changeByte
  split
  · exact Mem.wf_write h ..
  · dsimp only
    split
    · exact Mem.wf_write h ..
    · exact Mem.wf_writeN (Mem.wf_write h ..) ..

theorem wf_changeBytes (a : Nat) (vs : Bytes) (h : m.wf = true) : (m.changeBytes a vs).1.wf = true := by
  induction vs generalizing m a with
  | nil => exact h
  | cons v vs ih => exact ih _ (wf_changeByte a v h)

theorem wf_setForce (r : RtReq) (kind : Nat) (h : m.wf = true) : (m.setForce r kind).wf = true := Mem.wf_writeN h ..

theorem wf_unforce (i : Nat) (h : m.wf = true) : (m.unforce i).wf = true := by
  unfold unforce
  refine Mem.wf_writeN ?_ _ _
  split
  · exact Mem.wf_writeN h ..
  · exact h

theorem wf_inputForces (t : Nat) (h : m.wf = true) : (m.inputForces t).wf = true := by
  unfold inputForces
  refine wf_foldl (fun m e hm => ?_) _ h
  split
  · exact Mem.wf_writeN hm ..
  · exact hm

theorem wf_writeDiff (a : Nat) (old d : Bytes) (h : m.wf = true) : (writeDiff m a old d).wf = true := by
  induction d generalizing m a old with
  | nil => exact h
  | cons v vs ih =>
    refine ih _ _ ?_
    split
    · exact h
    · exact Mem.wf_write h ..

theorem wf_putRegions (gs : List (Nat × Nat)) (d : Bytes) (h : m.wf = true) : (putRegions gs d m).wf = true := by
  induction gs generalizing m d with
  | nil => exact h
  | cons g gs ih => exact ih _ (Mem.wf_writeN h ..)

end Mem

/-! ### Lanes -/

namespace Lane
variable {l : Lane}

theorem good_vmapEng {f : Engine → Engine} (hf : ∀ e : Engine, e.hard → (f e).hard) (h : l.good) : Lane.good { l with eng := vmap f l.eng } :=
  ⟨h.1, fun e => (congrArg Engine.hard (vmap_getElem f l.eng e.val e.isLt)).mpr (hf _ (h.2 e))⟩

theorem good_foldl {ι : Type} {f : Lane → ι → Lane} (hf : ∀ (l : Lane) x, l.good → (f l x).good) (xs : List ι) (h : l.good) :
    (xs.foldl f l).good := by
  induction xs generalizing l with
  | nil => exact h
  | cons x xs ih => exact ih (hf l x h)

theorem good_setAborted (task cause clause : Nat) (h : l.good) : (l.setAborted task cause clause).good := by
  unfold setAborted
  split
  · exact h
  dsimp only
  split
  · exact h
  · exact ⟨Mem.wf_writeLe (Mem.wf_writeLe h.1 ..) .., h.2⟩

theorem good_load (sc : Schedule) (h : l.good) : (l.load sc).good :=
  ⟨Mem.wf_foldl (fun _ _ hm => Mem.wf_writeN hm ..) _ (Mem.wf_foldl (fun _ _ hm => Mem.wf_writeN hm ..) _ h.1), h.2⟩

theorem good_startSafety (c : Cfg) (h : l.good) : (l.startSafety c).good := by
  unfold startSafety
  refine good_foldl (fun l n hl => ?_) _ h
  dsimp only
  split
  · exact hl
  · exact Lane.good_withMem (fun hm => Mem.wf_storeSafety n _ hm) hl

theorem good_prepare (cfg : Cfg) (sc : Schedule) (changes : List Change) (retained : Option Retained) (h : l.good) :
    (l.prepare cfg sc changes retained).good := by
  unfold prepare
  extract_lets l1 l2 m1 m2 m3 m4
  have h1 : l1.good := good_vmapEng (fun e _ => Engine.hard_of_cleared rfl rfl) h
  have h2 : l2.good := good_load sc h1
  have hm1 : m1.wf = true := Mem.wf_foldl (fun m c hm => by
    split
    · exact Mem.wf_writeN hm ..
    · exact hm) _ h2.1
  have hm2 : m2.wf = true := by
    unfold m2
    split
    next r img _ _ =>
      have hfold (gs : List (Nat × Nat)) (p : Mem × Bytes) (hp : p.1.wf = true) : (gs.foldl (fun (e : Mem × Bytes) (g : Nat × Nat) =>
          (e.1.writeN g.1 (e.2.take g.2), e.2.drop g.2)) p).1.wf = true := by
        induction gs generalizing p with
        | nil => exact hp
        | cons g gs ih => exact ih _ (Mem.wf_writeN hp ..)
      exact hfold _ _ hm1
    · exact hm1
  have hm3 : m3.wf = true := Mem.wf_writeN (Mem.wf_writeN (Mem.wf_writeN hm2 ..) ..) ..
  have hm4 : m4.wf = true := Mem.wf_foldl (fun _ _ hm => Mem.wf_writeLe hm ..) _ hm3
  clear_value m4
  exact good_startSafety cfg ⟨hm4, h2.2⟩

theorem good_newTick (n : Nat) (first : Nat × Nat) (h : l.good) : (l.newTick n first).good := by
  unfold newTick
  generalize BitVec.allOnes 64 = ones
  exact ⟨h.1, fun e => (congrArg Engine.hard (vmap_getElem _ l.eng e.val e.isLt)).mpr (h.2 e)⟩

theorem good_tickInCycle (hub : Hub) (h : l.good) : (l.tickInCycle hub).good := by
  unfold tickInCycle
  split
  · exact h
  · refine ⟨Mem.wf_foldl (fun m t hm => ?_) _ h.1, h.2⟩
    dsimp only
    split
    · exact hm
    · exact Mem.wf_writeLe hm ..

theorem good_applyRequest (c : Cfg) (tA : Nat) (r : RtReq) (h : l.good) : (l.applyRequest c tA r).1.good := by
  unfold applyRequest
  extract_lets region
  clear_value region
  split
  · split
    · exact h
    · exact ⟨Mem.wf_changeBytes _ _ h.1, h.2⟩
  · split
    · exact h
    · exact ⟨Mem.wf_changeBytes _ _ h.1, h.2⟩
  · split
    · exact ⟨Mem.wf_setForce _ _ h.1, h.2⟩
    · exact h
  · split <;> exact h
  · exact h
  · exact h

theorem good_captureSafety (snap : Hub) (n : Nat) (h : l.good) : (l.captureSafety snap n).good := by
  unfold captureSafety
  exact Lane.good_withMem (fun hm => Mem.wf_writeN hm _ _) h

theorem good_inputStep (snap : Hub) (t j : Nat) (h : l.good) : (l.inputStep snap t j).good := by
  unfold inputStep
  extract_lets acc edges m1 mine m2 m3 fl m4 rt l1
  have h1 : m1.wf = true := Mem.wf_writeN (Mem.wf_writeN h.1 ..) ..
  have h2 : m2.wf = true := Mem.wf_foldl (fun _ _ hm => Mem.wf_unforce _ hm) _ h1
  have h3 : m3.wf = true := Mem.wf_inputForces t h2
  have h4 : m4.wf = true := Mem.wf_writeLe (Mem.wf_writeLe (Mem.wf_writeLe h3 ..) ..) ..
  clear_value m4
  have h5 : l1.good := ⟨h4, h.2⟩
  refine good_foldl (fun l n hl => ?_) _ h5
  split
  · exact good_captureSafety snap n hl
  · exact hl

theorem good_releaseFrame (v : Nat × Nat × Nat) (h : l.good) : (l.releaseFrame v).good := by
  unfold releaseFrame
  split
  split <;> exact h

theorem good_releaseMove (c : Cfg) (t : Nat) (v : Nat × Nat × Nat) (h : l.good) : (l.releaseMove c t v).good := by
  unfold releaseMove
  split
  extract_lets ok
  clear_value ok
  split
  · exact ⟨Mem.wf_writeN h.1 .., h.2⟩
  · exact h

theorem good_endCycle (t j : Nat) (aborted : Bool) (h : l.good) : (l.endCycle t j aborted).good := ⟨Mem.wf_writeLe h.1 .., h.2⟩

theorem good_bootLane (hub : Hub) (code : Nat) : (Lane.bootLane hub code).good := by
  unfold bootLane
  extract_lets start fresh
  have hfresh : fresh.good := Lane.good_default
  split
  · exact Lane.good_default
  split
  · exact good_load _ hfresh
  · exact hfresh

theorem good_azStart (k : Fin 16) (h : l.good) : (l.azStart k).good := by
  unfold azStart
  dsimp only
  split
  · exact ⟨Mem.wf_setAz _ _ _ _ h.1, h.2⟩
  · exact h

end Lane

end Sys2Proof.Machine
end

section
/-! What the operations on the state keep (`State.Keeps`): those that several commands share. -/
namespace Sys2Proof.Machine

variable {s t : State}

namespace State.Keeps

theorem andHub {f : Hub → Hub} (h : s.Keeps t) : s.Keeps (t.modHub f) := h.trans (.modHub t f)

theorem andLane {l : LaneId} {f : Lane → Lane} (h : s.Keeps t) (hf : ∀ k : Lane, k.good → (f k).good) : s.Keeps (t.modLane l f) :=
  h.trans (.modLane (hf _))

theorem andIf {c : Prop} [Decidable c] {u : State} (h : s.Keeps t) (hu : t.Keeps u) : s.Keeps (if c then u else t) :=
  h.trans (.ite (fun _ => hu) (fun _ => .refl t))

end State.Keeps

/-! ### The clause engine -/

theorem State.abortClause_keeps (k : Site) (c a : Nat) (o : Origin) (s : State) : s.Keeps (s.abortClause k c a o) :=
  .of_sameVisible (s.sameVisible_abortClause k c a o)

theorem State.retire_keeps (k : Site) (r : Running) (c : Nat) (s : State) : s.Keeps (s.retire k r c) :=
  (State.Keeps.modLane (Lane.good_setAborted r.task c r.clause)).trans (.modEng (f := Engine.idle) id)

theorem State.clauseRecord_keeps (k : Site) (r : Running) (c n : Nat) (s : State) : s.Keeps (s.clauseRecord k r c n) :=
  .of_lanes rfl rfl

theorem State.fetchCheck_keeps (k : Site) (s : State) : s.Keeps (s.fetchCheck k) := by
  unfold State.fetchCheck
  split
  · exact .refl s
  · exact .ite (fun _ => State.abortClause_keeps ..) (fun _ => .refl s)

theorem State.budgetInjection_keeps (k : Site) (s : State) : s.Keeps (s.budgetInjection k) := by
  unfold State.budgetInjection
  dsimp only
  split
  · refine .ite (fun _ => .refl s) (fun _ => (State.Keeps.modHub s _).trans (.ite (fun _ => .modHub ..) (fun _ => ?_)))
    exact (State.abortClause_keeps ..).trans (State.retire_keeps ..)
  · exact .refl s

/-! ### Transfers -/

theorem State.laneMbPush_keeps (l : LaneId) (n : Nat) (w : List Word) (e : EngineId) (s : State) : s.Keeps (s.laneMbPush l n w e) := by
  have hp : (s.laneMbPush l n w e).pending = s.pending := by
    unfold State.laneMbPush
    extract_lets m level arm injected real accepted pushed rejected detail report reported
    clear_value report arm
    split
    · rfl
    · split
      · cases arm <;> rfl
      · rfl
  rcases s.laneMbPush_lanes l n w e with h | h
  · exact .of_lanes h hp
  · have hset : s.Keeps (s.modEng ⟨l, e⟩ (fun e => { e with mbFull := true })) := .modEng id
    exact ⟨hp, fun hg m => by rw [State.lane_of_lanes h]; exact hset.good hg m⟩

theorem State.xferSource_keeps (l : LaneId) (x : Xfer) (sram : List (Nat × Ecc)) (dram : List DramErr) (s : State) :
    s.Keeps (s.xferSource l x sram dram).1 := by
  obtain ⟨f, h⟩ := s.xferSource_cases l x sram dram
  rw [h]
  exact .modHub s f

theorem Lane.good_markDirty (a n : Nat) {l : Lane} (h : l.good) : (l.markDirty a n).good := h

theorem State.xferDest_keeps (l : LaneId) (x : Xfer) (d : Bytes) (sram : List (Nat × Ecc)) (dram : List DramErr) (s : State) :
    s.Keeps (s.xferDest l x d sram dram) := by
  rcases s.xferDest_cases l x d sram dram with ⟨f, h⟩ | h | ⟨f, h⟩ | ⟨n, w, e, h⟩
  · rw [h]
    exact (State.Keeps.modLane (fun hg => ⟨Mem.wf_writeDiff _ _ _ hg.1, hg.2⟩)).trans (.modHub ..)
  · rw [h]
    exact .modLane id
  · rw [h]
    exact .modHub s f
  · rw [h]
    exact State.laneMbPush_keeps ..

theorem Lane.good_foldData (x : Xfer) (d : Bytes) {l : Lane} (h : l.good) : (l.foldData x d).good := by
  unfold Lane.foldData
  split <;> exact h

theorem State.endXfer_keeps (l : LaneId) (x : Xfer) (sram : List (Nat × Ecc)) (dram : List DramErr) (s : State) :
    s.Keeps (s.endXfer l x sram dram) := by
  unfold State.endXfer
  have h0 : s.Keeps (s.modLane l (fun k => { k with xfers := k.xfers.filter (fun y => y.index != x.index) })) := .modLane id
  refine h0.trans (.ite (fun _ => .refl _) (fun _ => ?_))
  extract_lets r s1
  have h1 : (s.modLane l (fun k => { k with xfers := k.xfers.filter (fun y => y.index != x.index) })).Keeps s1 :=
    (State.xferSource_keeps ..).trans (State.xferDest_keeps ..)
  have h2 : s1.Keeps (s1.modLane l (fun k => (k.foldData x r.2).issue x.index true)) :=
    .modLane (fun hg => Lane.good_foldData x r.2 hg)
  exact (h1.trans h2).trans (.modHub ..)

theorem State.beginXfer_keeps (l : LaneId) (index : Nat) (x : TransferEntry) (src dst : Port) (a b : Nat) (ok : Bool) (s : State) :
    s.Keeps (s.beginXfer l index x src dst a b ok) := .modLane id

theorem State.paramStart_keeps (l : LaneId) (index : Nat) (x : TransferEntry) (src dst : Port) (s : State) :
    s.Keeps (s.paramStart l index x src dst) := by
  unfold State.paramStart
  extract_lets slot a b sched ok arm s1 inj s2 s3
  clear_value ok arm
  have h1 : s.Keeps s1 := by
    cases arm with
    | none => exact .refl s
    | some x => exact .modHub s _
  have h2 : s1.Keeps s2 := by
    clear_value s1
    cases ok <;> cases arm
    case true.none => exact .refl s1
    all_goals exact .modHub s1 _
  have h3 : s2.Keeps s3 := .ite (fun _ => .modLane id) (fun _ => .refl s2)
  exact ((h1.trans h2).trans h3).trans (State.beginXfer_keeps ..)

/-! ### Frames between lanes -/

theorem State.frameCrc_keeps (link : Nat) (rx : Rx) (s : State) : s.Keeps (s.frameCrc link rx).1 :=
  .of_lanes (s.frameCrc_lanes link rx) (s.frameCrc_pending link rx)

theorem State.frameRx_keeps (l sender : LaneId) (kind : Nat) (rx : Rx) (s : State) : s.Keeps (s.frameRx l sender kind rx).1 :=
  (State.Keeps.modLane (l := l) (f := fun x => { x with heard := setBit x.heard (kind + sender.val) }) id).trans (State.frameCrc_keeps ..)

/-! ### Lane states and copies -/

theorem State.setLaneState_keeps (l : LaneId) (st : LaneState) (cause : Nat) (s : State) : s.Keeps (s.setLaneState l st cause) :=
  (s.setLaneState_moves l st cause).keeps

theorem State.startCopy_keeps (l : LaneId) (kind : CopyKind) (shown phase : Nat) (s : State) : s.Keeps (s.startCopy l kind shown phase) := by
  unfold State.startCopy
  exact .andHub (.andLane (.refl s) (fun _ hg => hg))

theorem State.copyImage_keeps (src dst : LaneId) (s : State) : s.Keeps (s.copyImage src dst) := by
  refine ⟨?_, fun hg m => ?_⟩
  · unfold State.copyImage
    split <;> rfl
  · unfold State.copyImage
    split
    · exact hg m
    · rw [State.modLane_lane_eq]
      split
      · exact ⟨Mem.wf_foldl (fun _ _ hm => Mem.wf_copyFrom hm (hg src).1 _ _) _ (hg dst).1, (hg dst).2⟩
      · exact hg m

theorem Engine.hard_takeLive (x : LiveEntry) {src dst : Engine} : (Engine.takeLive x src dst).hard := by
  refine ⟨?_, ?_⟩
  · refine (vmapIdx_getElem _ _ 0 (by decide)).trans ?_
    rw [if_neg (by simp)]
  · simp [Engine.takeLive]

theorem State.copyRegisters_keeps (src dst : LaneId) (s : State) : s.Keeps (s.copyRegisters src dst) := by
  unfold State.copyRegisters
  split
  · exact .refl s
  · refine .modLane (fun hg => ⟨hg.1, fun e => ?_⟩)
    exact (congrArg Engine.hard (vmapIdx_getElem _ _ e.val e.isLt)).mpr (Engine.hard_takeLive _)

theorem State.takeover_keeps (src dst : LaneId) (s : State) : s.Keeps (s.takeover src dst) :=
  ((State.copyImage_keeps src dst s).trans (State.copyRegisters_keeps ..)).trans (.modLane id)

theorem State.nextJoinCopy_keeps (s : State) : s.Keeps s.nextJoinCopy := by
  unfold State.nextJoinCopy
  split
  · exact (State.startCopy_keeps ..).trans (.modHub ..)
  · exact .refl s

theorem State.nextPowerCopy_keeps (s : State) : s.Keeps s.nextPowerCopy := by
  unfold State.nextPowerCopy
  split
  · extract_lets s1
    have h1 : s.Keeps s1 := .ite (fun _ => .refl s) (fun _ => State.setLaneState_keeps ..)
    exact .andHub (h1.trans (State.startCopy_keeps ..))
  · exact .refl s

theorem State.joinMove_keeps (s : State) : s.Keeps s.joinMove := by
  unfold State.joinMove
  refine .ite (fun _ => ?_) (fun _ => .refl s)
  refine State.Keeps.trans (State.Keeps.foldl (fun s l => ?_) _ s) ((State.Keeps.modHub ..).trans (State.nextJoinCopy_keeps _))
  exact (State.setLaneState_keeps ..).trans (.modLane id)

theorem State.laneAction_keeps (l : LaneId) (s : State) : s.Keeps (s.laneAction l) := by
  unfold State.laneAction
  split
  · exact State.setLaneState_keeps ..
  · exact .refl s

theorem State.lanePower_keeps (actions : List Nat) (s : State) : s.Keeps (s.lanePower actions) := by
  unfold State.lanePower
  refine State.Keeps.trans (State.Keeps.foldl (fun s l => ?_) _ s) (State.nextPowerCopy_keeps _)
  dsimp only
  split
  · have h : s.Keeps (if s.hub.active.isEmpty then s else s.setLaneState l .resync 0x0103) :=
      .ite (fun _ => .refl s) (fun _ => State.setLaneState_keeps ..)
    exact .andHub h
  · exact .modHub s _
  · exact .ite (fun _ => State.setLaneState_keeps ..) (fun _ => .modHub s _)
  · exact .refl s

theorem State.setLaneStates_keeps (st : LaneState) (cause : Nat) (ls : List LaneId) (s : State) :
    s.Keeps (ls.foldl (fun (s : State) (l : LaneId) => s.setLaneState l st cause) s) :=
  .foldl (fun _ _ => State.setLaneState_keeps ..) ls s

theorem State.laneActions_keeps (s : State) : s.Keeps s.laneActions := by
  unfold State.laneActions
  extract_lets with_ cold off need s1 s2 s3 spares s4
  have h3 : s.Keeps s3 := ((State.Keeps.modHub s _).trans (State.setLaneStates_keeps ..)).trans (State.setLaneStates_keeps ..)
  have h4 : s3.Keeps s4 := State.setLaneStates_keeps ..
  exact .ite (fun _ => .refl s) (fun _ => .ite (fun _ => h3) (fun _ => (h3.trans h4).trans
    (.ite (fun _ => .modHub ..) (fun _ => .refl s4))))

/-! ### Resets, boot and calibration -/

theorem State.Keeps.of_default {hub snap : Hub} : s.Keeps { s with hub := hub, snap := snap, lanes := Vector.replicate 4 {} } :=
  ⟨rfl, fun _ l => (congrArg Lane.good (Vector.getElem_replicate (n := 4) l.isLt)).mpr Lane.good_default⟩

theorem State.moduleReset_keeps (s : State) : s.Keeps s.moduleReset := .of_default

theorem State.holdInReset_keeps (s : State) : s.Keeps s.holdInReset := s.moduleReset_keeps.trans (.modHub ..)

theorem State.enterOff_keeps (s : State) : s.Keeps s.enterOff :=
  ((State.Keeps.modHub s _).trans (State.moduleReset_keeps _)).trans (.modHub ..)

theorem State.enterDormant_keeps (port : Nat) (s : State) : s.Keeps (s.enterDormant port) := by
  unfold State.enterDormant
  exact (State.Keeps.modHub s _).trans .of_default

theorem State.resetToLoad_keeps (s : State) : s.Keeps s.resetToLoad := by
  unfold State.resetToLoad
  exact (State.Keeps.andHub (f := fun h => h.hubStart.enterLoad 0 0) s.moduleReset_keeps).trans (.of_lanes rfl rfl)

theorem State.loadCalibration_keeps (fresh : Bool) (s : State) : s.Keeps (s.loadCalibration fresh) := by
  unfold State.loadCalibration
  refine State.Keeps.trans (State.Keeps.mapLanes (fun j l hg => ?_)) (.modHub ..)
  split
  · exact hg
  · have hm (f : Mem → Nat → Mem) (hf : ∀ m k, m.wf = true → (f m k).wf = true) :
        Lane.good { l with mem := (List.range 16).foldl f l.mem } := ⟨Mem.wf_foldl hf _ hg.1, hg.2⟩
    generalize List.range 16 = ks at hm ⊢
    split
    · exact hm _ (fun _ _ h => Mem.wf_writeN h _ _)
    · exact hm _ (fun _ _ h => Mem.wf_writeN h _ _)

/-- Lanes that start anew by their boot code. -/
theorem State.Keeps.of_boot {hub : Hub} {h : Hub} {code : Nat → Nat} :
    s.Keeps { s with hub := hub, lanes := vmapIdx (fun l _ => Lane.bootLane h (code l)) s.lanes } :=
  ⟨rfl, fun _ l => (congrArg Lane.good (vmapIdx_getElem _ s.lanes l.val l.isLt)).mpr (Lane.good_bootLane ..)⟩

theorem State.enterService_keeps (wake : Bool) (s : State) : s.Keeps (s.enterService wake) := by
  unfold State.enterService
  exact (State.Keeps.of_boot.trans (State.loadCalibration_keeps ..)).trans (.of_lanes rfl rfl)

theorem State.partnerPhase_keeps (wake : Bool) (s : State) : s.Keeps (s.partnerPhase wake) :=
  .ite (fun _ => .modHub ..) (fun _ => State.enterService_keeps ..)

theorem State.runBoot_keeps (s : State) : s.Keeps s.runBoot := by
  have hfail (h : Hub) : s.Keeps { s with hub := h, snap := h } := .of_lanes rfl rfl
  unfold State.runBoot
  dsimp only
  split
  · exact hfail _
  split
  · exact hfail _
  split
  · exact hfail _
  split
  · exact (State.Keeps.withHub s _).trans (State.partnerPhase_keeps ..)
  · exact hfail _

theorem State.returnToService_keeps (s : State) : s.Keeps s.returnToService := by
  unfold State.returnToService
  extract_lets fromSafe main s1 idle s2 s3 s4
  clear_value main
  have h1 : s.Keeps s1 := .foldl (fun s l => by
    split
    · exact State.setLaneState_keeps ..
    · cases main with
      | none => exact State.setLaneState_keeps ..
      | some sc => exact .andLane (State.setLaneState_keeps ..) (fun _ hg => Lane.good_load sc hg)
    · exact .refl s) _ s
  have h2 : s1.Keeps s2 := .mapLanes (fun i k hg => Lane.good_vmapEng (fun e _ => Engine.hard_of_cleared rfl rfl) hg)
  exact (((h1.trans h2).trans (.modHub ..)).trans (State.loadCalibration_keeps ..)).trans (.modHub ..)

/-! ### Measurement and trips -/

theorem State.evalSource_keeps (i : Nat) (o : Origin) (s : State) : s.Keeps (s.evalSource i o) :=
  (State.Keeps.modHub s _).trans (.ite (fun _ => .modHub ..) (fun _ => .refl _))

theorem State.evalCoarse_keeps (s : State) : s.Keeps s.evalCoarse := .foldl (fun _ _ => State.evalSource_keeps ..) _ s

theorem State.clearStuck_keeps (s : State) : s.Keeps s.clearStuck := .foldl (fun s _ => .modHub s _) _ s

theorem State.compareChannel_keeps (l : LaneId) (k : Nat) (s : State) : s.Keeps (s.compareChannel l k) := by
  unfold State.compareChannel
  extract_lets c x side
  have hside (s : State) (hi : Bool) : s.Keeps (side s hi) := by
    unfold side
    extract_lets i real arm forced s1 s2 s3
    have h1 : s.Keeps s1 := .modHub s _
    clear_value s1 arm
    have h2 : s1.Keeps s2 := by
      cases arm with
      | none => exact .refl s1
      | some a => exact .ite (fun _ => .modHub ..) (fun _ => .refl s1)
    clear_value s2
    have h3 : s2.Keeps s3 := State.evalSource_keeps ..
    clear_value s3
    refine ((h1.trans h2).trans h3).trans ?_
    cases arm with
    | none => exact .refl s3
    | some a => exact .modHub s3 _
  exact (hside s false).trans (hside _ true)

theorem State.compareGroup_keeps (l : LaneId) (g : Nat) (s : State) : s.Keeps (s.compareGroup l g) :=
  .foldl (fun _ _ => State.compareChannel_keeps ..) _ s

theorem State.clockLoss_keeps (l : LaneId) (g : Nat) (o : Origin) (s : State) : s.Keeps (s.clockLoss l g o) := by
  unfold State.clockLoss
  refine (State.Keeps.modHub s _).trans (.ite (fun _ => .refl _) (fun _ => ?_))
  exact (State.Keeps.modLane (l := l) id).trans (State.compareGroup_keeps ..)

theorem State.dataStuck_keeps (l : LaneId) (k : Nat) (level : Bool) (o : Origin) (s : State) : s.Keeps (s.dataStuck l k level o) := by
  unfold State.dataStuck
  refine (State.Keeps.modHub s _).trans (.ite (fun _ => .refl _) (fun _ => ?_))
  exact (State.Keeps.modLane (l := l) id).trans (State.compareChannel_keeps ..)

theorem State.forPowered_keeps {f : LaneId → State → State} (hf : ∀ l (s : State), s.Keeps (f l s)) (s : State) : s.Keeps (s.forPowered f) :=
  .foldl (fun s l => hf l s) _ s

/-! ### The runtime -/

theorem State.forcesChanged_keeps (l : LaneId) (s : State) : s.Keeps (s.forcesChanged l) := by
  unfold State.forcesChanged
  extract_lets fs s1
  clear_value fs
  have h1 : s.Keeps s1 := .modLane id
  refine h1.trans (.ite (fun _ => .refl s1) (fun _ => ?_))
  split
  · exact .modHub s1 _
  · exact .ite (fun _ => .refl s1) (fun _ => .modHub s1 _)

theorem State.inputMove_keeps (l : LaneId) (t : Nat) (v : Nat × Nat × Nat) (s : State) : s.Keeps (s.inputMove l t v) := by
  unfold State.inputMove
  split
  extract_lets ok bytes
  clear_value ok bytes
  split
  · exact .modLane (fun hg => ⟨Mem.wf_writeN hg.1 _ _, hg.2⟩)
  · exact .refl s

theorem State.reportOverrun_keeps (o : Overrun) (origin : Origin) (s : State) : s.Keeps (s.reportOverrun o origin) :=
  .ite (fun _ => .refl s) (fun _ => (State.Keeps.modHub s _).trans (.ite (fun _ => .refl _) (fun _ => .modHub ..)))

theorem State.freeze_keeps (l : LaneId) (j : Nat) (s : State) : s.Keeps (s.freeze l j) := by
  unfold State.freeze
  split
  · exact .refl s
  split
  · exact .refl s
  refine .ite (fun _ => .refl s) (fun _ => ?_)
  extract_lets tick busy data s1
  have h1 : s.Keeps s1 := .ite (fun _ => .refl s) (fun _ => .modLane id)
  exact h1.trans (.ite (fun _ => .refl s1) (fun _ => .modHub s1 _))

/-! ### Window writes and the release (R13, R22, R130) -/

theorem State.writeChCtrl_keeps (k w : Nat) (s : State) : s.Keeps (s.writeChCtrl k w) := by
  unfold State.writeChCtrl
  extract_lets s1
  have h1 : s.Keeps s1 := .modHub s _
  clear_value s1
  split
  · exact .andIf h1 (State.forPowered_keeps (fun _ _ => .modLane (Lane.good_azStart _)) _)
  · exact h1

theorem State.writeWord_keeps (parser : Bool) (block off w : Nat) (s : State) : s.Keeps (s.writeWord parser block off w) := by
  unfold State.writeWord
  split
  case h_1 | h_5 | h_6 | h_7 | h_9 | h_10 | h_11 | h_12 | h_14 => exact .modHub s _
  case h_3 =>
    refine .ite (fun _ => ?_) (fun _ => .refl s)
    exact .andIf (.andIf (.andIf (.refl s) (.mapLanes (fun _ _ hg => hg))) (.modHub ..)) (.modHub ..)
  case h_4 => exact .ite (fun _ => State.writeChCtrl_keeps ..) (fun _ => .refl s)
  case h_2 | h_8 | h_16 => exact .ite (fun _ => .modHub s _) (fun _ => .refl s)
  case h_13 => exact .ite (fun _ => .ite (fun _ => .modHub s _) (fun _ => .refl s)) (fun _ => .modHub s _)
  case h_15 => exact .ite (fun _ => .ite (fun _ => .modHub s _) (fun _ => .refl s)) (fun _ => .modHub s _)
  case h_17 =>
    split
    · exact .ite (fun _ => .modHub s _) (fun _ => .refl s)
    · exact .refl s
  case h_18 => exact .refl s

theorem State.writeWords_keeps (parser : Bool) (ws : List (Nat × Nat × Nat)) (s : State) :
    s.Keeps (ws.foldl (fun (s : State) w => s.writeWord parser w.1 w.2.1 w.2.2) s) := .foldl (fun _ _ => State.writeWord_keeps ..) ws s

theorem State.sfReleased_keeps (old : Vector Nat 8) (words : List (Nat × Nat × Nat)) (s : State) : s.Keeps (s.sfReleased old words) :=
  .foldl (fun s _ => .ite (fun _ => .modHub s _) (fun _ => .refl s)) _ s

theorem State.applyWords_keeps (words : List (Nat × Nat × Nat)) (s : State) : s.Keeps (s.applyWords words) := by
  unfold State.applyWords
  exact .andHub ((State.writeWords_keeps false words s).trans (State.sfReleased_keeps ..))

theorem State.parserRelease_keeps (words : List (Nat × Nat × Nat)) (s : State) : s.Keeps (s.parserRelease words) := by
  unfold State.parserRelease
  exact .andHub (.trans (.modHub s _) (State.writeWords_keeps ..))

theorem State.crossCheck_keeps (s : State) : s.Keeps s.crossCheck.1 := by
  unfold State.crossCheck
  extract_lets a b s1
  have h1 : s.Keeps s1 := .modHub s _
  clear_value s1 a b
  split
  · exact .andHub h1
  split
  · exact .andHub h1
  split
  · split
    · exact h1.trans (.of_lanes rfl rfl)
    · exact .andHub h1
  · exact h1

/-! ### Substitution (R408) -/

theorem State.substituteLane_keeps (j : LaneId) (h : s.substituteLane j = some t) : s.Keeps t := by
  unfold State.substituteLane at h
  split at h
  · cases h
  split at h
  · obtain rfl := Option.some.inj h
    refine State.Keeps.trans (t := ((s.setLaneState _ .active 0x0815).setLaneState j .resync 0x0815).startCopy j .warm 2 1) ?_
      (.ite (fun _ => .modHub ..) (fun _ => .refl _))
    exact ((State.setLaneState_keeps ..).trans (State.setLaneState_keeps ..)).trans (State.startCopy_keeps ..)
  · cases h

theorem State.substitute_keeps (e : WearEntry) (s : State) : s.Keeps (s.substitute e) := by
  unfold State.substitute
  dsimp only
  split
  case h_1 | h_2 => exact .ite (fun _ => .refl s) (fun _ => .modHub s _)
  case h_3 =>
    split
    · exact .refl s
    · exact .ite (fun _ => .refl s) (fun _ => .modHub s _)
  case h_4 =>
    split
    · exact .refl s
    split
    next ht => exact .andHub (State.substituteLane_keeps _ ht)
    · exact .refl s
  case h_5 => exact .ite (fun _ => .refl s) (fun _ => .modHub s _)
  case h_6 | h_7 | h_8 => exact .modHub s _
  case h_9 => exact .refl s

theorem State.serve_keeps (x : State × List (Nat × Nat × Nat)) (e : WearEntry) : x.1.Keeps (State.serve x e).1 := by
  obtain ⟨s, held⟩ := x
  unfold State.serve
  dsimp -zeta only
  extract_lets free started
  clear_value free started
  split
  · exact .refl s
  split
  · exact .of_lanes rfl rfl
  · exact (State.Keeps.modHub s _).trans (State.substitute_keeps ..)

theorem State.serves_keeps (es : List WearEntry) (x : State × List (Nat × Nat × Nat)) : x.1.Keeps (es.foldl State.serve x).1 := by
  induction es generalizing x with
  | nil => exact .refl x.1
  | cons e es ih => exact (State.serve_keeps x e).trans (ih _)

/-! ### Requests and packets (R419, R424) -/

/-- What any opcode executes. -/
theorem Opcode.act_keeps (o : Opcode) (r : Req) (p : Bytes) (s : State) : s.Keeps (o.spec.act r p s) := by
  cases o
  case laneBringIn =>
    unfold Opcode.spec opLaneBringIn
    dsimp only
    split
    · exact .refl s
    · exact .andHub ((State.setLaneState_keeps ..).trans (State.startCopy_keeps ..))
  case setPower =>
    unfold Opcode.spec opSetPower
    dsimp only
    have h := (State.Keeps.modHub s (Hub.reply r .setPower .ok (beBytes 1 (u8 p 0) ++
      beBytes 1 (ofBits (((slice p 2 4).map BitVec.toNat).map (fun a => a != 0)))))).trans
        (State.lanePower_keeps ((slice p 2 4).map BitVec.toNat) _)
    split
    · exact h.trans (State.enterOff_keeps _)
    · exact h.trans (State.enterDormant_keeps _ _)
    · exact h.trans (State.resetToLoad_keeps _)
    · exact .andHub h
    · exact h
  case resetModule =>
    unfold Opcode.spec opResetModule
    exact (State.Keeps.modHub s _).trans (.ite (fun _ => State.resetToLoad_keeps _) (fun _ => State.moduleReset_keeps _))
  case readVariable | listForces | getChannel =>
    simp only [Opcode.spec, opReadVariable, opListForces, opGetChannel]
    split
    · exact .refl s
    · exact .modHub s _
  case laneSelfTest | inject =>
    simp only [Opcode.spec, opLaneSelfTest, opInject]
    split <;> exact .of_lanes rfl rfl
  case writeVariable | changeConstant =>
    simp only [Opcode.spec, opChange]
    split
    · exact .refl s
    · split <;> exact .of_lanes rfl rfl
  case force =>
    simp only [Opcode.spec, opForce]
    split
    · split <;> exact .of_lanes rfl rfl
    · exact .refl s
  case unforce =>
    simp only [Opcode.spec, opUnforce]
    split
    · split <;> exact .of_lanes rfl rfl
    split
    · exact .modHub s _
    · split <;> exact .of_lanes rfl rfl
  case rescan =>
    change s.Keeps (opRescan.act r p s)
    unfold opRescan
    generalize List.range 32 = stations
    exact .of_lanes rfl rfl
  all_goals exact .of_lanes rfl rfl

/-- A request of any opcode. -/
theorem Opcode.run_keeps (o : Opcode) (r : Req) (p : Bytes) (s : State) : s.Keeps (o.spec.run r p s) :=
  OpSpec.run_keeps (fun r p s => o.act_keeps r p s) r p s

theorem State.dispatch_keeps (r : Req) (opcode : Nat) (p tag : Bytes) (s : State) : s.Keeps (s.dispatch r opcode p tag) := by
  unfold State.dispatch
  extract_lets s1
  have h1 : s.Keeps s1 := .modHub s _
  clear_value s1
  refine h1.trans ?_
  split
  · exact Opcode.run_keeps ..
  · exact .modHub ..

theorem State.authenticated_keeps (r : Req) (opcode : Nat) (p tag : Bytes) (s : State) : s.Keeps (s.authenticated r opcode p tag) := by
  unfold State.authenticated
  dsimp only
  split
  case h_4 => exact (State.Keeps.withHub s _).trans (State.dispatch_keeps ..)
  all_goals exact .of_lanes rfl rfl

theorem State.command_keeps (transport source port : Nat) (b : Bytes) (s : State) : s.Keeps (s.command transport source port b) := by
  unfold State.command
  exact .ite (fun _ => .refl s) (fun _ => .ite (fun _ => .modHub s _) (fun _ => .ite (fun _ => .modHub s _) (fun _ =>
    .ite (fun _ => .modHub s _) (fun _ => .ite (fun _ => .modHub s _) (fun _ => .ite (fun _ => .modHub s _) (fun _ =>
    .ite (fun _ => .modHub s _) (fun _ => State.authenticated_keeps ..)))))))

theorem State.mb0Run_keeps (fuel : Nat) (s : State) : s.Keeps (s.mb0Run fuel) := by
  induction fuel generalizing s with
  | zero => exact .refl s
  | succ fuel ih =>
    unfold State.mb0Run
    extract_lets b keep refuse
    have hkeep (rest : Bytes) (bad : Bool) (s : State) : s.Keeps (keep rest bad s) := .modHub s _
    have hrefuse (st : Status) (hd : Bytes) (s : State) : s.Keeps (refuse st hd s) := .modHub s _
    clear_value b keep refuse
    refine .ite (fun _ => .refl s) (fun _ => .ite (fun _ => ?_) (fun _ => .ite (fun _ => hkeep ..) (fun _ => ?_)))
    · exact ((State.Keeps.ite (fun _ => .refl s) (fun _ => hrefuse ..)).trans (hkeep ..)).trans (ih _)
    · refine .ite (fun _ => ?_) (fun _ => .ite (fun _ => hkeep ..) (fun _ => ?_))
      · exact ((hrefuse ..).trans (hkeep ..)).trans (ih _)
      · exact ((hkeep ..).trans (State.command_keeps ..)).trans (ih _)

theorem State.mb0Words_keeps (w : List Word) (s : State) : s.Keeps (s.mb0Words w) := by
  unfold State.mb0Words
  exact (State.Keeps.modHub s _).trans (State.mb0Run_keeps ..)

theorem State.partnerCommand_keeps (p : Bytes) (s : State) : s.Keeps (s.partnerCommand p) :=
  .ite (fun _ => .modHub s _) (fun _ => .ite (fun _ => State.command_keeps ..) (fun _ => .refl s))

theorem State.rackPart_keeps (i : Nat) (b : Bytes) (s : State) : s.Keeps (s.rackPart i b) := by
  unfold State.rackPart
  extract_lets now x held d put all s1
  have hput (p : Option (Nat × Bytes)) : s.Keeps (put p) := .modHub s _
  clear_value put
  exact .ite (fun _ => hput _) (fun _ => .ite (fun _ => .andIf (hput _) (State.command_keeps ..)) (fun _ => hput _))

theorem State.rackTake_keeps (i : Nat) (ask : RackAsk) (b : Bytes) (s : State) : s.Keeps (s.rackTake i ask b) := by
  unfold State.rackTake
  extract_lets type body tag s1
  have h1 : s.Keeps s1 := .modHub s _
  clear_value s1 type
  refine h1.trans ?_
  split
  case h_3 =>
    split
    · exact .modHub s1 _
    · exact .refl s1
  case h_5 => exact State.rackPart_keeps ..
  case h_8 => exact .refl s1
  all_goals exact .modHub s1 _

/-! ### Injections (R508 to R513) -/

theorem State.injectCollapse_keeps (o : Origin) (s : State) : s.Keeps (s.injectCollapse o) :=
  (State.Keeps.modHub s _).trans (.ite (fun _ => .refl _) (fun _ => State.holdInReset_keeps _))

theorem State.applyInjection_keeps (j : Injection) (s : State) : s.Keeps (s.applyInjection j) := by
  unfold State.applyInjection
  dsimp only
  split
  case h_1 => exact .foldl (fun _ _ => State.clockLoss_keeps ..) _ s
  case h_2 => exact (State.Keeps.modHub s _).trans (.foldl (fun _ _ => State.dataStuck_keeps ..) _ _)
  case h_12 =>
    split
    · exact .modHub s _
    · exact .refl s
  case h_15 => exact .foldl (fun s _ => .modHub s _) _ s
  case h_18 => exact State.injectCollapse_keeps ..
  all_goals exact .of_lanes rfl rfl

end Sys2Proof.Machine
end

section
/-! Settles O59 and O60: every command is answered with a next state, leaves the queue, and keeps the invariant of `Lane.good`. The cases
stand in the order of the model's chapters. -/
namespace Sys2Proof.Machine

variable {s : State}

/-! ### Power and boot (chapters 18 and 19) -/

theorem execPowerOn_keeps (now : Nat) : ∃ t, execPowerOn now s = .next t ∧ s.Keeps t :=
  ⟨_, rfl, .ite (fun _ => .modHub s _) (fun _ => .refl s)⟩

theorem execBoot_keeps (now : Nat) : ∃ t, execBoot now s = .next t ∧ s.Keeps t :=
  ⟨_, rfl, .ite (fun _ => (State.Keeps.modHub s _).trans (State.runBoot_keeps _)) (fun _ => .refl s)⟩

theorem execPartnerHandshakeEnd_keeps (now : Nat) : ∃ t, execPartnerHandshakeEnd now s = .next t ∧ s.Keeps t :=
  ⟨_, rfl, (State.Keeps.modHub s (Hub.at_ now)).trans
    (.ite (fun _ => (State.Keeps.modHub _ _).trans (State.enterService_keeps ..)) (fun _ => .refl _))⟩

theorem execDormantWake_keeps (now : Nat) : ∃ t, execDormantWake now s = .next t ∧ s.Keeps t :=
  ⟨_, rfl, .ite (fun _ => (State.Keeps.modHub s _).trans (State.partnerPhase_keeps ..)) (fun _ => .refl s)⟩

theorem execRstNLow_keeps (durationNs now : Nat) : ∃ t, execRstNLow durationNs now s = .next t ∧ s.Keeps t := by
  refine ⟨_, rfl, ?_⟩
  extract_lets seen s1 s2
  have h1 : s.Keeps s1 := .modHub s _
  have h2 : s1.Keeps s2 := .modHub s1 _
  exact .ite (fun _ => h1) (fun _ => .ite (fun _ => h1.trans h2) (fun _ => (h1.trans h2).trans (State.moduleReset_keeps s2)))

theorem execHoldupCollapse_keeps (now : Nat) (rstLow : Bool) : ∃ t, execHoldupCollapse now rstLow s = .next t ∧ s.Keeps t := by
  refine ⟨_, rfl, (State.Keeps.modHub s (Hub.at_ now)).trans ?_⟩
  exact .ite (fun _ => .refl _) (fun _ => .ite (fun _ => State.holdInReset_keeps _)
    (fun _ => (State.Keeps.modHub _ _).trans (State.holdInReset_keeps _)))

/-! ### The tick (chapter 02) -/

theorem execTickStartMarker_keeps (now : Nat) : ∃ t, execTickStartMarker now s = .next t ∧ s.Keeps t :=
  ⟨_, rfl, .ite (fun _ => (State.Keeps.withHub s _).trans (.mapLanes (fun _ _ hg => hg))) (fun _ => .refl s)⟩

theorem execTickStart_keeps (lane : LaneId) (now : Nat) (fines : List Int) : ∃ t, execTickStart lane now fines s = .next t ∧ s.Keeps t := by
  refine ⟨_, rfl, ?_⟩
  refine .ite (fun _ => .refl s) (fun _ => ?_)
  extract_lets s1 s2 h
  have h1 : s.Keeps s1 := .modHub s _
  have h2 : s1.Keeps s2 := (State.Keeps.modHub s1 _).trans (State.laneAction_keeps ..)
  refine (h1.trans h2).trans (.ite (fun _ => .refl s2) (fun _ => .modLane (fun hg => ?_)))
  have hsample := Lane.good_newTick h.nCycles h.startNumbers hg
  exact Lane.good_tickInCycle h ⟨hsample.1, hsample.2⟩

theorem State.voteEffects_keeps (s : State) : s.Keeps s.voteEffects := by
  unfold State.voteEffects
  extract_lets s1
  have h1 : s.Keeps s1 := .foldl (fun s l => State.laneAction_keeps l s) _ s
  clear_value s1
  refine h1.trans ?_
  split
  · exact .modHub s1 _
  · exact .refl s1

theorem State.modeEffect_keeps (s : State) : s.Keeps s.modeEffect := by
  unfold State.modeEffect
  split
  · exact .ite (fun _ => State.returnToService_keeps s) (fun _ => .refl s)
  · exact .refl s

theorem execHubTickStart_keeps (now : Nat) : ∃ t, execHubTickStart now s = .next t ∧ s.Keeps t := by
  refine ⟨_, rfl, ?_⟩
  refine .ite (fun _ => .refl s) (fun _ => ?_)
  extract_lets s1 s2 s3 contrib s4 s5 s6 s7
  have h1 : s.Keeps s1 := .of_lanes rfl rfl
  have h2 : s1.Keeps s2 := (((State.voteEffects_keeps s1).trans (State.modeEffect_keeps _)).trans (State.laneActions_keeps _)).trans
    ((State.nextPowerCopy_keeps _).trans (State.joinMove_keeps _))
  have h3 : s2.Keeps s3 := .modHub s2 _
  have h4 : s3.Keeps s4 := .ite (fun _ => State.loadCalibration_keeps ..) (fun _ => .refl s3)
  have h5 : s4.Keeps s5 := (State.clearStuck_keeps s4).trans (.modHub ..)
  have h6 : s5.Keeps s6 := .ite (fun _ => .refl s5) (fun _ => State.evalCoarse_keeps s5)
  have h7 : s6.Keeps s7 := .modHub s6 _
  clear_value s7
  have h8 : s7.Keeps { s7 with snap := s7.hub } := .of_lanes rfl rfl
  exact ((h1.trans h2).trans (h3.trans h4)).trans ((h5.trans h6).trans (h7.trans h8))

theorem execTickMarkerReceived_keeps (lane sender : LaneId) (offset : Int) :
    ∃ t, execTickMarkerReceived lane sender offset s = .next t ∧ s.Keeps t :=
  ⟨_, rfl, .ite (fun _ => .modLane id) (fun _ => .refl s)⟩

theorem execGuardAlignment_keeps (lane : LaneId) : ∃ t, execGuardAlignment lane s = .next t ∧ s.Keeps t :=
  ⟨_, rfl, .ite (fun _ => .modLane id) (fun _ => .refl s)⟩

theorem execSteerRateUpdate_keeps (f : Int) : ∃ t, execSteerRateUpdate f s = .next t ∧ s.Keeps t :=
  ⟨_, rfl, .ite (fun _ => .modHub s _) (fun _ => .refl s)⟩

/-! ### Clauses and transfers (chapters 03 and 04) -/

theorem execClauseStart_keeps (lane : LaneId) (clause : Nat) (ecc : Ecc) : ∃ t, execClauseStart lane clause ecc s = .next t ∧ s.Keeps t := by
  refine ⟨_, rfl, ?_⟩
  split
  · exact .refl s
  split
  · exact .refl s
  next c _ =>
  split
  · exact .refl s
  next e _ =>
  refine .ite (fun _ => .refl s) (fun _ => ?_)
  extract_lets s1
  have h1 : s.Keeps s1 := .modEng (k := ⟨lane, e⟩) (f := Engine.startClause clause c) id
  clear_value s1
  refine h1.trans (.ite (fun _ => .of_lanes rfl rfl) (fun _ => ?_))
  split
  · exact .refl s1
  · exact (State.abortClause_keeps ..).trans (State.retire_keeps ..)

theorem execOperationWriteback_keeps (site : Site) : ∃ t, execOperationWriteback site s = .next t ∧ s.Keeps t := by
  refine ⟨_, rfl, ?_⟩
  split
  · exact .refl s
  next r _ =>
  refine .ite (fun _ => .refl s) (fun _ => ?_)
  extract_lets s1 s2 s3
  have h1 : s.Keeps s1 := State.keeps_advance ..
  have h2 : s1.Keeps s2 := by
    unfold s2
    clear_value s1
    split
    · exact .refl s1
    · exact .modLane (fun hg => ⟨Mem.wf_writeN hg.1 _ _, hg.2⟩)
  have h3 : s2.Keeps s3 := .modEng (Engine.hard_endCycle r)
  clear_value s3
  refine ((h1.trans h2).trans h3).trans ?_
  split
  · exact (State.fetchCheck_keeps ..).trans (State.budgetInjection_keeps ..)
  · exact .ite (fun _ => State.retire_keeps ..) (fun _ => .refl s3)

theorem execClauseComplete_keeps (site : Site) : ∃ t, execClauseComplete site s = .next t ∧ s.Keeps t := by
  refine ⟨_, rfl, ?_⟩
  split
  · exact .refl s
  next r _ =>
  refine .ite (fun _ => ?_) (fun _ => .refl s)
  have h : s.Keeps (s.modEng site (fun e => { e.idle with prevAbort := false, prevCause := 0, lastClause := r.clause })) := .modEng id
  exact h.trans (State.clauseRecord_keeps ..)

theorem execClauseBudget_keeps (site : Site) : ∃ t, execClauseBudget site s = .next t ∧ s.Keeps t := by
  refine ⟨_, rfl, ?_⟩
  split
  · exact .refl s
  next r _ =>
  refine .ite (fun _ => ?_) (fun _ => .refl s)
  extract_lets s1
  have h1 : s.Keeps s1 := (State.abortClause_keeps ..).trans (State.retire_keeps ..)
  clear_value s1
  refine h1.trans ?_
  split
  · exact .modHub s1 _
  · exact .refl s1

theorem execTransferStart_keeps (lane : LaneId) (index : Nat) : ∃ t, execTransferStart lane index s = .next t ∧ s.Keeps t := by
  refine ⟨_, rfl, ?_⟩
  split
  · exact .refl s
  split
  · exact .refl s
  split
  · refine .ite (fun _ => .refl s) (fun _ => ?_)
    extract_lets s1
    have h1 : s.Keeps s1 := State.keeps_advance ..
    exact h1.trans (.ite (fun _ => State.paramStart_keeps ..) (fun _ => State.beginXfer_keeps ..))
  · exact .refl s

theorem execTransferComplete_keeps (lane : LaneId) (index : Nat) (sram : List (Nat × Ecc)) (dram : List DramErr) :
    ∃ t, execTransferComplete lane index sram dram s = .next t ∧ s.Keeps t := by
  refine ⟨_, rfl, ?_⟩
  split
  · exact .refl s
  next x _ =>
  extract_lets s1
  have h1 : s.Keeps s1 := State.keeps_advance ..
  clear_value s1
  refine h1.trans ?_
  split
  · exact .refl s1
  · exact State.endXfer_keeps ..

theorem execTransferPacketRetry_keeps (lane : LaneId) (index delay : Nat) (failed : Bool) :
    ∃ t, execTransferPacketRetry lane index delay failed s = .next t ∧ s.Keeps t := by
  refine ⟨_, rfl, ?_⟩
  split
  · exact .refl s
  refine .ite (fun _ => .refl s) (fun _ => ?_)
  extract_lets s1 late s2
  have h1 : s.Keeps s1 := .modHub s _
  have h2 : s1.Keeps s2 := .modLane id
  exact .andIf (h1.trans h2) (.modHub ..)

/-! ### Agreement and the vote (chapter 05) -/

theorem execAgreementFrameReceived_keeps (lane sender : LaneId) (rx : Rx) :
    ∃ t, execAgreementFrameReceived lane sender rx s = .next t ∧ s.Keeps t := by
  refine ⟨_, rfl, .ite (fun _ => ?_) (fun _ => .refl s)⟩
  have h := s.frameRx_keeps lane sender 0 rx
  generalize s.frameRx lane sender 0 rx = p at h ⊢
  exact .andIf h (.modLane id)

theorem execReceiptVectorSend_keeps (lane : LaneId) : ∃ t, execReceiptVectorSend lane s = .next t ∧ s.Keeps t :=
  ⟨_, rfl, .ite (fun _ => .andLane (s.reportMissing_keeps lane 0) (fun _ hg => hg)) (fun _ => .refl s)⟩

theorem execReceiptVectorReceived_keeps (lane sender : LaneId) (rx : Rx) :
    ∃ t, execReceiptVectorReceived lane sender rx s = .next t ∧ s.Keeps t := by
  refine ⟨_, rfl, .ite (fun _ => ?_) (fun _ => .refl s)⟩
  have h := s.frameRx_keeps lane sender 4 rx
  generalize s.frameRx lane sender 4 rx = p at h ⊢
  exact .andIf h (.modLane id)

theorem execAgreementSelection_keeps (lane : LaneId) : ∃ t, execAgreementSelection lane s = .next t ∧ s.Keeps t := by
  by_cases h : s.hub.time.running = true ∧ s.powered lane = true
  · obtain ⟨t, -, he, hk, -⟩ := execAgreementSelection_ok h.1 h.2
    exact ⟨t, he, hk⟩
  · refine ⟨s, ?_, .refl s⟩
    unfold execAgreementSelection
    exact congrArg Host.Outcome.next (if_pos (by simpa [Decidable.imp_iff_not_or] using h))

theorem execSignatureCapture_keeps (lane : LaneId) : ∃ t, execSignatureCapture lane s = .next t ∧ s.Keeps t := by
  refine ⟨_, rfl, .ite (fun _ => .modLane (fun hg => ⟨hg.1, fun e => ?_⟩)) (fun _ => .refl s)⟩
  exact (congrArg Engine.hard (vmap_getElem _ _ e.val e.isLt)).mpr (hg.2 e)

theorem execSignatureFrameSend_keeps (lane : LaneId) : ∃ t, execSignatureFrameSend lane s = .next t ∧ s.Keeps t :=
  ⟨_, rfl, .ite (fun _ => .modLane id) (fun _ => .refl s)⟩

theorem execSignatureFrameReceived_keeps (lane sender : LaneId) (rx : Rx) :
    ∃ t, execSignatureFrameReceived lane sender rx s = .next t ∧ s.Keeps t := by
  refine ⟨_, rfl, .ite (fun _ => ?_) (fun _ => .refl s)⟩
  have h := s.frameRx_keeps lane sender 8 rx
  generalize s.frameRx lane sender 8 rx = p at h ⊢
  refine h.trans ?_
  dsimp only
  split
  · exact .ite (fun _ => .modLane id) (fun _ => .refl _)
  · exact .refl _

theorem execVerdictFormation_keeps (lane : LaneId) : ∃ t, execVerdictFormation lane s = .next t ∧ s.Keeps t := by
  refine ⟨_, rfl, .ite (fun _ => ?_) (fun _ => .refl s)⟩
  extract_lets s1 s2
  have h1 : s.Keeps s1 := s.reportMissing_keeps lane 8
  have h2 : s1.Keeps s2 := (State.evaluateAlignment_compared ..).1.keeps
  have h3 := (State.selfTest_compared lane s2).1.keeps
  generalize s2.selfTest lane = p at h3 ⊢
  exact .andLane ((h1.trans h2).trans h3) (fun _ hg => hg)

theorem execVoteVectorReceived_keeps (dest : Rcv) (sender : LaneId) (rx : Rx) :
    ∃ t, execVoteVectorReceived dest sender rx s = .next t ∧ s.Keeps t := by
  refine ⟨_, rfl, ?_⟩
  split
  next l =>
    refine .ite (fun _ => ?_) (fun _ => .refl s)
    have h := s.frameRx_keeps l sender 12 rx
    generalize s.frameRx l sender 12 rx = p at h ⊢
    refine h.trans ?_
    dsimp only
    split
    · exact .ite (fun _ => .modLane id) (fun _ => .refl _)
    · exact .refl _
  next =>
    refine .ite (fun _ => ?_) (fun _ => .refl s)
    have h := s.frameCrc_keeps (hubLinkOf sender) rx
    generalize s.frameCrc (hubLinkOf sender) rx = p at h ⊢
    refine h.trans ?_
    dsimp only
    split
    · exact .ite (fun _ => .modHub ..) (fun _ => .modHub ..)
    · exact .refl _

theorem execOutputFrameReceived_keeps (half : Rcv) (sender : LaneId) (rx : Rx) :
    ∃ t, execOutputFrameReceived half sender rx s = .next t ∧ s.Keeps t := by
  refine ⟨_, rfl, .ite (fun _ => ?_) (fun _ => .refl s)⟩
  have h := s.frameCrc_keeps (hubLinkOf sender) rx
  generalize s.frameCrc (hubLinkOf sender) rx = p at h ⊢
  refine h.trans ?_
  dsimp only
  split
  · split
    · exact .modHub ..
    · exact .modHub ..
    · exact .refl _
  · exact .refl _

theorem execVectorConsensus_keeps : ∃ t, execVectorConsensus s = .next t ∧ s.Keeps t := by
  refine ⟨_, rfl, .ite (fun _ => .refl s) (fun _ => ?_)⟩
  extract_lets s1 s2 a b tested passed s3 none_ s4 s5
  have h1 : s.Keeps s1 := .modHub s _
  have h2 : s1.Keeps s2 := .foldl (fun s l => s.reportMissing_keeps l 12) _ s1
  have h3 : s2.Keeps s3 := .modHub s2 _
  have h4 : s3.Keeps s4 := by
    have hnone : s3.Keeps none_ := .modHub s3 _
    unfold s4
    clear_value none_ s3 a
    cases a with
    | none => exact .andIf hnone (.modHub ..)
    | some field =>
      dsimp -zeta only
      extract_lets q1 wrong q2 q3 q4
      have e1 : s3.Keeps q1 := .modHub s3 _
      have e2 : q1.Keeps q2 := .foldl (fun _ _ => (State.recordVerdict_recorded ..).1.keeps) _ q1
      have e3 : q2.Keeps q3 := .foldl (fun s _ => .modHub s _) _ q2
      have e4 : q3.Keeps q4 := (State.applyDecided_recorded ..).1.keeps
      exact .ite (fun _ => .andHub (((e1.trans e2).trans e3).trans e4))
        (fun _ => .ite (fun _ => .of_lanes rfl rfl) (fun _ => .modHub ..))
  have h5 : s4.Keeps s5 := s4.reportOnlyVote_quiet.1.keeps
  exact .andHub (((h1.trans h2).trans (h3.trans h4)).trans h5)

theorem execLatentLimitAction_keeps : ∃ t, execLatentLimitAction s = .next t ∧ s.Keeps t := by
  refine ⟨_, rfl, .ite (fun _ => .refl s) (fun _ => .foldl (fun s j => ?_) _ s)⟩
  refine .ite (fun _ => .refl s) (fun _ => .ite (fun _ => .modHub s _) (fun _ => .ite (fun _ => .refl s) (fun _ => ?_)))
  split
  · exact .andHub (((State.setLaneState_keeps ..).trans (State.setLaneState_keeps ..)).trans (State.startCopy_keeps ..))
  · exact .andHub (State.startCopy_keeps ..)

theorem execOutputVoteRelease_keeps : ∃ t, execOutputVoteRelease s = .next t ∧ s.Keeps t := by
  refine ⟨_, rfl, .ite (fun _ => .refl s) (fun _ => .ite (fun _ => ?_) (fun _ => ?_))⟩
  · exact .andHub ((State.Keeps.modHub s _).trans (State.parserRelease_keeps ..))
  · have h := s.crossCheck_keeps
    generalize s.crossCheck = p at h ⊢
    refine h.trans ?_
    dsimp only
    split
    · exact .andHub (.andHub ((State.applyWords_keeps ..).trans (State.parserRelease_keeps ..)))
    · exact .andHub (.andHub (State.parserRelease_keeps ..))

/-! ### Lane states (chapter 05) -/

theorem execLaneLoadComplete_keeps (lane : LaneId) : ∃ t, execLaneLoadComplete lane s = .next t ∧ s.Keeps t := by
  refine ⟨_, rfl, ?_⟩
  split
  · split
    · exact .ite (fun _ => .modLane (Lane.good_load _)) (fun _ => .refl s)
    · exact .refl s
  · split
    · exact .ite (fun _ => .andHub (.modLane (fun hg => Lane.good_load _ hg))) (fun _ => .refl s)
    · exact .ite (fun _ => .refl s) (fun _ => .refl s)

theorem execStateCopyPassComplete_keeps (last : Bool) : ∃ t, execStateCopyPassComplete last s = .next t ∧ s.Keeps t := by
  refine ⟨_, rfl, ?_⟩
  split
  · exact .refl s
  split
  · exact .refl s
  · exact .ite (fun _ => .refl s) (fun _ => .andHub (.andLane (State.copyImage_keeps ..) (fun _ hg => hg)))

theorem State.takenOver_keeps (c : Copy) (s : State) : s.Keeps (s.takenOver c) := by
  unfold State.takenOver
  split
  · exact State.takeover_keeps ..
  · exact .modLane (fun hg => Lane.good_vmapEng (fun e _ => Engine.hard_of_cleared rfl rfl) hg)

theorem State.landed_keeps (c : Copy) (s : State) : s.Keeps (s.landed c) := by
  unfold State.landed
  split
  · exact .refl s
  · exact State.setLaneState_keeps ..
  · exact State.setLaneState_keeps ..
  · refine .ite (fun _ => State.setLaneState_keeps ..) (fun _ => ?_)
    exact .andIf (State.setLaneState_keeps ..) (.modHub ..)
  · exact (State.Keeps.modHub s _).trans (State.nextJoinCopy_keeps _)

theorem execStateCopyTakeover_keeps : ∃ t, execStateCopyTakeover s = .next t ∧ s.Keeps t := by
  by_cases h : ∃ c, s.hub.vote.copy = some c ∧ c.phase = 2 ∧ s.hub.atBoundary = true
  · obtain ⟨c, hc, hp, hb⟩ := h
    refine ⟨_, execStateCopyTakeover_eq hc hp hb, ?_⟩
    exact ((State.Keeps.andHub (s.takenOver_keeps c)).trans (State.landed_keeps ..)).trans (State.nextPowerCopy_keeps _)
  · refine ⟨_, rfl, State.Keeps.trans ?_ (State.nextPowerCopy_keeps _)⟩
    split
    · exact .refl s
    next c hc =>
      rw [if_pos]
      · exact .refl s
      · by_cases hp : c.phase = 2
        · exact .inr (eq_false_of_ne_true fun hb => h ⟨c, hc, hp, hb⟩)
        · exact .inl hp

theorem execStateCopyFailed_keeps : ∃ t, execStateCopyFailed s = .next t ∧ s.Keeps t :=
  ⟨_, rfl, ((State.Keeps.modHub s _).trans (State.nextJoinCopy_keeps _)).trans (State.nextPowerCopy_keeps _)⟩

theorem execLaneSelfTestEnd_keeps (lane : LaneId) (passed : Bool) : ∃ t, execLaneSelfTestEnd lane passed s = .next t ∧ s.Keeps t := by
  refine ⟨_, rfl, ?_⟩
  split
  · exact .refl s
  extract_lets s1
  have h1 : s.Keeps s1 := .modHub s _
  refine h1.trans (.ite (fun _ => State.setLaneState_keeps ..) (fun _ => .ite (fun _ => State.setLaneState_keeps ..) (fun _ => ?_)))
  exact ((State.Keeps.modLane (l := lane) (f := fun _ => {}) (fun _ => Lane.good_default)).trans (State.setLaneState_keeps ..)).trans
    (State.startCopy_keeps ..)

theorem execEngineSubstitution_keeps (lane : LaneId) (eng : EngineId) : ∃ t, execEngineSubstitution lane eng s = .next t ∧ s.Keeps t :=
  ⟨_, rfl, .ite (fun _ => .modHub s _) (fun _ => .refl s)⟩

theorem State.toGroupB_keeps (s : State) (l : LaneId) : s.Keeps (s.toGroupB l) := by
  unfold State.toGroupB
  exact .andLane (State.setLaneState_keeps ..) (fun k hg => ⟨hg.1, (Lane.good_vmapEng (f := Engine.idle) (fun _ he => he) hg).2⟩)

theorem execSplitBoundary_keeps : ∃ t, execSplitBoundary s = .next t ∧ s.Keeps t := by
  refine ⟨_, rfl, .ite (fun _ => .refl s) (fun _ => .ite (fun _ => .modHub s _) (fun _ => .andHub ?_))⟩
  exact .foldl (fun s l => s.toGroupB_keeps l) _ s

theorem execGroupBStart_keeps : ∃ t, execGroupBStart s = .next t ∧ s.Keeps t :=
  ⟨_, rfl, .ite (fun _ => .andHub (.foldl (fun _ _ => .modLane id) _ s)) (fun _ => .refl s)⟩

theorem execJoinBoundary_keeps : ∃ t, execJoinBoundary s = .next t ∧ s.Keeps t := by
  refine ⟨_, rfl, .ite (fun _ => .refl s) (fun _ => .ite (fun _ => .modHub s _) (fun _ => .ite (fun _ => .of_lanes rfl rfl) (fun _ => ?_)))⟩
  dsimp only
  split
  · exact .modHub s _
  · exact .andHub (((State.Keeps.modHub s _).trans (State.setLaneState_keeps ..)).trans (State.setLaneStates_keeps ..))

theorem execDiDisagreeCountClear_keeps : ∃ t, execDiDisagreeCountClear s = .next t ∧ s.Keeps t :=
  ⟨_, rfl, .mapLanes (fun _ _ hg => hg)⟩

end Sys2Proof.Machine
end

section
/-! Settles O59 and O60. The commands of chapters 06 to 20, and every command. -/
namespace Sys2Proof.Machine

variable {s : State}

/-! ### The runtime (chapter 06) -/

theorem Lane.good_setMem {l : Lane} {m : Mem} (hm : m.wf = true) (h : l.good) : ({ l with mem := m } : Lane).good := ⟨hm, h.2⟩

theorem execApplicationStart_keeps : ∃ t, execApplicationStart s = .next t ∧ s.Keeps t := by
  refine ⟨_, rfl, ?_⟩
  split
  next p sc _ _ =>
    refine .ite (fun _ => .refl s) (fun _ => ?_)
    extract_lets changes kept s1 s2 s3
    have h1 : s.Keeps s1 := .foldl (fun s i => by
      split
      · exact .ite (fun _ => .refl s) (fun _ => .modHub s _)
      · exact .refl s) _ s
    have h2 : s1.Keeps s2 := .foldl (fun s l => by
      refine .ite (fun _ => .refl s) (fun _ => ?_)
      exact .andLane (State.setLaneState_keeps ..) (fun _ hg => Lane.good_prepare _ _ _ _ hg)) _ s1
    have h3 : s2.Keeps s3 := State.loadCalibration_keeps ..
    clear_value s3
    exact .andHub ((h1.trans h2).trans h3)
  next => exact .refl s

theorem execApplyStep_keeps (lane : LaneId) (task : Fin 8) : ∃ t, execApplyStep lane task s = .next t ∧ s.Keeps t := by
  refine ⟨_, rfl, ?_⟩
  split
  next r _ _ =>
    refine .ite (fun _ => .refl s) (fun _ => ?_)
    extract_lets l0 res s1
    have hres (hg : (s.lane lane).good) : res.1.good :=
      Lane.good_applyRequest _ _ _ (Lane.good_setMem (Mem.wf_writeN hg.1 (storeBase + 0x300) r.bytes) hg)
    clear_value res
    have h1 : s.Keeps s1 := .modLane (fun hg => ⟨(hres hg).1, (hres hg).2⟩)
    exact .andIf h1 (State.forcesChanged_keeps ..)
  next => exact .refl s

theorem execInputStep_keeps (lane : LaneId) (task : Fin 8) (moves : List (Nat × Nat × Nat)) :
    ∃ t, execInputStep lane task moves s = .next t ∧ s.Keeps t := by
  refine ⟨_, rfl, ?_⟩
  split
  next =>
    extract_lets n s1 s2
    have h1 : s.Keeps s1 := .foldl (fun s v => State.inputMove_keeps ..) _ s
    have h2 : s1.Keeps s2 := .modLane (Lane.good_inputStep _ _ _)
    exact (h1.trans h2).trans (.ite (fun _ => .refl s2) (fun _ => State.forcesChanged_keeps ..))
  next => exact .refl s

theorem Lane.good_withOut {l : Lane} {m : Mem} (hm : m.wf = true) (h : l.good) (a b : Nat) (x y : Bytes) :
    ((({ l with mem := m } : Lane).frameWrite a x).frameWrite b y).good := ⟨hm, h.2⟩

theorem execMonitorStep_keeps (lane : LaneId) (func : Fin 8) : ∃ t, execMonitorStep lane func s = .next t ∧ s.Keeps t := by
  refine ⟨_, rfl, .ite (fun _ => .refl s) (fun _ => ?_)⟩
  extract_lets l real e rep s1 i seen s2 inj s3
  clear_value real e rep seen
  have h1 : s.Keeps s1 := .modLane (fun hg =>
    Lane.good_withOut (Mem.wf_storeSafety func.val e.1 hg.1) hg ..)
  clear_value s1
  have h2 : s1.Keeps s2 := .modHub s1 _
  have h3 : s2.Keeps s3 := .modHub s2 _
  clear_value s3
  exact (h1.trans h2).trans (.ite (fun _ => .refl s2) (fun _ => h3.trans (.foldl (fun s _ => .modHub s _) _ s3)))

theorem execReleaseStep_keeps (lane : LaneId) (task : Fin 8) (moves frame : List (Nat × Nat × Nat)) :
    ∃ t, execReleaseStep lane task moves frame s = .next t ∧ s.Keeps t := by
  refine ⟨_, rfl, ?_⟩
  split
  next j i _ =>
    refine .ite (fun _ => .refl s) (fun _ => ?_)
    extract_lets t real arm s1 aborted s2 m rep s3
    have h1 : s.Keeps s1 := by
      unfold s1
      clear_value arm
      cases arm with
      | none => exact .refl s
      | some a => exact .ite (fun _ => .refl s) (fun _ => .modLane (Lane.good_setAborted _ _ _))
    have h2 : s1.Keeps s2 := by
      refine .modLane (fun hg => Lane.good_endCycle _ _ _ ?_)
      split
      · exact hg
      · exact Lane.good_foldl (fun _ v h => Lane.good_releaseFrame v h) _
          (Lane.good_foldl (fun _ v h => Lane.good_releaseMove _ _ v h) _ hg)
    have h3 : s2.Keeps s3 := by
      unfold s3
      clear_value s2 arm
      refine .ite (fun _ => State.reportOverrun_keeps ..) (fun _ => ?_)
      cases arm with
      | none => exact .refl s2
      | some a => exact State.reportOverrun_keeps ..
    exact .andIf ((h1.trans h2).trans h3) (State.freeze_keeps ..)
  next => exact .refl s

theorem execRetainedCopyComplete_keeps : ∃ t, execRetainedCopyComplete s = .next t ∧ s.Keeps t := by
  refine ⟨_, rfl, ?_⟩
  split
  · exact .of_lanes rfl rfl
  · exact .refl s

/-! ### Measurement, PWM and outputs (chapters 07 to 10) -/

theorem execDiLevelAccepted_keeps (lane : LaneId) (channel : Fin 24) (level : Bool) (ns : Nat) :
    ∃ t, execDiLevelAccepted lane channel level ns s = .next t ∧ s.Keeps t :=
  ⟨_, rfl, .ite (fun _ => .refl s) (fun _ => .modLane id)⟩

theorem execWireBreakDetection_keeps (lane : LaneId) (channel : Fin 24) (broken : Bool) :
    ∃ t, execWireBreakDetection lane channel broken s = .next t ∧ s.Keeps t :=
  ⟨_, rfl, .ite (fun _ => .modLane id) (fun _ => .refl s)⟩

theorem execModulatorRestart_keeps (lane : LaneId) (group : Fin 2) (now : Nat) :
    ∃ t, execModulatorRestart lane group now s = .next t ∧ s.Keeps t := by
  refine ⟨_, rfl, .ite (fun _ => .refl s) (fun _ => ?_)⟩
  extract_lets s1 hit instant s2 still s3
  have h1 : s.Keeps s1 := .modHub s _
  have h2 : s1.Keeps s2 := .modLane id
  have h3 : s2.Keeps s3 := .ite (fun _ => .refl s2) (fun _ => .modHub s2 _)
  exact ((h1.trans h2).trans h3).trans (State.compareGroup_keeps ..)

theorem execCoarseDecimation_keeps (lane : LaneId) (channel : Fin 16) (sum now : Nat) :
    ∃ t, execCoarseDecimation lane channel sum now s = .next t ∧ s.Keeps t := by
  refine ⟨_, rfl, .ite (fun _ => .refl s) (fun _ => ?_)⟩
  extract_lets s1 v s2
  have h1 : s.Keeps s1 := .modHub s _
  have h2 : s1.Keeps s2 := .modLane id
  exact (h1.trans h2).trans (State.compareChannel_keeps ..)

theorem execSdClockLoss_keeps (lane : LaneId) (group : Fin 2) (now : Nat) : ∃ t, execSdClockLoss lane group now s = .next t ∧ s.Keeps t :=
  ⟨_, rfl, .ite (fun _ => (State.Keeps.modHub s _).trans (State.clockLoss_keeps ..)) (fun _ => .refl s)⟩

theorem execSdDataStuck_keeps (lane : LaneId) (channel : Fin 16) (level : Bool) (now : Nat) :
    ∃ t, execSdDataStuck lane channel level now s = .next t ∧ s.Keeps t :=
  ⟨_, rfl, .ite (fun _ => (State.Keeps.modHub s _).trans (State.dataStuck_keeps ..)) (fun _ => .refl s)⟩

theorem execPresetSwitch_keeps (lane : LaneId) : ∃ t, execPresetSwitch lane s = .next t ∧ s.Keeps t :=
  ⟨_, rfl, .ite (fun _ => .modLane (Lane.good_foldl (f := fun l w => Lane.switch s.hub.time.now w l) (fun _ _ hg => hg) _)) (fun _ => .refl s)⟩

theorem execAutozeroRequest_keeps (channel : Fin 16) : ∃ t, execAutozeroRequest channel s = .next t ∧ s.Keeps t := by
  have hstart (l : LaneId) (s : State) : s.Keeps (s.modLane l (Lane.azStart channel)) := .modLane (Lane.good_azStart channel)
  refine ⟨_, rfl, .ite (fun _ => .refl s) (fun _ => .ite (fun _ => State.forPowered_keeps hstart s) (fun _ =>
    .ite (fun _ => State.forPowered_keeps (fun l s => .ite (fun _ => hstart l s) (fun _ => .refl s)) s) (fun _ => .refl s)))⟩

theorem execAutozeroEnd_keeps (lane : LaneId) (channel : Fin 16) : ∃ t, execAutozeroEnd lane channel s = .next t ∧ s.Keeps t :=
  ⟨_, rfl, .ite (fun _ => .modLane (fun hg => ⟨Mem.wf_setAz _ _ _ _ hg.1, hg.2⟩)) (fun _ => .refl s)⟩

theorem execCalibrationAveragingEnd_keeps : ∃ t, execCalibrationAveragingEnd s = .next t ∧ s.Keeps t := by
  refine ⟨_, rfl, ?_⟩
  split
  · exact .refl s
  · exact .ite (fun _ => .refl s) (fun _ => .modHub s _)

theorem execCarrierUpdatePoint_keeps (pair : Fin 6) (mid : Bool) (instant : Nat) :
    ∃ t, execCarrierUpdatePoint pair mid instant s = .next t ∧ s.Keeps t :=
  ⟨_, rfl, .ite (fun _ => .refl s) (fun _ => .modHub s _)⟩

theorem execPwmEdge_keeps (pair : Fin 6) (instant : Nat) : ∃ t, execPwmEdge pair instant s = .next t ∧ s.Keeps t :=
  ⟨_, rfl, .ite (fun _ => .modHub s _) (fun _ => .refl s)⟩

theorem execTripInEdge_keeps (input : Fin 4) (high : Bool) (now : Nat) : ∃ t, execTripInEdge input high now s = .next t ∧ s.Keeps t :=
  ⟨_, rfl, ((State.Keeps.modHub s _).trans (.modHub _ _)).trans (State.evalSource_keeps ..)⟩

theorem execPwmReadback_keeps (output : Fin 12) (read durationNs now : Nat) :
    ∃ t, execPwmReadback output read durationNs now s = .next t ∧ s.Keeps t :=
  ⟨_, rfl, (State.Keeps.modHub s (Hub.at_ now)).trans (.ite (fun _ => .refl _) (fun _ => .modHub ..))⟩

theorem execOutputOverload_keeps (channel : Fin 24) (thermal : Bool) (mA now : Nat) :
    ∃ t, execOutputOverload channel thermal mA now s = .next t ∧ s.Keeps t :=
  ⟨_, rfl, (State.Keeps.modHub s (Hub.at_ now)).trans (.ite (fun _ => .modHub ..) (fun _ => .refl _))⟩

theorem execReadbackMismatch_keeps (channel : Fin 24) (now : Nat) : ∃ t, execReadbackMismatch channel now s = .next t ∧ s.Keeps t :=
  ⟨_, rfl, (State.Keeps.modHub s (Hub.at_ now)).trans (.ite (fun _ => .modHub ..) (fun _ => .refl _))⟩

theorem execExternalVoltageDetection_keeps (channel : Fin 24) (now : Nat) :
    ∃ t, execExternalVoltageDetection channel now s = .next t ∧ s.Keeps t :=
  ⟨_, rfl, (State.Keeps.modHub s (Hub.at_ now)).trans (.ite (fun _ => .modHub ..) (fun _ => .refl _))⟩

theorem execSourceEvaluation_keeps (channel : Fin 24) (high : Bool) (now : Nat) :
    ∃ t, execSourceEvaluation channel high now s = .next t ∧ s.Keeps t := by
  refine ⟨_, rfl, (State.Keeps.modHub s (Hub.at_ now)).trans ?_⟩
  dsimp only
  split
  · exact .refl _
  · exact .ite (fun _ => .modHub ..) (fun _ => .modHub ..)

theorem execSourceSearchEnd_keeps (channel : Fin 24) (partner : Option (Fin 24)) (now : Nat) :
    ∃ t, execSourceSearchEnd channel partner now s = .next t ∧ s.Keeps t := by
  refine ⟨_, rfl, (State.Keeps.modHub s (Hub.at_ now)).trans ?_⟩
  dsimp only
  split
  · exact .refl _
  split
  · exact .ite (fun _ => .modHub ..) (fun _ => .refl _)
  · exact .ite (fun _ => .modHub ..) (fun _ => .refl _)

/-- A register write that takes effect in the running modes alone. -/
theorem running_keeps (f : Hub → Hub) :
    ∃ t, (.next (if s.hub.power.mode.isRunning then s.modHub f else s) : Out) = .next t ∧ s.Keeps t :=
  ⟨_, rfl, .ite (fun _ => .modHub s f) (fun _ => .refl s)⟩

/-! ### The hub's other units (chapters 11 to 17 and 20) -/

theorem execGateEntry_keeps (index : Nat) : ∃ t, execGateEntry index s = .next t ∧ s.Keeps t := by
  refine ⟨_, rfl, ?_⟩
  split
  · exact .refl s
  · exact .ite (fun _ => .refl s) (fun _ => .modHub s _)

theorem execLaneDoorbell_keeps (lane : LaneId) (offset : Nat) (data : Bytes) :
    ∃ t, execLaneDoorbell lane offset data s = .next t ∧ s.Keeps t :=
  ⟨_, rfl, .ite (fun _ => .modHub s _) (fun _ => .refl s)⟩

theorem execRackReplyReceived_keeps (packet : Bytes) (now : Nat) : ∃ t, execRackReplyReceived packet now s = .next t ∧ s.Keeps t := by
  refine ⟨_, rfl, (State.Keeps.modHub s (Hub.at_ now)).trans ?_⟩
  refine .ite (fun _ => .refl _) (fun _ => .ite (fun _ => .modHub ..) (fun _ => .ite (fun _ => ?_) (fun _ => ?_)))
  · refine .ite (fun _ => ?_) (fun _ => .refl _)
    split <;> exact .modHub ..
  split
  · exact .refl _
  refine .ite (fun _ => .refl _) (fun _ => .ite (fun _ => .modHub ..) (fun _ => ?_))
  extract_lets r s1
  have h1 : (s.modHub (Hub.at_ now)).Keeps s1 := .withHub _ _
  clear_value s1
  refine h1.trans ?_
  split
  · exact .modHub ..
  · exact (State.Keeps.ite (fun _ => .modHub ..) (fun _ => .refl _)).trans (State.rackTake_keeps ..)
  · exact State.rackTake_keeps ..

theorem execPartnerFrameReceived_keeps (lane : Fin 2) (frame : Bytes) (now : Nat) :
    ∃ t, execPartnerFrameReceived lane frame now s = .next t ∧ s.Keeps t := by
  refine ⟨_, rfl, (State.Keeps.withHub s _).trans (.ite (fun _ => .refl _) (fun _ => ?_))⟩
  split
  case h_5 => exact State.partnerCommand_keeps ..
  case h_7 => exact .refl _
  all_goals exact .modHub ..

theorem execCopyHeaderSend_keeps (now : Nat) : ∃ t, execCopyHeaderSend now s = .next t ∧ s.Keeps t :=
  ⟨_, rfl, (State.Keeps.withHub s _).trans (.ite (fun _ => .refl _) (fun _ => .of_lanes rfl rfl))⟩

theorem execCopyApply_keeps : ∃ t, execCopyApply s = .next t ∧ s.Keeps t := by
  refine ⟨_, rfl, ?_⟩
  split
  · refine .ite (fun _ => .refl s) (fun _ => .andHub (.mapLanes (fun i k hg => ?_)))
    cases fin? 4 i with
    | none => exact hg
    | some l =>
      dsimp only
      split
      · exact ⟨Mem.wf_putRegions _ _ hg.1, hg.2⟩
      · exact hg
  · exact .refl s

theorem execSubstitutionBoundary_keeps : ∃ t, execSubstitutionBoundary s = .next t ∧ s.Keeps t :=
  ⟨_, rfl, .ite (fun _ => .refl s) (fun _ => State.serves_keeps _ (s, []))⟩

theorem execCommandPacketReceived_keeps (transport source port : Nat) (packet : Bytes) (now : Nat) :
    ∃ t, execCommandPacketReceived transport source port packet now s = .next t ∧ s.Keeps t :=
  ⟨_, rfl, (State.Keeps.modHub s (Hub.at_ now)).trans (.ite (fun _ => State.command_keeps ..) (fun _ => .refl _))⟩

theorem execMbPush_keeps (lane : LaneId) (n : Fin 16) (words : List Word) (eng : EngineId) :
    ∃ t, execMbPush lane n words eng s = .next t ∧ s.Keeps t :=
  ⟨_, rfl, .ite (fun _ => State.laneMbPush_keeps ..) (fun _ => .refl s)⟩

theorem execMailboxTake_keeps (n : Fin 16) (count now : Nat) : ∃ t, execMailboxTake n count now s = .next t ∧ s.Keeps t := by
  refine ⟨_, rfl, (State.Keeps.modHub s (Hub.at_ now)).trans (.ite (fun _ => .refl _) (fun _ => .ite (fun _ => ?_) (fun _ => .modHub ..)))⟩
  exact .andIf (.withHub _ _) (State.mb0Words_keeps ..)

theorem execInjectionApplication_keeps (id now : Nat) : ∃ t, execInjectionApplication id now s = .next t ∧ s.Keeps t := by
  refine ⟨_, rfl, (State.Keeps.modHub s (Hub.at_ now)).trans ?_⟩
  split
  · exact .refl _
  · exact .ite (fun _ => .refl _) (fun _ => (State.Keeps.modHub ..).trans (State.applyInjection_keeps ..))

theorem execRegisterWrite_keeps (parser : Bool) (block : Fin 25) (off w : Nat) :
    ∃ t, execRegisterWrite parser block off w s = .next t ∧ s.Keeps t :=
  ⟨_, rfl, .ite (fun _ => .ite (fun _ => State.applyWords_keeps ..) (fun _ => .refl s)) (fun _ => .ite (fun _ => .refl s)
    (fun _ => .ite (fun _ => State.writeWord_keeps ..) (fun _ => .modHub s _)))⟩

/-! ### Every command -/

/-- Every command is answered with a next state; the queue and the invariant stand. -/
theorem exec_keeps (i : Instr) (s : State) : ∃ t, exec i s = .next t ∧ s.Keeps t := by
  by_cases hi : i.syllable.isSome = true
  · exact exec_syllable_keeps hi s
  cases i
  case wakeNLow | wakeFrame | vinSample | supplyDeferralEnd | temperatureMeasurement | tamperOpen | vbatLoss | hubComparatorSelftest
      | rtcUpdate | ptpAnnounceReceived | ptpSyncReceived | ptpDelayReqSend | ptpDelayRespReceived | ptpPdelayReqReceived |
      ptpTimeout | tb3Select | steerEnable | linkErrorsClear | liveCountClear | presetSelect | skewRemoveSelect | pulseAdjustClear
      | stageFrameReceived | stageReadbackSample | stageWatchdogTrip | fieldSupplyLow | fieldSupplyRecovered | testOutputEnd |
      testPulseStart | testWindowEvaluation | tpAbsentDetection | tpRetry | offPulseStart | offPulseEnd | linkStatePoll |
      frameReceived | pdTimeout | pdPullRequest | pdPublication | frameTransmit | frameTransmitComplete | prpSupervisionSend |
      prpNodeForget | prpPathLoss | arpRetry | arpCacheAging | ipConfigApply | gratuitousArpRepeat | portSubstitution |
      parserDoorbell | canIntegrationEnd | canFrameReceived | canTransmitAttempt | canAttemptEnd | canRecoveryComplete |
      ybCycleStart | ybTransmitLatch | ybStaticSlotSend | ybFrameReceived | ybSlotEnd | ybMinislot | ybNetworkIdleTime |
      ybListenTimeout | claimRelease | guardianBlock | rackEnumeration | rackIdentifyRetry | rackExchange | rackWindowClosedEmpty |
      rackHoldExpiry | rackRequestSend | rackPoll | tagTimeout | tagQuarantineEnd | prefetchAgeDiscard | hostPoll |
      rackCommandTimeout | partnerLaneState | helloSend | copyDataSent | copyHeaderReceived | copyEndReceived | ackReceived |
      copyMiss | ackMiss | roleChange | dramWriteBack | patrolScrub | sramScrub | nandProgram | spareCopyComplete | lockRead |
      lockRelease | sessionExpiry | b2aConsumed | mailboxFrameReceived | mailboxResend | mailboxWake | mbNoProgress |
      imageTransferAbandon | safeReq | traceStreamSend | traceOverflow | parserComparatorMismatch | doInputSample | tpCurrentLimit
      | canReceiveError | parserDataUncorrectable | parserCodeUncorrectable =>
    exact ⟨_, rfl, .modHub s _⟩
  case selectTimeDomain => exact ⟨_, rfl, Opcode.run_keeps .selectTimeDomain _ _ s⟩
  case getPtpStatus => exact ⟨_, rfl, Opcode.run_keeps .getPtpStatus _ _ s⟩
  case getScheduleInfo => exact ⟨_, rfl, Opcode.run_keeps .getScheduleInfo _ _ s⟩
  case selectSchedule => exact ⟨_, rfl, Opcode.run_keeps .selectSchedule _ _ s⟩
  case laneBringIn => exact ⟨_, rfl, Opcode.run_keeps .laneBringIn _ _ s⟩
  case splitCmd => exact ⟨_, rfl, Opcode.run_keeps .split _ _ s⟩
  case joinCmd => exact ⟨_, rfl, Opcode.run_keeps .join _ _ s⟩
  case laneSelfTest => exact ⟨_, rfl, Opcode.run_keeps .laneSelfTest _ _ s⟩
  case readVariable => exact ⟨_, rfl, Opcode.run_keeps .readVariable _ _ s⟩
  case commitChanges => exact ⟨_, rfl, Opcode.run_keeps .commitChanges _ _ s⟩
  case forceCmd => exact ⟨_, rfl, Opcode.run_keeps .force _ _ s⟩
  case unforce => exact ⟨_, rfl, Opcode.run_keeps .unforce _ _ s⟩
  case listForces => exact ⟨_, rfl, Opcode.run_keeps .listForces _ _ s⟩
  case getChannel => exact ⟨_, rfl, Opcode.run_keeps .getChannel _ _ s⟩
  case setPreset => exact ⟨_, rfl, Opcode.run_keeps .setPreset _ _ s⟩
  case calibratePoint => exact ⟨_, rfl, Opcode.run_keeps .calibratePoint _ _ s⟩
  case storeCalibration => exact ⟨_, rfl, Opcode.run_keeps .storeCalibration _ _ s⟩
  case getTripStatus => exact ⟨_, rfl, Opcode.run_keeps .getTripStatus _ _ s⟩
  case tripClear => exact ⟨_, rfl, Opcode.run_keeps .tripClear _ _ s⟩
  case getIoStatus => exact ⟨_, rfl, Opcode.run_keeps .getIoStatus _ _ s⟩
  case testOutput => exact ⟨_, rfl, Opcode.run_keeps .testOutput _ _ s⟩
  case getSafetyStatus => exact ⟨_, rfl, Opcode.run_keeps .getSafetyStatus _ _ s⟩
  case getPortStatus => exact ⟨_, rfl, Opcode.run_keeps .getPortStatus _ _ s⟩
  case setIpConfig => exact ⟨_, rfl, Opcode.run_keeps .setIpConfig _ _ s⟩
  case substitutePort => exact ⟨_, rfl, Opcode.run_keeps .substitutePort _ _ s⟩
  case getCanStatus => exact ⟨_, rfl, Opcode.run_keeps .getCanStatus _ _ s⟩
  case canRecover => exact ⟨_, rfl, Opcode.run_keeps .canRecover _ _ s⟩
  case canSetListen => exact ⟨_, rfl, Opcode.run_keeps .canSetListen _ _ s⟩
  case getYbStatus => exact ⟨_, rfl, Opcode.run_keeps .getYbStatus _ _ s⟩
  case ybRestart => exact ⟨_, rfl, Opcode.run_keeps .ybRestart _ _ s⟩
  case getStationStatus => exact ⟨_, rfl, Opcode.run_keeps .getStationStatus _ _ s⟩
  case rackRead => exact ⟨_, rfl, Opcode.run_keeps .rackRead _ _ s⟩
  case rackWrite => exact ⟨_, rfl, Opcode.run_keeps .rackWrite _ _ s⟩
  case rescan => exact ⟨_, rfl, Opcode.run_keeps .rescan _ _ s⟩
  case getPartnerStatus => exact ⟨_, rfl, Opcode.run_keeps .getPartnerStatus _ _ s⟩
  case switchover => exact ⟨_, rfl, Opcode.run_keeps .switchover _ _ s⟩
  case setRolePolicy => exact ⟨_, rfl, Opcode.run_keeps .setRolePolicy _ _ s⟩
  case getWear => exact ⟨_, rfl, Opcode.run_keeps .getWear _ _ s⟩
  case substitute => exact ⟨_, rfl, Opcode.run_keeps .substitute _ _ s⟩
  case mbStatus => exact ⟨_, rfl, Opcode.run_keeps .mbStatus _ _ s⟩
  case beginImage => exact ⟨_, rfl, Opcode.run_keeps .beginImage _ _ s⟩
  case imageData => exact ⟨_, rfl, Opcode.run_keeps .imageData _ _ s⟩
  case endImage => exact ⟨_, rfl, Opcode.run_keeps .endImage _ _ s⟩
  case confirmImage => exact ⟨_, rfl, Opcode.run_keeps .confirmImage _ _ s⟩
  case getImages => exact ⟨_, rfl, Opcode.run_keeps .getImages _ _ s⟩
  case attest => exact ⟨_, rfl, Opcode.run_keeps .attest _ _ s⟩
  case getIdentity => exact ⟨_, rfl, Opcode.run_keeps .getIdentity _ _ s⟩
  case setCommandKey => exact ⟨_, rfl, Opcode.run_keeps .setCommandKey _ _ s⟩
  case getStatus => exact ⟨_, rfl, Opcode.run_keeps .getStatus _ _ s⟩
  case setMode => exact ⟨_, rfl, Opcode.run_keeps .setMode _ _ s⟩
  case setPower => exact ⟨_, rfl, Opcode.run_keeps .setPower _ _ s⟩
  case resetModule => exact ⟨_, rfl, Opcode.run_keeps .resetModule _ _ s⟩
  case getFaults => exact ⟨_, rfl, Opcode.run_keeps .getFaults _ _ s⟩
  case clearFaults => exact ⟨_, rfl, Opcode.run_keeps .clearFaults _ _ s⟩
  case readTrace => exact ⟨_, rfl, Opcode.run_keeps .readTrace _ _ s⟩
  case setTraceFilter => exact ⟨_, rfl, Opcode.run_keeps .setTraceFilter _ _ s⟩
  case readCounters => exact ⟨_, rfl, Opcode.run_keeps .readCounters _ _ s⟩
  case setCounterEvent => exact ⟨_, rfl, Opcode.run_keeps .setCounterEvent _ _ s⟩
  case injectCmd => exact ⟨_, rfl, Opcode.run_keeps .inject _ _ s⟩
  case listDetectors => exact ⟨_, rfl, Opcode.run_keeps .listDetectors _ _ s⟩
  case writeVariable => exact ⟨_, rfl, Opcode.run_keeps .writeVariable _ _ s⟩
  case changeConstant => exact ⟨_, rfl, Opcode.run_keeps .changeConstant _ _ s⟩
  case powerOn => exact execPowerOn_keeps ..
  case boot => exact execBoot_keeps ..
  case partnerHandshakeEnd => exact execPartnerHandshakeEnd_keeps ..
  case dormantWake => exact execDormantWake_keeps ..
  case rstNLow => exact execRstNLow_keeps ..
  case holdupCollapse => exact execHoldupCollapse_keeps ..
  case tickStartMarker => exact execTickStartMarker_keeps ..
  case tickStart => exact execTickStart_keeps ..
  case hubTickStart => exact execHubTickStart_keeps ..
  case tickMarkerReceived => exact execTickMarkerReceived_keeps ..
  case guardAlignment => exact execGuardAlignment_keeps ..
  case steerRateUpdate => exact execSteerRateUpdate_keeps ..
  case clauseStart => exact execClauseStart_keeps ..
  case operationWriteback => exact execOperationWriteback_keeps ..
  case clauseBudget => exact execClauseBudget_keeps ..
  case clauseComplete => exact execClauseComplete_keeps ..
  case transferStart => exact execTransferStart_keeps ..
  case transferComplete => exact execTransferComplete_keeps ..
  case transferPacketRetry => exact execTransferPacketRetry_keeps ..
  case gateEntry => exact execGateEntry_keeps ..
  case agreementFrameReceived => exact execAgreementFrameReceived_keeps ..
  case receiptVectorSend => exact execReceiptVectorSend_keeps ..
  case receiptVectorReceived => exact execReceiptVectorReceived_keeps ..
  case agreementSelection => exact execAgreementSelection_keeps ..
  case signatureCapture => exact execSignatureCapture_keeps ..
  case signatureFrameSend => exact execSignatureFrameSend_keeps ..
  case signatureFrameReceived => exact execSignatureFrameReceived_keeps ..
  case verdictFormation => exact execVerdictFormation_keeps ..
  case voteVectorReceived => exact execVoteVectorReceived_keeps ..
  case vectorConsensus => exact execVectorConsensus_keeps ..
  case latentLimitAction => exact execLatentLimitAction_keeps ..
  case outputFrameReceived => exact execOutputFrameReceived_keeps ..
  case outputVoteRelease => exact execOutputVoteRelease_keeps ..
  case laneLoadComplete => exact execLaneLoadComplete_keeps ..
  case stateCopyPassComplete => exact execStateCopyPassComplete_keeps ..
  case stateCopyTakeover => exact execStateCopyTakeover_keeps ..
  case stateCopyFailed => exact execStateCopyFailed_keeps ..
  case laneSelfTestEnd => exact execLaneSelfTestEnd_keeps ..
  case engineSubstitution => exact execEngineSubstitution_keeps ..
  case splitBoundary => exact execSplitBoundary_keeps ..
  case groupBStart => exact execGroupBStart_keeps ..
  case joinBoundary => exact execJoinBoundary_keeps ..
  case diDisagreeCountClear => exact execDiDisagreeCountClear_keeps ..
  case applicationStart => exact execApplicationStart_keeps ..
  case applyStep => exact execApplyStep_keeps ..
  case inputStep => exact execInputStep_keeps ..
  case monitorStep => exact execMonitorStep_keeps ..
  case releaseStep => exact execReleaseStep_keeps ..
  case retainedCopyComplete => exact execRetainedCopyComplete_keeps ..
  case diLevelAccepted => exact execDiLevelAccepted_keeps ..
  case wireBreakDetection => exact execWireBreakDetection_keeps ..
  case modulatorRestart => exact execModulatorRestart_keeps ..
  case coarseDecimation => exact execCoarseDecimation_keeps ..
  case sdClockLoss => exact execSdClockLoss_keeps ..
  case sdDataStuck => exact execSdDataStuck_keeps ..
  case presetSwitch => exact execPresetSwitch_keeps ..
  case autozeroRequest => exact execAutozeroRequest_keeps ..
  case autozeroEnd => exact execAutozeroEnd_keeps ..
  case calibrationAveragingEnd => exact execCalibrationAveragingEnd_keeps ..
  case carrierUpdatePoint => exact execCarrierUpdatePoint_keeps ..
  case pwmEdge => exact execPwmEdge_keeps ..
  case tripInEdge => exact execTripInEdge_keeps ..
  case pwmReadback => exact execPwmReadback_keeps ..
  case outputOverload => exact execOutputOverload_keeps ..
  case readbackMismatch => exact execReadbackMismatch_keeps ..
  case externalVoltageDetection => exact execExternalVoltageDetection_keeps ..
  case sourceEvaluation => exact execSourceEvaluation_keeps ..
  case sourceSearchEnd => exact execSourceSearchEnd_keeps ..
  case laneDoorbell => exact execLaneDoorbell_keeps ..
  case rackReplyReceived => exact execRackReplyReceived_keeps ..
  case partnerFrameReceived => exact execPartnerFrameReceived_keeps ..
  case copyHeaderSend => exact execCopyHeaderSend_keeps ..
  case copyApply => exact execCopyApply_keeps ..
  case substitutionBoundary => exact execSubstitutionBoundary_keeps ..
  case commandPacketReceived => exact execCommandPacketReceived_keeps ..
  case mbPush => exact execMbPush_keeps ..
  case mailboxTake => exact execMailboxTake_keeps ..
  case injectionApplication => exact execInjectionApplication_keeps ..
  case registerWrite => exact execRegisterWrite_keeps ..
  case pairEnable | tripClearRequest | channelClear | recoverRequest | abortBuf | abortFifo | enableReq => exact running_keeps _
  all_goals exact absurd rfl hi

theorem step_keeps (s : State) : ∃ t, step s = .next t ∧ t.pending = s.pending.tail ∧
    ((∀ l, (s.lane l).good) → ∀ l, (t.lane l).good) := by
  unfold step
  cases hp : s.pending with
  | nil => exact ⟨s, rfl, by rw [hp]; rfl, id⟩
  | cons i rest =>
    obtain ⟨t, ht, hk⟩ := exec_keeps i { s with pending := rest }
    exact ⟨t, ht, hk.pending, hk.good⟩

/-- Settles O59. -/
theorem stepKeepsInvariant : Obligations.StepKeepsInvariant := by
  unfold Obligations.StepKeepsInvariant
  intro s t hc hh hstep
  obtain ⟨t', ht', -, hgood⟩ := step_keeps s
  obtain rfl : t' = t := Host.Outcome.next.inj (ht'.symm.trans hstep)
  exact State.good_iff.mp (hgood (State.good_iff.mpr ⟨hc, hh⟩))

/-- Settles O60. -/
theorem everyCommandAnswers : Obligations.EveryCommandAnswers := by
  unfold Obligations.EveryCommandAnswers
  refine ⟨fun i s => ?_, fun s => ?_⟩
  · obtain ⟨t, ht, hk⟩ := exec_keeps i s
    exact ⟨t, ht, hk.pending⟩
  · obtain ⟨t, ht, hp, -⟩ := step_keeps s
    exact ⟨t, ht, hp⟩

end Sys2Proof.Machine
end

section
/-! Settles O48. What sending a frame leaves of the hub, and the services of the consist network (chapter 11). -/
namespace Sys2Proof.Machine

/-! ### Lists changed at one place -/

section modifyAt
variable {α β : Type}

theorem modifyAt_getElem? (f : α → α) (l : List α) (i : Nat) : (modifyAt f l i)[i]? = l[i]?.map f := by
  induction l generalizing i with
  | nil => rfl
  | cons x xs ih =>
    cases i with
    | zero => rfl
    | succ i => exact ih i

theorem map_modifyAt_of_forall {g : α → β} {f : α → α} (hf : ∀ x, g (f x) = g x) (l : List α) (i : Nat) :
    (modifyAt f l i).map g = l.map g := by
  induction l generalizing i with
  | nil => rfl
  | cons x xs ih =>
    cases i with
    | zero => simp [modifyAt, hf]
    | succ i => simp [modifyAt, ih]

end modifyAt

/-! ### What a frame that becomes ready or ends changes -/

/-- The hub without the frames that wait and the accounts of the queues and publications that sent them. -/
def Hub.unsent (h : Hub) : Hub :=
  { h.untraced with
    net.nextId := 0, net.prpSeq := [], net.ports := vmap (fun p => { p with ready := [] }) h.net.ports
    net.pubs := h.net.pubs.map (fun p => { p with sent := 0 }), net.queues := Vector.replicate 64 {}, net.completions := [] }

/-- The hub without what sending an IPv4 packet changes: the frames and the ARP cache. -/
def Hub.unrouted (h : Hub) : Hub := { h.unsent with net.arp := [] }

variable {h : Hub}

theorem Hub.unsent_of_untraced {h t : Hub} (e : t.untraced = h.untraced) : t.unsent = h.unsent :=
  (congrArg Hub.unsent e : t.untraced.unsent = h.untraced.unsent)

theorem Hub.unrouted_of_unsent {h t : Hub} (e : t.unsent = h.unsent) : t.unrouted = h.unrouted := by
  rw [Hub.unrouted, e, Hub.unrouted]

theorem Hub.unsent_of_pubs {ps : List PubState}
    (e : ps.map (fun p => { p with sent := 0 }) = h.net.pubs.map (fun p => { p with sent := 0 })) :
    ({ h with net.pubs := ps } : Hub).unsent = h.unsent :=
  (congrArg (fun ps => ({ h.unsent with net.pubs := ps } : Hub)) e :)

theorem Hub.unsent_of_ports {ps : Vector EthPort 4}
    (e : vmap (fun p : EthPort => { p with ready := [] }) ps = vmap (fun p => { p with ready := [] }) h.net.ports) :
    ({ h with net.ports := ps } : Hub).unsent = h.unsent :=
  (congrArg (fun ps => ({ h.unsent with net.ports := ps } : Hub)) e :)

theorem Hub.queueRec_unsent (q kind v : Nat) (h : Hub) : (h.queueRec q kind v).unsent = h.unsent := by
  unfold Hub.queueRec
  split
  · rfl
  · exact unsent_of_untraced (h.emit_untraced _)

theorem Hub.complete_unsent (q st i : Nat) (rx : Option (Nat × Nat)) (h : Hub) : (h.complete q st i rx).unsent = h.unsent := by
  unfold Hub.complete
  extract_lets mine last new join _ h' fill write
  rw [Hub.queueRec_unsent]
  show h'.unsent = h.unsent
  unfold h'
  split <;> rfl

theorem Hub.frameDone_unsent (k : TxKind) (sent : Bool) (h : Hub) : (h.frameDone k sent).unsent = h.unsent := by
  cases k with
  | other => rfl
  | pub i =>
    unfold Hub.frameDone
    dsimp only
    split
    · exact Hub.unsent_of_pubs (map_modifyAt_of_forall (f := fun p : PubState => { p with sent := wrapAdd 32 p.sent 1 }) (fun _ => rfl) ..)
    · rfl
  | slot q s =>
    unfold Hub.frameDone
    dsimp only
    rw [Hub.queueRec_unsent]
    rfl
  | desc q i =>
    unfold Hub.frameDone
    exact Hub.complete_unsent ..

theorem Hub.modPort_unsent {f : EthPort → EthPort} (hf : ∀ p, { f p with ready := [] } = { p with ready := [] }) (p : Nat) (h : Hub) :
    (h.modPort p f).unsent = h.unsent :=
  unsent_of_ports (vmap_vmodN_of_forall _ _ _ hf)

theorem Hub.ready_unsent (i cls : Nat) (b : Bytes) (k : TxKind) (h : Hub) : (h.ready i cls b k).unsent = h.unsent := by
  unfold Hub.ready
  extract_lets id dst seq f _ h1 ps h2
  have h2u : h2.unsent = h.unsent := foldl_view Hub.unsent
    (f := fun h p => h.modPort p (fun x => { x with ready := x.ready ++ [f] })) (fun h p => Hub.modPort_unsent (f := fun x => { x with ready := x.ready ++ [f] }) (fun _ => rfl) p h)
    ps h1
  clear_value h2
  split
  · rw [Hub.frameDone_unsent, h2u]
  · exact h2u

theorem Hub.arpRequest_unsent (i ip : Nat) (h : Hub) : (h.arpRequest i ip).unsent = h.unsent := Hub.ready_unsent ..

theorem Hub.gratuitousArp_unsent (i : Nat) (h : Hub) : (h.gratuitousArp i).unsent = h.unsent := Hub.ready_unsent ..

theorem Hub.arpDrop_unsent (e : ArpEntry) (h : Hub) :
    (h.arpDrop e).unsent = ({ h with net.arp := h.net.arp.filter (fun x => x != e) } : Hub).unsent :=
  foldl_view Hub.unsent (fun _ _ => Hub.frameDone_unsent ..) _ _

theorem Hub.arpRoom_unrouted (h : Hub) : h.arpRoom.unrouted = h.unrouted := by
  unfold Hub.arpRoom
  split
  · split
    · exact (unrouted_of_unsent (Hub.arpDrop_unsent ..) :)
    · rfl
  · rfl

theorem Hub.sendIp_unrouted (i dst : Nat) (tag : Option Nat) (cls : Nat) (k : TxKind) (packet : Bytes) (h : Hub) :
    (h.sendIp i dst tag cls k packet).unrouted = h.unrouted := by
  unfold Hub.sendIp
  extract_lets mask same hop _ e
  split
  · exact unrouted_of_unsent (Hub.ready_unsent ..)
  split
  · exact unrouted_of_unsent (Hub.ready_unsent ..)
  split
  · exact unrouted_of_unsent (Hub.frameDone_unsent ..)
  split
  · split
    · exact unrouted_of_unsent (Hub.ready_unsent ..)
    · rfl
  · rw [unrouted_of_unsent (Hub.arpRequest_unsent ..)]
    exact Hub.arpRoom_unrouted h

theorem Hub.igmpReports_unrouted (h : Hub) : h.igmpReports.unrouted = h.unrouted :=
  foldl_view Hub.unrouted (fun _ _ => Hub.sendIp_unrouted ..) _ _

theorem Hub.resend_unrouted (ip0 ip1 : Nat) (h : Hub) (e : ArpEntry) : (h.resend ip0 ip1 e).unrouted = h.unrouted :=
  foldl_view Hub.unrouted (fun _ _ => Hub.sendIp_unrouted ..) _ _

theorem Hub.readdressReady_unsent (ip0 ip1 : Nat) (h : Hub) : (h.readdressReady ip0 ip1).unsent = h.unsent :=
  unsent_of_ports (by ext1 i hi; simp)

/-! ### The services -/

theorem Hub.arpRequest_nextId (i ip : Nat) (h : Hub) : (h.arpRequest i ip).net.nextId = h.net.nextId + 1 := by
  unfold Hub.arpRequest Hub.ready
  extract_lets id dst seq f _ h1 ps h2
  have h2n : h2.net.nextId = h.net.nextId + 1 := foldl_view (fun h : Hub => h.net.nextId)
    (f := fun h p => h.modPort p (fun x => { x with ready := x.ready ++ [f] })) (fun _ _ => rfl) ps h1
  clear_value h2
  split <;> exact h2n

theorem Hub.pathLoss_active (lan cause : Nat) (o : Origin) (h : Hub) : (h.pathLoss lan cause o).faultActive .prpPathLoss [lan] = true :=
  Hub.raise_active _ _ _ _ _ rfl

theorem Hub.pdTimeout_real {i : Nat} {c : SubCfg} {st : SubState} (hc : h.cfg.net.subs[i]? = some c) (hst : h.net.subs[i]? = some st) :
    h.pdTimeout i .real = ({ h with
      net.subs := modifyAt (fun x => { x with valid := false }) h.net.subs i
      net.rx := if c.zero then h.net.rx.writeN c.offset (zeros c.length) else h.net.rx } : Hub).raise .pdTimeout [i] 0
        [(2, i), (4, c.comId), (4, st.source), (2, c.timeoutMs)] .real := by
  unfold Hub.pdTimeout
  rw [hc, hst]
  rfl

/-- A subscription whose PD-PR goes out (R287). -/
def Hub.pulled (i : Nat) (st : SubState) (h : Hub) : Hub :=
  { h with net.subs := modifyAt (fun x => { x with prSeq := (st.prSeq + 1) % 2 ^ 32, prTick := some h.time.tick }) h.net.subs i }

/-- A publication whose process data goes out, in place of what still waited (R286). -/
def Hub.published (i : Nat) (st : PubState) (h : Hub) : Hub :=
  let h := h.replacePub i
  { h with net.pubs := modifyAt (fun x => { x with seq := (st.seq + 1) % 2 ^ 32 }) h.net.pubs i }

theorem Hub.published_seq {i : Nat} {st : PubState} (hst : h.net.pubs[i]? = some st) :
    ((h.published i st).net.pubs[i]?).map PubState.seq = some ((st.seq + 1) % 2 ^ 32) := by
  unfold Hub.published Hub.replacePub
  dsimp only
  rw [modifyAt_getElem?, modifyAt_getElem?, hst]
  rfl

theorem Hub.unrouted_seqs (h : Hub) : h.unrouted.net.pubs.map PubState.seq = h.net.pubs.map PubState.seq :=
  List.map_map ..

/-- The new address, before its packets (R282). -/
def Hub.addressed (c : IpPending) (h : Hub) : Hub :=
  let net := { h.net with
    arp := [], ipPending := none, epoch := wrapAdd 32 h.net.epoch 1, etb := c.etb, opTrn := c.opTrn
    gratuitous := some (c.iface, h.time.now + 1000000000) }
  { h with net := if c.iface = 0 then { net with ip := c.ip, mask := c.mask, gateway := c.gateway }
    else { net with e3Ip := c.ip, e3Mask := c.mask } }

/-- The application of a new address, up to what it sends (R282). -/
theorem Hub.readdressed_unrouted (ip0 ip1 i : Nat) (cache : List ArpEntry) (h : Hub) :
    (cache.foldl (Hub.resend ip0 ip1) ((h.readdressReady ip0 ip1).gratuitousArp i).igmpReports).unrouted = h.unrouted :=
  calc _ = (((h.readdressReady ip0 ip1).gratuitousArp i).igmpReports).unrouted := foldl_view Hub.unrouted (Hub.resend_unrouted ip0 ip1) _ _
    _ = ((h.readdressReady ip0 ip1).gratuitousArp i).unrouted := Hub.igmpReports_unrouted _
    _ = h.unrouted := unrouted_of_unsent ((Hub.gratuitousArp_unsent ..).trans (Hub.readdressReady_unsent ..))

/-- Settles O48: each service acts on the hub at the command's instant; what it sends changes only what `unrouted` leaves out. -/
theorem networkServices : Obligations.NetworkServices := by
  unfold Obligations.NetworkServices
  intro s now h
  refine ⟨fun index c st hc hst => ⟨fun hlim hdue hrun hact => ?timeout, fun hpull hrun hdue => ?pull⟩,
    fun index c st hc hst hpub hen => ?publish, fun lan hnet hlong hother => ?loss, fun hnet hdue => ?supervision,
    fun mac => rfl, fun iface ip e he => ⟨fun hold => ?drop, fun hyoung htries hdue => ?retry⟩, fun iface ip => rfl,
    fun c hc hb hsent => ?config, fun i tm hg htm => ?repeat_⟩
  case timeout =>
    have hc' : h.cfg.net.subs[index]? = some c := hc
    have hst' : h.net.subs[index]? = some st := hst
    have hex : execPdTimeout index now s = .next { s with hub := h.pdTimeout index .real } := next_modHub (by
      dsimp only
      rw [hc', hst']
      exact if_pos ⟨hlim, hdue, hrun, hact⟩)
    rw [Hub.pdTimeout_real hc' hst'] at hex
    refine ⟨_, hex, rfl, ?_, Hub.raise_active _ _ _ _ _ rfl, (congrArg (fun h : Hub => h.net.rx) (Hub.raise_still ..) :)⟩
    refine (congrArg (fun h : Hub => h.net.subs[index]?) (Hub.raise_still ..) :).trans ?_
    exact (modifyAt_getElem? ..).trans (congrArg _ hst')
  case pull =>
    have hc' : h.cfg.net.subs[index]? = some c := hc
    have hst' : h.net.subs[index]? = some st := hst
    have hprTick : (match st.prTick with | some t => decide (t + c.pull ≤ h.time.tick) | none => true) = true := by
      cases hx : st.prTick with
      | none => rfl
      | some x => exact decide_eq_true (hdue x hx)
    have hdo : ¬ (c.pull = 0 ∨ h.time.running = false ∨
        (match st.prTick with | some t => decide (t + c.pull ≤ h.time.tick) | none => true) = false) := by
      rw [hprTick, show h.time.running = true from hrun]
      simpa using hpull
    obtain ⟨x, hex, hx⟩ : ∃ x : Hub, execPdPullRequest index now s = .next { s with hub := x } ∧ x.unrouted = (h.pulled index st).unrouted := by
      refine ⟨_, rfl, ?_⟩
      dsimp only
      rw [hc', hst']
      exact (congrArg Hub.unrouted (if_neg hdo)).trans (Hub.sendIp_unrouted ..)
    refine ⟨_, hex, rfl, (congrArg (fun h : Hub => h.net.subs[index]?) hx :).trans ?_⟩
    exact (modifyAt_getElem? ..).trans (congrArg _ hst')
  case publish =>
    intro p hp htick hcyc hevery
    have hc' : h.cfg.net.pubs[index]? = some c := hc
    have hst' : h.net.pubs[index]? = some st := hst
    have hdo : ¬ (!h.publishing || !bit h.net.pubEnable index || p == 0 || decide (h.time.tick ≤ h.power.tA) ||
        (h.time.tick - h.power.tA) % p != 0 || ((h.time.tick - h.power.tA) / p - 1) % c.every != 0) = true := by
      simp only [Bool.or_eq_true, Bool.not_eq_true', decide_eq_true_eq, bne_iff_ne, beq_iff_eq, not_or]
      exact ⟨⟨⟨⟨⟨by rw [show h.publishing = true from hpub]; decide, by rw [show bit h.net.pubEnable index = true from hen]; decide⟩, hp⟩,
        Nat.not_le.mpr htick⟩, Classical.not_not.mpr hcyc⟩, Classical.not_not.mpr hevery⟩
    obtain ⟨x, hex, hx⟩ : ∃ x : Hub, execPdPublication index now s = .next { s with hub := x } ∧ x.unrouted = (h.published index st).unrouted := by
      refine ⟨_, rfl, ?_⟩
      dsimp only
      rw [hc', hst']
      exact (congrArg Hub.unrouted (if_neg hdo)).trans (Hub.sendIp_unrouted ..)
    have hpubs : (x.net.pubs.map PubState.seq)[index]? = ((h.published index st).net.pubs.map PubState.seq)[index]? := by
      rw [← x.unrouted_seqs, hx, Hub.unrouted_seqs]
    rw [List.getElem?_map, List.getElem?_map, Hub.published_seq hst'] at hpubs
    obtain ⟨y, hy, hseq⟩ := Option.map_eq_some_iff.mp hpubs
    exact ⟨_, y, hex, rfl, hy, hseq⟩
  case loss =>
    by_cases hact : h.faultActive .prpPathLoss [lan.val] = true
    · have hex : execPrpPathLoss lan now s = .next { s with hub := h } := next_modHub (if_neg (by
        rw [show (s.hub.at_ now).faultActive .prpPathLoss [lan.val] = true from hact]
        simp))
      exact ⟨_, hex, rfl, hact⟩
    · have hex : execPrpPathLoss lan now s = .next { s with hub := h.pathLoss lan 1 .real } := next_modHub (if_pos (by
        simp only [Bool.and_eq_true, decide_eq_true_eq, Bool.not_eq_true']
        exact ⟨⟨⟨hnet, hlong⟩, hother⟩, Bool.not_eq_true _ ▸ hact⟩))
      exact ⟨_, hex, rfl, Hub.pathLoss_active ..⟩
  case supervision =>
    have hdo : ¬ (h.cfg.net.network.isNone || decide (h.time.now < h.net.supAt + h.netCfg.supervisionMs * 1000000)) = true := by
      obtain ⟨c, hc⟩ := Option.isSome_iff_exists.mp hnet
      rw [show h.cfg.net.network = some c from hc, Option.isNone_some, Bool.false_or, decide_eq_true_eq]
      exact Nat.not_lt.mpr hdue
    obtain ⟨x, hex, hx⟩ : ∃ x : Hub, execPrpSupervisionSend now s = .next { s with hub := x } ∧
        x.unsent = ({ h with net.supSeq := (h.net.supSeq + 1) % 65536, net.supAt := h.time.now } : Hub).unsent :=
      ⟨_, next_modHub (if_neg hdo), Hub.ready_unsent ..⟩
    exact ⟨_, hex, rfl, (congrArg (fun h : Hub => h.net.supSeq) hx :), (congrArg (fun h : Hub => h.net.supAt) hx :)⟩
  case drop =>
    have he' : h.net.arp.find? (fun e => e.iface == iface.val && e.ip == ip && e.mac.isNone) = some e := he
    have hex : execArpRetry iface ip now s = .next { s with hub := h.arpDrop e } := next_modHub (by
      dsimp only
      rw [he']
      exact if_pos hold)
    exact ⟨_, hex, rfl, (congrArg (fun h : Hub => h.net.arp) (Hub.arpDrop_unsent ..) :)⟩
  case retry =>
    have he' : h.net.arp.find? (fun e => e.iface == iface.val && e.ip == ip && e.mac.isNone) = some e := he
    have hex : execArpRetry iface ip now s = .next { s with hub := ({ h with
        net.arp := h.net.arp.map (fun x => if x = e then { x with tries := x.tries + 1 } else x) } : Hub).arpRequest iface ip } :=
      next_modHub (by
        dsimp only
        rw [he']
        exact (if_neg (Nat.not_le.mpr hyoung)).trans (if_pos ⟨htries, hdue⟩))
    exact ⟨_, hex, rfl, (congrArg (fun h : Hub => h.net.arp) (Hub.arpRequest_unsent ..) :)⟩
  case config =>
    have hc' : h.net.ipPending = some c := hc
    obtain ⟨x, hex, hx⟩ : ∃ x : Hub, execIpConfigApply now s = .next { s with hub := x } ∧ x.unrouted = (h.addressed c).unrouted := by
      refine ⟨_, rfl, ?_⟩
      dsimp only
      rw [hc']
      refine (congrArg Hub.unrouted (if_neg ?_)).trans (Hub.readdressed_unrouted ..)
      rw [show (s.hub.at_ now).atBoundary = true from hb, Bool.not_true, Bool.false_or, decide_eq_true_eq]
      exact Nat.not_lt.mpr hsent
    refine ⟨_, hex, rfl, ?_⟩
    by_cases h0 : c.iface = 0
    · rw [Hub.addressed, if_pos h0] at hx
      exact ⟨(congrArg (fun h : Hub => h.net.ipPending) hx :), (congrArg (fun h : Hub => h.net.epoch) hx :),
        (congrArg (fun h : Hub => h.net.etb) hx :), (congrArg (fun h : Hub => h.net.opTrn) hx :),
        (congrArg (fun h : Hub => h.net.gratuitous) hx :),
        fun _ => ⟨(congrArg (fun h : Hub => h.net.ip) hx :), (congrArg (fun h : Hub => h.net.mask) hx :),
          (congrArg (fun h : Hub => h.net.gateway) hx :), (congrArg (fun h : Hub => h.net.e3Ip) hx :)⟩, fun hn => absurd h0 hn⟩
    · rw [Hub.addressed, if_neg h0] at hx
      exact ⟨(congrArg (fun h : Hub => h.net.ipPending) hx :), (congrArg (fun h : Hub => h.net.epoch) hx :),
        (congrArg (fun h : Hub => h.net.etb) hx :), (congrArg (fun h : Hub => h.net.opTrn) hx :),
        (congrArg (fun h : Hub => h.net.gratuitous) hx :), fun hp => absurd hp h0,
        fun _ => ⟨(congrArg (fun h : Hub => h.net.ip) hx :), (congrArg (fun h : Hub => h.net.e3Ip) hx :),
          (congrArg (fun h : Hub => h.net.e3Mask) hx :)⟩⟩
  case repeat_ =>
    have hg' : h.net.gratuitous = some (i, tm) := hg
    have hex : execGratuitousArpRepeat now s = .next { s with hub := ({ h with net.gratuitous := none } : Hub).gratuitousArp i } :=
      next_modHub (by
        dsimp only
        rw [hg']
        exact if_pos htm)
    exact ⟨_, hex, rfl, (congrArg (fun h : Hub => h.net.gratuitous) (Hub.gratuitousArp_unsent ..) :), Hub.arpRequest_nextId ..⟩

end Sys2Proof.Machine
end

section
/-! Refutes O49: a remote frame goes out without data, whatever data its entry holds (chapter 12). And what the end of CAN frames
leaves of the hub. -/
namespace Sys2Proof.Machine

/-! ### Frames that end -/

/-- The hub without the controllers and what the end of their frames changes (R311, R314). -/
def Hub.uncanned (h : Hub) : Hub := { h.unsent with can := {} }

variable {h : Hub}

theorem Hub.uncanned_of_unsent {h t : Hub} (e : t.unsent = h.unsent) : t.uncanned = h.uncanned := by
  rw [Hub.uncanned, e, Hub.uncanned]

theorem Hub.modCan_uncanned (c : Nat) (f : CanCtl → CanCtl) (h : Hub) : (h.modCan c f).uncanned = h.uncanned := rfl

theorem Hub.canFinal_uncanned (c : Nat) (f : CanFrame) (st : Nat) (h : Hub) : (h.canFinal c f st).uncanned = h.uncanned := by
  unfold Hub.canFinal
  extract_lets sent h1 busy h2
  have e1 : h1.uncanned = h.uncanned := by
    unfold h1
    split
    · rfl
    · exact uncanned_of_unsent (Hub.complete_unsent ..)
  have e2 : h2.uncanned = h1.uncanned := by
    unfold h2
    split <;> rfl
  unfold Hub.canRec
  split
  · exact e2.trans e1
  · exact (uncanned_of_unsent (unsent_of_untraced (h2.emit_untraced _))).trans (e2.trans e1)

theorem Hub.canFlush_uncanned (c : Nat) (h : Hub) : (h.canFlush c).1.uncanned = h.uncanned :=
  foldl_view Hub.uncanned (fun _ _ => Hub.canFinal_uncanned ..) _ _

theorem Hub.canListen_uncanned (h : Hub) : h.canListen.uncanned = h.uncanned := by
  unfold Hub.canListen
  refine foldl_view Hub.uncanned (fun h c => ?_) _ _
  extract_lets x want h'
  split
  · rfl
  split
  · split
    · rfl
    · exact Hub.canFlush_uncanned c h'
  · rfl

/-! ### The refutation -/

/-- An entry of a remote frame (RTR) of DLC 1 that holds a byte of data, as the 80 bytes of a slot may spell it. -/
def remoteFrame : CanFrame := { entry := { id := 0, flags := 8, dlc := 1, index := 0, data := [1#8] }, src := .slot 0 }

/-- CAN controller 0 has joined its bus and `remoteFrame` heads its FIFO. -/
def remotePending : State :=
  State.reset.modHub (Hub.modCan 0 (fun x => { x with on := true, joined := true, fifo := [remoteFrame] }))

theorem remotePending_sends : ∃ t, exec (.canTransmitAttempt 0 0) remotePending = .next t ∧
    t.hub.canCurrent 0 = some remoteFrame ∧ t.hub.outbox = [.can 0 0 8 1 []] :=
  ⟨_, rfl, rfl, rfl⟩

/-- Refutes O49: the attempt of `remoteFrame` sends no data, and the statement wants the entry's byte on the bus. -/
theorem not_canEvents : ¬ Obligations.CanEvents := by
  unfold Obligations.CanEvents
  intro hall
  obtain ⟨-, -, hattempt, -⟩ := hall remotePending 0 0 rfl
  obtain ⟨t, ht, -, -, hsent⟩ := hattempt 0 rfl rfl rfl rfl rfl rfl rfl
  obtain ⟨t', ht', hcur, hout⟩ := remotePending_sends
  obtain rfl : t' = t := Host.Outcome.next.inj (ht'.symm.trans ht)
  have hwant : t'.hub.outbox = [.can 0 0 8 1 [1#8]] := hsent remoteFrame hcur
  rw [hout] at hwant
  exact absurd hwant (by decide)

end Sys2Proof.Machine
end

section
/-! Settles O33. The tick start of a lane, and of the hub: no unit that acts at the hub's tick start moves the tick number. -/
namespace Sys2Proof.Machine

/-! ### The lane's tick start -/

theorem State.laneAction_of_none {s : State} {l : LaneId} (h : s.hub.vote.nextLane[l] = none) : s.laneAction l = s := by
  unfold State.laneAction
  rw [h]

theorem Lane.tickInCycle_eq (h : Hub) (l : Lane) : ∃ m, l.tickInCycle h = { l with mem := m } := by
  unfold Lane.tickInCycle
  split
  · exact ⟨l.mem, rfl⟩
  · exact ⟨_, rfl⟩

theorem execTickStart_running {s : State} {lane : LaneId} (now : Nat) (fines : List Int) (hrun : s.hub.time.running = true)
    (hp : s.powered lane = true) (hv : s.hub.vote.nextLane[lane] = none) :
    ∃ h : Hub, h.nCycles = s.hub.nCycles ∧ execTickStart lane now fines s = .next (State.modLane lane (fun l =>
      ((l.newTick h.nCycles h.startNumbers).sampleFrame h.cfg h.time.now (h.forcedBreaks lane) fines).tickInCycle h) { s with hub := h }) := by
  refine ⟨(s.hub.at_ now).noteRecords lane (s.lane lane).own, rfl, ?_⟩
  unfold execTickStart
  extract_lets due s1 s2 h
  have hdo : ¬ (!due || !s.powered lane) = true := by simp [due, hrun, hp]
  have hs2 : s2 = { s with hub := (s.hub.at_ now).noteRecords lane (s.lane lane).own } := State.laneAction_of_none hv
  have hp2 : ¬ (!s2.powered lane) = true := by
    rw [show s2.powered lane = true by rw [hs2]; exact hp]
    decide
  rw [if_neg hdo, if_neg hp2]
  unfold h
  rw [hs2]

section lane
variable (l : Lane) (n now broken : Nat) (first : Nat × Nat) (cfg : Cfg) (fines : List Int) (h : Hub)

/-- What a lane is after its tick start. -/
def Lane.ticked : Lane := ((l.newTick n first).sampleFrame cfg now broken fines).tickInCycle h

/-- The parts of a lane that the samples and the tasks' counts leave as the new tick set them. -/
def Lane.stamped (l : Lane) := (l.tick, l.tb0, l.frames, l.receipts, l.xsig, l.eng)

theorem Lane.ticked_stamped : (l.ticked n now broken first cfg fines h).stamped = (l.newTick n first).stamped := by
  obtain ⟨m, hm⟩ := Lane.tickInCycle_eq h ((l.newTick n first).sampleFrame cfg now broken fines)
  rw [Lane.ticked, hm]
  rfl

theorem Lane.ticked_own : (l.ticked n now broken first cfg fines h).own.tick = (l.newTick n first).tick % 65536 := by
  obtain ⟨m, hm⟩ := Lane.tickInCycle_eq h ((l.newTick n first).sampleFrame cfg now broken fines)
  rw [Lane.ticked, hm]
  rfl

theorem Lane.newTick_live (e : EngineId) : (l.newTick n first).eng[e].live = BitVec.allOnes 64 := by
  unfold Lane.newTick
  generalize BitVec.allOnes 64 = ones
  exact (congrArg Engine.live (vmap_getElem _ l.eng e.val e.isLt) :)

theorem Lane.newTick_regs (e : EngineId) : (l.newTick n first).eng[e].regs = l.eng[e].regs := by
  unfold Lane.newTick
  generalize BitVec.allOnes 64 = ones
  exact (congrArg Engine.regs (vmap_getElem _ l.eng e.val e.isLt) :)

end lane

/-! ### The hub's tick start -/

/-- The tick number, the next one and whether ticks run. -/
def Hub.tickClock (h : Hub) : Nat × Nat × Bool := (h.time.tick, h.time.nextTick, h.time.running)

section clock
variable {h : Hub} {s : State}

theorem Hub.tickClock_of_still {h t : Hub} (e : t.still = h.still) : t.tickClock = h.tickClock := (congrArg Hub.tickClock e :)

theorem Hub.tickClock_of_untraced {h t : Hub} (e : t.untraced = h.untraced) : t.tickClock = h.tickClock := (congrArg Hub.tickClock e :)

theorem Hub.tickClock_of_unreplied {h t : Hub} (e : t.unreplied = h.unreplied) : t.tickClock = h.tickClock := (congrArg Hub.tickClock e :)

theorem Hub.tickClock_of_unrouted {h t : Hub} (e : t.unrouted = h.unrouted) : t.tickClock = h.tickClock := (congrArg Hub.tickClock e :)

theorem Hub.tickClock_of_uncanned {h t : Hub} (e : t.uncanned = h.uncanned) : t.tickClock = h.tickClock := (congrArg Hub.tickClock e :)

theorem Hub.advanceTick_clock (h : Hub) : h.advanceTick.tickClock = (h.time.nextTick, h.time.nextTick + 1, true) := by
  unfold Hub.advanceTick
  extract_lets t st tb0 h'
  split <;> rfl

theorem Hub.endTick_clock (h : Hub) : h.endTick.tickClock = h.tickClock := by
  unfold Hub.endTick
  extract_lets _ h'
  have hh : h'.tickClock = h.tickClock := by
    unfold h'
    split <;> rfl
  exact hh

theorem Hub.evaluateTb3_clock (h : Hub) : h.evaluateTb3.tickClock = h.tickClock := by
  unfold Hub.evaluateTb3
  dsimp only
  split
  · rfl
  · rfl
  split
  · rfl
  split <;> rfl

theorem Hub.closeLinkRuns_clock (h : Hub) : h.closeLinkRuns.tickClock = h.tickClock := rfl

theorem State.noteAlign_clock (s : State) : s.noteAlign.hub.tickClock = s.hub.tickClock := rfl

/-! ### Units of the hub -/

theorem Hub.pairStep_clock (i at_ : Nat) (h : Hub) : (h.pairStep i at_).tickClock = h.tickClock := by
  unfold Hub.pairStep
  split <;> rfl

theorem Hub.pwmTick_clock (h : Hub) : h.pwmTick.tickClock = h.tickClock :=
  foldl_view Hub.tickClock (fun _ _ => Hub.pairStep_clock ..) _ _

theorem Hub.clearFault_clock (n : FaultName) (k : List Nat) (d : Detail → Detail) (h : Hub) : (h.clearFault n k d).tickClock = h.tickClock :=
  tickClock_of_still (h.clearFault_still ..)

theorem Hub.raise_clock (n : FaultName) (k : List Nat) (lanes : Nat) (d : Detail) (o : Origin) (h : Hub) :
    (h.raise n k lanes d o).tickClock = h.tickClock :=
  tickClock_of_still (h.raise_still ..)

theorem Hub.reply_clock (r : Req) (op : Opcode) (st : Status) (p : Bytes) (h : Hub) : (h.reply r op st p).tickClock = h.tickClock :=
  tickClock_of_unreplied (h.reply_unreplied ..)

theorem Hub.finish_clock (which : Exec → Bool) (st : Status) (p : Exec → Bytes) (h : Hub) : (h.finish which st p).tickClock = h.tickClock :=
  tickClock_of_still (h.finish_still ..)

theorem Hub.tripClear_clock (mask : Nat) (h : Hub) : (h.tripClear mask).1.tickClock = h.tickClock :=
  foldl_view Hub.tickClock (fun _ _ => Hub.clearFault_clock ..) _ _

theorem Hub.applyTripClear_clock (h : Hub) : h.applyTripClear.tickClock = h.tickClock := by
  unfold Hub.applyTripClear
  refine foldl_view Hub.tickClock (fun h e => ?_) _ _
  dsimp only
  split
  · exact Hub.reply_clock ..
  · exact (Hub.reply_clock ..).trans (Hub.tripClear_clock ..)

theorem Hub.canListen_clock (h : Hub) : h.canListen.tickClock = h.tickClock := tickClock_of_uncanned h.canListen_uncanned

theorem Hub.canTick_clock (h : Hub) : h.canTick.tickClock = h.tickClock := by
  unfold Hub.canTick
  refine foldl_view Hub.tickClock (fun h e => ?_) _ _
  dsimp only
  split
  · exact (Hub.finish_clock ..).trans (foldl_view Hub.tickClock (f := fun h c => h.canRecover c) (fun _ _ => rfl) _ _)
  · refine (Hub.finish_clock ..).trans ((Hub.canListen_clock _).trans ?_)
    exact foldl_view Hub.tickClock (f := fun h c => h.modCan c (fun x => { x with listenReq := u8 e.params 1 == 1 })) (fun _ _ => rfl) _ _

theorem Hub.ybOff_clock (h : Hub) : h.ybOff.tickClock = h.tickClock := Hub.clearFault_clock ..

theorem Hub.ybListen_clock (h : Hub) : h.ybListen.tickClock = h.tickClock := Hub.clearFault_clock ..

theorem Hub.ybTick_clock (h : Hub) : h.ybTick.tickClock = h.tickClock := by
  unfold Hub.ybTick
  extract_lets due h1 valid
  refine (foldl_view Hub.tickClock (fun h e => ?_) due h : h1.tickClock = h.tickClock)
  refine (Hub.finish_clock ..).trans ?_
  split
  · exact (Hub.ybListen_clock _).trans (Hub.ybOff_clock h)
  · exact Hub.ybOff_clock h

theorem Hub.rackTick_clock (h : Hub) : h.rackTick.tickClock = h.tickClock := by
  unfold Hub.rackTick
  extract_lets t late h1
  split <;> rfl

theorem Hub.partnerTick_clock (h : Hub) : h.partnerTick.tickClock = h.tickClock := by
  unfold Hub.partnerTick
  split
  · split <;> rfl
  · rfl

theorem Hub.unitsTick_clock (h : Hub) : h.unitsTick.tickClock = h.tickClock := by
  rw [Hub.unitsTick, Hub.partnerTick_clock, Hub.rackTick_clock, Hub.ybTick_clock, Hub.canTick_clock, Hub.applyTripClear_clock,
    Hub.pwmTick_clock]

theorem Hub.readWatchdog_clock (h : Hub) : h.readWatchdog.tickClock = h.tickClock := by
  unfold Hub.readWatchdog
  have ht : (h.takeArm .watchdogIoStage (fun _ => true)).2.tickClock = h.tickClock := tickClock_of_untraced (h.takeArm_untraced ..)
  generalize h.takeArm .watchdogIoStage (fun _ => true) = r at ht ⊢
  obtain ⟨arm, h'⟩ := r
  dsimp only
  split
  · exact ht
  split
  · exact (Hub.raise_clock ..).trans ht
  split
  · exact (Hub.raise_clock ..).trans ht
  · exact ht

theorem Hub.readTests_clock (h : Hub) : h.readTests.tickClock = h.tickClock := by
  unfold Hub.readTests
  refine foldl_view Hub.tickClock (fun h k => ?_) _ _
  dsimp only
  split
  · rfl
  · exact Hub.raise_clock ..

theorem Hub.settleSwitches_clock (h : Hub) : h.settleSwitches.tickClock = h.tickClock := by
  unfold Hub.settleSwitches
  refine foldl_view Hub.tickClock (fun h w => ?_) _ _
  rfl

theorem Hub.traceTick_clock (h : Hub) : h.traceTick.tickClock = h.tickClock :=
  (tickClock_of_untraced (Hub.count_untraced ..)).trans (Hub.finish_clock ..)

theorem Hub.drainLane_clock (h : Hub) (l : LaneId) : (h.drainLane l).tickClock = h.tickClock :=
  foldl_view Hub.tickClock (fun h r =>
    (tickClock_of_untraced (h.afterDrop.ringWrite_untraced r)).trans (tickClock_of_untraced h.afterDrop_untraced)) _ _

theorem Hub.boundaryTick_clock (h : Hub) : h.boundaryTick.tickClock = h.tickClock := by
  unfold Hub.boundaryTick
  split
  · refine (tickClock_of_untraced (Hub.emit_untraced ..)).trans ?_
    unfold Hub.traceSentence
    extract_lets h'
    have hh : h'.tickClock = h.tickClock := by
      unfold h'
      split
      · exact Hub.clearFault_clock ..
      · rfl
    exact hh
  · rfl

theorem Hub.presentRequest_clock (h : Hub) : h.presentRequest.tickClock = h.tickClock := rfl

/-! ### Lane actions and the mode -/

theorem State.setLaneState_clock (l : LaneId) (st : LaneState) (cause : Nat) (s : State) :
    (s.setLaneState l st cause).hub.tickClock = s.hub.tickClock :=
  (congrArg Hub.tickClock (State.setLaneState_moves l st cause s).lasting :)

theorem State.setLaneStates_clock (ls : List LaneId) (st : LaneState) (cause : Nat) (s : State) :
    (ls.foldl (fun (s : State) (l : LaneId) => s.setLaneState l st cause) s).hub.tickClock = s.hub.tickClock :=
  foldl_view (fun s : State => s.hub.tickClock) (fun _ _ => State.setLaneState_clock ..) _ _

theorem State.laneAction_clock (l : LaneId) (s : State) : (s.laneAction l).hub.tickClock = s.hub.tickClock := by
  unfold State.laneAction
  split
  · exact State.setLaneState_clock ..
  · rfl

theorem Hub.setMode_clock (m : Mode) (cause : Nat) (h : Hub) : (h.setMode m cause).tickClock = h.tickClock :=
  tickClock_of_still (h.setMode_still ..)

theorem State.voteEffects_clock (s : State) : s.voteEffects.hub.tickClock = s.hub.tickClock := by
  unfold State.voteEffects
  extract_lets s1
  have h1 : s1.hub.tickClock = s.hub.tickClock := foldl_view (fun s : State => s.hub.tickClock) (fun s l => s.laneAction_clock l) _ _
  clear_value s1
  dsimp only
  split
  · exact (Hub.setMode_clock ..).trans h1
  · exact h1

theorem Hub.netService_clock (h : Hub) : h.netService.tickClock = h.tickClock := (tickClock_of_unrouted (Hub.igmpReports_unrouted _) :)

theorem Hub.ybService_clock (b : Bool) (h : Hub) : (h.ybService b).tickClock = h.tickClock := by
  unfold Hub.ybService
  split
  · rfl
  · exact h.ybListen_clock

theorem Hub.rackService_clock (h : Hub) : h.rackService.tickClock = h.tickClock := by
  unfold Hub.rackService
  split <;> rfl

theorem State.returnToService_clock (s : State) : s.returnToService.hub.tickClock = s.hub.tickClock := by
  unfold State.returnToService
  extract_lets fromSafe main s1 idle s2 s3 s4
  have h1 : s1.hub.tickClock = s.hub.tickClock := foldl_view (fun s : State => s.hub.tickClock) (fun s l => by
    dsimp only
    split
    · exact State.setLaneState_clock ..
    · cases main <;> exact State.setLaneState_clock ..
    · rfl) _ _
  clear_value s1 main
  have h3 : s3.hub.tickClock = s1.hub.tickClock := by
    refine (Hub.rackService_clock _).trans ((Hub.ybService_clock ..).trans ((Hub.netService_clock _).trans ((Hub.setMode_clock ..).trans ?_)))
    dsimp only
    split <;> rfl
  have h4 : s4.hub.tickClock = s3.hub.tickClock := rfl
  clear_value s4
  exact (Hub.finish_clock ..).trans (h4.trans (h3.trans h1))

theorem State.modeEffect_clock (s : State) : s.modeEffect.hub.tickClock = s.hub.tickClock := by
  unfold State.modeEffect
  split
  · split
    · exact s.returnToService_clock
    · rfl
  · rfl

theorem State.laneActions_clock (s : State) : s.laneActions.hub.tickClock = s.hub.tickClock := by
  unfold State.laneActions
  extract_lets with_ cold off need s1 s2 s3 spares s4
  have h1 : s1.hub.tickClock = s.hub.tickClock := rfl
  clear_value s1
  have h2 : s2.hub.tickClock = s1.hub.tickClock := State.setLaneStates_clock cold _ _ s1
  clear_value s2
  have h3 : s3.hub.tickClock = s2.hub.tickClock := State.setLaneStates_clock off _ _ s2
  clear_value s3
  have h4 : s4.hub.tickClock = s3.hub.tickClock := State.setLaneStates_clock spares _ _ s3
  clear_value s4
  replace h3 := h3.trans (h2.trans h1)
  split
  · rfl
  split
  · exact h3
  split
  · exact (Hub.setMode_clock ..).trans (h4.trans h3)
  · exact h4.trans h3

theorem State.nextPowerCopy_clock (s : State) : s.nextPowerCopy.hub.tickClock = s.hub.tickClock := by
  unfold State.nextPowerCopy
  split
  · extract_lets s1
    have h1 : s1.hub.tickClock = s.hub.tickClock := by
      unfold s1
      split
      · rfl
      · exact State.setLaneState_clock ..
    clear_value s1
    exact h1
  · rfl

theorem State.nextJoinCopy_clock (s : State) : s.nextJoinCopy.hub.tickClock = s.hub.tickClock := by
  unfold State.nextJoinCopy
  split <;> rfl

theorem State.joinMove_clock (s : State) : s.joinMove.hub.tickClock = s.hub.tickClock := by
  unfold State.joinMove
  split
  · extract_lets b s1 s2
    have h1 : s1.hub.tickClock = s.hub.tickClock :=
      foldl_view (fun s : State => s.hub.tickClock)
        (f := fun s l => (s.setLaneState l .resync 0x0205).modLane l (fun x => { x with schedule := none }))
        (fun s l => State.setLaneState_clock l .resync 0x0205 s) _ _
    clear_value s1
    exact (State.nextJoinCopy_clock s2).trans h1
  · rfl

theorem State.loadCalibration_clock (fresh : Bool) (s : State) : (s.loadCalibration fresh).hub.tickClock = s.hub.tickClock := by
  unfold State.loadCalibration
  extract_lets h s1
  have h1 : s1.hub.tickClock = s.hub.tickClock := rfl
  clear_value s1
  exact h1

theorem State.clearStuck_clock (s : State) : s.clearStuck.hub.tickClock = s.hub.tickClock := by
  unfold State.clearStuck
  refine foldl_view (fun s : State => s.hub.tickClock) (fun s k => ?_) _ _
  exact s.hub.clearFault_clock ..

theorem State.evalSource_clock (i : Nat) (o : Origin) (s : State) : (s.evalSource i o).hub.tickClock = s.hub.tickClock := by
  unfold State.evalSource
  extract_lets a s1
  have h1 : s1.hub.tickClock = s.hub.tickClock := rfl
  clear_value s1
  split
  · exact (Hub.raise_clock ..).trans h1
  · exact h1

theorem State.evalCoarse_clock (s : State) : s.evalCoarse.hub.tickClock = s.hub.tickClock :=
  foldl_view (fun s : State => s.hub.tickClock) (fun s i => s.evalSource_clock i .real) _ _

end clock

theorem execHubTickStart_running {s : State} (now : Nat) (hrun : s.hub.time.running = true) :
    ∃ t, execHubTickStart now s = .next t ∧ t.snap = t.hub ∧ t.hub.tickClock = (s.hub.time.nextTick, s.hub.time.nextTick + 1, true) := by
  unfold execHubTickStart
  extract_lets due s1 s2 s3 contrib s4 s5 s6 s7
  have h1 : s1.hub.tickClock = (s.hub.time.nextTick, s.hub.time.nextTick + 1, true) := by
    unfold s1
    rw [State.noteAlign_clock, State.modHub_hub, Hub.evaluateTb3_clock, Hub.endTick_clock, Hub.closeLinkRuns_clock, Hub.advanceTick_clock]
    rfl
  clear_value s1
  have h2 : s2.hub.tickClock = s1.hub.tickClock := by
    unfold s2
    rw [State.joinMove_clock, State.nextPowerCopy_clock, State.laneActions_clock, State.modeEffect_clock, State.voteEffects_clock]
  clear_value s2
  have h3 : s3.hub.tickClock = s2.hub.tickClock := Hub.settleSwitches_clock _
  clear_value contrib s3
  have h4 : s4.hub.tickClock = s3.hub.tickClock := by
    unfold s4
    split
    · exact s3.loadCalibration_clock false
    · rfl
  clear_value s4
  have h5 : s5.hub.tickClock = s4.hub.tickClock := by
    unfold s5
    rw [State.modHub_hub, Hub.readTests_clock, Hub.readWatchdog_clock, Hub.unitsTick_clock, State.clearStuck_clock]
  clear_value s5
  have h6 : s6.hub.tickClock = s5.hub.tickClock := by
    unfold s6
    split
    · rfl
    · exact s5.evalCoarse_clock
  clear_value s6
  have h7 : s7.hub.tickClock = s6.hub.tickClock := by
    unfold s7
    rw [State.modHub_hub, Hub.presentRequest_clock, Hub.boundaryTick_clock, foldl_view Hub.tickClock Hub.drainLane_clock, Hub.traceTick_clock]
  clear_value s7
  have hdue : ¬ (!due) = true := by simp [due, hrun]
  rw [if_neg hdue]
  exact ⟨_, rfl, rfl, (h7.trans (h6.trans (h5.trans (h4.trans (h3.trans (h2.trans h1))))))⟩

/-- Settles O33. -/
theorem tickStarts : Obligations.TickStarts := by
  unfold Obligations.TickStarts
  refine ⟨fun s lane now fines hrun hp hv hstarted => ?lane, fun s now hrun => ?hub⟩
  case lane =>
    obtain ⟨h, hn, hex⟩ := execTickStart_running now fines hrun hp hv
    refine ⟨_, hex, ?_⟩
    have hlane : (State.modLane lane (fun l => l.ticked h.nCycles h.time.now (h.forcedBreaks lane) h.startNumbers h.cfg fines h)
        { s with hub := h }).lane lane = (s.lane lane).ticked h.nCycles h.time.now (h.forcedBreaks lane) h.startNumbers h.cfg fines h :=
      State.modLane_lane ..
    have hstamp := (congrArg Lane.stamped hlane).trans (Lane.ticked_stamped ..)
    have hown := (congrArg (fun l : Lane => l.own.tick) hlane).trans (Lane.ticked_own ..)
    have htick : ((s.lane lane).newTick h.nCycles h.startNumbers).tick = (s.lane lane).tick + 1 := if_pos hstarted
    have htb0 : ((s.lane lane).newTick h.nCycles h.startNumbers).tb0 =
        (((s.lane lane).tb0 + s.hub.nCycles : Nat) + (s.lane lane).steerCycles).toNat := hn ▸ if_pos hstarted
    simp only [Lane.stamped, Prod.mk.injEq] at hstamp
    obtain ⟨etick, etb0, eframes, ereceipts, exsig, eeng⟩ := hstamp
    refine ⟨etick.trans htick, etb0.trans htb0, hown.trans (congrArg (· % 65536) htick), eframes, ereceipts, exsig, fun e => ?_,
      fun l hl => State.modLane_lane_ne _ _ _ hl⟩
    have he := congrArg (fun v : Vector Engine 8 => v[e]) eeng
    exact ⟨(congrArg Engine.live he).trans (Lane.newTick_live ..), (congrArg Engine.regs he).trans (Lane.newTick_regs ..)⟩
  case hub =>
    obtain ⟨t, ht, hsnap, hclock⟩ := execHubTickStart_running now hrun
    obtain ⟨htick, hnext, hr⟩ : _ ∧ _ ∧ _ := by simpa [Hub.tickClock] using hclock
    exact ⟨t, ht, hsnap, htick, hnext, hr⟩

end Sys2Proof.Machine
end

section
/-! Settles O35. Reports arm no injection; supply, temperature, the backup domain and the hub's comparators (chapter 19). -/
namespace Sys2Proof.Machine

/-! ### No report arms an injection -/

section armed
variable {h : Hub} (ha : h.inject.armed = [])
include ha

theorem Hub.takeArm_armed (n : FaultName) (p : Armed → Bool) : (h.takeArm n p).2.inject.armed = [] := by
  simp [Hub.takeArm, ha]

theorem Hub.streamFlush_armed : h.streamFlush.inject.armed = [] := by
  unfold Hub.streamFlush
  split
  · exact ha
  · dsimp only
    split <;> exact ha

theorem Hub.streamPut_armed (pos : Nat) (r : TraceRec) : (h.streamPut pos r).inject.armed = [] := by
  unfold Hub.streamPut
  split
  · exact ha
  · extract_lets have_ h'
    have hflush : h'.inject.armed = [] := by
      simp only [h']
      split
      · exact Hub.streamFlush_armed ha
      · exact ha
    split <;> exact hflush

theorem Hub.ringWrite_armed (r : TraceRec) : (h.ringWrite r).inject.armed = [] := by
  unfold Hub.ringWrite
  extract_lets arm _ _ h' pos real o
  have harm : h'.inject.armed = [] := by
    simp only [h']
    split <;> exact Hub.takeArm_armed ha ..
  clear_value h'
  split
  · exact Hub.streamPut_armed (h := { h' with trace := h'.trace.write r }) harm ..
  · exact harm

theorem Hub.afterDrop_armed : h.afterDrop.inject.armed = [] := by
  unfold Hub.afterDrop
  split
  · exact ha
  · dsimp only
    split
    · exact Hub.ringWrite_armed (Hub.ringWrite_armed (h := { h with trace := { h.trace with lossPending := 0, lossLanes := 0 } }) ha _) _
    · exact ha

theorem Hub.emit_armed (r : TraceRec) : (h.emit r).inject.armed = [] := by
  unfold Hub.emit
  split
  · exact Hub.ringWrite_armed (Hub.afterDrop_armed ha) r
  · exact ha

theorem Hub.finish_armed (which : Exec → Bool) (st : Status) (p : Exec → Bytes) : (h.finish which st p).inject.armed = [] :=
  (congrArg (fun h : Hub => h.inject.armed) (h.finish_unreplied which st p) : _).trans ha

theorem Hub.disarmAll_armed : h.disarmAll.inject.armed = [] := by
  simp [Hub.disarmAll, ha]

theorem Hub.modeEnds_armed (m : Mode) : (h.modeEnds m).inject.armed = [] := by
  unfold Hub.modeEnds
  extract_lets _ h1 _ _ h2 _ _ h3 _ h4
  have e1 : h1.inject.armed = [] := Hub.finish_armed (h := { h with meas.avg := none }) ha ..
  have e2 : h2.inject.armed = [] := by
    simp only [h2]
    split
    · exact e1
    · exact Hub.finish_armed (h := { h1 with partner.switching := false, rt := _ }) e1 ..
  have e3 : h3.inject.armed = [] := by simp only [h3]; split <;> exact e2
  have e4 : h4.inject.armed = [] := by simp only [h4]; split <;> exact e3
  exact e4

theorem Hub.setMode_armed (m : Mode) (cause : Nat) : (h.setMode m cause).inject.armed = [] := by
  unfold Hub.setMode
  split
  · exact ha
  · extract_lets keep h1 _ _ h2 h3
    have e1 : h1.inject.armed = [] := by simp only [h1]; split <;> exact ha
    have e3 : h3.inject.armed = [] := by
      simp only [h3]
      split
      · exact e1
      · exact Hub.disarmAll_armed (h := h2) e1
    exact Hub.emit_armed (Hub.modeEnds_armed e3 m) _

theorem Hub.safeDecision_armed (cause : Nat) : (h.safeDecision cause).inject.armed = [] := by
  unfold Hub.safeDecision
  split
  · exact Hub.setMode_armed (Hub.finish_armed (h := { h with power := _, vote.nextMode := none }) ha ..) ..
  · exact ha

theorem Hub.react_armed (n : FaultName) (o : Origin) : (h.react n o).inject.armed = [] := by
  unfold Hub.react
  split
  · exact Hub.safeDecision_armed ha _
  · exact ha

theorem Hub.newRecord_armed (n : FaultName) (key : List Nat) (lanes : Nat) (d : Detail) (o : Origin) :
    (h.newRecord n key lanes d o).inject.armed = [] := by
  unfold Hub.newRecord
  extract_lets rec_ _ h'
  exact Hub.emit_armed (h := h') ha _

theorem Hub.raise_armed (n : FaultName) (key : List Nat) (lanes : Nat) (d : Detail) (o : Origin) :
    (h.raise n key lanes d o).inject.armed = [] := by
  unfold Hub.raise
  extract_lets p h'
  have e : h'.inject.armed = [] := by
    simp only [h']
    split
    · exact ha
    · exact Hub.newRecord_armed ha ..
  exact Hub.react_armed e ..

end armed

/-! ### Temperature (R491) -/

section temperature
variable {h : Hub}

theorem Hub.tempCheck_still (n : FaultName) (hi lo add t : Int) (h : Hub) : (h.tempCheck n hi lo add t).still = h.still := by
  unfold Hub.tempCheck
  extract_lets arm h1 det open_ put h2
  have e1 : h1.still = h.still := still_of_untraced (h.takeArm_untraced ..)
  have hput (o : Origin) (v : Int) (k : Hub) : (put o v k).still = k.still := by
    unfold put
    split
    · rfl
    · exact k.raise_still ..
  have e2 : h2.still = h1.still := by
    unfold h2
    clear_value h1 arm
    split
    · exact hput ..
    · cases arm.1 with
      | none => rfl
      | some o =>
        dsimp only
        split
        · exact hput ..
        · rfl
  split
  · exact (h2.clearFault_still ..).trans (e2.trans e1)
  · exact e2.trans e1

/-- Without an injection the comparison raises at `hi` what is not yet raised, and clears below `lo`. -/
theorem Hub.tempCheck_eq (ha : h.inject.armed = []) (n : FaultName) (hi lo add t : Int) : h.tempCheck n hi lo add t =
    (let h' := if hi ≤ t ∧ h.faults.log.any (fun r => r.same n [] .real && r.active) = false then
        h.raise n [] 0 [(2, ofSigned 16 t)] .real else h
      if t < lo then h'.clearFault n [] id else h') := by
  unfold Hub.tempCheck
  rw [Hub.takeArm_of_no_injection ha]
  by_cases hhi : hi ≤ t <;> cases hopen : h.faults.log.any (fun r => r.same n [] .real && r.active) <;> simp [hhi, hopen]

theorem Hub.tempCheck_armed (ha : h.inject.armed = []) (n : FaultName) (hi lo add t : Int) :
    (h.tempCheck n hi lo add t).inject.armed = [] := by
  rw [Hub.tempCheck_eq ha]
  extract_lets h'
  have e : h'.inject.armed = [] := by
    unfold h'
    split
    · exact Hub.raise_armed ha ..
    · exact ha
  split <;> exact e

theorem Hub.faultActive_of_open {n : FaultName} {key : List Nat} {o : Origin}
    (hopen : h.faults.log.any (fun r => r.same n key o && r.active) = true) : h.faultActive n key = true := by
  simp only [List.any_eq_true, FaultRec.same, Bool.and_eq_true, beq_iff_eq] at hopen
  obtain ⟨r, hr, ⟨⟨hname, hkey⟩, -⟩, hactive⟩ := hopen
  simp only [Hub.faultActive, List.any_eq_true, Bool.and_eq_true, beq_iff_eq]
  exact ⟨r, hr, ⟨hname, hkey⟩, hactive⟩

theorem Hub.tempCheck_raised (ha : h.inject.armed = []) {n : FaultName} (hn : n.hasActive = true) {hi lo t : Int} (add : Int) (hhi : hi ≤ t)
    (hlo : lo ≤ t) : (h.tempCheck n hi lo add t).faultActive n [] = true := by
  rw [Hub.tempCheck_eq ha]
  dsimp only
  rw [if_neg (Int.not_lt.mpr hlo)]
  split
  · exact Hub.raise_active _ _ _ _ _ hn
  next hopen => exact faultActive_of_open ((Bool.not_eq_false _).mp (fun hf => hopen ⟨hhi, hf⟩))

theorem Hub.tempCheck_cleared (ha : h.inject.armed = []) (n : FaultName) (hi add : Int) {lo t : Int} (hlo : t < lo) :
    (h.tempCheck n hi lo add t).faultActive n [] = false := by
  rw [Hub.tempCheck_eq ha]
  dsimp only
  rw [if_pos hlo]
  exact Hub.clearFault_inactive ..

theorem Hub.tempCheck_other (ha : h.inject.armed = []) {n m : FaultName} (hm : m ≠ n) {hi t : Int} (lo add : Int) (hhi : t < hi) :
    (h.tempCheck n hi lo add t).faultActive m [] = h.faultActive m [] := by
  rw [Hub.tempCheck_eq ha, if_neg (c := hi ≤ t ∧ _) (fun hc => absurd hc.1 (Int.not_le.mpr hhi))]
  dsimp only
  split
  · exact Hub.clearFault_active_of_ne _ _ (fun hc => hm hc.1)
  · rfl

end temperature

/-- The measured temperature before its comparisons. -/
def Hub.heated (t : Int) (h : Hub) : Hub := { h with power.hubTemp := t, power.hubTempMax := max t h.power.hubTempMax }

theorem execTemperatureMeasurement_on {s : State} (hmode : s.hub.power.mode ≠ .off) (t : Int) (now : Nat) :
    execTemperatureMeasurement t now s = .next { s with hub :=
      (((s.hub.at_ now).heated t).tempCheck .tempHigh 950 900 200 t).tempCheck .tempCritical 1100 1000 350 t } :=
  next_modHub (if_neg (by simpa [Hub.hubRuns, Hub.at_] using hmode))

/-! ### Comparators -/

section comparators
variable {h : Hub}

/-- The self-test of one comparator that no injection meets (R12). -/
def Hub.comparatorTest (c : Nat) (missed : Bool) (h : Hub) : Hub :=
  if missed then h.raise .hubComparatorSelftest [c] 0 [(1, c)] .real else h

theorem Hub.comparatorTest_armed (ha : h.inject.armed = []) (c : Nat) (missed : Bool) : (h.comparatorTest c missed).inject.armed = [] := by
  unfold Hub.comparatorTest
  split
  · exact Hub.raise_armed ha ..
  · exact ha

theorem Hub.comparatorTest_active (c : Nat) (h : Hub) : (h.comparatorTest c true).faultActive .hubComparatorSelftest [c] = true := by
  rw [Hub.comparatorTest, if_pos rfl]
  exact Hub.raise_active _ _ _ _ _ rfl

theorem execHubComparatorSelftest_on {s : State} (hmode : s.hub.power.mode ≠ .off) (ha : s.hub.inject.armed = []) (a b : Bool) (now : Nat) :
    execHubComparatorSelftest a b now s = .next { s with hub := ((s.hub.at_ now).comparatorTest 0 a).comparatorTest 1 b } := by
  have hone (c : Nat) (missed : Bool) {k : Hub} (hk : k.inject.armed = []) :
      (let arm := k.takeArm .hubComparatorSelftest (fun a => a.resource == c)
       let o : Option Origin := if missed then some .real else arm.1
       match o with
       | some o => arm.2.raise .hubComparatorSelftest [c] 0 [(1, c)] o
       | none => arm.2) = k.comparatorTest c missed := by
    rw [Hub.takeArm_of_no_injection hk]
    cases missed <;> rfl
  refine next_modHub ((if_neg (by simpa [Hub.hubRuns, Hub.at_] using hmode)).trans ?_)
  have ha1 : ((s.hub.at_ now).comparatorTest 0 a).inject.armed = [] := Hub.comparatorTest_armed (h := s.hub.at_ now) ha 0 a
  refine Eq.trans ?_ (hone 1 b ha1)
  rw [← hone 0 a (k := s.hub.at_ now) ha] <;> rfl

end comparators

/-! ### Supply and tamper -/

section supply
variable {h : Hub}

theorem Hub.imageChunk_power (r : Req) (p : Bytes) (h : Hub) : (h.imageChunk r p).power = h.power := by
  unfold Hub.imageChunk
  split
  · exact (congrArg Hub.power (h.reply_unreplied ..) :)
  split
  · exact (congrArg Hub.power (h.reply_unreplied ..) :)
  split
  · exact (congrArg Hub.power (Hub.reply_unreplied ..) :)
  · exact (congrArg Hub.power (h.reply_unreplied ..) :)

theorem Hub.heldChunks_power (h : Hub) : h.heldChunks.power = h.power :=
  foldl_view Hub.power (fun _ _ => Hub.imageChunk_power ..) _ _

theorem Hub.event_head (n : FaultName) (key : List Nat) (lanes : Nat) (d : Detail) (o : Origin) (h : Hub) :
    (h.event n key lanes d o).faults.log.head?.map (fun r => r.name) = some n := by
  unfold Hub.event Hub.raiseEvent
  extract_lets h'
  have e : h'.faults = (h.newRecord n key lanes d o).faults := by
    unfold h'
    split <;> rfl
  rw [Hub.react_faults, e, Hub.newRecord_faults]
  rfl

/-- The measured voltages and what follows from them alone (R488). -/
def Hub.vinSampled (mv holdup : Nat) (h : Hub) : Hub :=
  let p := h.power
  { h with power := { p with
      vinMv := min mv 65535, holdup := min holdup 65535
      goodSince := if mv < 16000 then none else if 16800 ≤ mv ∧ p.goodSince = none then some h.time.now else p.goodSince
      lowestVin := if p.supplyWarn then min p.lowestVin mv else p.lowestVin
      dipEnd := if p.supplyWarn ∧ 16800 ≤ mv ∧ p.dipEnd = none then some h.time.now else p.dipEnd } }

/-- A sample with the warning that it may raise. -/
def Hub.vinChecked (mv holdup : Nat) (h : Hub) : Hub :=
  if mv < 16000 ∧ (h.power.supplyWarn = false ∨ h.power.dipEnd.isSome) then (h.vinSampled mv holdup).supplyRaise mv .real
  else h.vinSampled mv holdup

theorem execVinSample_on {s : State} (hmode : s.hub.power.mode ≠ .off) (mv holdup now : Nat) :
    execVinSample mv holdup now s = .next { s with hub := (s.hub.at_ now).vinChecked mv holdup } :=
  next_modHub (if_neg (by simpa [Hub.hubRuns, Hub.at_] using hmode))

theorem Hub.supplyRaise_frame (mv : Nat) (o : Origin) (h : Hub) :
    (h.supplyRaise mv o).power.vinMv = h.power.vinMv ∧ (h.supplyRaise mv o).power.goodSince = h.power.goodSince :=
  ⟨(congrArg (fun h : Hub => h.power.vinMv) (Hub.raise_still ..) :), (congrArg (fun h : Hub => h.power.goodSince) (Hub.raise_still ..) :)⟩

/-- The first sample of a dip. -/
theorem Hub.supplyRaise_fresh (hw : h.power.supplyWarn = false) (mv : Nat) (o : Origin) :
    let p := (h.supplyRaise mv o).power
    p.supplyWarn = true ∧ p.deferred = true ∧ p.dipStart = h.time.now ∧ p.lowestVin = mv ∧
      (h.supplyRaise mv o).faultActive .supplyWarning [] = true := by
  unfold Hub.supplyRaise
  rw [hw]
  exact ⟨(congrArg (fun h : Hub => h.power.supplyWarn) (Hub.raise_still ..) :), (congrArg (fun h : Hub => h.power.deferred) (Hub.raise_still ..) :),
    (congrArg (fun h : Hub => h.power.dipStart) (Hub.raise_still ..) :), (congrArg (fun h : Hub => h.power.lowestVin) (Hub.raise_still ..) :),
    Hub.raise_active _ _ _ _ _ rfl⟩

theorem execSupplyDeferralEnd_due {s : State} {now g : Nat} (hg : s.hub.power.goodSince = some g) (hw : s.hub.power.supplyWarn = true)
    (hdue : g + 50000000 ≤ (s.hub.at_ now).time.now) :
    ∃ x : Hub, execSupplyDeferralEnd now s = .next { s with hub := x } ∧ x.power = { s.hub.power with
      supplyWarn := false, deferred := false, lastDipUs := (s.hub.power.dipEnd.getD g - s.hub.power.dipStart) / 1000, dipEnd := none } := by
  refine ⟨_, rfl, ?_⟩
  have hg' : (s.hub.at_ now).power.goodSince = some g := hg
  have hrun : ¬ (!(s.hub.at_ now).power.supplyWarn || decide ((s.hub.at_ now).time.now < g + 50000000)) = true := by
    rw [show (s.hub.at_ now).power.supplyWarn = true from hw]
    simpa using hdue
  dsimp only
  rw [hg']
  refine (congrArg Hub.power (if_neg hrun)).trans ?_
  rw [Hub.heldChunks_power]
  rfl

theorem Backup.run_tamperCount (dt : Nat) (b : Backup) : (b.run dt).tamperCount = b.tamperCount := by
  unfold Backup.run
  split <;> rfl

theorem execTamperOpen_counts (s : State) (now : Nat) :
    ∃ x : Hub, execTamperOpen now s = .next { s with hub := x } ∧
      x.backup = { (s.hub.at_ now).backup with
        tamperCount := wrapAdd 32 (s.hub.at_ now).backup.tamperCount 1, tamperTime := (s.hub.at_ now).backup.rtcSeconds
        tamperOpen := true, tamperUnraised := !(s.hub.at_ now).hubRuns } ∧
      (s.hub.power.mode = .off → x.backup.tamperUnraised = true) ∧
      (s.hub.power.mode ≠ .off → x.faults.log.head?.map (fun r => r.name) = some .tamper) := by
  refine ⟨_, rfl, ?_, fun hoff => ?_, fun hon => ?_⟩
  · dsimp only
    split
    · exact (congrArg Hub.backup (Hub.event_still ..) :)
    · rfl
  · have hr : (s.hub.at_ now).hubRuns = false := by simpa [Hub.hubRuns, Hub.at_] using hoff
    dsimp only
    split
    next hruns => exact absurd (hr.symm.trans hruns) (by decide)
    next => simp [hr]
  · refine (congrArg (fun h : Hub => h.faults.log.head?.map (fun r => r.name)) (if_pos ?_)).trans (Hub.event_head ..)
    simpa [Hub.hubRuns, Hub.at_] using hon

end supply

/-- Settles O35. -/
theorem supplyAndBackup : Obligations.SupplyAndBackup := by
  unfold Obligations.SupplyAndBackup
  intro s now h
  refine ⟨fun hmode => ⟨fun mv holdup => ?vin, fun v ha => ?temperature, fun a b ha => ?selftest, ?lockstep, fun d => ?parity,
      fun row word => ?parser⟩,
    fun g hg hwarn hdue => ?deferral, ?tamper, fun hheld => ?vbat, fun hmode addr => ?code, fun v => ?safe⟩
  case vin =>
    refine ⟨_, execVinSample_on hmode .., ?_, rfl, fun hlow => ⟨?_, fun hw => ?_⟩, fun hgood => ?_⟩
    · show (h.vinChecked mv holdup).power.vinMv = _
      unfold Hub.vinChecked
      split
      · exact (Hub.supplyRaise_frame ..).1
      · rfl
    · show (h.vinChecked mv holdup).power.goodSince = _
      unfold Hub.vinChecked
      split
      · exact (Hub.supplyRaise_frame ..).2.trans (if_pos hlow)
      · exact if_pos hlow
    · have hx : h.vinChecked mv holdup = (h.vinSampled mv holdup).supplyRaise mv .real := if_pos ⟨hlow, .inl hw⟩
      rw [show s.hub.at_ now = h from rfl, hx]
      exact Hub.supplyRaise_fresh (h := h.vinSampled mv holdup) hw mv .real
    · have hx : h.vinChecked mv holdup = h.vinSampled mv holdup := if_neg (fun hc => absurd hc.1 (Nat.not_lt.mpr hgood))
      rw [show s.hub.at_ now = h from rfl, hx]
      refine ⟨rfl, rfl, fun hhigh => (if_neg (Nat.not_lt.mpr hgood)).trans ?_⟩
      cases hg : s.hub.power.goodSince with
      | none => exact if_pos ⟨hhigh, hg⟩
      | some g => exact (if_neg (fun hc => absurd (hg.symm.trans hc.2) (by simp))).trans hg
  case temperature =>
    have hka : (h.heated v).inject.armed = [] := ha
    have ha1 := Hub.tempCheck_armed hka .tempHigh 950 900 200 v
    have hstill := (Hub.tempCheck_still .tempCritical 1100 1000 350 v ((h.heated v).tempCheck .tempHigh 950 900 200 v)).trans
      (Hub.tempCheck_still ..)
    exact ⟨_, execTemperatureMeasurement_on hmode v now, (congrArg (fun h : Hub => h.power.hubTemp) hstill :),
      (congrArg (fun h : Hub => h.power.hubTempMax) hstill :), rfl,
      fun hlo hhi => (Hub.tempCheck_other ha1 (by decide) _ _ hhi).trans (Hub.tempCheck_raised hka rfl _ hlo (by omega)),
      fun hlo => (Hub.tempCheck_other ha1 (by decide) _ _ (by omega)).trans (Hub.tempCheck_cleared hka _ _ _ hlo),
      fun hhi => Hub.tempCheck_raised ha1 rfl _ hhi (by omega), fun hlo => Hub.tempCheck_cleared ha1 _ _ _ hlo⟩
  case selftest =>
    refine ⟨_, execHubComparatorSelftest_on hmode ha a b now, rfl, fun hA hB => ?_, fun hB => ?_⟩
    · subst hA hB
      exact Hub.comparatorTest_active 0 h
    · subst hB
      exact Hub.comparatorTest_active 1 _
  case lockstep =>
    exact ⟨_, next_modHub (if_neg (by simpa [Hub.hubRuns, Hub.at_] using hmode)), Hub.raise_active _ _ _ _ _ rfl, rfl⟩
  case parity =>
    exact ⟨_, next_modHub (if_neg (by simpa [Hub.hubRuns, Hub.at_] using hmode)), Hub.raise_active _ _ _ _ _ rfl, rfl⟩
  case parser =>
    exact ⟨_, next_modHub (if_pos (by simpa [Hub.hubRuns, Hub.at_] using hmode)), rfl, rfl, rfl, rfl⟩
  case deferral =>
    obtain ⟨x, hex, hx⟩ := execSupplyDeferralEnd_due hg hwarn hdue
    refine ⟨_, hex, ?_, ?_, ?_, rfl⟩ <;> rw [hx]
  case tamper =>
    obtain ⟨x, hex, hx, hoff, hon⟩ := execTamperOpen_counts s now
    have hcount : h.backup.tamperCount = s.hub.backup.tamperCount := Backup.run_tamperCount ..
    exact ⟨_, hex, hx ▸ congrArg (wrapAdd 32 · 1) hcount, hx ▸ rfl, hx ▸ rfl, rfl, hoff, hon⟩
  case vbat =>
    exact ⟨_, next_modHub (if_pos hheld), rfl, rfl, rfl, rfl⟩
  case code =>
    have hrun : ¬ (!(s.hub.at_ now).power.mode.parser && (s.hub.at_ now).power.mode != .dormant) = true := by
      rcases hmode with hm | hm
      · simp [show (s.hub.at_ now).power.mode.parser = true from hm]
      · simp [show (s.hub.at_ now).power.mode = .dormant from hm]
    exact ⟨fun hslot => next_modHub ((if_neg hrun).trans (if_pos hslot)),
      fun hslot => ⟨_, next_modHub ((if_neg hrun).trans (if_neg (by simpa using hslot))), rfl, rfl, rfl⟩⟩
  case safe =>
    refine ⟨fun hv hrun => ?_, fun hv => next_modHub (if_neg (by simp [hv]))⟩
    refine ⟨_, next_modHub (if_pos (by simp [hv, hrun])), Hub.raise_active _ _ _ _ _ rfl, fun hm => ?_⟩
    rw [Hub.raise_eq, Hub.react_of_safe _ rfl (by decide), Hub.safeDecision_power _ _ (by rw [Hub.record_power]; exact hm)]

end Sys2Proof.Machine
end

section
/-! Settles O36. What the steps of a boot leave, and power-on, boot, wake and reset (chapters 18 and 19). -/
namespace Sys2Proof.Machine

/-! ### What entry to SERVICE and the handshake leave -/

/-- The boot's own record and whether the partner handshake runs. -/
def Hub.standing (h : Hub) : Boot × Bool := (h.boot, h.partner.handshake)

section standing
variable {h t : Hub}

theorem Hub.standing_of_still (e : t.still = h.still) : t.standing = h.standing := (congrArg Hub.standing e :)

theorem Hub.standing_of_untraced (e : t.untraced = h.untraced) : t.standing = h.standing := (congrArg Hub.standing e :)

theorem Hub.standing_of_unrouted (e : t.unrouted = h.unrouted) : t.standing = h.standing := (congrArg Hub.standing e :)

theorem Hub.standing_of_uncanned (e : t.uncanned = h.uncanned) : t.standing = h.standing := (congrArg Hub.standing e :)

end standing

theorem Hub.netService_standing (h : Hub) : h.netService.standing = h.standing :=
  (standing_of_unrouted (Hub.igmpReports_unrouted _) :)

theorem Hub.canWake_standing (h : Hub) : h.canWake.standing = h.standing :=
  (standing_of_uncanned (Hub.canListen_uncanned _) :)

theorem Hub.canService_standing (h : Hub) : h.canService.standing = h.standing :=
  (standing_of_uncanned (Hub.canListen_uncanned _) :)

theorem Hub.ybService_standing (fromSafe : Bool) (h : Hub) : (h.ybService fromSafe).standing = h.standing := by
  unfold Hub.ybService
  split
  · rfl
  · exact (standing_of_still (Hub.clearFault_still ..) :)

theorem Hub.rackService_standing (h : Hub) : h.rackService.standing = h.standing := by
  unfold Hub.rackService
  split <;> rfl

theorem Hub.setMode_standing (m : Mode) (cause : Nat) (h : Hub) : (h.setMode m cause).standing = h.standing :=
  standing_of_still (h.setMode_still ..)

theorem State.loadCalibration_frame (fresh : Bool) (s : State) :
    (s.loadCalibration fresh).hub.standing = s.hub.standing ∧ (s.loadCalibration fresh).hub.power = s.hub.power := by
  unfold State.loadCalibration
  extract_lets h s1
  have h1 : s1.hub = s.hub := rfl
  clear_value s1
  rw [← h1]
  exact ⟨rfl, rfl⟩

/-- Entry to SERVICE ends the boot (R484). -/
theorem State.enterService_ends (wake : Bool) (s : State) :
    (s.enterService wake).hub.boot =
      { s.hub.boot with lastEnd := 0, failedType := 0, cause := 0, wake := false, handshake := false } ∧
    (s.enterService wake).hub.partner.handshake = s.hub.partner.handshake ∧ (s.enterService wake).hub.power.mode = .service := by
  unfold State.enterService
  extract_lets code k time power sched vote boot h0 h1 h2 h3 s1 s2
  have e1 : h1.standing = h0.standing := Hub.netService_standing _
  have e2 : h2.standing = h1.standing := by
    unfold h2
    split
    · exact h1.canWake_standing
    · exact h1.canService_standing
  have e3 : h3.standing = h2.standing :=
    (Hub.setMode_standing ..).trans ((Hub.rackService_standing _).trans (Hub.ybService_standing ..))
  have m3 : h3.power.mode = .service := by
    unfold h3
    rw [Hub.setMode_power]
  have e4 := s1.loadCalibration_frame true
  have e0 : h0.standing = ({ s.hub.boot with lastEnd := 0, failedType := 0, cause := 0, wake := false, handshake := false },
    s.hub.partner.handshake) := rfl
  clear_value h0 h1 h2 h3
  obtain ⟨hboot, hpartner⟩ := Prod.mk.inj (e4.1.trans (e3.trans (e2.trans (e1.trans e0))))
  exact ⟨hboot, hpartner, (congrArg Power.mode e4.2).trans m3⟩

theorem Hub.finish_standing (which : Exec → Bool) (st : Status) (p : Exec → Bytes) (h : Hub) : (h.finish which st p).standing = h.standing :=
  standing_of_still (h.finish_still ..)

theorem Hub.pwmHold_standing (h : Hub) : h.pwmHold.standing = h.standing := rfl

theorem Hub.setRole_standing (r : Role) (promote : Bool) (counts : Nat) (h : Hub) : (h.setRole r promote counts).standing = h.standing := by
  unfold Hub.setRole
  extract_lets h1 answers h2 h3 h4 h5
  have e1 : h1.standing = h.standing := rfl
  clear_value h1
  have e2 : h2.standing = h1.standing := by
    unfold h2
    split
    · exact Hub.standing_of_still (Hub.clearFault_still ..)
    · rfl
  clear_value h2
  have e3 : h3.standing = h2.standing := h2.canListen.pwmHold_standing.trans (Hub.standing_of_uncanned h2.canListen_uncanned)
  clear_value h3
  have e4 : h4.standing = h3.standing := by
    unfold h4
    split
    · exact Hub.finish_standing ..
    · rfl
  clear_value h4
  have e5 : h5.standing = h4.standing := by
    unfold h5
    split
    · exact Hub.finish_standing ..
    · rfl
  clear_value h5
  exact (Hub.standing_of_untraced (h5.emit_untraced _)).trans (e5.trans (e4.trans (e3.trans (e2.trans e1))))

theorem Hub.partnerLost_standing (cause : Nat) (o : Origin) (h : Hub) : (h.partnerLost cause o).standing = h.standing := by
  unfold Hub.partnerLost
  extract_lets up h1
  have e1 : h1.standing = h.standing := by
    unfold h1
    split
    · rfl
    · exact Hub.standing_of_still (Hub.raise_still ..)
  clear_value h1
  split <;> exact e1

theorem Hub.modPartner_standing {f : Partner → Partner} (hf : ∀ p, (f p).handshake = p.handshake) (h : Hub) :
    (h.modPartner f).standing = h.standing :=
  congrArg (Prod.mk h.boot) (hf h.partner)

theorem Hub.handshakeRole_standing (h : Hub) : h.handshakeRole.standing = (h.boot, false) := by
  unfold Hub.handshakeRole
  extract_lets h1
  have e1 : h1.standing = (h.boot, false) := rfl
  clear_value h1
  split
  · exact ((Hub.partnerLost_standing ..).trans (Hub.setRole_standing ..)).trans e1
  · simp only [apply_ite Hub.standing, Hub.setRole_standing, ite_self]
    rw [Hub.modPartner_standing, e1]
    exact fun _ => rfl

/-! ### The boot (R462, R463) -/

/-- What a boot reads and counts: its number, the images and the memory's account. -/
def Hub.stored (h : Hub) : Nat × Images × Memory := (h.boot.count, h.boot.images, h.mem)

theorem Hub.stored_of_still {h t : Hub} (e : t.still = h.still) : t.stored = h.stored := (congrArg Hub.stored e :)

theorem Hub.reserveCheck_stored (h : Hub) : h.reserveCheck.stored = h.stored := by
  unfold Hub.reserveCheck
  extract_lets det arm h1
  have e1 : h1.stored = h.stored := by
    unfold h1
    split
    · exact (Hub.stored_of_still (Hub.raise_still ..)).trans (Hub.stored_of_still (Hub.still_of_untraced (h.takeArm_untraced ..)))
    · rfl
  split
  · exact (Hub.stored_of_still (Hub.raise_still ..)).trans e1
  · exact e1

theorem Hub.hubStart_stored (h : Hub) : h.hubStart.stored = (wrapAdd 32 h.boot.count 1, h.boot.images, h.mem) := by
  unfold Hub.hubStart
  extract_lets b seed _ _ _ _ h1 h2 h3
  have e2 : h2.stored = (wrapAdd 32 h.boot.count 1, h.boot.images, h.mem) := rfl
  clear_value h2
  have e3 : h3.stored = h2.stored := by
    unfold h3
    split
    · exact Hub.stored_of_still (Hub.event_still ..)
    · rfl
  exact h3.reserveCheck_stored.trans (e3.trans e2)

theorem Hub.bootImage_count (t : Nat) (fw : Bytes) (h : Hub) : (h.bootImage t fw).1.boot.count = h.boot.count := by
  have hv (t : Nat) (f : ImageFound) (o : Origin) (h : Hub) : (h.verifyRecord t f o).boot.count = h.boot.count :=
    (congrArg (fun h : Hub => h.boot.count) (Hub.event_still ..) :)
  unfold Hub.bootImage
  extract_lets arm h1 clean failed
  have e1 : h1.boot.count = h.boot.count := rfl
  clear_value h1
  split
  · exact (hv ..).trans e1
  split
  · exact (hv ..).trans e1
  · exact (hv ..).trans e1
  · dsimp only
    split <;> exact e1

theorem Hub.enterLoad_power (failed cause : Nat) (h : Hub) : (h.enterLoad failed cause).power.mode = .load := by
  rw [Hub.enterLoad, Hub.setMode_power]

theorem Hub.enterLoad_boot (failed cause : Nat) (h : Hub) : (h.enterLoad failed cause).boot =
    { h.boot with lastEnd := 1, failedType := failed, cause := cause, images := { h.boot.images with failed := failed } } :=
  (congrArg Hub.boot (Hub.setMode_still ..) :)

theorem Hub.chooseSlot_count (h : Hub) : h.chooseSlot.boot.count = h.boot.count := by
  unfold Hub.chooseSlot
  dsimp only
  split
  · rfl
  split
  · rfl
  · exact (congrArg (fun h : Hub => h.boot.count) (Hub.event_still ..) :)

/-- What every boot ends in. -/
def State.Booted (n : Nat) (s : State) : Prop :=
  s.hub.boot.count = n ∧ (s.hub.power.mode = .load ∨ s.hub.power.mode = .service ∨ s.hub.boot.handshake = true)

theorem State.partnerPhase_with {s : State} (wake : Bool) (hp : s.hub.cfg.partner.enabled = true) :
    (s.partnerPhase wake).hub.boot.handshake = true ∧ (s.partnerPhase wake).hub.power = s.hub.power := by
  rw [State.partnerPhase, if_pos hp]
  exact ⟨rfl, rfl⟩

theorem State.partnerPhase_without {s : State} (wake : Bool) (hp : s.hub.cfg.partner.enabled = false) :
    s.partnerPhase wake = s.enterService wake := by
  rw [State.partnerPhase, if_neg (by simp [hp])]

theorem State.partnerPhase_booted (wake : Bool) (s : State) : (s.partnerPhase wake).Booted s.hub.boot.count := by
  cases hp : s.hub.cfg.partner.enabled with
  | true =>
    obtain ⟨hshake, -⟩ := State.partnerPhase_with wake hp
    refine ⟨?_, .inr (.inr hshake)⟩
    rw [State.partnerPhase, if_pos hp]
    rfl
  | false =>
    rw [State.partnerPhase_without wake hp]
    obtain ⟨hboot, -, hm⟩ := s.enterService_ends wake
    exact ⟨(congrArg Boot.count hboot :), .inr (.inl hm)⟩

theorem Hub.enterLoad_booted (failed cause : Nat) (h snap : Hub) (lanes : Vector Lane 4) (p : List Instr) :
    State.Booted h.boot.count { hub := h.enterLoad failed cause, snap := snap, lanes := lanes, pending := p } :=
  ⟨(congrArg Boot.count (h.enterLoad_boot ..) :), .inl (h.enterLoad_power ..)⟩

theorem Hub.loadApplication_count (fw img : Bytes) (a : App) (h : Hub) : (h.loadApplication fw img a).boot.count = h.boot.count := rfl

theorem State.runBoot_booted (s : State) : s.runBoot.Booted (wrapAdd 32 s.hub.boot.count 1) := by
  have hstart : s.hub.hubStart.boot.count = wrapAdd 32 s.hub.boot.count 1 := congrArg Prod.fst s.hub.hubStart_stored
  unfold State.runBoot
  extract_lets fail fw
  have e1 : fw.1.boot.count = wrapAdd 32 s.hub.boot.count 1 := (Hub.bootImage_count ..).trans hstart
  clear_value fw
  have hfail (h : Hub) (hc : h.boot.count = wrapAdd 32 s.hub.boot.count 1) (t : Nat) (f : ImageFound) :
      (fail h t f).Booted (wrapAdd 32 s.hub.boot.count 1) := hc ▸ Hub.enterLoad_booted ..
  clear_value fail
  split
  · exact hfail _ e1 ..
  next p _ =>
    extract_lets h1 lane
    have e2 : lane.1.boot.count = wrapAdd 32 s.hub.boot.count 1 := (Hub.bootImage_count ..).trans e1
    clear_value lane
    split
    · exact hfail _ e2 ..
    next q _ =>
      extract_lets io
      have e3 : io.1.boot.count = wrapAdd 32 s.hub.boot.count 1 := (Hub.bootImage_count ..).trans e2
      clear_value io
      split
      · exact hfail _ e3 ..
      next r _ =>
        extract_lets app
        have e4 : app.1.boot.count = wrapAdd 32 s.hub.boot.count 1 := (Hub.bootImage_count ..).trans e3
        clear_value app
        split
        next b a _ _ =>
          extract_lets h5
          have e5 : (h5.loadApplication p b a).chooseSlot.boot.count = wrapAdd 32 s.hub.boot.count 1 := (Hub.chooseSlot_count _).trans e4
          exact e5 ▸ State.partnerPhase_booted false { s with hub := (h5.loadApplication p b a).chooseSlot }
        · exact hfail _ e4 ..

theorem Hub.findImage_missing {h : Hub} {t : Nat} (h0 : h.imageCopy 0 t = none) (h1 : h.imageCopy 1 t = none) (fw : Bytes) (f : Bool) :
    h.findImage t fw f = { cause := 1, device := 2 } := by
  unfold Hub.findImage
  rw [h0, h1]
  rfl

theorem Hub.bootImage_missing {h : Hub} {t : Nat} (h0 : h.imageCopy 0 t = none) (h1 : h.imageCopy 1 t = none) (fw : Bytes) :
    (h.bootImage t fw).2 = { cause := 1, device := 2 } := by
  unfold Hub.bootImage
  extract_lets arm h' clean failed
  have hclean : clean = { cause := 1, device := 2 } := Hub.findImage_missing (h := h') h0 h1 fw false
  rw [if_pos (by rw [hclean]; decide)]
  exact hclean

theorem Hub.imageCopy_of_stored {h t : Hub} (hi : t.boot.images = h.boot.images) (hm : t.mem = h.mem) (d k : Nat) :
    t.imageCopy d k = h.imageCopy d k := by
  rw [Hub.imageCopy, Hub.imageCopy, hi, hm]

theorem Hub.chooseSlot_frame (h : Hub) : h.chooseSlot.cfg = h.cfg ∧ h.chooseSlot.power = h.power := by
  unfold Hub.chooseSlot
  dsimp only
  split
  · exact ⟨rfl, rfl⟩
  split
  · exact ⟨rfl, rfl⟩
  next k g _ =>
    have hq := Hub.event_quiet (h := { h with slots := (h.slots.put (match h.slots.confirmed with | some x => 1 - x | none => 1 - k)
      { g with format := h.slots.format, sequence := h.slots.maxSeq + 1 }).confirmFirst }) (n := .configConverted) (o := .real) (.inl (by decide))
    exact ⟨(congrArg Hub.cfg (hq ..) :), (congrArg Hub.power (hq ..) :)⟩

/-- Without a copy of PARSER_FW the boot ends in LOAD (R463). -/
theorem State.runBoot_without_firmware {s : State} (h0 : s.hub.imageCopy 0 1 = none) (h1 : s.hub.imageCopy 1 1 = none) :
    s.runBoot.hub.power.mode = .load ∧ s.runBoot.hub.boot.failedType = 1 ∧ s.runBoot.hub.boot.cause = 1 := by
  obtain ⟨-, himages, hmem⟩ : _ ∧ _ ∧ _ := by simpa [Hub.stored] using s.hub.hubStart_stored
  unfold State.runBoot
  extract_lets fail fw
  have hfound : fw.2 = { cause := 1, device := 2 } := Hub.bootImage_missing ((Hub.imageCopy_of_stored himages hmem ..).trans h0)
    ((Hub.imageCopy_of_stored himages hmem ..).trans h1) []
  clear_value fw
  split
  next =>
    have hboot := Hub.enterLoad_boot 1 fw.2.cause fw.1
    exact ⟨Hub.enterLoad_power .., congrArg Boot.failedType hboot, (congrArg Boot.cause hboot).trans (congrArg ImageFound.cause hfound)⟩
  next p hp => exact absurd ((congrArg ImageFound.image hfound).symm.trans hp) (by simp)

theorem execRstNLow_resets {s : State} {d : Nat} (hd : 5000 ≤ d)
    (hrun : ¬ (s.hub.power.held || (s.hub.power.mode == .off && !s.hub.power.booting)) = true) (now : Nat) :
    execRstNLow d now s = .next
      (State.moduleReset { s with hub := { s.hub.at_ now with backup.rstHoldMs := min (2 ^ 32 - 1) (d / 1000000) } }) := by
  have hseen : ¬ (!(decide (5000 ≤ d) || (decide (4000 ≤ d) && Config.rstSeen s.hub.free))) = true := by simp [hd]
  have hfree : ¬ (4000 ≤ d ∧ d < 5000) := by omega
  unfold execRstNLow State.modHub
  dsimp only
  rw [if_neg hseen, if_neg hfree]
  exact next_of_neg hrun

theorem execRstNLow_short {d : Nat} (hd : d < 4000) (s : State) (now : Nat) :
    execRstNLow d now s = .next { s with hub := s.hub.at_ now } := by
  have h5 : ¬ 5000 ≤ d := by omega
  have h4 : ¬ 4000 ≤ d := by omega
  have hfree : ¬ (4000 ≤ d ∧ d < 5000) := by omega
  unfold execRstNLow State.modHub
  dsimp only
  rw [if_neg hfree]
  exact next_of_pos (by simp [h5, h4])

/-- The hub as its holdup rail collapses, with the record of it (R490). -/
def Hub.collapsing (low : Bool) (h : Hub) : Hub :=
  if h.power.mode = .off ∨ low = true then h
  else h.event .supplyReset [] 0 [(2, h.power.vinMv / 10), (2, h.power.holdup), (1, h.power.mode.code)] .real

theorem execHoldupCollapse_resets {s : State} (hheld : s.hub.power.held = false) (now : Nat) (low : Bool) :
    execHoldupCollapse now low s = .next (State.holdInReset { s with hub := (s.hub.at_ now).collapsing low }) := by
  have hfree : ¬ (s.modHub (Hub.at_ now)).hub.power.held = true := fun hc => absurd (hheld.symm.trans hc) (by decide)
  unfold execHoldupCollapse Hub.collapsing
  dsimp only
  rw [if_neg hfree]
  by_cases hquiet : s.hub.power.mode = .off ∨ low = true
  · rw [if_pos (c := (s.hub.at_ now).power.mode = .off ∨ low = true) hquiet]
    exact next_of_pos hquiet
  · rw [if_neg (c := (s.hub.at_ now).power.mode = .off ∨ low = true) hquiet]
    exact next_of_neg hquiet

/-- Settles O36. -/
theorem powerAndBoot : Obligations.PowerAndBoot := by
  unfold Obligations.PowerAndBoot
  intro s now h
  refine ⟨fun hheld hoff => ?powerOn, fun hbooting hoff hshake => ?boot, fun hshake hdue => ?handshake, fun hoff hheld hbooting => ?wakeOff,
    fun hdormant => ?wakeDormant, fun port frame e hdormant hport hframe hdst htype hbody => ?frame,
    fun hdormant hwake hshake => ?dormantWake, fun d hd hheld hrun => ?reset, fun d hd => ?short, fun low hheld => ?collapse⟩
  case powerOn => exact ⟨_, next_of_pos ⟨hheld, hoff⟩, rfl, rfl, rfl, rfl, rfl⟩
  case boot =>
    refine ⟨_, next_of_pos ⟨hbooting, hoff, hshake⟩, ?_, ?_, fun h0 h1 => State.runBoot_without_firmware h0 h1⟩
    · exact (State.runBoot_booted (s.modHub (Hub.at_ now))).1
    · exact (State.runBoot_booted (s.modHub (Hub.at_ now))).2
  case handshake =>
    obtain ⟨hboot, hpartner, hm⟩ := ((s.modHub (Hub.at_ now)).modHub Hub.handshakeRole).enterService_ends s.hub.boot.wake
    exact ⟨_, next_of_pos ⟨hshake, hdue⟩, hm, congrArg Boot.handshake hboot, hpartner.trans (congrArg Prod.snd h.handshakeRole_standing)⟩
  case wakeOff => exact ⟨_, next_modHub (if_pos ⟨hoff, hheld, hbooting⟩), rfl, rfl⟩
  case wakeDormant =>
    refine ⟨_, next_modHub ((if_neg (fun hc => ?_)).trans (if_pos hdormant)), rfl, rfl⟩
    exact absurd (hdormant.symm.trans hc.1) (by decide)
  case frame =>
    refine ⟨{ s with hub := { h with boot.wake := true } }, next_modHub ?_, rfl, rfl⟩
    dsimp only
    rw [hframe]
    exact (if_pos ⟨hport, hdst, htype, hbody⟩).trans (if_pos hdormant)
  case dormantWake =>
    obtain ⟨hcfg, hpower⟩ := Hub.chooseSlot_frame (h.newEpoch.setKeys)
    refine ⟨_, next_of_pos ⟨hdormant, hwake, hshake⟩, fun hp => ?_, fun hp => ?_⟩
    · obtain ⟨hshake', hpower'⟩ := State.partnerPhase_with true (s := s.modHub (fun h => ((h.at_ now).newEpoch.setKeys).chooseSlot))
        ((congrArg (fun c : Cfg => c.partner.enabled) hcfg).trans hp)
      exact ⟨hshake', (congrArg Power.mode (hpower'.trans hpower)).trans hdormant⟩
    · rw [State.partnerPhase_without true (s := s.modHub (fun h => ((h.at_ now).newEpoch.setKeys).chooseSlot))
        ((congrArg (fun c : Cfg => c.partner.enabled) hcfg).trans hp)]
      obtain ⟨hboot, -, hm⟩ := (s.modHub (fun h => ((h.at_ now).newEpoch.setKeys).chooseSlot)).enterService_ends true
      exact ⟨hm, congrArg Boot.wake hboot⟩
  case reset =>
    have hrun' : ¬ (s.hub.power.held || (s.hub.power.mode == .off && !s.hub.power.booting)) = true := by
      rw [hheld, Bool.false_or, Bool.and_eq_true, beq_iff_eq, Bool.not_eq_true']
      rintro ⟨hoff, hb⟩
      exact hrun.elim (fun hn => hn hoff) (fun hn => absurd (hb.symm.trans hn) (by decide))
    refine ⟨_, execRstNLow_resets hd hrun' now, rfl, rfl, rfl, rfl, fun l => ?_⟩
    exact Vector.getElem_replicate (n := 4) l.isLt
  case short => exact execRstNLow_short hd s now
  case collapse =>
    refine ⟨_, execHoldupCollapse_resets hheld now low, rfl, rfl, fun l => Vector.getElem_replicate (n := 4) l.isLt, fun hm hl => ?_,
      fun hl => ?_⟩
    · have hrec : ¬ ((s.hub.at_ now).power.mode = .off ∨ low = true) := by
        rintro (hc | hc)
        · exact hm hc
        · exact absurd (hl.symm.trans hc) (by decide)
      exact (congrArg (fun h : Hub => h.faults.log.head?.map (fun r => r.name)) (if_neg hrec) :).trans (Hub.event_head ..)
    · exact (congrArg (fun h : Hub => h.faults.log) (if_pos (c := (s.hub.at_ now).power.mode = .off ∨ low = true) (.inr hl)) :)

end Sys2Proof.Machine
end

section
/-! Settles O42. The rows of Table 10.2, one equation for each state (chapter 10). -/
namespace Sys2Proof.Machine

section transit
variable {x : SfState} (f : SafetyCfg) (c : SfCond) (valid request notOpen : Bool)

/-- The demand: state 2, with OPEN_SEEN where the input is open (Table 10.2). -/
def SfState.demanded (c : SfCond) (x : SfState) : SfState := { x with state := 2, openSeen := decide (c = .open_) }

theorem SfState.transit_one (h : x.state = 1) : x.transit f c valid request notOpen =
    if c = .open_ ∧ notOpen = false then { x with state := 2, openSeen := true, pending := false } else x := by
  simp only [SfState.transit, h]

theorem SfState.transit_two (h : x.state = 2) : x.transit f c valid request notOpen = (match c with
    | .open_ => { x with openSeen := true }
    | .mixed => { x with openSeen := false }
    | .closed => if x.openSeen then { x with state := if f.resetDi = 0xFF then 4 else 3 } else x) := by
  cases c <;> simp only [SfState.transit, h]

theorem SfState.transit_three (h : x.state = 3) : x.transit f c valid request notOpen =
    if c ≠ .closed then x.demanded c else if valid then { x with state := 4 } else x := by
  simp only [SfState.transit, h, SfState.demanded]

theorem SfState.transit_four (h : x.state = 4) : x.transit f c valid request notOpen =
    if c ≠ .closed then x.demanded c else if request then { x with state := 5 } else x := by
  simp only [SfState.transit, h, SfState.demanded]

theorem SfState.transit_five (h : x.state = 5) : x.transit f c valid request notOpen =
    if c ≠ .closed then x.demanded c else if !request then { x with state := 4 } else x := by
  simp only [SfState.transit, h, SfState.demanded]

theorem SfState.transit_other (h : x.state = 0 ∨ 5 < x.state) : x.transit f c valid request notOpen = x := by
  unfold SfState.transit
  extract_lets demand
  split
  case h_6 => rfl
  all_goals omega

end transit

/-- Settles O42, state by state. -/
theorem safetyFunctionTransitions : Obligations.SafetyFunctionTransitions := by
  unfold Obligations.SafetyFunctionTransitions
  intro f x cond valid request notOpen y
  have hstates : (x.state = 0 ∨ 5 < x.state) ∨ x.state = 1 ∨ x.state = 2 ∨ x.state = 3 ∨ x.state = 4 ∨ x.state = 5 := by omega
  rcases hstates with h | h | h | h | h | h
  case inl =>
    have hy : y = x := SfState.transit_other f cond valid request notOpen h
    rw [hy]
    exact ⟨fun _ => by omega, fun h4 => .inl h4, fun _ _ => by omega, fun _ => .inr rfl, fun _ => rfl⟩
  case inr.inl =>
    have hy : y.state = 2 ∨ y = x := by
      rw [show y = _ from SfState.transit_one f cond valid request notOpen h]
      split
      · exact .inl rfl
      · exact .inr rfl
    have hs : y.state = 2 ∨ y.state = 1 := hy.imp_right (fun e => (congrArg SfState.state e).trans h)
    exact ⟨fun _ => by omega, fun _ => by omega, fun _ _ => by omega, fun _ => hy, fun _ => by omega⟩
  case inr.inr.inl =>
    have hy : y.state = 2 ∨ y.state = 3 ∨ (y.state = 4 ∧ f.resetDi = 0xFF ∧ x.openSeen = true) := by
      rw [show y = _ from SfState.transit_two f cond valid request notOpen h]
      cases cond with
      | open_ => exact .inl h
      | mixed => exact .inl h
      | closed =>
        dsimp only
        split
        next hseen =>
          by_cases hr : f.resetDi = 0xFF
          · exact .inr (.inr ⟨if_pos hr, hr, hseen⟩)
          · exact .inr (.inl (if_neg hr))
        next => exact .inl h
    refine ⟨fun _ => by omega, fun h4 => ?_, fun _ _ => by omega, fun _ => by omega, fun _ => by omega⟩
    rcases hy with hy | hy | ⟨-, hr, hseen⟩
    · omega
    · omega
    · exact .inr (.inr (.inr ⟨h, hr, hseen⟩))
  case inr.inr.inr.inl =>
    have hy := SfState.transit_three f cond valid request notOpen h
    by_cases hc : cond = .closed
    · rw [if_neg (Classical.not_not.mpr hc)] at hy
      cases valid <;> simp_all [y]
    · rw [if_pos hc] at hy
      simp_all [y, SfState.demanded]
  case inr.inr.inr.inr.inl =>
    have hy := SfState.transit_four f cond valid request notOpen h
    by_cases hc : cond = .closed
    · rw [if_neg (Classical.not_not.mpr hc)] at hy
      cases request <;> simp_all [y]
    · rw [if_pos hc] at hy
      simp_all [y, SfState.demanded]
  case inr.inr.inr.inr.inr =>
    have hy := SfState.transit_five f cond valid request notOpen h
    by_cases hc : cond = .closed
    · rw [if_neg (Classical.not_not.mpr hc)] at hy
      cases request <;> simp_all [y]
    · rw [if_pos hc] at hy
      simp_all [y, SfState.demanded]

end Sys2Proof.Machine
end

section
/-! Settles O44. Inputs of the field: what each lane's debounced input does, and outputs used as inputs (chapter 09). -/
namespace Sys2Proof.Machine

theorem bit_putBit (v i j : Nat) (b : Bool) : bit (putBit v i b) j = if i = j then b else bit v j := by
  cases b
  · by_cases hij : i = j <;> simp [putBit, bit_clearBit, hij]
  · by_cases hij : i = j <;> simp [putBit, bit_setBit, hij]

/-- What an accepted level does to its lane (R154, R155, R217). -/
def Lane.levelAccepted (cfg : Cfg) (k : Fin 24) (level : Bool) (ns : Nat) (l : Lane) : Lane :=
  { l with
    di := vmod l.di k (fun d => { d with
      level := level
      stamp := ((l.tb0 + ns) / 1000 + 2 ^ 32 - cfg.fieldIn.debounce.getD k 0) % 2 ^ 32
      edge := true })
    counters := vmapIdx (fun i v =>
      if (cfg.diCounters.getD i {}).di = k.val ∧ bit (cfg.diCounters.getD i {}).edge (if level then 0 else 1) then v + 1 else v)
      l.counters }

theorem Lane.levelAccepted_di (cfg : Cfg) (k : Fin 24) (level : Bool) (ns : Nat) (l : Lane) :
    (l.levelAccepted cfg k level ns).di[k] = { l.di[k] with
      level := level
      stamp := ((l.tb0 + ns) / 1000 + 2 ^ 32 - cfg.fieldIn.debounce.getD k 0) % 2 ^ 32
      edge := true } :=
  vmod_getElem_self ..

section
variable {s : State} {lane : LaneId} {k : Fin 24}

theorem execDiLevelAccepted_lane {level : Bool} (ns : Nat) (hp : (s.hub.laneState lane).powered = true) (hb : s.hub.diBlind k = false)
    (hl : (s.lane lane).di[k].level ≠ level) : ∃ t, exec (.diLevelAccepted lane k level ns) s = .next t ∧ t.hub = s.hub ∧
      t.lane lane = (s.lane lane).levelAccepted s.hub.cfg k level ns :=
  ⟨_, congrArg Host.Outcome.next (if_neg (by simpa [hp, hb] using hl)), rfl, State.modLane_lane ..⟩

theorem execWireBreakDetection_lane (broken : Bool) (hp : (s.hub.laneState lane).powered = true) (hb : s.hub.diBlind k = false)
    (hw : bit s.hub.cfg.fieldIn.wire k.val = true) : ∃ t, exec (.wireBreakDetection lane k broken) s = .next t ∧ t.hub = s.hub ∧
      t.lane lane = { s.lane lane with di := vmod (s.lane lane).di k (fun d => { d with wireBreak := broken }) } :=
  ⟨_, congrArg Host.Outcome.next (if_pos (by simp [hp, hb, hw])), rfl, State.modLane_lane ..⟩

end

section
variable {s : State} {o : Fin 16} {high : Bool}

/-- The sample agrees with the accepted level: its run of unequal samples ends (log 13). -/
theorem execDoInputSample_same (hr : s.hub.stage.run = true) (hm : (s.hub.cfg.doOf o).mode = 1)
    (hb : bit s.hub.stage.doInput o.val = high) : exec (.doInputSample o high) s =
      .next { s with hub := { s.hub with stage.doRun := s.hub.stage.doRun.set o 0 } } := by
  change Host.Outcome.next _ = _
  simp [State.modHub, hr, hm, hb]

/-- The fourth unequal sample in a row is accepted (log 13). -/
theorem execDoInputSample_fourth (hr : s.hub.stage.run = true) (hm : (s.hub.cfg.doOf o).mode = 1)
    (hb : bit s.hub.stage.doInput o.val ≠ high) (hn : s.hub.stage.doRun[o] = 3) : exec (.doInputSample o high) s =
      .next { s with hub := { s.hub with
        stage.doRun := s.hub.stage.doRun.set o 0, stage.doInput := putBit s.hub.stage.doInput o.val high } } := by
  change Host.Outcome.next _ = _
  rw [Fin.getElem_fin] at hn
  simp [State.modHub, hr, hm, hb, hn]

theorem execDoInputSample_unequal (hr : s.hub.stage.run = true) (hm : (s.hub.cfg.doOf o).mode = 1)
    (hb : bit s.hub.stage.doInput o.val ≠ high) (hn : s.hub.stage.doRun[o] < 3) : exec (.doInputSample o high) s =
      .next { s with hub := { s.hub with stage.doRun := s.hub.stage.doRun.set o (s.hub.stage.doRun[o] + 1) } } := by
  change Host.Outcome.next _ = _
  rw [Fin.getElem_fin] at hn
  simp [State.modHub, hr, hm, hb, Nat.not_le.2 hn]

end

/-- Settles O44: the input of the lane is the one place that an accepted level and a wire break change, and a sample of an output's
input level either ends the run of unequal samples, lengthens it, or completes it. -/
theorem fieldInputs : Obligations.FieldInputs := by
  intro s lane k
  refine ⟨fun hp hb => ⟨fun level ns hl => ?_, fun broken hw => ?_⟩, fun o high hr hm => ?_⟩
  · obtain ⟨t, ht, hh, hlane⟩ := execDiLevelAccepted_lane ns hp hb hl
    refine ⟨t, ht, hh, ?_⟩
    rw [hlane]
    have hk := Lane.levelAccepted_di s.hub.cfg k level ns (s.lane lane)
    exact ⟨by rw [hk], by rw [hk], by rw [hk], fun j hj => vmod_getElem_ne _ _ hj, fun i => vmapIdx_getElem ..⟩
  · obtain ⟨t, ht, hh, hlane⟩ := execWireBreakDetection_lane broken hp hb hw
    refine ⟨t, ht, hh, ?_⟩
    have hk := vmod_getElem_self (s.lane lane).di k (fun d => { d with wireBreak := broken })
    rw [hlane]
    exact ⟨by rw [hk], by rw [hk]⟩
  · by_cases hb : bit s.hub.stage.doInput o.val = high
    · exact ⟨_, execDoInputSample_same hr hm hb, rfl, fun _ => ⟨by simp, hb⟩, fun h => absurd hb h, fun h => absurd hb h⟩
    · rcases Nat.lt_trichotomy s.hub.stage.doRun[o] 3 with hn | hn | hn
      · exact ⟨_, execDoInputSample_unequal hr hm hb hn, rfl, fun h => absurd h hb, fun _ h => by omega,
          fun _ _ => ⟨by simp, rfl⟩⟩
      · exact ⟨_, execDoInputSample_fourth hr hm hb hn, rfl, fun h => absurd h hb,
          fun _ _ => ⟨by simp, by simp [bit_putBit]⟩, fun _ h => by omega⟩
      · exact ⟨_, rfl, rfl, fun h => absurd h hb, fun _ h => by omega, fun _ h => by omega⟩

end Sys2Proof.Machine
end

section
/-! Settles O46. Output channels of the stage (chapter 09), test pulses and off-pulses (chapter 10). -/
namespace Sys2Proof.Machine

section channels
variable {h : Hub} {j k : Nat}

/-! ### One channel -/

@[simp] theorem Hub.ioRec_untraced (kind k level : Nat) (h : Hub) : (h.ioRec kind k level).untraced = h.untraced := h.emit_untraced _

@[simp] theorem Hub.ioRec_stage (kind k level : Nat) (h : Hub) : (h.ioRec kind k level).stage = h.stage :=
  (congrArg Hub.stage (h.ioRec_untraced kind k level) :)

theorem Hub.out_of_stage {h t : Hub} (e : t.stage = h.stage) (k : Nat) : t.out k = h.out k := by
  rw [Hub.out, Hub.out, e]

theorem Hub.ioRec_out (kind j level k : Nat) (h : Hub) : (h.ioRec kind j level).out k = h.out k :=
  out_of_stage (h.ioRec_stage ..) k

theorem Hub.modOut_out_self (hk : k < 24) (f : OutCh → OutCh) : (h.modOut k f).out k = f (h.out k) :=
  vgetN_vmodN_self _ hk f {}

theorem Hub.modOut_out_ne (hjk : j ≠ k) (f : OutCh → OutCh) : (h.modOut k f).out j = h.out j :=
  vgetN_vmodN_ne _ hjk f {}

/-- The hub without what switching, latching and clearing channels change: the channels, the test of one, its searches' results. -/
def Hub.unswitched (h : Hub) : Hub :=
  { h.untraced with stage.ch := Vector.replicate 24 {}, stage.test := none }

theorem Hub.unswitched_of_untraced {h t : Hub} (e : t.untraced = h.untraced) : t.unswitched = h.unswitched :=
  (congrArg Hub.unswitched e :)

@[simp] theorem Hub.modOut_unswitched (k : Nat) (f : OutCh → OutCh) (h : Hub) : (h.modOut k f).unswitched = h.unswitched := rfl

/-- What a switch is held in, and from when, once it is commanded (R225, R261). -/
def OutCh.commanded (on : Bool) (t : Nat) (c : OutCh) : OutCh :=
  if c.cmd = (on && !c.faulty) then c
  else { c with
    cmd := on && !c.faulty, changedAt := t, onSince := if on && !c.faulty then t else c.onSince, pulse := none }

theorem Hub.command_out_self (hk : k < 24) (on : Bool) : (h.command k on).out k = (h.out k).commanded on h.time.now := by
  unfold Hub.command OutCh.commanded
  extract_lets on' t
  split
  · rfl
  · rw [Hub.ioRec_out, Hub.modOut_out_self hk]

theorem Hub.command_out_ne (hjk : j ≠ k) (on : Bool) : (h.command k on).out j = h.out j := by
  unfold Hub.command
  extract_lets on' t
  split
  · rfl
  · rw [Hub.ioRec_out, Hub.modOut_out_ne hjk]

@[simp] theorem Hub.command_unswitched (k : Nat) (on : Bool) (h : Hub) : (h.command k on).unswitched = h.unswitched := by
  unfold Hub.command
  extract_lets on' t
  split
  · rfl
  · rw [unswitched_of_untraced (Hub.ioRec_untraced ..), Hub.modOut_unswitched]

/-! ### Latching (R237) -/

/-- The test of a channel notes its fault (R244). -/
def Hub.noteFault (j : Nat) (h : Hub) : Hub :=
  { h with stage.test := h.stage.test.map (fun t => if t.channel = j then { t with fault := true } else t) }

@[simp] theorem Hub.noteFault_unswitched (j : Nat) (h : Hub) : (h.noteFault j).unswitched = h.unswitched := rfl

/-- The latch of one channel. -/
def Hub.latchOne (ext : Bool) (j : Nat) (h : Hub) : Hub :=
  let marked := ((h.modOut j (fun c => { c with faulty := true, ext := c.ext || ext })).command j false).noteFault j
  if !(h.out j).faulty then marked.ioRec 2 j 0 else marked

theorem Hub.latchOut_eq (k : Nat) (ext : Bool) (h : Hub) :
    h.latchOut k ext = (h.cfg.members k).foldl (fun h j => h.latchOne ext j) h := rfl

theorem Hub.latchOne_out (ext : Bool) (i : Nat) : (h.latchOne ext j).out i =
    ((h.modOut j (fun c => { c with faulty := true, ext := c.ext || ext })).command j false).out i := by
  unfold Hub.latchOne
  extract_lets marked
  split
  · exact Hub.ioRec_out ..
  · rfl

theorem Hub.latchOne_out_self (hk : k < 24) (ext : Bool) : (h.latchOne ext k).out k =
    ({ h.out k with faulty := true, ext := (h.out k).ext || ext } : OutCh).commanded false h.time.now := by
  rw [Hub.latchOne_out, Hub.command_out_self hk, Hub.modOut_out_self hk]
  rfl

theorem Hub.latchOne_out_ne (hjk : j ≠ k) (ext : Bool) : (h.latchOne ext k).out j = h.out j := by
  rw [Hub.latchOne_out, Hub.command_out_ne hjk, Hub.modOut_out_ne hjk]

@[simp] theorem Hub.latchOne_unswitched (ext : Bool) (j : Nat) (h : Hub) : (h.latchOne ext j).unswitched = h.unswitched := by
  unfold Hub.latchOne
  extract_lets marked
  have hm : marked.unswitched = h.unswitched := by
    rw [Hub.noteFault_unswitched, Hub.command_unswitched, Hub.modOut_unswitched]
  split
  · rw [unswitched_of_untraced (Hub.ioRec_untraced ..), hm]
  · exact hm

theorem Cfg.partnerOf_ne {c : Cfg} (h : c.partnerOf k = some j) : j ≠ k := by
  unfold Cfg.partnerOf at h
  split at h
  · simp only [Option.some.injEq] at h
    split at h <;> omega
  · cases h

theorem Cfg.members_eq (c : Cfg) (k : Nat) : c.members k = k :: (c.partnerOf k).toList := by
  unfold Cfg.members
  cases c.partnerOf k <;> rfl

/-- Latching a pair leaves its first member as its own latch left it. -/
theorem Hub.latchOut_out (k : Nat) (ext : Bool) (h : Hub) : (h.latchOut k ext).out k = (h.latchOne ext k).out k := by
  rw [Hub.latchOut_eq, Cfg.members_eq, List.foldl_cons]
  cases hp : h.cfg.partnerOf k with
  | none => rfl
  | some j => exact Hub.latchOne_out_ne (Cfg.partnerOf_ne hp).symm ext

@[simp] theorem Hub.latchOut_unswitched (k : Nat) (ext : Bool) (h : Hub) : (h.latchOut k ext).unswitched = h.unswitched :=
  foldl_view Hub.unswitched (f := fun h j => h.latchOne ext j) (fun h j => h.latchOne_unswitched ext j) _ _

theorem OutCh.commanded_off (c : OutCh) (t : Nat) : (c.commanded false t).cmd = false := by
  unfold OutCh.commanded
  split
  next h => simpa using h
  next => rfl

theorem OutCh.commanded_faulty (on : Bool) (c : OutCh) (t : Nat) : (c.commanded on t).faulty = c.faulty := by
  unfold OutCh.commanded
  split <;> rfl

theorem OutCh.commanded_ext (on : Bool) (c : OutCh) (t : Nat) : (c.commanded on t).ext = c.ext := by
  unfold OutCh.commanded
  split <;> rfl

theorem OutCh.commanded_pulse (on : Bool) {c : OutCh} (h : c.pulse = none) (t : Nat) : (c.commanded on t).pulse = none := by
  unfold OutCh.commanded
  split
  · exact h
  · rfl

/-- A latched channel: faulty, off, and latched by an external voltage where one was found (R232 to R237). -/
theorem Hub.latchOut_latched (hk : k < 24) (ext : Bool) (h : Hub) : ((h.latchOut k ext).out k).faulty = true ∧
    ((h.latchOut k ext).out k).cmd = false ∧ ((h.latchOut k ext).out k).ext = ((h.out k).ext || ext) := by
  rw [Hub.latchOut_out, Hub.latchOne_out_self hk, OutCh.commanded_off, OutCh.commanded_faulty, OutCh.commanded_ext]
  exact ⟨rfl, rfl, rfl⟩

theorem Hub.latchOut_pulse (hk : k < 24) (ext : Bool) (hp : (h.out k).pulse = none) : ((h.latchOut k ext).out k).pulse = none := by
  rw [Hub.latchOut_out, Hub.latchOne_out_self hk]
  exact OutCh.commanded_pulse _ (by exact hp) _

/-! ### Reports of latched channels (R232 to R236) -/

/-- A report, also one that takes the module to SAFE, leaves the stage as it is. -/
@[simp] theorem Hub.raise_stage (n : FaultName) (key : List Nat) (lanes : Nat) (d : Detail) (o : Origin) (h : Hub) :
    (h.raise n key lanes d o).stage = h.stage :=
  (congrArg Hub.stage (h.raise_still n key lanes d o) :)

@[simp] theorem Hub.overload_stage (k cause mA : Nat) (h : Hub) : (h.overload k cause mA .real).stage = (h.latchOut k false).stage :=
  Hub.raise_stage ..

@[simp] theorem Hub.readbackLow_stage (k : Nat) (h : Hub) : (h.readbackLow k .real).stage = (h.latchOut k false).stage :=
  Hub.raise_stage ..

@[simp] theorem Hub.latchOut_searches (k : Nat) (ext : Bool) (h : Hub) : (h.latchOut k ext).stage.searches = h.stage.searches :=
  (congrArg (fun h : Hub => h.stage.searches) (h.latchOut_unswitched k ext) :)

theorem Hub.openGroup_closed {g : Nat} (hg : g < 2) (h : Hub) : vgetN (h.openGroup g).stage.closed g false = false :=
  vgetN_vmodN_self _ hg _ _

theorem outGroup_lt (k : Nat) : outGroup k < 2 := by
  unfold outGroup
  repeat' split
  all_goals decide

/-- The latch of an external voltage with the switch of a paired SO (R234). -/
def Hub.latchExt (k : Nat) (h : Hub) : Hub :=
  if (h.cfg.partnerOf k).isSome then (h.latchOut k true).openGroup (outGroup k) else h.latchOut k true

theorem Hub.latchExt_out (k i : Nat) (h : Hub) : (h.latchExt k).out i = (h.latchOut k true).out i := by
  unfold Hub.latchExt
  split <;> rfl

theorem Hub.latchExt_searches (k : Nat) (h : Hub) : (h.latchExt k).stage.searches = h.stage.searches := by
  unfold Hub.latchExt
  split <;> exact h.latchOut_searches k true

/-- The trace that the detection opens (R234, R235). -/
def Hub.searchOf (k cause : Nat) (o : Origin) (h : Hub) : Search :=
  Search.mk k h.time.now cause (if (h.cfg.partnerOf k).isSome then 2 ^ outGroup k else 0) false o

theorem Hub.latchExt_time (k : Nat) (h : Hub) : (h.latchExt k).time = h.time := by
  have hl : (h.latchOut k true).time = h.time := (congrArg Hub.time (h.latchOut_unswitched k true) :)
  unfold Hub.latchExt
  split <;> exact hl

theorem Hub.extDetect_eq (k cause : Nat) (o : Origin) (h : Hub) : h.extDetect k cause o =
    { h.latchExt k with stage.searches := h.stage.searches ++ [h.searchOf k cause o] } := by
  rw [Hub.searchOf, ← h.latchExt_time k, ← h.latchExt_searches k]
  rfl

theorem Hub.extDetect_out (k cause i : Nat) (o : Origin) (h : Hub) : (h.extDetect k cause o).out i = (h.latchOut k true).out i := by
  rw [Hub.extDetect_eq]
  exact h.latchExt_out k i

/-- A report of an external voltage ends its trace and leaves the channels as they are (R236). -/
theorem Hub.extRecord_stage (x : Search) (partner : Nat) (h : Hub) : (h.extRecord x partner).stage =
    { h.stage with
      searches := h.stage.searches.filter (fun y => y.channel != x.channel), extLast := x.channel + 256 * partner } :=
  Hub.raise_stage ..

theorem Hub.extRecord_searches {x y : Search} (partner : Nat) (hs : h.stage.searches = [y]) (hc : x.channel = y.channel) :
    (h.extRecord x partner).stage.searches = [] := by
  rw [Hub.extRecord_stage, hs]
  simp [hc]

/-! ### Clearing (R238) -/

/-- Clearing a fault makes none active. -/
theorem Hub.clearFault_stays_inactive {n m : FaultName} {key i : List Nat} (f : Detail → Detail) (hi : h.faultActive m i = false) :
    (h.clearFault n key f).faultActive m i = false := by
  by_cases he : m = n ∧ i = key
  · obtain ⟨rfl, rfl⟩ := he
    exact h.clearFault_inactive ..
  · rw [h.clearFault_active_of_ne f he, hi]

/-- The end of one channel's latch, its records and its REFUSED_CLEAR. -/
def Hub.unlatchOne (j : Nat) (h : Hub) : Hub :=
  let h := (h.modOut j (fun c => { c with faulty := false, ext := false })).ioRec 3 j 0
  let h : Hub := { h with stage.refused := clearBit h.stage.refused j }
  (h.clearFault .outputOverload [j] id).clearFault .readbackMismatch [j] id

theorem Hub.unlatchOne_out (i : Nat) : (h.unlatchOne j).out i =
    (h.modOut j (fun c => { c with faulty := false, ext := false })).out i :=
  Hub.ioRec_out ..

theorem Hub.unlatchOne_readback (h : Hub) (j : Nat) : (h.unlatchOne j).faultActive .readbackMismatch [j] = false :=
  Hub.clearFault_inactive ..

theorem Hub.unlatchOne_overload (h : Hub) (j : Nat) : (h.unlatchOne j).faultActive .outputOverload [j] = false :=
  Hub.clearFault_stays_inactive _ (Hub.clearFault_inactive ..)

theorem Hub.unlatchOne_stays_inactive {m : FaultName} {i : List Nat} (hi : h.faultActive m i = false) :
    (h.unlatchOne j).faultActive m i = false := by
  refine Hub.clearFault_stays_inactive _ (Hub.clearFault_stays_inactive _ ?_)
  exact (congrArg (fun f : Faults => f.log.any (fun r => r.name == m && r.key == i && r.active)) (Hub.emit_faults ..)).trans hi

/-- Channel `k` as a clear leaves it: not latched, its latches' faults not active. -/
def Hub.Cleared (k : Nat) (h : Hub) : Prop :=
  (h.out k).faulty = false ∧ h.faultActive .outputOverload [k] = false ∧ h.faultActive .readbackMismatch [k] = false

theorem Hub.unlatchOne_cleared (hk : k < 24) (h : Hub) : (h.unlatchOne k).Cleared k :=
  ⟨by rw [Hub.unlatchOne_out, Hub.modOut_out_self hk], h.unlatchOne_overload k, h.unlatchOne_readback k⟩

theorem Hub.Cleared.unlatchOne (hc : h.Cleared k) (hkj : k ≠ j) : (h.unlatchOne j).Cleared k := by
  obtain ⟨hf, ho, hr⟩ := hc
  exact ⟨by rw [Hub.unlatchOne_out, Hub.modOut_out_ne hkj, hf], Hub.unlatchOne_stays_inactive ho, Hub.unlatchOne_stays_inactive hr⟩

theorem Hub.Cleared.clearFault (hc : h.Cleared k) (n : FaultName) (key : List Nat) : (h.clearFault n key id).Cleared k := by
  obtain ⟨hf, ho, hr⟩ := hc
  exact ⟨hf, Hub.clearFault_stays_inactive _ ho, Hub.clearFault_stays_inactive _ hr⟩

theorem Hub.Cleared.foldl {ι : Type} {f : Hub → ι → Hub} (hf : ∀ h i, Hub.Cleared k h → Hub.Cleared k (f h i)) (l : List ι)
    (hc : h.Cleared k) : (l.foldl f h).Cleared k :=
  List.foldlRecOn l f hc (fun h hh i _ => hf h i hh)

theorem Hub.Cleared.recloseGroups (hc : h.Cleared k) (held : List Nat) : (h.recloseGroups held).Cleared k := by
  refine hc.foldl (fun h g hh => ?_) held
  split <;> exact hh

theorem Hub.clearOut_low (hf : (h.out k).faulty = true) (hr : (h.out k).readback = 0) : ∃ (held : List Nat) (done : List (List Nat)), (h.clearOut k).1 =
    Hub.recloseGroups held ((List.foldl (fun (h : Hub) key => h.clearFault .outputExternalVoltage key id)
      ((h.cfg.members k).foldl (fun h j => h.unlatchOne j) h) done)) := by
  unfold Hub.clearOut
  rw [if_neg (by simp [hf]), if_neg (by simp [hr])]
  exact ⟨_, _, rfl⟩

theorem Hub.clearOut_cleared (hk : k < 24) (hf : (h.out k).faulty = true) (hr : (h.out k).readback = 0) :
    (h.clearOut k).1.Cleared k := by
  obtain ⟨held, done, he⟩ := Hub.clearOut_low hf hr
  rw [he]
  refine Hub.Cleared.recloseGroups (Hub.Cleared.foldl (fun h key hh => hh.clearFault ..) done ?_) held
  rw [Cfg.members_eq, List.foldl_cons]
  have hfirst := h.unlatchOne_cleared hk
  cases hp : h.cfg.partnerOf k with
  | none => exact hfirst
  | some j => exact hfirst.unlatchOne (Cfg.partnerOf_ne hp).symm

theorem Hub.clearOut_high (hf : (h.out k).faulty = true) (hr : (h.out k).readback ≠ 0) : (h.clearOut k).1 =
    { h with stage.refused := setBit h.stage.refused k } := by
  unfold Hub.clearOut
  rw [if_neg (by simp [hf]), if_pos hr]

theorem bitsSet_two_pow (k : Fin 24) : bitsSet 24 (2 ^ k.val) = [k.val] := by
  revert k
  decide

theorem Hub.channelClear_one (k : Fin 24) (h : Hub) : h.channelClear (2 ^ k.val) = (h.clearOut k).1 := by
  rw [Hub.channelClear, bitsSet_two_pow]
  rfl

end channels

section events
variable {s : State} {k : Fin 24} {now : Nat}

theorem execOutputOverload_on (hr : s.hub.stage.run = true) (hc : (s.hub.out k).cmd = true) (thermal : Bool) (mA : Nat) :
    exec (.outputOverload k thermal mA now) s = .next { s with hub := (s.hub.at_ now).overload k (b2n thermal) mA .real } :=
  next_of_pos (by exact Bool.and_eq_true_iff.mpr ⟨hr, hc⟩)

theorem execReadbackMismatch_on (hr : s.hub.stage.run = true) (hc : (s.hub.out k).cmd = true) (hs : (s.hub.at_ now).settled k = true)
    (hl : s.hub.faultActive .fieldSupplyLow [outGroup k] = false) (hg : vgetN s.hub.stage.closed (outGroup k) false = true) :
    exec (.readbackMismatch k now) s = .next { s with hub := (s.hub.at_ now).readbackLow k .real } := by
  refine next_of_pos ?_
  simp only [Bool.and_eq_true, Bool.not_eq_true']
  exact ⟨⟨⟨⟨hr, hc⟩, hs⟩, hl⟩, hg⟩

theorem execExternalVoltageDetection_off (hr : s.hub.stage.run = true) (hu : s.hub.cfg.outUsed k = true)
    (hc : (s.hub.out k).cmd = false) (hs : (s.hub.at_ now).settled k = true) (he : (s.hub.out k).ext = false) :
    exec (.externalVoltageDetection k now) s = .next { s with hub := (s.hub.at_ now).extDetect k 0 .real } := by
  refine next_of_pos ?_
  simp only [Bool.and_eq_true, Bool.not_eq_true']
  exact ⟨⟨⟨⟨hr, hu⟩, hc⟩, hs⟩, he⟩

section traced
variable {x : Search} (hx : s.hub.stage.searches = [x]) (hk : x.channel = k.val)

include hx hk

theorem find_detected (hn : x.searching = false) :
    s.hub.stage.searches.find? (fun x => x.channel == k.val && !x.searching) = some x := by
  simp [hx, hk, hn]

theorem find_searched (hn : x.searching = true) :
    s.hub.stage.searches.find? (fun x => x.channel == k.val && x.searching) = some x := by
  simp [hx, hk, hn]

theorem execSourceEvaluation_high (hn : x.searching = false) : ∃ t, exec (.sourceEvaluation k true now) s = .next t ∧
    t.hub.stage.searches = [{ x with searching := true }] ∧ t.lanes = s.lanes := by
  suffices ∃ t, execSourceEvaluation k true now s = .next t ∧
    t.hub.stage.searches = [{ x with searching := true }] ∧ t.lanes = s.lanes from this
  unfold execSourceEvaluation
  extract_lets t
  have hf : t.hub.stage.searches.find? (fun x => x.channel == k.val && !x.searching) = some x := find_detected hx hk hn
  rw [hf]
  refine ⟨_, rfl, ?_, rfl⟩
  change s.hub.stage.searches.map _ = _
  rw [hx]
  simp

theorem execSourceEvaluation_low (hn : x.searching = false) : exec (.sourceEvaluation k false now) s = .next { s with
    hub := (s.hub.at_ now).extRecord x (if (s.hub.cfg.partnerOf k).isSome then 0xFE else k.val) } := by
  change execSourceEvaluation k false now s = _
  unfold execSourceEvaluation
  extract_lets t
  have hf : t.hub.stage.searches.find? (fun x => x.channel == k.val && !x.searching) = some x := find_detected hx hk hn
  rw [hf]
  rfl

theorem execSourceSearchEnd_found {j : Fin 24} (hn : x.searching = true) (hj : s.hub.cfg.pulsed j = true)
    (hc : (s.hub.out j).cmd = true) : ∃ y : Search, y.channel = k.val ∧ exec (.sourceSearchEnd k (some j) now) s = .next { s with
      hub := ((s.hub.at_ now).latchExt j).extRecord y j.val } := by
  suffices ∃ y : Search, y.channel = k.val ∧ execSourceSearchEnd k (some j) now s = .next { s with
      hub := ((s.hub.at_ now).latchExt j).extRecord y j.val } from this
  unfold execSourceSearchEnd
  extract_lets t
  have hf : t.hub.stage.searches.find? (fun x => x.channel == k.val && x.searching) = some x := find_searched hx hk hn
  rw [hf]
  refine ⟨{ x with opened := x.opened ||| (if (s.hub.cfg.partnerOf j).isSome then 2 ^ outGroup j else 0) }, hk, ?_⟩
  refine (next_of_pos (by exact Bool.and_eq_true_iff.mpr ⟨hj, hc⟩)).trans (next_modHub (s := t) ?_)
  rfl

theorem execSourceSearchEnd_none (hn : x.searching = true) (ht : x.detectedAt + 200800000 ≤ (s.hub.at_ now).time.now) :
    exec (.sourceSearchEnd k none now) s = .next { s with hub := (s.hub.at_ now).extRecord x 0xFF } := by
  change execSourceSearchEnd k none now s = _
  unfold execSourceSearchEnd
  extract_lets t
  have hf : t.hub.stage.searches.find? (fun x => x.channel == k.val && x.searching) = some x := find_searched hx hk hn
  rw [hf]
  exact next_of_pos ht

end traced
theorem execChannelClear_one (hm : s.hub.power.mode.isRunning = true) :
    exec (.channelClear (2 ^ k.val)) s = .next { s with hub := (s.hub.clearOut k).1 } :=
  (next_of_pos hm).trans (next_modHub (Hub.channelClear_one k s.hub))

theorem execFieldSupplyLow_active {g : Fin 2} {v : Nat} (hr : s.hub.stage.run = true) (hv : v < 1600) :
    ∃ t, exec (.fieldSupplyLow g v now) s = .next t ∧ t.hub.faultActive .fieldSupplyLow [g.val] = true ∧ t.lanes = s.lanes := by
  cases ha : s.hub.faultActive .fieldSupplyLow [g.val] with
  | true =>
    exact ⟨_, next_modHub (if_pos (Bool.or_eq_true_iff.mpr (.inr ha))), ha, rfl⟩
  | false =>
    refine ⟨_, next_modHub (if_neg ?_), Hub.raise_active _ _ _ _ _ rfl, rfl⟩
    have ha' : (s.hub.at_ now).faultActive .fieldSupplyLow [g.val] = false := ha
    have hr' : (s.hub.at_ now).stage.run = true := hr
    simp [ha', hr', hv]

theorem execFieldSupplyRecovered_inactive (hr : s.hub.stage.run = true) (g : Fin 2) :
    ∃ t, exec (.fieldSupplyRecovered g now) s = .next t ∧ t.hub.faultActive .fieldSupplyLow [g.val] = false ∧
      t.hub.stage.goodSince[g].isSome = true ∧ t.lanes = s.lanes := by
  have hr' : ¬ (!(s.hub.at_ now).stage.run) = true := by
    rw [show (s.hub.at_ now).stage.run = true from hr]
    decide
  refine ⟨_, next_modHub (if_neg hr'), Hub.clearFault_inactive .., ?_, rfl⟩
  simp [Hub.clearFault]

end events

/-! ### Test pulses (R254, R255) -/

/-- A fold that visits `a` once, where no other element changes the view, does to the view what `a` does. -/
theorem foldl_view_once {σ ι τ : Type} (view : σ → τ) (g : τ → τ) {P : σ → Prop} {f : σ → ι → σ} {a : ι}
    (hP : ∀ s x, P s → P (f s x)) (hne : ∀ s x, P s → x ≠ a → view (f s x) = view s) (hg : ∀ s, P s → view (f s a) = g (view s))
    {l : List ι} (hl : l.Nodup) (ha : a ∈ l) {s : σ} (hs : P s) : view (l.foldl f s) = g (view s) := by
  induction l generalizing s with
  | nil => cases ha
  | cons x xs ih =>
    obtain ⟨hx, hxs⟩ := List.nodup_cons.mp hl
    rw [List.foldl_cons]
    by_cases hxa : x = a
    · subst hxa
      rw [← hg s hs]
      have hrest (l : List ι) (hl : x ∉ l) (t : σ) (ht : P t) : view (l.foldl f t) = view t := by
        induction l generalizing t with
        | nil => rfl
        | cons y ys ihy =>
          obtain ⟨hy, hys⟩ := not_or.mp (mt List.mem_cons.mpr hl)
          rw [List.foldl_cons, ihy hys _ (hP t y ht), hne t y ht (Ne.symm hy)]
      exact hrest xs hx _ (hP s x hs)
    · rw [ih hxs ((List.mem_cons.mp ha).resolve_left (Ne.symm hxa)) (hP s x hs), hne s x hs hxa]

/-- The worse of the two controllers' results for an input (R255). -/
def windowWorst (own tp k : Nat) (b d a : List Nat) : Nat :=
  max ((windowResult own tp (bit (b.getD 0 0) k) (bit (d.getD 0 0) k) (bit (a.getD 0 0) k)).getD 0)
    ((windowResult own tp (bit (b.getD 1 0) k) (bit (d.getD 1 0) k) (bit (a.getD 1 0) k)).getD 0)

section windows
variable {h : Hub} (tp k own : Nat) (b d a : List Nat)

@[simp] theorem Hub.disarm_stage (n : FaultName) (h : Hub) : (h.disarm n).stage = h.stage := rfl

/-- An evaluation writes the input's own result and no other, unless that is a failure, which stays. -/
theorem Hub.evalWindow_result (h : Hub) : ∃ seen, (h.evalWindow tp k own b d a).stage.testResult =
    if 2 ≤ vgetN h.stage.testResult k 0 ∨ seen = 0 then h.stage.testResult else vmodN h.stage.testResult k (fun _ => seen) := by
  unfold Hub.evalWindow
  extract_lets res worst arm real seen h1 h2 _
  have h1' : h1.stage = h.stage := by
    simp only [h1, apply_ite Hub.stage, Hub.raise_stage, ite_self]
  have h2' : h2.stage = h.stage := by
    simp only [h2, apply_ite Hub.stage, Hub.disarm_stage, ite_self, h1']
  refine ⟨seen, ?_⟩
  clear_value seen h2
  rw [← h2']
  split <;> rfl

theorem Hub.evalWindow_stays {i : Nat} (hi : 2 ≤ vgetN h.stage.testResult i 0) :
    vgetN (h.evalWindow tp k own b d a).stage.testResult i 0 = vgetN h.stage.testResult i 0 := by
  obtain ⟨seen, he⟩ := h.evalWindow_result tp k own b d a
  rw [he]
  split
  · rfl
  next hn =>
    refine vgetN_vmodN_ne _ ?_ _ _
    rintro rfl
    exact hn (.inl hi)

theorem Hub.evalWindow_other {i : Nat} (hi : i ≠ k) :
    vgetN (h.evalWindow tp k own b d a).stage.testResult i 0 = vgetN h.stage.testResult i 0 := by
  obtain ⟨seen, he⟩ := h.evalWindow_result tp k own b d a
  rw [he]
  split
  · rfl
  · exact vgetN_vmodN_ne _ hi _ _

/-- With nothing injected the result of an evaluation is the worse of the controllers' results. -/
theorem Hub.evalWindow_uninjected (ha : h.inject.armed = []) : (h.evalWindow tp k own b d a).inject.armed = [] ∧
    (h.evalWindow tp k own b d a).stage.testResult = if 2 ≤ vgetN h.stage.testResult k 0 ∨ windowWorst own tp k b d a = 0
      then h.stage.testResult else vmodN h.stage.testResult k (fun _ => windowWorst own tp k b d a) := by
  unfold Hub.evalWindow
  extract_lets res worst arm real seen h1 h2 _
  have harm (r : Bool) : arm r = false := by simp [arm, Hub.armed_of_no_injection ha]
  have hseen : seen = windowWorst own tp k b d a := by
    simp [seen, harm, real, worst, res, windowWorst]
  have h2' : h2 = h := by simp [h2, h1, harm]
  rw [← hseen]
  clear_value seen h2
  subst h2'
  split
  · exact ⟨ha, rfl⟩
  · exact ⟨ha, rfl⟩

/-- The evaluation of an input, where it is tested at all. -/
def Hub.evalInput (c : Cfg) (h : Hub) (k : Nat) : Hub :=
  match c.supplyOf k with
  | some own => h.evalWindow tp k own b d a
  | none => h

theorem Hub.evalInput_some {c : Cfg} {k own : Nat} (hk : c.supplyOf k = some own) (h : Hub) :
    Hub.evalInput tp b d a c h k = h.evalWindow tp k own b d a := by
  rw [Hub.evalInput, hk]

theorem Hub.evalInput_other (c : Cfg) {i k : Nat} (hi : i ≠ k) (h : Hub) :
    vgetN (Hub.evalInput tp b d a c h k).stage.testResult i 0 = vgetN h.stage.testResult i 0 := by
  unfold Hub.evalInput
  split
  · exact Hub.evalWindow_other _ _ _ _ _ _ hi
  · rfl

theorem Hub.evalInput_stays (c : Cfg) {i : Nat} {x : Nat} (hx : 2 ≤ x) (hi : vgetN h.stage.testResult i 0 = x) (k : Nat) :
    vgetN (Hub.evalInput tp b d a c h k).stage.testResult i 0 = x := by
  unfold Hub.evalInput
  split
  · rw [Hub.evalWindow_stays _ _ _ _ _ _ (hi ▸ hx), hi]
  · exact hi

theorem Hub.evalInput_armed (c : Cfg) (ha : h.inject.armed = []) (k : Nat) : (Hub.evalInput tp b d a c h k).inject.armed = [] := by
  unfold Hub.evalInput
  split
  · exact (Hub.evalWindow_uninjected _ _ _ _ _ _ ha).1
  · exact ha

/-- What an evaluation with nothing injected makes of a result that is no failure. -/
def resultAfter (worst old : Nat) : Nat := if 2 ≤ old ∨ worst = 0 then old else worst

theorem resultAfter_of_lt (worst : Nat) {old : Nat} (h : old < 2) : resultAfter worst old = if worst = 0 then old else worst := by
  simp [resultAfter, Nat.not_le.mpr h]

theorem Hub.evalWindow_own (hk : k < 24) (ha : h.inject.armed = []) :
    vgetN (h.evalWindow tp k own b d a).stage.testResult k 0 =
      resultAfter (windowWorst own tp k b d a) (vgetN h.stage.testResult k 0) := by
  rw [(Hub.evalWindow_uninjected _ _ _ _ _ _ ha).2, resultAfter]
  split
  · rfl
  · exact vgetN_vmodN_self _ hk _ _

/-- The evaluation of a window, input by input (R255). -/
def Hub.evalInputs (h : Hub) : Hub := (List.range 24).foldl (Hub.evalInput tp b d a h.cfg) h

theorem Hub.evalInputs_eq (h : Hub) : ((List.range 24).filterMap (fun k => (h.cfg.supplyOf k).map (fun own => (k, own)))).foldl
    (fun (h : Hub) e => h.evalWindow tp e.1 e.2 b d a) h = h.evalInputs tp b d a := by
  rw [List.foldl_filterMap, Hub.evalInputs]
  congr 1
  funext t k
  unfold Hub.evalInput
  cases h.cfg.supplyOf k <;> rfl

theorem Hub.evalInputs_stays {i : Nat} (hi : 2 ≤ vgetN h.stage.testResult i 0) :
    vgetN (h.evalInputs tp b d a).stage.testResult i 0 = vgetN h.stage.testResult i 0 :=
  List.foldlRecOn (motive := fun t : Hub => vgetN t.stage.testResult i 0 = vgetN h.stage.testResult i 0) _ _ rfl
    (fun _ ht k _ => Hub.evalInput_stays tp b d a _ hi ht k)

theorem Hub.evalInputs_own (hk : k < 24) (hs : h.cfg.supplyOf k = some own) (ha : h.inject.armed = []) :
    vgetN (h.evalInputs tp b d a).stage.testResult k 0 =
      resultAfter (windowWorst own tp k b d a) (vgetN h.stage.testResult k 0) := by
  refine foldl_view_once (fun t : Hub => vgetN t.stage.testResult k 0) (resultAfter (windowWorst own tp k b d a))
    (P := fun t : Hub => t.inject.armed = []) (fun t x ht => Hub.evalInput_armed tp b d a h.cfg ht x)
    (fun t x _ hx => Hub.evalInput_other tp b d a h.cfg hx.symm t) (fun t ht => ?_) List.nodup_range (List.mem_range.mpr hk) ha
  rw [Hub.evalInput_some tp b d a hs]
  exact Hub.evalWindow_own tp k own b d a hk ht

end windows

section pulses
variable {s : State} {tp : Fin 4} {k : Fin 24} {now : Nat}

theorem execTestWindowEvaluation_open (b d a : List Nat) (hw : s.hub.stage.window = some tp.val) :
    ∃ t, exec (.testWindowEvaluation tp b d a) s = .next t ∧ t.hub.stage.window = none ∧ t.lanes = s.lanes ∧
      t.hub.stage.testResult = (s.hub.evalInputs tp b d a).stage.testResult := by
  refine ⟨_, next_modHub (if_neg (by simp [hw])), rfl, rfl, ?_⟩
  exact (congrArg (fun h : Hub => h.stage.testResult) (Hub.evalInputs_eq tp b d a s.hub) :)

/-! ### Off-pulses (R258 to R260) -/

/-- The channel after its pulse, with the result of the pulse (R260). -/
def Hub.pulseEnded (k : Nat) (failed : Bool) (h : Hub) : Hub :=
  { h.modOut k (fun c => { c with pulse := none }) with stage.offFailed := putBit h.stage.offFailed k failed }

theorem Hub.pulseEnded_pulse (failed : Bool) (h : Hub) : ((h.pulseEnded k failed).out k).pulse = none := by
  change ((h.modOut k (fun c => { c with pulse := none })).out k).pulse = none
  rw [Hub.modOut_out_self k.isLt]

variable {x : Nat} (hp : (s.hub.out k).pulse = some x) (hx : x + 1000 * s.hub.cfg.offpulseUs ≤ (s.hub.at_ now).time.now)

include hp hx

/-- A pulse whose readback left the high level, with nothing injected: it passes, or it is reported (R260). -/
theorem execOffPulseEnd_left (ha : s.hub.inject.armed = []) (us : Nat) : exec (.offPulseEnd k true us now) s = .next { s with
    hub := if 2 * us ≤ s.hub.cfg.offpulseUs then (s.hub.at_ now).pulseEnded k false
      else ((s.hub.at_ now).pulseEnded k true).offPulseFail k (if us = 0xFFFF then 1 else 0) us .real } := by
  refine next_modHub ?_
  have hp' : ((s.hub.at_ now).out k).pulse = some x := hp
  have harm (p : Armed → Bool) : ((s.hub.at_ now).modOut k (fun c => { c with pulse := none })).armed .offPulseFail p = none :=
    Hub.armed_of_no_injection ha ..
  dsimp only
  rw [hp']
  refine (if_neg (Nat.not_lt.mpr hx)).trans ((if_neg Bool.false_ne_true).trans ?_)
  rw [harm]
  by_cases hus : 2 * us ≤ s.hub.cfg.offpulseUs
  · have hpass : decide (2 * us ≤ (s.hub.at_ now).cfg.offpulseUs) = true := decide_eq_true hus
    rw [if_pos hus, hpass]
    rfl
  · have hpass : decide (2 * us ≤ (s.hub.at_ now).cfg.offpulseUs) = false := decide_eq_false hus
    rw [if_neg hus, hpass]
    rfl

/-- A pulse whose readback never left the high level shows an external voltage (R260). -/
theorem execOffPulseEnd_high (us : Nat) : ∃ t, exec (.offPulseEnd k false us now) s = .next t ∧ (t.hub.out k).pulse = none ∧
    (t.hub.out k).ext = true ∧ t.lanes = s.lanes := by
  have hp' : ((s.hub.at_ now).out k).pulse = some x := hp
  have hout : ((s.hub.at_ now).modOut k (fun c => { c with pulse := none })).out k = { s.hub.out k with pulse := none } :=
    Hub.modOut_out_self k.isLt _
  have hpulse : (((s.hub.at_ now).modOut k (fun c => { c with pulse := none })).out k).pulse = none := by rw [hout]
  cases he : (s.hub.out k).ext with
  | true =>
    refine ⟨_, next_modHub (x := (s.hub.at_ now).modOut k (fun c => { c with pulse := none })) ?_, hpulse, ?_, rfl⟩
    · dsimp only
      rw [hp']
      refine (if_neg (Nat.not_lt.mpr hx)).trans ((if_pos rfl).trans (if_pos ?_))
      rw [Hub.extKnown, hout, he]
    · exact (congrArg OutCh.ext hout).trans he
  | false =>
    refine ⟨_, next_modHub (x := ((s.hub.at_ now).modOut k (fun c => { c with pulse := none })).extDetect k 1 .real) ?_, ?_, ?_, rfl⟩
    · dsimp only
      rw [hp']
      refine (if_neg (Nat.not_lt.mpr hx)).trans ((if_pos rfl).trans (if_neg ?_))
      rw [Hub.extKnown, hout, he]
      decide
    · rw [Hub.extDetect_out]
      exact Hub.latchOut_pulse k.isLt true hpulse
    · rw [Hub.extDetect_out, (Hub.latchOut_latched k.isLt true _).2.2, Bool.or_true]

end pulses

section statement
variable {s : State} {k : Fin 24} {now : Nat}

/-- R232, R233: a latched channel with its active fault. -/
theorem Hub.latched_reported (h : Hub) {t : Hub} (hs : t.stage = (h.latchOut k false).stage) :
    (t.out k).faulty = true ∧ (t.out k).cmd = false := by
  obtain ⟨hf, hc, -⟩ := Hub.latchOut_latched k.isLt false h
  exact ⟨by rw [Hub.out_of_stage hs, hf], by rw [Hub.out_of_stage hs, hc]⟩

/-- R234: the detection latches the channel, opens a pair's switch and begins a trace. -/
theorem Hub.extDetect_spec (h : Hub) : ((h.extDetect k 0 .real).out k).faulty = true ∧ ((h.extDetect k 0 .real).out k).ext = true ∧
    (∃ x, (h.extDetect k 0 .real).stage.searches = h.stage.searches ++ [x] ∧ x.channel = k.val ∧ x.searching = false ∧
      x.detectedAt = h.time.now) ∧
    ((h.cfg.partnerOf k).isSome = true → vgetN (h.extDetect k 0 .real).stage.closed (outGroup k) false = false) := by
  obtain ⟨hf, -, he⟩ := Hub.latchOut_latched k.isLt true h
  refine ⟨by rw [Hub.extDetect_out, hf], by rw [Hub.extDetect_out, he, Bool.or_true], ⟨h.searchOf k 0 .real, ?_, rfl, rfl, rfl⟩, ?_⟩
  · rw [Hub.extDetect_eq]
  · intro hp
    rw [Hub.extDetect_eq, Hub.latchExt, if_pos hp]
    exact Hub.openGroup_closed (outGroup_lt k) _

theorem execChannelClear_faulty (hm : s.hub.power.mode.isRunning = true) (hf : (s.hub.out k).faulty = true) :
    ∃ t, exec (.channelClear (2 ^ k.val)) s = .next t ∧ t.lanes = s.lanes ∧
      ((s.hub.out k).readback = 0 → (t.hub.out k).faulty = false ∧ t.hub.faultActive .outputOverload [k.val] = false ∧
        t.hub.faultActive .readbackMismatch [k.val] = false) ∧
      ((s.hub.out k).readback ≠ 0 → (t.hub.out k).faulty = true ∧ bit t.hub.stage.refused k.val = true) := by
  refine ⟨_, execChannelClear_one hm, rfl, fun hr => Hub.clearOut_cleared k.isLt hf hr, fun hr => ?_⟩
  have he := Hub.clearOut_high hf hr
  exact ⟨by dsimp only; rw [he]; exact hf, by dsimp only; rw [he]; simp [bit_setBit]⟩

/-- R260: what a pulse that left the high level leaves. -/
theorem execOffPulseEnd_spec {x : Nat} (hp : (s.hub.out k).pulse = some x)
    (hx : x + 1000 * s.hub.cfg.offpulseUs ≤ (s.hub.at_ now).time.now) (ha : s.hub.inject.armed = []) (us : Nat) :
    ∃ t, exec (.offPulseEnd k true us now) s = .next t ∧ (t.hub.out k).pulse = none ∧ t.lanes = s.lanes ∧
      (2 * us ≤ s.hub.cfg.offpulseUs → bit t.hub.stage.offFailed k.val = false ∧ t.hub.faults = s.hub.faults) ∧
      (s.hub.cfg.offpulseUs < 2 * us → bit t.hub.stage.offFailed k.val = true ∧
        t.hub.faultActive .offPulseFail [k.val] = true) := by
  refine ⟨_, execOffPulseEnd_left hp hx ha us, ?_⟩
  by_cases hus : 2 * us ≤ s.hub.cfg.offpulseUs
  · rw [if_pos hus]
    exact ⟨Hub.pulseEnded_pulse .., rfl, fun _ => ⟨by simp [Hub.pulseEnded, bit_putBit], rfl⟩, fun h => by omega⟩
  · have hst : (((s.hub.at_ now).pulseEnded k true).offPulseFail k (if us = 0xFFFF then 1 else 0) us .real).stage =
        ((s.hub.at_ now).pulseEnded k true).stage := Hub.raise_stage ..
    rw [if_neg hus]
    refine ⟨?_, rfl, fun h => by omega, fun _ => ⟨?_, Hub.raise_active _ _ _ _ _ rfl⟩⟩
    · rw [Hub.out_of_stage hst, Hub.pulseEnded_pulse]
    · rw [hst]
      simp [Hub.pulseEnded, bit_putBit]

end statement

/-- Settles O46: a latch, a clear, a window and a pulse each write the channel that they are of; reports leave the stage alone. -/
theorem outputFaults : Obligations.OutputFaults := by
  refine ⟨fun s k now hr => ⟨?_, ?_, ?_, ?_, ?_, ?_, ?_, ?_⟩, fun s tp k now hr => ⟨?_, ?_, ?_, ?_, ?_, ?_, ?_⟩⟩
  · intro thermal mA hc
    obtain ⟨hf, ho⟩ := Hub.latched_reported (k := k) (s.hub.at_ now) (Hub.overload_stage k (b2n thermal) mA _)
    exact ⟨_, execOutputOverload_on hr hc thermal mA, hf, ho, Hub.raise_active _ _ _ _ _ rfl, rfl⟩
  · intro hc hs hl hg
    obtain ⟨hf, ho⟩ := Hub.latched_reported (k := k) (s.hub.at_ now) (Hub.readbackLow_stage k _)
    exact ⟨_, execReadbackMismatch_on hr hc hs hl hg, hf, ho, Hub.raise_active _ _ _ _ _ rfl, rfl⟩
  · intro hu hc hs he
    obtain ⟨hf, hx, hsearch, hclosed⟩ := Hub.extDetect_spec (k := k) (s.hub.at_ now)
    exact ⟨_, execExternalVoltageDetection_off hr hu hc hs he, hf, hx, hsearch, hclosed, rfl⟩
  · intro x hx hk hn
    refine ⟨execSourceEvaluation_high hx hk hn, _, execSourceEvaluation_low hx hk hn, ?_, rfl, ?_⟩
    · exact Hub.extRecord_searches _ (by exact hx) rfl
    · dsimp only
      rw [Hub.extRecord_stage, hk]
  · intro x hx hk hn
    refine ⟨fun j hj hc => ?_, fun ht => ⟨_, execSourceSearchEnd_none hx hk hn ht, ?_, ?_⟩⟩
    · obtain ⟨y, hy, hex⟩ := execSourceSearchEnd_found (now := now) hx hk hn hj hc
      obtain ⟨hf, ho, he⟩ := Hub.latchOut_latched j.isLt true (s.hub.at_ now)
      have hout : (((s.hub.at_ now).latchExt j).extRecord y j.val).out j = ((s.hub.at_ now).latchOut j true).out j := by
        rw [← Hub.latchExt_out, Hub.out, Hub.extRecord_stage]
        rfl
      refine ⟨_, hex, by dsimp only; rw [hout, hf], by dsimp only; rw [hout, he, Bool.or_true], by dsimp only; rw [hout, ho], ?_, ?_⟩
      · refine Hub.extRecord_searches (y := x) _ ?_ (hy.trans hk.symm)
        rw [Hub.latchExt_searches]
        exact hx
      · dsimp only
        rw [Hub.extRecord_stage, hy]
    · exact Hub.extRecord_searches _ (by exact hx) rfl
    · dsimp only
      rw [Hub.extRecord_stage, hk]
  · exact fun hm hf => execChannelClear_faulty hm hf
  · exact fun g v hv => execFieldSupplyLow_active hr hv
  · exact fun g => execFieldSupplyRecovered_inactive hr g
  · exact fun hp => ⟨_, next_modHub (if_pos (by rw [hr, hp]; rfl)), rfl, rfl⟩
  · intro b d a hw
    obtain ⟨t, hex, hwin, hlanes, hres⟩ := execTestWindowEvaluation_open b d a hw
    refine ⟨t, hex, hwin, hlanes, fun i hi => ?_, fun own ho ha hk => ?_⟩
    · have h := Hub.evalInputs_stays (h := s.hub) tp.val b d a (i := i) (by rwa [vgetN_fin])
      rwa [vgetN_fin, vgetN_fin, ← hres] at h
    · have h := Hub.evalInputs_own (h := s.hub) tp.val k own b d a k.isLt ho ha
      rw [vgetN_fin, vgetN_fin, ← hres] at h
      exact h.trans (resultAfter_of_lt _ hk)
  · exact fun hw => ⟨_, next_modHub (if_pos (by simp [hr, hw])), by simp [bit_clearBit], rfl⟩
  · intro hn
    refine ⟨_, next_modHub (if_pos ?_), by simp, by simp [bit_setBit], rfl⟩
    exact Bool.and_eq_true_iff.mpr ⟨hr, by rw [show (s.hub.at_ now).stage.tpOff[tp] = none from hn]; rfl⟩
  · intro x hx ht
    have hx' : (s.hub.at_ now).stage.tpOff[tp] = some x := hx
    refine ⟨_, next_modHub (x := { s.hub.at_ now with
      stage.tpOff := s.hub.stage.tpOff.set tp none, stage.tpLimit := clearBit s.hub.stage.tpLimit tp.val }) ?_, by simp, by simp [bit_clearBit], rfl⟩
    dsimp only
    rw [hx']
    exact if_pos ht
  · intro hu hc hp hon
    have hout : ((s.hub.at_ now).modOut k (fun c => { c with pulse := some (s.hub.at_ now).time.now })).out k =
      { s.hub.out k with pulse := some (s.hub.at_ now).time.now } := Hub.modOut_out_self k.isLt _
    refine ⟨_, next_modHub (if_pos ?_), by dsimp only; rw [hout], by dsimp only; rw [hout]; exact hc, rfl⟩
    simp only [Bool.and_eq_true]
    exact ⟨⟨⟨⟨hr, hu⟩, hc⟩, by rw [show ((s.hub.at_ now).out k).pulse = none from hp]; rfl⟩, decide_eq_true hon⟩
  · exact fun x hp hx ha => ⟨fun us => execOffPulseEnd_spec hp hx ha us, fun us => execOffPulseEnd_high hp hx us⟩

end Sys2Proof.Machine
end

section
/-! Refutes O54: words that a lane pushes beyond a mailbox's room are counted as rejected for contributing lanes alone (R441,
chapter 17). -/
namespace Sys2Proof.Machine

/-- Lane 0 is outvoted while the tick runs, and mailbox 0, whose side A is the application, is empty. -/
def outvotedPusher : State :=
  State.reset.modHub (fun h => { h with time.running := true, vote.laneState := h.vote.laneState.set 0 .outvoted })

/-- Nine words, one more than a mailbox holds. -/
def nineWords : List Word := List.replicate 9 0#32

theorem outvotedPusher_counts_nothing :
    ∃ t, exec (.mbPush 0 0 nineWords 0) outvotedPusher = .next t ∧ (t.hub.box 0).rejectedA = 0 :=
  ⟨_, rfl, rfl⟩

/-- Refutes O54: of the nine words of `nineWords` one has no room, the engine learns of it, but the lane is outvoted and the count of
rejected words stays at 0 where the statement wants 1. -/
theorem not_mailboxEvents : ¬ Obligations.MailboxEvents := by
  unfold Obligations.MailboxEvents
  intro hall
  obtain ⟨hpush, -⟩ := hall outvotedPusher 0 0 rfl
  obtain ⟨t, ht, -, -, -, hover⟩ := hpush 0 nineWords 0 rfl rfl rfl
  obtain ⟨t', ht', hcount⟩ := outvotedPusher_counts_nothing
  obtain rfl : t' = t := Host.Outcome.next.inj (ht'.symm.trans ht)
  obtain ⟨-, hone⟩ := hover (by decide)
  exact absurd (hcount.symm.trans hone) (by decide)

end Sys2Proof.Machine
end

section
/-! Settles O53. Supervision of the memories, substitution and the hardware locks (chapter 16). -/
namespace Sys2Proof.Machine

/-! ### What reads of a memory leave of the scrub passes (R395, R400 to R403) -/

section passes
variable (h : Hub)

/-- The hub's scrub passes. -/
def Hub.passes (h : Hub) : Vector (Nat × Nat) 5 × Vector (Nat × Nat) 5 := (h.mem.dramScrub, h.mem.sramScrub)

variable {h} in
theorem Hub.passes_of_unworn {t : Hub} (e : t.unworn = h.unworn) : t.passes = h.passes :=
  (congrArg Hub.passes e : t.unworn.passes = h.unworn.passes)

theorem Hub.dramScrub_of_passes {h t : Hub} (e : t.passes = h.passes) : t.mem.dramScrub = h.mem.dramScrub := congrArg Prod.fst e

theorem Hub.sramScrub_of_passes {h t : Hub} (e : t.passes = h.passes) : t.mem.sramScrub = h.mem.sramScrub := congrArg Prod.snd e

@[simp] theorem Hub.raiseEvent_passes (rep : FaultRec → Bool) (n : FaultName) (key : List Nat) (lanes : Nat) (d : Detail) (o : Origin) :
    (h.raiseEvent rep n key lanes d o).passes = h.passes :=
  (congrArg Hub.passes (h.raiseEvent_still rep n key lanes d o) :)

@[simp] theorem Hub.wearHit_passes (cls unit index : Nat) (n : Option Nat) : (h.wearHit cls unit index n).passes = h.passes :=
  passes_of_unworn (h.wearHit_unworn cls unit index n)

@[simp] theorem Hub.takeArm_passes (n : FaultName) (p : Armed → Bool) : (h.takeArm n p).2.passes = h.passes := rfl

@[simp] theorem Hub.dramUncorrectable_passes (unit addr source : Nat) (poison : Bool) (o : Origin) :
    (h.dramUncorrectable unit addr source poison o).passes = h.passes := by
  unfold Hub.dramUncorrectable
  exact (Hub.wearHit_passes ..).trans (Hub.raiseEvent_passes ..)

@[simp] theorem Hub.dramCorrected_passes (unit addr source bytes : Nat) (o : Origin) :
    (h.dramCorrected unit addr source bytes o).passes = h.passes := by
  unfold Hub.dramCorrected
  extract_lets cw page
  split
  · rfl
  · exact (Hub.raiseEvent_passes ..).trans (Hub.wearHit_passes ..)

@[simp] theorem Hub.codewordErr_passes (unit cw : Nat) (errs : List DramErr) : (h.codewordErr unit cw errs).2.passes = h.passes := by
  unfold Hub.codewordErr
  dsimp only
  split
  · rfl
  · split <;> rfl

theorem Hub.readCodeword_passes (unit addr source : Nat) (errs : List DramErr) (x : Hub × Bytes) (cw : Nat) :
    (Hub.readCodeword unit addr source errs x cw).1.passes = x.1.passes := by
  unfold Hub.readCodeword
  dsimp only
  split
  · exact Hub.dramUncorrectable_passes ..
  · split
    · exact Hub.codewordErr_passes ..
    · rw [Hub.dramReport, Hub.raiseEvent_passes, Hub.codewordErr_passes]
    · split
      · rw [Hub.dramCorrected_passes, Hub.codewordErr_passes]
      · rw [Hub.dramUncorrectable_passes, Hub.codewordErr_passes]

theorem Hub.dramRead_passes (unit addr source : Nat) (errs : List DramErr) (d : Bytes) :
    (h.dramRead unit addr source errs d).1.passes = h.passes :=
  foldl_view (fun x : Hub × Bytes => x.1.passes) (Hub.readCodeword_passes unit addr source errs) _ (h, d)

@[simp] theorem Hub.sramFound_passes (unit macro_ row word reader : Nat) (e : Ecc) (o : Origin) :
    (h.sramFound unit macro_ row word reader e o).passes = h.passes := by
  unfold Hub.sramFound
  extract_lets lanes
  split
  · rfl
  · simp only [apply_ite Hub.passes, Hub.wearHit_passes, ite_self]
    exact Hub.raiseEvent_passes ..
  · exact (Hub.wearHit_passes ..).trans (Hub.raiseEvent_passes ..)

@[simp] theorem Hub.sramReport_passes (unit macro_ row word reader : Nat) (unc : Bool) :
    (h.sramReport unit macro_ row word reader unc).passes = h.passes := Hub.raiseEvent_passes ..

theorem Hub.sramRead_passes (unit macro_ row word reader : Nat) (e : Ecc) :
    (h.sramRead unit macro_ row word reader e).2.passes = h.passes := by
  unfold Hub.sramRead
  extract_lets shown mine
  generalize hx : h.takeArm .sramUncorrectable mine = x
  generalize hy : x.2.takeArm .sramCorrected mine = y
  have hpasses : y.2.passes = h.passes := by
    rw [← hy, Hub.takeArm_passes, ← hx, Hub.takeArm_passes]
  dsimp only
  rw [hy]
  split
  · rw [Hub.sramFound_passes, hpasses]
  · split <;> simp only [Hub.sramFound_passes, Hub.sramReport_passes, hpasses]

end passes

section scrub
variable {s : State} {unit : Fin 5} (hs : s.hub.scrubs unit.val = true)

include hs

/-- R402: a patrol step counts in its own unit's pass alone. -/
theorem execPatrolScrub_passes (stripe : Nat) (errs : List DramErr) : ∃ t, exec (.patrolScrub unit stripe errs) s = .next t ∧
    t.lanes = s.lanes ∧ t.hub.mem.dramScrub = vmod s.hub.mem.dramScrub unit (scrubStep (scrubStripes unit.val)) := by
  refine ⟨_, next_modHub (if_neg (by simp [hs])), rfl, ?_⟩
  have hd := Hub.dramScrub_of_passes (s.hub.dramRead_passes unit.val (stripe / 128 * 128) 1 errs (zeros 128))
  rw [← vmodN_of_lt _ _ unit.isLt]
  exact congrArg (fun v => vmodN v unit.val (scrubStep (scrubStripes unit.val))) hd

/-- R403: a slot of the SRAM scrub counts in its unit's pass and leaves no word of the unit waiting for its rewrite. -/
theorem execSramScrub_passes (found : List (Nat × Nat × Nat × Ecc)) : ∃ t, exec (.sramScrub unit found) s = .next t ∧
    t.lanes = s.lanes ∧ t.hub.mem.sramScrub = vmod s.hub.mem.sramScrub unit (scrubStep (if unit.val < 4 then 256 else 64)) ∧
    ∀ w ∈ t.hub.mem.sramRewrite, w.1 ≠ unit.val := by
  refine ⟨_, next_modHub (if_neg (by simp [hs])), rfl, ?_, fun w hw => ?_⟩
  · have hp := foldl_view Hub.passes
      (f := fun (h : Hub) (f : Nat × Nat × Nat × Ecc) => (h.sramRead unit f.1 f.2.1 f.2.2.1 3 f.2.2.2).2)
      (fun h f => Hub.sramRead_passes h unit f.1 f.2.1 f.2.2.1 3 f.2.2.2) found
      { s.hub with mem.sramRewrite := s.hub.mem.sramRewrite.filter (fun w => w.1 != unit.val) }
    have hd := Hub.sramScrub_of_passes hp
    rw [← vmodN_of_lt _ _ unit.isLt]
    exact congrArg (fun v => vmodN v unit.val (scrubStep (if unit.val < 4 then 256 else 64))) hd
  · exact bne_iff_ne.mp (List.mem_filter.mp hw).2

end scrub

/-! ### NAND, substitution and spare copies (R405, R408, R409) -/

section substitution
variable {s : State}

/-- The hub after a page of sequence number `seq` has been programmed to device `d`, where that is not retired (R405). -/
def Hub.programDev (seq : Nat) (h : Hub) (d : Nat) : Hub :=
  if bit h.mem.nandRetired d then h else { h with mem.nandSeq := vmodN h.mem.nandSeq d (fun _ => seq) }

theorem Hub.programDev_retired (seq : Nat) (h : Hub) (d : Nat) : (h.programDev seq d).mem.nandRetired = h.mem.nandRetired := by
  unfold Hub.programDev
  split <;> rfl

theorem Hub.programDev_blocks (seq : Nat) (h : Hub) (d : Nat) : (h.programDev seq d).mem.nandBlocks = h.mem.nandBlocks := by
  unfold Hub.programDev
  split <;> rfl

theorem Hub.programDev_self (seq : Nat) (h : Hub) (d : Fin 2) :
    (h.programDev seq d).mem.nandSeq[d] = if bit h.mem.nandRetired d then h.mem.nandSeq[d] else seq := by
  unfold Hub.programDev
  split
  · rfl
  · simp only [vmodN_of_lt _ _ d.isLt]
    exact vmod_getElem_self ..

theorem Hub.programDev_other (seq : Nat) (h : Hub) {d e : Fin 2} (hed : e ≠ d) :
    (h.programDev seq d).mem.nandSeq[e] = h.mem.nandSeq[e] := by
  unfold Hub.programDev
  split
  · rfl
  · simp only [vmodN_of_lt _ _ d.isLt]
    exact vmod_getElem_ne _ _ hed

theorem execNandProgram_eq : exec (.nandProgram false 0) s = .next { s with
    hub := (s.hub.programDev (maxNat s.hub.mem.nandSeq.toList + 1) 0).programDev (maxNat s.hub.mem.nandSeq.toList + 1) 1 } := by
  refine next_modHub ?_
  change List.foldl _ _ [0, 1] = List.foldl (Hub.programDev (maxNat s.hub.mem.nandSeq.toList + 1)) s.hub [0, 1]
  congr 1
  funext h d
  simp only [bit_zero, Bool.false_and, Bool.or_false, Bool.false_eq_true, if_false]
  rfl

theorem execNandProgram_whole : ∃ t, exec (.nandProgram false 0) s = .next t ∧ t.lanes = s.lanes ∧
    t.hub.mem.nandBlocks = s.hub.mem.nandBlocks ∧
    ∀ d : Fin 2, t.hub.mem.nandSeq[d] = if bit s.hub.mem.nandRetired d.val then s.hub.mem.nandSeq[d]
      else maxNat s.hub.mem.nandSeq.toList + 1 := by
  refine ⟨_, execNandProgram_eq, rfl, ?_, fun d => ?_⟩
  · dsimp only
    rw [Hub.programDev_blocks, Hub.programDev_blocks]
  · match d with
    | 0 => exact (Hub.programDev_other _ _ (d := 1) (by decide)).trans (Hub.programDev_self _ s.hub 0)
    | 1 =>
      refine (Hub.programDev_self _ _ 1).trans ?_
      have hother := Hub.programDev_other (maxNat s.hub.mem.nandSeq.toList + 1) s.hub (d := 0) (e := 1) (by decide)
      rw [Hub.programDev_retired]
      exact congrArg (fun n => if bit s.hub.mem.nandRetired 1 then n else maxNat s.hub.mem.nandSeq.toList + 1) hother

/-- The hub after a spare page has taken the place of the entry's (R409). -/
def Hub.remapPage (e : WearEntry) (h : Hub) : Hub :=
  Hub.wearDone 1 e.unit e.index { h with
    mem.remapped := ((1, e.unit, e.index), h.spareNumber e) :: h.mem.remapped
    mem.sparePages := vmodN h.mem.sparePages e.unit (· - 1) }

theorem State.substitute_page {e : WearEntry} (hc : e.cls = 1) (hcopy : e.copied = true) :
    s.substitute e = { s with hub := s.hub.remapPage e } := by
  unfold State.substitute Hub.remapPage
  rw [hc, hcopy]
  rfl

/-- A page's request alone at its boundary, with its copy made, takes a spare (R408, R409). -/
theorem execSubstitutionBoundary_page {e : WearEntry} (hb : s.hub.atBoundary = true)
    (hw : s.hub.mem.wear.filter (fun e => e.state == .pending || e.state == .noSpare) = [e]) (hc : e.cls = 1)
    (hp : e.state = .pending) (hcopy : e.copied = true) (hfree : s.hub.sparesLeft 1 e.unit e.index ≠ 0) :
    exec .substitutionBoundary s = .next { s with hub := ({ s.hub with mem := s.hub.mem.setEntry e } : Hub).remapPage e } := by
  refine next_of_neg (by simp [hb]) |>.trans ?_
  rw [hw]
  have hkeep : ({ e with state := WearState.pending } : WearEntry) = e := by rw [← hp]
  change Host.Outcome.next (State.serve (s, []) e).1 = _
  unfold State.serve
  dsimp only
  rw [hkeep, if_neg (by omega), if_neg (by simp [hc, hfree])]
  exact congrArg Host.Outcome.next (State.substitute_page hc hcopy)

theorem execSpareCopyComplete_copied {cls : Nat} (unit index : Nat) (hc : cls = 1 ∨ cls = 2) (hr : s.hub.time.running = true) :
    ∃ t, exec (.spareCopyComplete cls unit index) s = .next t ∧ t.lanes = s.lanes ∧ t.hub.mem.wear =
      s.hub.mem.wear.map (fun e => if e.is cls unit index && e.state == .pending then { e with copied := true } else e) := by
  refine ⟨_, next_modHub (if_neg (by omega)), rfl, ?_⟩
  simp only [hr, Bool.and_true]

end substitution

/-! ### Locks (R410 to R412) -/

section locks
variable {h : Hub} {n : Fin 32} (owner station : Nat)

theorem Hub.lockRead_free (hk : h.locks.lock[n].held = false) : (h.lockRead n owner station).1 = { h with
    locks.lock := h.locks.lock.set n { held := true, owner := owner, station := if owner = 2 then station else 0 } } := by
  unfold Hub.lockRead
  dsimp only
  rw [if_neg (by rw [hk]; decide)]

theorem Hub.lockRead_held (hk : h.locks.lock[n].held = true) : (h.lockRead n owner station).1 =
    if h.locks.lock[n].owner = owner then h else { h with locks.contention := satAdd 32 h.locks.contention 1 } := by
  unfold Hub.lockRead
  rw [if_pos hk]

variable {s : State}

theorem execLockRead_other {master : Fin 4} (hm : master.val ≠ 1) (lanes : Nat) : exec (.lockRead n master station lanes) s =
    .next { s with hub := (s.hub.lockRead n master station).1 } :=
  next_modHub (if_neg hm)

/-- The answer to the lanes' read is kept for the tick (R411). -/
def Hub.answered (n : Fin 32) (r : Hub × Nat) : Hub := { r.1 with locks.answers := r.1.locks.answers.set n (some r.2) }

/-- The hub's decision over the lanes' reads (R411): two contributing lanes make the request. -/
theorem execLockRead_lanes {master : Fin 4} (hm : master.val = 1) (lanes : Nat) : exec (.lockRead n master station lanes) s =
    .next { s with hub := Hub.answered n (if 2 ≤ (s.hub.active.filter (fun l => bit lanes l.val)).length then s.hub.lockRead n 1 0
      else (s.hub, s.hub.locks.lock[n].value false)) } :=
  next_modHub (if_pos hm)

/-- A read that makes its master's request leaves what the request leaves of the locks and their contention. -/
theorem execLockRead_goes {master : Fin 4} {lanes : Nat}
    (hgo : master.val = 1 → 2 ≤ (s.hub.active.filter (fun l => bit lanes l.val)).length) :
    ∃ t station', exec (.lockRead n master station lanes) s = .next t ∧ t.lanes = s.lanes ∧
      (master.val = 2 → station' = station) ∧
      t.hub.locks.lock = (s.hub.lockRead n master station').1.locks.lock ∧
      t.hub.locks.contention = (s.hub.lockRead n master station').1.locks.contention := by
  by_cases hm : master.val = 1
  · have hex := execLockRead_lanes (n := n) (station := station) (s := s) hm lanes
    rw [if_pos (hgo hm)] at hex
    exact ⟨_, 0, hex, rfl, fun h2 => by omega, by rw [hm]; rfl, by rw [hm]; rfl⟩
  · exact ⟨_, station, execLockRead_other station hm lanes, rfl, fun _ => rfl, rfl, rfl⟩

end locks

section statement
variable {s : State} {n : Fin 32} {master : Fin 4} {station lanes : Nat}

theorem execLockRead_acquires (hk : s.hub.locks.lock[n].held = false)
    (hgo : master.val = 1 → 2 ≤ (s.hub.active.filter (fun l => bit lanes l.val)).length) :
    ∃ t, exec (.lockRead n master station lanes) s = .next t ∧ t.lanes = s.lanes ∧
      t.hub.locks.lock = s.hub.locks.lock.set n
        { held := true, owner := master.val, station := if master.val = 2 then station else 0 } := by
  obtain ⟨t, st, hex, hl, hst, hlock, -⟩ := execLockRead_goes station hgo
  refine ⟨t, hex, hl, ?_⟩
  rw [hlock, Hub.lockRead_free _ _ hk]
  by_cases hm : master.val = 2
  · simp only [hst hm]
  · simp only [if_neg hm]

theorem execLockRead_contends (hk : s.hub.locks.lock[n].held = true)
    (hgo : master.val = 1 → 2 ≤ (s.hub.active.filter (fun l => bit lanes l.val)).length) :
    ∃ t, exec (.lockRead n master station lanes) s = .next t ∧ t.lanes = s.lanes ∧ t.hub.locks.lock = s.hub.locks.lock ∧
      t.hub.locks.contention = if s.hub.locks.lock[n].owner = master.val then s.hub.locks.contention
        else satAdd 32 s.hub.locks.contention 1 := by
  obtain ⟨t, st, hex, hl, -, hlock, hcont⟩ := execLockRead_goes station hgo
  refine ⟨t, hex, hl, ?_⟩
  rw [hlock, hcont, Hub.lockRead_held _ _ hk]
  split <;> exact ⟨rfl, rfl⟩

/-- One contributing lane's read makes no request (R411). -/
theorem execLockRead_refused
    (hgo : ¬ (master.val = 1 → 2 ≤ (s.hub.active.filter (fun l => bit lanes l.val)).length)) :
    ∃ t, exec (.lockRead n master station lanes) s = .next t ∧ t.hub.locks.lock = s.hub.locks.lock := by
  obtain ⟨hm, hfew⟩ := Classical.not_imp.mp hgo
  have hex := execLockRead_lanes (n := n) (station := station) (s := s) hm lanes
  rw [if_neg hfew] at hex
  exact ⟨_, hex, rfl⟩

theorem execLockRelease_spec : ∃ t, exec (.lockRelease n master) s = .next t ∧ t.lanes = s.lanes ∧
    (s.hub.locks.lock[n].held = true ∧ s.hub.locks.lock[n].owner = master.val → t.hub.locks.lock = s.hub.locks.lock.set n {} ∧
      t.hub.locks.releaseIgnored = s.hub.locks.releaseIgnored) ∧
    (¬ (s.hub.locks.lock[n].held = true ∧ s.hub.locks.lock[n].owner = master.val) → t.hub.locks.lock = s.hub.locks.lock ∧
      t.hub.locks.releaseIgnored = satAdd 32 s.hub.locks.releaseIgnored 1) := by
  by_cases hown : s.hub.locks.lock[n].held = true ∧ s.hub.locks.lock[n].owner = master.val
  · exact ⟨_, next_modHub (if_pos (by simpa using hown)), rfl, fun _ => ⟨rfl, rfl⟩, fun h => absurd hown h⟩
  · exact ⟨_, next_modHub (if_neg (by simpa using hown)), rfl, fun h => absurd h hown, fun _ => ⟨rfl, rfl⟩⟩

theorem Hub.remapPage_pages (e : WearEntry) (h : Hub) :
    vgetN (h.remapPage e).mem.sparePages e.unit 0 = vgetN h.mem.sparePages e.unit 0 - 1 := by
  change vgetN (vmodN h.mem.sparePages e.unit (· - 1)) e.unit 0 = _
  by_cases hu : e.unit < 5
  · exact vgetN_vmodN_self _ hu _ _
  · simp [vgetN, hu]

end statement

/-- Settles O53: reads for the scrub leave the passes to the scrub itself, a served request is the one entry of its boundary, and a lock
read is its master's request or none. -/
theorem memoryAndLocks : Obligations.MemoryAndLocks := by
  intro s
  refine ⟨fun unit stripe => ⟨_, rfl, rfl, rfl, rfl⟩, fun unit stripe errs hs => ?_, fun unit found hs => ?_, execNandProgram_whole,
    fun e hb hw hc hp hcopy hfree => ?_, fun cls unit index hc hr => execSpareCopyComplete_copied unit index hc hr,
    fun n master station lanes => ⟨execLockRead_acquires, execLockRead_contends, execLockRead_refused, execLockRelease_spec⟩⟩
  · obtain ⟨t, hex, hl, hpass⟩ := execPatrolScrub_passes hs stripe errs
    refine ⟨t, hex, hl, ?_⟩
    rw [hpass]
    exact ⟨vmod_getElem_self .., fun u hu => vmod_getElem_ne _ _ hu⟩
  · obtain ⟨t, hex, hl, hpass, hrewrite⟩ := execSramScrub_passes hs found
    refine ⟨t, hex, hl, ?_, hrewrite⟩
    rw [hpass]
    exact vmod_getElem_self ..
  · exact ⟨_, execSubstitutionBoundary_page hb hw hc hp hcopy hfree, rfl, rfl, Hub.remapPage_pages .., Hub.clearFault_inactive ..⟩

end Sys2Proof.Machine
end

section
/-! The rack link bridge (chapter 14): what completions, discards and lost stations leave of it. -/
namespace Sys2Proof.Machine

/-! ### Stations and the bridge -/

/-- A station without what the completion of a request changes: the status of the last write and the packets for its next poll. -/
def Station.core (x : Station) : Station := { x with lastWrite := 0, replies := [] }

def Hub.core (h : Hub) (i : Nat) : Station := (h.station i).core

/-- The bridge without what the completion of a request changes. -/
def Hub.bus (h : Hub) : Rack := { h.rack with stations := vmap Station.core h.rack.stations, rx := [] }

section views
variable {h t : Hub} {i j : Nat}

theorem vgetN_vmap {α β : Type} {n : Nat} (f : α → β) (v : Vector α n) (i : Nat) (d : α) : vgetN (vmap f v) i (f d) = f (vgetN v i d) := by
  unfold vgetN
  split
  · exact vmap_getElem ..
  · rfl

theorem Hub.core_eq (h : Hub) (i : Nat) : h.core i = vgetN h.bus.stations i {} := (vgetN_vmap Station.core h.rack.stations i {}).symm

theorem Hub.core_of_bus (e : t.bus = h.bus) (i : Nat) : t.core i = h.core i := by
  rw [Hub.core_eq, Hub.core_eq, e]

theorem Hub.window_of_bus (e : t.bus = h.bus) : t.rack.window = h.rack.window := (congrArg Rack.window e :)
theorem Hub.tags_of_bus (e : t.bus = h.bus) : t.rack.tags = h.rack.tags := (congrArg Rack.tags e :)
theorem Hub.waiting_of_bus (e : t.bus = h.bus) : t.rack.waiting = h.rack.waiting := (congrArg Rack.waiting e :)
theorem Hub.timeouts_of_bus (e : t.bus = h.bus) : t.rack.timeouts = h.rack.timeouts := (congrArg Rack.timeouts e :)

theorem Hub.bus_unreplied (h : Hub) : h.unreplied.bus = h.bus := by
  simp only [Hub.bus, Hub.unreplied, vmap_vmap]
  rfl

theorem Hub.bus_of_unreplied (e : t.unreplied = h.unreplied) : t.bus = h.bus := by
  rw [← Hub.bus_unreplied, e, Hub.bus_unreplied]

theorem Hub.bus_still (h : Hub) : h.still.bus = h.bus := h.bus_unreplied

theorem Hub.bus_of_still (e : t.still = h.still) : t.bus = h.bus := by
  rw [← Hub.bus_still, e, Hub.bus_still]

theorem Hub.bus_of_unsent (e : t.unsent = h.unsent) : t.bus = h.bus := (congrArg Hub.bus e :)

/-- The configuration and the fault log: what completions leave alone beside the bus. -/
def Hub.books (h : Hub) : Cfg × Faults := (h.cfg, h.faults)

theorem Hub.books_of_unsent (e : t.unsent = h.unsent) : t.books = h.books := (congrArg Hub.books e :)

theorem Hub.books_of_unreplied (e : t.unreplied = h.unreplied) : t.books = h.books := (congrArg Hub.books e :)

theorem Hub.modStation_station (hi : i < 32) (f : Station → Station) (h : Hub) : (h.modStation i f).station i = f (h.station i) :=
  vgetN_vmodN_self _ hi f {}

theorem Hub.modStation_station_ne (hij : j ≠ i) (f : Station → Station) (h : Hub) : (h.modStation i f).station j = h.station j :=
  vgetN_vmodN_ne _ hij f {}

theorem Hub.modStation_core_ne (hij : j ≠ i) (f : Station → Station) (h : Hub) : (h.modStation i f).core j = h.core j := by
  rw [Hub.core, Hub.modStation_station_ne hij, Hub.core]

theorem Hub.modStation_bus {f : Station → Station} (hf : ∀ x, (f x).core = x.core) (h : Hub) : (h.modStation i f).bus = h.bus :=
  congrArg (fun v => ({ h.rack with stations := v, rx := [] } : Rack)) (vmap_vmodN_of_forall Station.core h.rack.stations i hf)

/-! ### Completions (R359 to R362, R370) -/

theorem Hub.queueDrop_unsent (q : Nat) (h : Hub) : (h.queueDrop q).1.unsent =
    ({ h with net.dropFull := satAdd 32 h.net.dropFull 1 } : Hub).unsent := Hub.queueRec_unsent ..

theorem Hub.queueDrop_bus (q : Nat) (h : Hub) : (h.queueDrop q).1.bus = h.bus :=
  (bus_of_unsent (h.queueDrop_unsent q)).trans rfl

theorem Hub.queueDrop_books (q : Nat) (h : Hub) : (h.queueDrop q).1.books = h.books :=
  (books_of_unsent (h.queueDrop_unsent q)).trans rfl

theorem Hub.queueRec_bus (q kind v : Nat) (h : Hub) : (h.queueRec q kind v).bus = h.bus := bus_of_unsent (h.queueRec_unsent ..)

theorem Hub.queueRec_books (q kind v : Nat) (h : Hub) : (h.queueRec q kind v).books = h.books :=
  books_of_unsent (h.queueRec_unsent ..)

theorem Hub.complete_books (q st n : Nat) (rx : Option (Nat × Nat)) (h : Hub) : (h.complete q st n rx).books = h.books :=
  books_of_unsent (h.complete_unsent ..)

theorem Hub.finish_books (which : Exec → Bool) (st : Status) (params : Exec → Bytes) (h : Hub) :
    (h.finish which st params).books = h.books := books_of_unreplied (h.finish_unreplied ..)

theorem Hub.complete_bus (q st n : Nat) (rx : Option (Nat × Nat)) (h : Hub) : (h.complete q st n rx).bus = h.bus :=
  bus_of_unsent (h.complete_unsent ..)

theorem Hub.finish_bus (which : Exec → Bool) (st : Status) (params : Exec → Bytes) (h : Hub) : (h.finish which st params).bus = h.bus :=
  bus_of_unreplied (h.finish_unreplied ..)

theorem Hub.rackComplete_bus (q : RackReq) (st : Nat) (d : Bytes) (h : Hub) : (h.rackComplete q st d).bus = h.bus := by
  unfold Hub.rackComplete
  extract_lets h1 e q45 hr body
  have e1 : h1.bus = h.bus := by
    unfold h1
    split
    · exact h.modStation_bus (f := fun x => { x with lastWrite := st }) (fun _ => rfl)
    · rfl
  clear_value h1
  rw [← e1]
  split
  · split
    · exact Hub.queueDrop_bus ..
    · exact Hub.queueRec_bus ..
  · extract_lets h2
    have e2 : h2.bus = h1.bus := Hub.complete_bus ..
    rw [← e2]
    split
    · exact Hub.queueDrop_bus ..
    · split
      · exact Hub.queueDrop_bus ..
      · exact Hub.complete_bus ..
  · exact Hub.finish_bus ..

theorem Hub.rackComplete_books (q : RackReq) (st : Nat) (d : Bytes) (h : Hub) : (h.rackComplete q st d).books = h.books := by
  unfold Hub.rackComplete
  extract_lets h1 e q45 hr body
  have e1 : h1.books = h.books := by
    unfold h1
    split <;> rfl
  clear_value h1
  rw [← e1]
  split
  · split
    · exact h1.queueDrop_books 45
    · exact Hub.queueRec_books ..
  · extract_lets h2
    have e2 : h2.books = h1.books := Hub.complete_books ..
    rw [← e2]
    split
    · exact h2.queueDrop_books 47
    · split
      · exact h2.queueDrop_books 47
      · exact Hub.complete_books ..
  · exact Hub.finish_books ..

/-! ### Discards and lost stations (R364, R368) -/

theorem Hub.raise_bus (n : FaultName) (key : List Nat) (lanes : Nat) (d : Detail) (o : Origin) (h : Hub) :
    (h.raise n key lanes d o).bus = h.bus := bus_of_still (h.raise_still ..)

theorem Hub.raiseEvent_bus (rep : FaultRec → Bool) (n : FaultName) (key : List Nat) (lanes : Nat) (d : Detail) (o : Origin) (h : Hub) :
    (h.raiseEvent rep n key lanes d o).bus = h.bus := bus_of_still (h.raiseEvent_still ..)

theorem Hub.raiseEvent_cfg (rep : FaultRec → Bool) (n : FaultName) (key : List Nat) (lanes : Nat) (d : Detail) (o : Origin) (h : Hub) :
    (h.raiseEvent rep n key lanes d o).cfg = h.cfg := (congrArg Hub.cfg (h.raiseEvent_still rep n key lanes d o) :)

/-- The hub after a buffer of unserved bytes has been discarded, before its report. -/
def Hub.discarded (i off n address : Nat) (h : Hub) : Hub :=
  (h.modStation i (fun x => { x with prefetch := none })).modRack (fun k => { k with
    log := vmodN k.log k.logNext (fun _ => (i, n, address + off)), logNext := (k.logNext + 1) % 16
    discards := satAdd 16 k.discards 1 })

/-- A discard leaves what the station's end of its buffer and the bridge's log of it leave. -/
theorem Hub.prefetchDiscard_view {τ : Type} (view : Hub → τ) (i : Nat) (o : Origin) (h : Hub)
    (hraise : ∀ (t : Hub) rep n key lanes d, view (t.raiseEvent rep n key lanes d o) = view t)
    (hlog : ∀ (t : Hub) l n d, view (t.modRack (fun k => { k with log := l, logNext := n, discards := d })) = view t)
    (hnone : (h.station i).prefetch = none → view h = view (h.modStation i (fun x => { x with prefetch := none }))) :
    view (h.prefetchDiscard i o) = view (h.modStation i (fun x => { x with prefetch := none })) := by
  unfold Hub.prefetchDiscard
  split
  next hp => exact hnone hp
  next p hp =>
    extract_lets h1
    split
    · rfl
    · extract_lets h2
      rw [hraise]
      exact hlog h1 _ _ _

theorem Hub.prefetchDiscard_core_ne (hij : j ≠ i) (o : Origin) (h : Hub) : (h.prefetchDiscard i o).core j = h.core j := by
  rw [Hub.prefetchDiscard_view (fun h => h.core j) i o h (fun t _ _ _ _ _ => core_of_bus (t.raiseEvent_bus ..) j) (fun _ _ _ _ => rfl)
    (fun _ => (Hub.modStation_core_ne hij _ h).symm)]
  exact Hub.modStation_core_ne hij _ h

theorem Hub.prefetchDiscard_core_self (hi : i < 32) (o : Origin) (h : Hub) :
    (h.prefetchDiscard i o).core i = { h.core i with prefetch := none } := by
  have hself : (h.modStation i (fun x => { x with prefetch := none })).core i = { h.core i with prefetch := none } := by
    rw [Hub.core, Hub.modStation_station hi]
    rfl
  rw [Hub.prefetchDiscard_view (fun h => h.core i) i o h (fun t _ _ _ _ _ => core_of_bus (t.raiseEvent_bus ..) i) (fun _ _ _ _ => rfl)
    (fun hp => ?_)]
  · exact hself
  · rw [hself, ← show (h.core i).prefetch = none from hp]

theorem Hub.prefetchDiscard_cfg (o : Origin) (h : Hub) : (h.prefetchDiscard i o).cfg = h.cfg :=
  Hub.prefetchDiscard_view Hub.cfg i o h (fun t _ _ _ _ _ => t.raiseEvent_cfg ..) (fun _ _ _ _ => rfl) (fun _ => rfl)

/-- The bridge's window, its requests under way and those that wait. -/
def Rack.lines (k : Rack) : Option (Nat × RackAsk) × Vector (Option RackTag) 64 × List RackReq × Nat :=
  (k.window, k.tags, k.waiting, k.timeouts)

theorem Hub.lines_of_bus (e : t.bus = h.bus) : t.rack.lines = h.rack.lines := (congrArg Rack.lines e :)

theorem Hub.prefetchDiscard_lines (o : Origin) (h : Hub) : (h.prefetchDiscard i o).rack.lines = h.rack.lines :=
  Hub.prefetchDiscard_view (fun h => h.rack.lines) i o h (fun t _ _ _ _ _ => lines_of_bus (t.raiseEvent_bus ..)) (fun _ _ _ _ => rfl)
    (fun _ => rfl)

/-- A station as its loss marks it (R357, R368). -/
def Station.lostAs (cause now : Nat) (wait : Bool) (x : Station) : Station :=
  { x with
    present := false, lost := some cause, lostAt := now, identifyAt := now, stale := true, hold := x.hold || wait, parts := none }

/-- Whether a lost station waits for ENABLE_REQ (R369). -/
def Hub.waits (h : Hub) (i : Nat) : Bool := match h.stationCfg i with | some c => c.waitEnable | none => false

/-- The hub with station `i` marked lost and its buffer discarded. -/
def Hub.markLost (i cause : Nat) (o : Origin) (h : Hub) : Hub :=
  (h.modStation i (Station.lostAs cause h.time.now (h.waits i))).prefetchDiscard i o

/-- The report of a lost station. -/
def Hub.reportLost (i cause : Nat) (o : Origin) (h : Hub) : Hub :=
  h.raise .stationLost [i, cause] 0 [(1, i), (1, cause), (1, (h.station i).lastExchange), (1, 0), (6, h.time.tick)] o

/-- One request under way to a lost station completes ABSENT. -/
def Hub.endTag (h : Hub) (n : Nat) : Hub :=
  match vgetN h.rack.tags n none with
  | some x => (h.modRack (fun k => { k with tags := vmodN k.tags n (fun _ => none) })).rackComplete x.req 4 []
  | none => h

theorem Hub.stationLost_eq (i cause : Nat) {o : Origin} (ho : o ≠ .reportOnly) (h : Hub) : ∃ mine : List Nat, h.stationLost i cause o =
    (mine.foldl Hub.endTag ((h.markLost i cause .real).reportLost i cause o)).dropLocks (fun k => k.owner == 2 && k.station == i) := by
  unfold Hub.stationLost
  rw [if_neg ho]
  exact ⟨_, rfl⟩

/-- A loss leaves what its mark leaves, but for the requests that it ends. -/
theorem Hub.stationLost_view {τ : Type} (view : Hub → τ) (i cause : Nat) {o : Origin} (ho : o ≠ .reportOnly) (h : Hub)
    (hcomplete : ∀ (t : Hub) q st d, view (t.rackComplete q st d) = view t)
    (htags : ∀ (t : Hub) v, view (t.modRack (fun k => { k with tags := v })) = view t)
    (hlocks : ∀ (t : Hub) p, view (t.dropLocks p) = view t) :
    view (h.stationLost i cause o) = view ((h.markLost i cause .real).reportLost i cause o) := by
  obtain ⟨mine, he⟩ := h.stationLost_eq i cause ho
  rw [he, hlocks]
  refine foldl_view view (fun t n => ?_) _ _
  unfold Hub.endTag
  split
  · rw [hcomplete]
    exact htags ..
  · rfl

theorem Hub.stationLost_core (i cause : Nat) {o : Origin} (ho : o ≠ .reportOnly) (h : Hub) (j : Nat) :
    (h.stationLost i cause o).core j = (h.markLost i cause .real).core j := by
  rw [Hub.stationLost_view (fun h => h.core j) i cause ho h (fun t _ _ _ => core_of_bus (t.rackComplete_bus ..) j) (fun _ _ => rfl)
    (fun _ _ => rfl)]
  exact core_of_bus (Hub.raise_bus ..) j

theorem Hub.stationLost_core_ne (hij : j ≠ i) (cause : Nat) {o : Origin} (ho : o ≠ .reportOnly) (h : Hub) :
    (h.stationLost i cause o).core j = h.core j := by
  rw [Hub.stationLost_core _ _ ho, Hub.markLost, Hub.prefetchDiscard_core_ne hij, Hub.modStation_core_ne hij]

theorem Hub.stationLost_core_self (hi : i < 32) (cause : Nat) {o : Origin} (ho : o ≠ .reportOnly) (h : Hub) :
    (h.stationLost i cause o).core i =
      { (h.core i).lostAs cause h.time.now (h.waits i) with prefetch := none } := by
  rw [Hub.stationLost_core _ _ ho, Hub.markLost, Hub.prefetchDiscard_core_self hi, Hub.core, Hub.modStation_station hi]
  rfl

theorem Hub.cfg_of_books (e : t.books = h.books) : t.cfg = h.cfg := congrArg Prod.fst e

theorem Hub.faults_of_books (e : t.books = h.books) : t.faults = h.faults := congrArg Prod.snd e

theorem Hub.stationLost_cfg (i cause : Nat) {o : Origin} (ho : o ≠ .reportOnly) (h : Hub) : (h.stationLost i cause o).cfg = h.cfg := by
  rw [Hub.stationLost_view Hub.cfg i cause ho h (fun t _ _ _ => cfg_of_books (t.rackComplete_books ..)) (fun _ _ => rfl) (fun _ _ => rfl)]
  refine Eq.trans (congrArg Hub.cfg (Hub.raise_still ..) :) ?_
  exact Hub.prefetchDiscard_cfg ..

theorem Hub.stationLost_active (i cause : Nat) {o : Origin} (ho : o ≠ .reportOnly) (h : Hub) :
    (h.stationLost i cause o).faultActive .stationLost [i, cause] = true := by
  have hf := Hub.stationLost_view Hub.faults i cause ho h (fun t _ _ _ => faults_of_books (t.rackComplete_books ..)) (fun _ _ => rfl)
    (fun _ _ => rfl)
  rw [Hub.faultActive, hf]
  exact Hub.raise_active _ _ _ _ _ rfl

theorem Hub.stationLost_window (i cause : Nat) {o : Origin} (ho : o ≠ .reportOnly) (h : Hub) :
    (h.stationLost i cause o).rack.window = h.rack.window := by
  rw [Hub.stationLost_view (fun h => h.rack.window) i cause ho h (fun t _ _ _ => window_of_bus (t.rackComplete_bus ..)) (fun _ _ => rfl)
    (fun _ _ => rfl)]
  refine (window_of_bus (Hub.raise_bus ..)).trans ?_
  exact congrArg Prod.fst (Hub.prefetchDiscard_lines _ (h.modStation i _))

end views

end Sys2Proof.Machine
end

section
/-! Settles O51. The events of the rack link (chapter 14). -/
namespace Sys2Proof.Machine

/-! ### Enumeration (R357, R369) -/

section enumeration
variable {h t : Hub} {i j : Nat}

/-- A station as its DESCRIPTOR describes it. -/
def Station.described (d : Bytes) (x : Station) : Station :=
  { x with
    type := be32 d 0
    devices := (((List.range (u8 d 6)).map (fun k => (be32 d (8 + 12 * k), be32 d (12 + 12 * k), u8 d (16 + 12 * k)))).filter
      (fun r => r.2.2 == 2)).map (fun r => (r.1, r.2.1))
    missed := 0 }

/-- The hub once a DESCRIPTOR has been read. -/
def Hub.typed (i : Nat) (d : Bytes) (h : Hub) : Hub := h.modStation i (Station.described d)

/-- The hub once an expected station has been found again. -/
def Hub.found (i : Nat) (h : Hub) : Hub :=
  [0, 1, 2].foldl (fun (h : Hub) k => h.clearFault .stationLost [i, k] id)
    (h.modStation i (fun x => { x with present := true, lost := none }))

theorem Hub.describe_unknown (d : Bytes) (hc : h.stationCfg i = none) :
    h.describe i d = (h.typed i d).modStation i (fun x => { x with present := true }) := by
  unfold Hub.describe
  extract_lets type regions devs h1 hfound hclear
  have hc' : h1.stationCfg i = none := hc
  rw [hc']
  rfl

theorem Hub.describe_expected (d : Bytes) {c : StationCfg} (hc : h.stationCfg i = some c) (he : c.expected = 0 ∨ c.expected = be32 d 0) :
    h.describe i d = (h.typed i d).found i := by
  unfold Hub.describe
  extract_lets type regions devs h1 hfound hclear
  have hc' : h1.stationCfg i = some c := hc
  rw [hc']
  exact if_neg (by rintro ⟨h0, ht⟩; exact he.elim h0 ht)

theorem Hub.describe_other (d : Bytes) {c : StationCfg} (hc : h.stationCfg i = some c) (he : ¬ (c.expected = 0 ∨ c.expected = be32 d 0)) :
    h.describe i d = if ((h.typed i d).station i).lost = some 2 then h.typed i d
      else (((h.typed i d).clearFault .stationLost [i, 0] id).clearFault .stationLost [i, 1] id).stationLost i 2 .real := by
  unfold Hub.describe
  extract_lets type regions devs h1 hfound hclear
  have hc' : h1.stationCfg i = some c := hc
  rw [hc']
  exact if_pos (not_or.mp he)

theorem Hub.typed_core_ne (hij : j ≠ i) (d : Bytes) (h : Hub) : (h.typed i d).core j = h.core j := Hub.modStation_core_ne hij _ h

theorem Hub.describe_core_ne (hij : j ≠ i) (d : Bytes) (h : Hub) : (h.describe i d).core j = h.core j := by
  cases hc : h.stationCfg i with
  | none => rw [Hub.describe_unknown d hc, Hub.modStation_core_ne hij, Hub.typed_core_ne hij]
  | some c =>
    by_cases he : c.expected = 0 ∨ c.expected = be32 d 0
    · rw [Hub.describe_expected d hc he]
      exact (Hub.modStation_core_ne hij _ _).trans (Hub.typed_core_ne hij d h)
    · rw [Hub.describe_other d hc he]
      split
      · exact Hub.typed_core_ne hij d h
      · rw [Hub.stationLost_core_ne hij _ (by decide)]
        exact Hub.typed_core_ne hij d h

theorem Hub.describe_cfg (i : Nat) (d : Bytes) (h : Hub) : (h.describe i d).cfg = h.cfg := by
  cases hc : h.stationCfg i with
  | none => rw [Hub.describe_unknown d hc]; rfl
  | some c =>
    by_cases he : c.expected = 0 ∨ c.expected = be32 d 0
    · rw [Hub.describe_expected d hc he]; rfl
    · rw [Hub.describe_other d hc he]
      split
      · rfl
      · rw [Hub.stationLost_cfg _ _ (by decide)]; rfl

/-- A station that an answer finds present: it has the type of its DESCRIPTOR. -/
theorem Hub.describe_present (hi : i < 32) (d : Bytes) (he : ∀ c, h.stationCfg i = some c → c.expected = 0 ∨ c.expected = be32 d 0) :
    ((h.describe i d).core i).present = true ∧ ((h.describe i d).core i).type = be32 d 0 := by
  have htype : ((h.typed i d).station i).type = be32 d 0 := by rw [Hub.typed, Hub.modStation_station hi]; rfl
  have hput (f : Station → Station) : (((h.typed i d).modStation i f).core i) = (f ((h.typed i d).station i)).core := by
    rw [Hub.core, Hub.modStation_station hi]
  cases hc : h.stationCfg i with
  | none =>
    rw [Hub.describe_unknown d hc, hput]
    exact ⟨rfl, htype⟩
  | some c =>
    have hf : ((h.typed i d).found i).core i = ({ (h.typed i d).station i with present := true, lost := none } : Station).core := hput _
    rw [Hub.describe_expected d hc (he c hc), hf]
    exact ⟨rfl, htype⟩

/-- The hub with IDENTIFY on its way to station `i`. -/
def Hub.askedWho (i : Nat) (h : Hub) : Hub :=
  (h.send (.rack (rackPacket false i 0 7 []))).modRack (fun k => { k with busy := k.busy + rackNs 0 })

/-- The turn of station `i` in an enumeration. -/
def Hub.enumerateOne (answers : List (Nat × Bytes)) (h : Hub) (i : Nat) : Hub :=
  match answers.find? (fun a => a.1 == i && rackTypeOk 8 a.2.length a.2) with
  | some a => (h.askedWho i).describe i a.2
  | none =>
    if ((h.askedWho i).stationCfg i).isNone then (h.askedWho i).modStation i (fun x => { x with present := false })
    else if ((h.askedWho i).station i).lost.isSome then h.askedWho i else (h.askedWho i).stationLost i 1 .real

variable (answers : List (Nat × Bytes))

theorem Hub.enumerateOne_core_ne (hij : j ≠ i) (h : Hub) : (h.enumerateOne answers i).core j = h.core j := by
  have hasked : (h.askedWho i).core j = h.core j := rfl
  rw [← hasked, Hub.enumerateOne]
  split
  · exact Hub.describe_core_ne hij _ _
  · split
    · exact Hub.modStation_core_ne hij _ _
    · split
      · rfl
      · exact Hub.stationLost_core_ne hij 1 (by decide) _

theorem Hub.enumerateOne_cfg (i : Nat) (h : Hub) : (h.enumerateOne answers i).cfg = h.cfg := by
  have hasked : (h.askedWho i).cfg = h.cfg := rfl
  rw [← hasked, Hub.enumerateOne]
  split
  · exact Hub.describe_cfg ..
  · split
    · rfl
    · split
      · rfl
      · exact Hub.stationLost_cfg _ _ (by decide) _

variable {answers}

theorem Hub.enumerateOne_present (hi : i < 32) {d : Bytes}
    (hf : answers.find? (fun a => a.1 == i && rackTypeOk 8 a.2.length a.2) = some (i, d))
    (he : ∀ c, h.stationCfg i = some c → c.expected = 0 ∨ c.expected = be32 d 0) :
    ((h.enumerateOne answers i).core i).present = true ∧ ((h.enumerateOne answers i).core i).type = be32 d 0 := by
  rw [Hub.enumerateOne, hf]
  exact Hub.describe_present hi d he

theorem Hub.enumerateOne_absent (hi : i < 32) (hf : answers.find? (fun a => a.1 == i && rackTypeOk 8 a.2.length a.2) = none)
    (hc : h.stationCfg i = none) : ((h.enumerateOne answers i).core i).present = false := by
  have hc' : ((h.askedWho i).stationCfg i).isNone = true := by rw [show (h.askedWho i).stationCfg i = none from hc]; rfl
  rw [Hub.enumerateOne, hf]
  dsimp only
  rw [if_pos hc', Hub.core, Hub.modStation_station hi]
  rfl

/-- The stations of a whole enumeration. -/
def Hub.enumerateAll (answers : List (Nat × Bytes)) (h : Hub) : Hub := ((List.range 30).map (· + 1)).foldl (Hub.enumerateOne answers) h

theorem stationNumbers_nodup : ((List.range 30).map (· + 1)).Nodup := by decide

theorem mem_stationNumbers (h1 : 1 ≤ i) (h30 : i ≤ 30) : i ∈ (List.range 30).map (· + 1) :=
  List.mem_map.mpr ⟨i - 1, List.mem_range.mpr (by omega), by omega⟩

theorem Hub.enumerateAll_present (h1 : 1 ≤ i) (h30 : i ≤ 30) {d : Bytes}
    (hf : answers.find? (fun a => a.1 == i && rackTypeOk 8 a.2.length a.2) = some (i, d))
    (he : ∀ c, h.stationCfg i = some c → c.expected = 0 ∨ c.expected = be32 d 0) :
    ((h.enumerateAll answers).core i).present = true ∧ ((h.enumerateAll answers).core i).type = be32 d 0 := by
  have hview := foldl_view_once (fun t : Hub => ((t.core i).present, (t.core i).type)) (fun _ => (true, be32 d 0))
    (P := fun t => t.cfg = h.cfg) (f := Hub.enumerateOne answers) (a := i)
    (fun t j ht => (Hub.enumerateOne_cfg answers j t).trans ht)
    (fun t j _ hj => by rw [Hub.enumerateOne_core_ne answers hj.symm])
    (fun t ht => ?_) stationNumbers_nodup (mem_stationNumbers h1 h30) (s := h) rfl
  · exact Prod.ext_iff.mp hview
  · have hcfg (c : StationCfg) (hc : t.stationCfg i = some c) : c.expected = 0 ∨ c.expected = be32 d 0 := by
      rw [Hub.stationCfg, ht] at hc
      exact he c hc
    obtain ⟨hp, ht⟩ := Hub.enumerateOne_present (h := t) (by omega) hf hcfg
    exact Prod.ext hp ht

theorem Hub.enumerateAll_absent (h1 : 1 ≤ i) (h30 : i ≤ 30)
    (hf : answers.find? (fun a => a.1 == i && rackTypeOk 8 a.2.length a.2) = none)
    (hc : h.stationCfg i = none) : ((h.enumerateAll answers).core i).present = false := by
  refine foldl_view_once (fun t : Hub => (t.core i).present) (fun _ => false)
    (P := fun t => t.cfg = h.cfg) (f := Hub.enumerateOne answers) (a := i)
    (fun t j ht => (Hub.enumerateOne_cfg answers j t).trans ht)
    (fun t j _ hj => by rw [Hub.enumerateOne_core_ne answers hj.symm])
    (fun t ht => Hub.enumerateOne_absent (by omega) hf ?_) stationNumbers_nodup (mem_stationNumbers h1 h30) (s := h) rfl
  rw [Hub.stationCfg, ht]
  exact hc

theorem execRackEnumeration_bus {s : State} {now : Nat} (hd : s.hub.rackDriving = true) (he : s.hub.rack.enumerating = true) :
    ∃ t, exec (.rackEnumeration answers now) s = .next t ∧ t.lanes = s.lanes ∧ t.hub.rack.enumerating = false ∧
      ∀ i, t.hub.core i = ((s.hub.at_ now).enumerateAll answers).core i := by
  have hd' : (s.hub.at_ now).rackDriving = true := hd
  have he' : (s.hub.at_ now).rack.enumerating = true := he
  refine ⟨_, next_modHub (if_neg (by rw [hd', he']; decide)), rfl, ?_, fun i => ?_⟩
  · exact (congrArg Rack.enumerating (Hub.finish_bus ..) :)
  · exact (Hub.core_of_bus (Hub.finish_bus ..) i).trans rfl

end enumeration

/-! ### The master's packets and their windows (R357, R359, R365, R371) -/

/-- The hub as a POLL of a host station leaves it: words that it has not accepted are to be sent again. -/
def Hub.repolled (i : Nat) (h : Hub) : Hub :=
  ({ h with mb.box := vmap (fun m : Mailbox => if m.sideB == 3 && m.station == i then { m with sent := 0 } else m) h.mb.box } :
    Hub).modStation i (fun x => { x with polledAt := h.time.now })

section packets
variable {s : State} {i now : Nat}

/-- What a packet of the master does: it goes out and its window opens. -/
theorem asks_of_rackSend {c : Instr} {h : Hub} {type : Nat} {payload : Bytes} {ask : RackAsk}
    (hex : exec c s = .next { s with hub := h.rackSend i 0 type payload ask }) (ho : h.outbox = s.hub.outbox) :
    ∃ t, exec c s = .next t ∧ t.lanes = s.lanes ∧ t.hub.rack.window = some (i, ask) ∧ t.hub.rack.windowBad = false ∧
      t.hub.outbox = s.hub.outbox ++ [.rack (rackPacket false i 0 type payload)] :=
  ⟨_, hex, rfl, rfl, rfl, by rw [← ho]; rfl⟩

variable (hd : s.hub.rackDriving = true) (hw : s.hub.rack.window = none)

include hd hw

theorem execRackIdentifyRetry_asks (hl : (s.hub.station i).lost.isSome = true)
    (ht : (s.hub.station i).identifyAt + s.hub.cfg.rack.link.rescanMs * 1000000 ≤ (s.hub.at_ now).time.now) :
    ∃ h : Hub, exec (.rackIdentifyRetry i now) s = .next { s with hub := h.rackSend i 0 7 [] .identify } ∧ h.outbox = s.hub.outbox := by
  refine ⟨_, next_modHub (if_pos ?_), rfl⟩
  have hw' : (s.hub.at_ now).rack.window.isNone = true := by rw [show (s.hub.at_ now).rack.window = none from hw]; rfl
  simp only [Bool.and_eq_true]
  exact ⟨⟨⟨hd, hw'⟩, hl⟩, decide_eq_true ht⟩

theorem execRackPoll_asks
    (hm : s.hub.rack.outstanding.any (fun n => match vgetN s.hub.rack.tags n none with | some t => t.req.station == i | none => false) = true)
    (ht : (s.hub.station i).lastWindow + 10000 ≤ (s.hub.at_ now).time.now) :
    ∃ h : Hub, exec (.rackPoll i now) s = .next { s with hub := h.rackSend i 0 9 [] .poll } ∧ h.outbox = s.hub.outbox := by
  refine ⟨_, next_modHub (if_pos ?_), rfl⟩
  have hw' : (s.hub.at_ now).rack.window.isNone = true := by rw [show (s.hub.at_ now).rack.window = none from hw]; rfl
  simp only [Bool.and_eq_true]
  exact ⟨⟨⟨hd, hw'⟩, hm⟩, decide_eq_true ht⟩

section host
variable {c : StationCfg} (hc : s.hub.stationCfg i = some c) (hh : c.host = true) (hp : (s.hub.station i).present = true)

include hc hh hp

theorem execHostPoll_message {m : Nat × Bytes} {h' : Hub} (hm : (s.hub.at_ now).hostMessage i = some (m, h')) :
    exec (.hostPoll i now) s = .next { s with hub := h'.rackSend i 0 m.1 m.2 .frame } := by
  refine next_modHub ?_
  have hc' : (s.hub.at_ now).stationCfg i = some c := hc
  have hd' : (s.hub.at_ now).rackDriving = true := hd
  have hp' : ((s.hub.at_ now).station i).present = true := hp
  have hw' : (s.hub.at_ now).rack.window = none := hw
  dsimp only
  rw [hc', hd', hp', hw', hm]
  exact if_neg (by simp [hh])

theorem execHostPoll_none (hm : (s.hub.at_ now).hostMessage i = none) :
    ∃ h : Hub, exec (.hostPoll i now) s = .next { s with hub := h.rackSend i 0 9 [] .poll } ∧ h.outbox = s.hub.outbox := by
  refine ⟨(s.hub.at_ now).repolled i, next_modHub ?_, rfl⟩
  have hc' : (s.hub.at_ now).stationCfg i = some c := hc
  have hd' : (s.hub.at_ now).rackDriving = true := hd
  have hp' : ((s.hub.at_ now).station i).present = true := hp
  have hw' : (s.hub.at_ now).rack.window = none := hw
  dsimp only
  rw [hc', hd', hp', hw', hm]
  exact if_neg (by simp [hh])

end host
end packets

/-- A message for a host station comes from the hub alone: nothing has gone out yet. -/
theorem Hub.hostMessage_outbox {h h' : Hub} {i : Nat} {m : Nat × Bytes} (hm : h.hostMessage i = some (m, h')) : h'.outbox = h.outbox := by
  unfold Hub.hostMessage at hm
  split at hm
  · cases hm; rfl
  · dsimp only at hm
    split at hm
    · split at hm
      · cases hm; rfl
      · cases hm
    · split at hm
      · cases hm; rfl
      · cases hm

/-! ### Exchanges and replies (R356, R365) -/

section exchange
variable {s : State} {i now : Nat} {c : StationCfg} (hc : s.hub.stationCfg i = some c)

include hc

theorem execRackExchange_sends (hen : s.hub.cfg.rack.link.enabled = true) (hr : s.hub.time.running = true) (hp : c.period ≠ 0)
    (hph : s.hub.time.tick % c.period = c.phase) (hdue : ∀ d ∈ (s.hub.station i).dues, d.2 ≠ s.hub.time.tick) (hrole : s.hub.roleCode ≠ 2)
    (hpr : (s.hub.station i).present = true) (hw : s.hub.rack.window = none) :
    let ok := s.hub.outputsValid (s.snap.power.mode.isRunning && s.snap.time.tick == s.hub.time.tick) i
    ∃ h : Hub, exec (.rackExchange i now) s = .next { s with hub := h.rackSend i 0 5 (beBytes 1 (b2n ok) ++ zeros 3 ++
      (if ok then s.hub.rack.tx.readN (0x3000 + 0x100 * i + 8) c.outLen else zeros c.outLen)) (.exchange s.hub.time.tick) } ∧
      h.outbox = s.hub.outbox := by
  intro ok
  refine ⟨(s.hub.at_ now).modStation i (fun y => { y with dues := y.dues ++ [(s.hub.time.tick + c.due, s.hub.time.tick)] }),
    next_modHub ?_, rfl⟩
  have hc' : (s.hub.at_ now).stationCfg i = some c := hc
  dsimp only
  rw [hc']
  have hnone : ((s.hub.station i).dues.any (fun d => d.2 == s.hub.time.tick)) = false := by
    simpa [List.any_eq_false] using hdue
  refine (if_neg ?_).trans ((if_neg hrole).trans ((if_neg ?_).trans rfl))
  · rintro (h0 | h0 | h0 | h0 | h0)
    · exact hp h0
    · exact h0 hph
    · exact absurd ((congrArg (!·) hr).symm.trans h0) (by decide)
    · exact absurd ((congrArg (!·) hen).symm.trans h0) (by decide)
    · exact absurd (hnone.symm.trans h0) (by decide)
  · rw [show ((s.hub.at_ now).station i).present = true from hpr, show (s.hub.at_ now).rack.window = none from hw]
    decide

end exchange

/-- The hub with the window of a reply of `n` bytes closed (R356, R368). -/
def Hub.windowTaken (i n : Nat) (h : Hub) : Hub :=
  (h.modRack (fun k => { k with window := none, windowBad := false, busy := k.busy + rackNs n })).modStation i
    (fun x => { x with missed := 0, lastWindow := h.time.now })

theorem State.rackTake_exchange {t : State} {packet : Bytes} {i tick : Nat} (ht : u8 packet 2 = 6) :
    t.rackTake i (.exchange tick) packet = { t with
      hub := (t.hub.windowTaken i (slice packet 5 (be16 packet 3)).length).exchangeReply i tick (slice packet 5 (be16 packet 3)) } := by
  unfold State.rackTake
  rw [ht]
  rfl

section replies
variable {s : State} {packet : Bytes} {now : Nat} (hen : s.hub.cfg.rack.link.enabled = true) (hr : s.hub.time.running = true)

include hen hr

theorem execRackReplyReceived_bad (hb : rackReplyOk packet = false ∨ rackTagOk packet = false) :
    exec (.rackReplyReceived packet now) s = .next { s with hub := (s.hub.at_ now).rackBad } := by
  have hen' : (s.hub.at_ now).cfg.rack.link.enabled = true := hen
  have hr' : (s.hub.at_ now).time.running = true := hr
  refine (next_of_neg ?_).trans ((next_of_pos ?_).trans rfl)
  · show ¬ (!(s.hub.at_ now).cfg.rack.link.enabled || !(s.hub.at_ now).time.running) = true
    rw [hen', hr']
    decide
  · rcases hb with hb | hb <;> simp [hb]

/-- A reply to an exchange with nothing injected writes the station's image in its window. -/
theorem execRackReplyReceived_exchange {i tick : Nat} (ha : s.hub.inject.armed = []) (hok : rackReplyOk packet = true)
    (htag : rackTagOk packet = true) (hi : u8 packet 0 % 32 = i) (hrole : s.hub.roleCode ≠ 2)
    (hw : s.hub.rack.window = some (i, .exchange tick)) (ht : u8 packet 2 = 6) :
    exec (.rackReplyReceived packet now) s = .next { s with
      hub := ((s.hub.at_ now).windowTaken i (slice packet 5 (be16 packet 3)).length).exchangeReply i tick
        (slice packet 5 (be16 packet 3)) } := by
  change execRackReplyReceived packet now s = _
  unfold execRackReplyReceived
  extract_lets t h j r taken
  have hw' : h.rack.window = some (i, .exchange tick) := hw
  have ha' : h.inject.armed = [] := ha
  refine (next_of_neg ?_).trans ((next_of_neg ?_).trans ((next_of_neg hrole).trans ?_))
  · rw [show h.cfg.rack.link.enabled = true from hen, show h.time.running = true from hr]
    decide
  · rw [hok, htag]
    decide
  · rw [hw']
    refine (next_of_neg (Classical.not_not.mpr hi.symm)).trans ((next_of_neg ?_).trans ?_)
    · rw [ht]
      exact Bool.false_ne_true
    · have hr0 : r = (none, h) := Hub.takeArm_of_no_injection ha' ..
      have htaken : taken = t := congrArg (fun r : Option Origin × Hub => ({ t with hub := r.2 } : State)) hr0
      rw [show r.1 = none from congrArg Prod.fst hr0, htaken, show j = i from hi]
      exact congrArg Host.Outcome.next (State.rackTake_exchange (t := t) ht)

end replies

/-- A whole image of the station's length is taken (R365). -/
theorem Hub.exchangeReply_station {h : Hub} {i : Nat} (hi : i < 32) (tick : Nat) {body : Bytes} {c : StationCfg}
    (hc : h.stationCfg i = some c) (h0 : u8 body 0 = 0) (hl : body.length = 4 + c.inLen) :
    (h.exchangeReply i tick body).station i = { h.station i with
      data := body.drop 4, length := c.inLen, stamp := h.tb0Now, stale := false, substituted := false, lastExchange := 0
      completed := satAdd 32 (h.station i).completed 1, dues := (h.station i).dues.filter (fun d => d.2 != tick) } ∧
    (h.exchangeReply i tick body).rack.window = h.rack.window := by
  unfold Hub.exchangeReply
  rw [hc]
  dsimp only
  rw [if_pos ⟨h0, hl⟩]
  exact ⟨Hub.modStation_station hi _ h, rfl⟩

/-! ### Windows without a reply and lost stations (R368) -/

section windows
variable {h : Hub} {i : Nat}

/-- The hub with the window of `ask` closed without a reply, before a loss. -/
def Hub.windowClosed (i : Nat) (ask : RackAsk) (h : Hub) : Hub :=
  let h' := (h.modRack (fun k => { k with window := none, windowBad := false })).modStation i
    (fun x => { x with missed := min 255 (x.missed + 1), lastWindow := h.time.now })
  match ask with
  | .exchange _ =>
    h'.modStation i (fun x => { x with lastExchange := if h.rack.windowBad then 2 else 1, failed := satAdd 32 x.failed 1 })
  | _ => h'

theorem Hub.windowEmpty_eq {ask : RackAsk} (hw : h.rack.window = some (i, ask)) : h.windowEmpty none =
    if ((h.windowClosed i ask).station i).present && decide (h.cfg.rack.link.lostWindows ≤ ((h.windowClosed i ask).station i).missed) &&
      (h.stationCfg i).isSome then (h.windowClosed i ask).stationLost i 0 .real else h.windowClosed i ask := by
  unfold Hub.windowEmpty
  rw [hw]
  cases ask <;> rfl

theorem Hub.windowClosed_rack (ask : RackAsk) (h : Hub) :
    (h.windowClosed i ask).rack.window = none ∧ (h.windowClosed i ask).cfg = h.cfg := by
  cases ask <;> exact ⟨rfl, rfl⟩

theorem Hub.windowClosed_station (hi : i < 32) (ask : RackAsk) (h : Hub) :
    ((h.windowClosed i ask).station i).missed = min 255 ((h.station i).missed + 1) ∧
      ((h.windowClosed i ask).station i).present = (h.station i).present := by
  have h' := Hub.modStation_station hi (fun x => { x with missed := min 255 (x.missed + 1), lastWindow := h.time.now })
    (h.modRack (fun k => { k with window := none, windowBad := false }))
  unfold Hub.windowClosed
  split
  · rw [Hub.modStation_station hi, h']
    exact ⟨rfl, rfl⟩
  · rw [h']
    exact ⟨rfl, rfl⟩

theorem Hub.windowEmpty_station (hi : i < 32) {ask : RackAsk} (hw : h.rack.window = some (i, ask)) :
    (h.windowEmpty none).rack.window = none ∧ ((h.windowEmpty none).station i).missed = min 255 ((h.station i).missed + 1) := by
  obtain ⟨hwin, -⟩ := Hub.windowClosed_rack (i := i) ask h
  obtain ⟨hm, -⟩ := Hub.windowClosed_station hi ask h
  rw [Hub.windowEmpty_eq hw]
  split
  · have hcore := Hub.stationLost_core_self hi 0 (o := .real) (by decide) (h.windowClosed i ask)
    refine ⟨(Hub.stationLost_window _ _ (by decide) _).trans hwin, ?_⟩
    exact (congrArg Station.missed hcore).trans hm
  · exact ⟨hwin, hm⟩

/-- R368: the last window in a row that a station may miss loses it. -/
theorem Hub.windowEmpty_loses (hi : i < 32) {ask : RackAsk} (hw : h.rack.window = some (i, ask)) (hp : (h.station i).present = true)
    (hl : h.cfg.rack.link.lostWindows ≤ min 255 ((h.station i).missed + 1)) (hc : (h.stationCfg i).isSome = true) :
    ((h.windowEmpty none).station i).present = false ∧ ((h.windowEmpty none).station i).lost = some 0 ∧
      ((h.windowEmpty none).station i).stale = true ∧ (h.windowEmpty none).faultActive .stationLost [i, 0] = true := by
  obtain ⟨hm, hpres⟩ := Hub.windowClosed_station hi ask h
  have hcore := Hub.stationLost_core_self hi 0 (o := .real) (by decide) (h.windowClosed i ask)
  rw [Hub.windowEmpty_eq hw, hm, hpres, if_pos (by rw [hp, hc]; simpa using hl)]
  exact ⟨congrArg Station.present hcore, congrArg Station.lost hcore, congrArg Station.stale hcore,
    Hub.stationLost_active _ _ (by decide) _⟩

theorem Hub.rackEnable_hold (hi : i < 32) (mask : Nat) (h : Hub) :
    ((h.rackEnable mask).station i).hold = ((h.station i).hold && !bit mask i) := by
  unfold Hub.rackEnable
  cases hb : bit mask i with
  | false =>
    rw [Bool.not_false, Bool.and_true]
    refine congrArg Station.hold (List.foldlRecOn (motive := fun u : Hub => u.station i = h.station i) _ _ rfl (fun u hu j hj => ?_))
    have hij : i ≠ j := by
      rintro rfl
      simp [bitsSet, hb] at hj
    exact (Hub.modStation_station_ne hij _ u).trans hu
  | true =>
    have hmem : i ∈ bitsSet 32 mask := by simp [bitsSet, hb, hi]
    rw [Bool.not_true, Bool.and_false]
    exact foldl_view_once (fun t : Hub => (t.station i).hold) (fun _ => false) (P := fun _ => True) (a := i)
      (f := fun (h : Hub) i => h.modStation i (fun x => { x with hold := false })) (fun _ _ _ => trivial)
      (fun t j _ hj => by rw [Hub.modStation_station_ne hj.symm])
      (fun t _ => by rw [Hub.modStation_station hi]) (List.nodup_range.filter _) hmem (s := h) trivial

end windows

/-! ### Split transactions (R359, R361, R363) -/

section requests
variable {s : State} {i now : Nat} {q : RackReq} {rest : List RackReq} (hq : s.hub.rack.waiting = q :: rest)
  (hd : s.hub.rackDriving = true) (hw : s.hub.rack.window = none)

/-- The hub with the oldest request taken from those that wait. -/
def Hub.popped (rest : List RackReq) (h : Hub) : Hub := h.modRack (fun k => { k with waiting := rest })

/-- The hub with a request on its way under tag `n`. -/
def Hub.requested (q : RackReq) (rest : List RackReq) (n : Nat) (h : Hub) : Hub :=
  let h := if q.write then (h.popped rest).prefetchDiscard q.station .real else h.popped rest
  let body := beBytes 4 q.address ++ beBytes 2 (h.askedLength q) ++ zeros 2 ++ (if q.write then fitBytes q.length q.data else [])
  (h.rackSend q.station n (if q.write then 3 else 1) body (.request n)).modRack (fun k =>
    let k := { k with tags := vmodN k.tags n (fun _ => some
      { req := q, asked := h.askedLength q, sentEnd := h.time.now + rackNs body.length }) }
    { k with peak := max k.peak k.outstanding.length })

include hq hd hw

theorem execRackRequestSend_absent (hp : (s.hub.station q.station).present = false) : exec (.rackRequestSend now) s =
    .next { s with hub := ((s.hub.at_ now).popped rest).rackComplete q 4 [] } := by
  refine next_modHub ?_
  have hq' : (s.hub.at_ now).rack.waiting = q :: rest := hq
  have hp' : ((s.hub.at_ now).station q.station).present = false := hp
  dsimp only
  rw [hq']
  refine (if_neg ?_).trans (if_pos (by rw [hp']; rfl))
  rw [show (s.hub.at_ now).rackDriving = true from hd, show (s.hub.at_ now).rack.window = none from hw]
  decide

theorem execRackRequestSend_sends {n : Nat} (hp : (s.hub.station q.station).present = true)
    (hf : (s.hub.at_ now).fromPrefetch q = none) (hn : s.hub.rack.freeTag = some n) : exec (.rackRequestSend now) s =
    .next { s with hub := (s.hub.at_ now).requested q rest n } := by
  refine next_modHub ?_
  have hq' : (s.hub.at_ now).rack.waiting = q :: rest := hq
  have hp' : ((s.hub.at_ now).station q.station).present = true := hp
  have hn' : (s.hub.at_ now).rack.freeTag = some n := hn
  dsimp only
  rw [hq']
  refine (if_neg ?_).trans ((if_neg ?_).trans ?_)
  · rw [show (s.hub.at_ now).rackDriving = true from hd, show (s.hub.at_ now).rack.window = none from hw]
    decide
  · rw [hp']
    decide
  · rw [hf, hn']
    rfl

end requests

theorem Rack.freeTag_lt {k : Rack} {n : Nat} (hn : k.freeTag = some n) : n < 64 :=
  List.mem_range.mp (List.mem_of_find?_eq_some hn)

/-- A request on its way: the oldest has left the queue, its window is open and its tag holds it. -/
theorem Hub.requested_spec (q : RackReq) (rest : List RackReq) {n : Nat} (hn : n < 64) (h : Hub) :
    (h.requested q rest n).rack.waiting = rest ∧ (h.requested q rest n).rack.window = some (q.station, .request n) ∧
      ∃ y, vgetN (h.requested q rest n).rack.tags n none = some y ∧ y.req = q ∧ y.quarantine = none := by
  unfold Hub.requested
  extract_lets base body
  have hbase : base.rack.waiting = rest := by
    unfold base
    split
    · exact congrArg (fun l => l.2.2.1) (Hub.prefetchDiscard_lines .real (h.popped rest))
    · rfl
  refine ⟨hbase, rfl, _, vgetN_vmodN_self _ hn _ _, rfl, rfl⟩

section tags
variable {s : State} {tag : Fin 64} {y : RackTag} {now : Nat} (hy : s.hub.rack.tags[tag] = some y)

include hy

/-- R361: a tag whose completion is late is kept out of use, and its request completes TIMEOUT. -/
theorem execTagTimeout_expires (hq : y.quarantine = none)
    (ht : y.sentEnd + s.hub.cfg.rack.link.tagTimeoutUs * 1000 ≤ (s.hub.at_ now).time.now) :
    ∃ t, exec (.tagTimeout tag now) s = .next t ∧ t.lanes = s.lanes ∧ t.hub.rack.timeouts = satAdd 32 s.hub.rack.timeouts 1 ∧
      t.hub.rack.tags = s.hub.rack.tags.set tag
        (some { y with quarantine := some (y.sentEnd + 2 * s.hub.cfg.rack.link.tagTimeoutUs * 1000) }) := by
  have hy' : (s.hub.at_ now).rack.tags[tag] = some y := hy
  obtain ⟨x, hex, hbus⟩ : ∃ x : Hub, exec (.tagTimeout tag now) s = .next { s with hub := x } ∧ x.bus =
      ((s.hub.at_ now).modRack (fun k => { k with
        tags := k.tags.set tag (some { y with quarantine := some (y.sentEnd + 2 * s.hub.cfg.rack.link.tagTimeoutUs * 1000) })
        timeouts := satAdd 32 k.timeouts 1 })).bus := by
    refine ⟨_, rfl, ?_⟩
    dsimp only
    rw [hy']
    refine (congrArg Hub.bus (if_neg ?_)).trans ((Hub.rackComplete_bus ..).trans (Hub.raiseEvent_bus ..))
    rw [hq]
    exact Bool.eq_false_iff.mp (decide_eq_false (Nat.not_lt.mpr ht))
  exact ⟨_, hex, rfl, Hub.timeouts_of_bus hbus, Hub.tags_of_bus hbus⟩

theorem execTagQuarantineEnd_frees {u : Nat} (hq : y.quarantine = some u) (hu : u ≤ (s.hub.at_ now).time.now) :
    ∃ t, exec (.tagQuarantineEnd tag now) s = .next t ∧ t.lanes = s.lanes ∧ t.hub.rack.tags = s.hub.rack.tags.set tag none := by
  have hq' : ((s.hub.at_ now).rack.tags[tag]).bind RackTag.quarantine = some u := by
    rw [show (s.hub.at_ now).rack.tags[tag] = some y from hy]
    exact hq
  refine ⟨_, next_modHub (x := (s.hub.at_ now).modRack (fun k => { k with tags := k.tags.set tag none })) ?_, rfl, rfl⟩
  dsimp only
  rw [hq']
  exact if_pos hu

end tags

/-! ### Ages of buffers, command parts and held inputs (R364, R368, R421) -/

section ages
variable {s : State} {i now : Nat} (hi : i < 32)

include hi

theorem execPrefetchAgeDiscard_old {p : Prefetch} (hp : (s.hub.station i).prefetch = some p) (ht : p.at_ + 1000000 ≤ (s.hub.at_ now).time.now) :
    ∃ t, exec (.prefetchAgeDiscard i now) s = .next t ∧ t.lanes = s.lanes ∧ (t.hub.station i).prefetch = none := by
  have hp' : ((s.hub.at_ now).station i).prefetch = some p := hp
  refine ⟨_, next_modHub (x := (s.hub.at_ now).prefetchDiscard i .real) ?_, rfl, ?_⟩
  · dsimp only
    rw [hp']
    exact if_pos ht
  · exact congrArg Station.prefetch (Hub.prefetchDiscard_core_self hi .real (s.hub.at_ now))

theorem execRackCommandTimeout_old {tm : Nat} {d : Bytes} (hp : (s.hub.station i).parts = some (tm, d))
    (ht : tm + 100000000 ≤ (s.hub.at_ now).time.now) :
    ∃ t, exec (.rackCommandTimeout i now) s = .next t ∧ t.lanes = s.lanes ∧ (t.hub.station i).parts = none := by
  have hp' : ((s.hub.at_ now).station i).parts = some (tm, d) := hp
  refine ⟨_, next_modHub (x := (s.hub.at_ now).modStation i (fun x => { x with parts := none })) ?_, rfl, ?_⟩
  · dsimp only
    rw [hp']
    exact if_pos ht
  · dsimp only
    rw [Hub.modStation_station hi]

/-- The substitute values that a configuration gives a station (R368). -/
def Cfg.substituteOf (c : Cfg) (i : Nat) : Bytes := match c.rack.substitutes.find? (fun p => p.1 == i) with | some p => p.2 | none => []

theorem execRackHoldExpiry_expired {c : StationCfg} (hc : s.hub.stationCfg i = some c) (hl : (s.hub.station i).lost.isSome = true)
    (hs : (s.hub.station i).substituted = false) (ht : (s.hub.station i).lostAt + c.holdMs * 1000000 ≤ (s.hub.at_ now).time.now) :
    ∃ t, exec (.rackHoldExpiry i now) s = .next t ∧ t.lanes = s.lanes ∧ t.hub.station i = { s.hub.station i with
      data := fitBytes c.inLen (s.hub.cfg.substituteOf i), length := c.inLen, substituted := true, stale := true } := by
  have hc' : (s.hub.at_ now).stationCfg i = some c := hc
  refine ⟨_, next_modHub (x := (s.hub.at_ now).modStation i (fun y => { y with
    data := fitBytes c.inLen (s.hub.cfg.substituteOf i), length := c.inLen, substituted := true, stale := true })) ?_, rfl, ?_⟩
  · have hx : (s.hub.at_ now).station i = s.hub.station i := rfl
    have hcfg : (s.hub.at_ now).cfg = s.hub.cfg := rfl
    dsimp only
    rw [hc', hx, hcfg]
    refine (if_pos ?_).trans rfl
    simp only [Bool.and_eq_true, Bool.not_eq_true']
    exact ⟨⟨hl, hs⟩, decide_eq_true ht⟩
  · exact Hub.modStation_station hi _ _

end ages

/-- Settles O51: a completion leaves the bus of the bridge as it is, a loss changes the station that is lost, and every packet of the master
opens its own window. -/
theorem rackEvents : Obligations.RackEvents := by
  intro s i now ha hi
  refine ⟨?_, fun hd hw => ⟨?_, ?_, ?_, ?_⟩, ?_, fun packet hen hr => ⟨?_, ?_⟩, ?_, ?_, ?_, fun tag y hy => ⟨?_, ?_⟩, ?_, ?_, ?_⟩
  · intro answers hd he h1 h30
    obtain ⟨t, hex, hl, henum, hcore⟩ := execRackEnumeration_bus (answers := answers) (now := now) hd he
    refine ⟨t, hex, hl, henum, fun d hf hc => ?_, fun hf hc => ?_⟩
    · have hfound := Hub.enumerateAll_present (h := s.hub.at_ now) h1 h30 hf hc
      rw [← hcore i] at hfound
      exact hfound
    · have habsent := Hub.enumerateAll_absent (h := s.hub.at_ now) h1 h30 hf hc
      rw [← hcore i] at habsent
      exact habsent
  · intro hl ht
    obtain ⟨h, hex, ho⟩ := execRackIdentifyRetry_asks hd hw hl ht
    exact asks_of_rackSend hex ho
  · intro hm ht
    obtain ⟨h, hex, ho⟩ := execRackPoll_asks hd hw hm ht
    exact asks_of_rackSend hex ho
  · intro c hc hh hp hm
    obtain ⟨h, hex, ho⟩ := execHostPoll_none hd hw hc hh hp hm
    exact asks_of_rackSend hex ho
  · intro c m h' hc hh hp hm
    exact asks_of_rackSend (execHostPoll_message hd hw hc hh hp hm) (Hub.hostMessage_outbox (h := s.hub.at_ now) hm)
  · intro c hc hen hr hp hph hdue hrole hpr hw
    obtain ⟨h, hex, ho⟩ := execRackExchange_sends hc hen hr hp hph hdue hrole hpr hw
    exact asks_of_rackSend hex ho
  · exact fun hb => ⟨_, execRackReplyReceived_bad hen hr hb, rfl, rfl, rfl⟩
  · intro c tick hok htag hst hrole hw ht hc body h0 hl
    have hstation := Hub.modStation_station hi (fun x => { x with missed := 0, lastWindow := (s.hub.at_ now).time.now })
      ((s.hub.at_ now).modRack (fun k => { k with window := none, windowBad := false, busy := k.busy + rackNs body.length }))
    obtain ⟨hreply, hwin⟩ := Hub.exchangeReply_station (h := (s.hub.at_ now).windowTaken i body.length) hi tick hc h0 hl
    exact ⟨_, execRackReplyReceived_exchange hen hr ha hok htag hst hrole hw ht, rfl, hwin, congrArg Station.data hreply,
      congrArg Station.stale hreply, (congrArg Station.missed hreply).trans (congrArg Station.missed hstation),
      congrArg Station.lastExchange hreply⟩
  · intro ask hw
    obtain ⟨hwin, hm⟩ := Hub.windowEmpty_station (h := s.hub.at_ now) hi hw
    exact ⟨_, rfl, rfl, hwin, hm, fun hp hl hc => Hub.windowEmpty_loses (h := s.hub.at_ now) hi hw hp hl hc⟩
  · intro c hc hl hs ht
    obtain ⟨t, hex, hlanes, hstation⟩ := execRackHoldExpiry_expired hi hc hl hs ht
    refine ⟨t, hex, hlanes, by rw [hstation], by rw [hstation], by rw [hstation], fun d hd => ?_⟩
    rw [hstation, Cfg.substituteOf, hd]
  · intro q rest hq hqi hd hw
    subst hqi
    refine ⟨fun hp => ?_, fun n hp hf hn => ?_⟩
    · have hbus := Hub.rackComplete_bus q 4 [] ((s.hub.at_ now).popped rest)
      exact ⟨_, execRackRequestSend_absent hq hd hw hp, rfl, Hub.waiting_of_bus hbus, (Hub.window_of_bus hbus).trans hw,
        (Hub.tags_of_bus hbus).trans rfl⟩
    · obtain ⟨hwait, hwin, y, hy, hreq, hquar⟩ := Hub.requested_spec q rest (Rack.freeTag_lt hn) (s.hub.at_ now)
      exact ⟨_, y, execRackRequestSend_sends hq hd hw hp hf hn, rfl, hwait, hwin, hy, hreq, hquar⟩
  · intro hq ht
    obtain ⟨t, hex, hl, hto, htags⟩ := execTagTimeout_expires hy hq ht
    exact ⟨t, hex, hl, hto, by rw [htags]; exact Vector.getElem_set_self ..⟩
  · exact fun u hq hu => execTagQuarantineEnd_frees hy hq hu
  · exact fun p hp ht => execPrefetchAgeDiscard_old hi hp ht
  · exact fun tm d hp ht => execRackCommandTimeout_old hi hp ht
  · exact fun mask hm => ⟨_, next_of_pos hm, rfl, Hub.rackEnable_hold hi mask s.hub⟩

end Sys2Proof.Machine
end

section
/-! Settles O52. The partner link (chapter 15): what its operations leave of the partner's state, and its events. -/
namespace Sys2Proof.Machine

/-- The state of the partner link without the number of the next frame. -/
def Hub.peer (h : Hub) : Partner := { h.partner with seq := 0 }

section views
variable {h t : Hub}

theorem Hub.peer_of_quiet (e : t.quiet = h.quiet) : t.peer = h.peer := (congrArg Hub.peer e :)

theorem Hub.peer_of_untraced (e : t.untraced = h.untraced) : t.peer = h.peer := (congrArg Hub.peer e :)

theorem Hub.peer_of_unreplied (e : t.unreplied = h.unreplied) : t.peer = h.peer := (congrArg Hub.peer e :)

theorem Hub.peer_of_unworn (e : t.unworn = h.unworn) : t.peer = h.peer := (congrArg Hub.peer e :)

theorem Hub.peer_of_uncanned (e : t.uncanned = h.uncanned) : t.peer = h.peer := (congrArg Hub.peer e :)

/-- What a change of the partner link's own state shows, where it leaves the frame number alone. -/
theorem Hub.modPartner_peer {f : Partner → Partner} (hf : ∀ p, { f p with seq := 0 } = f { p with seq := 0 }) (h : Hub) :
    (h.modPartner f).peer = f h.peer := hf h.partner

theorem Hub.partnerSend_peer (type : Nat) (b : Bytes) (h : Hub) : (h.partnerSend type b).peer = h.peer :=
  peer_of_unreplied (h.partnerSend_unreplied type b)

theorem Hub.finish_peer (which : Exec → Bool) (st : Status) (params : Exec → Bytes) (h : Hub) : (h.finish which st params).peer = h.peer :=
  peer_of_unreplied (h.finish_unreplied ..)

theorem Hub.emit_peer (r : TraceRec) (h : Hub) : (h.emit r).peer = h.peer := peer_of_untraced (h.emit_untraced r)

theorem Hub.clearFault_peer (n : FaultName) (key : List Nat) (d : Detail → Detail) (h : Hub) : (h.clearFault n key d).peer = h.peer := rfl

theorem Hub.pwmHold_peer (h : Hub) : h.pwmHold.peer = h.peer := rfl

theorem Hub.canListen_peer (h : Hub) : h.canListen.peer = h.peer := peer_of_uncanned h.canListen_uncanned

theorem Hub.takeArm_peer (n : FaultName) (p : Armed → Bool) (h : Hub) : (h.takeArm n p).2.peer = h.peer := rfl

/-! ### Reports and roles (R381, R384, R388) -/

theorem Hub.partnerLost_peer (cause : Nat) (h : Hub) : (h.partnerLost cause .real).peer = h.peer := by
  unfold Hub.partnerLost
  extract_lets up h1
  have e1 : h1.peer = h.peer := by
    unfold h1
    split
    · rfl
    · exact peer_of_quiet (Hub.raise_quiet _ (.inl (by decide)) ..)
  rw [if_neg (by decide), ← e1]
  rfl

/-- The partner link with a transition planned. -/
def Partner.planned (r : Role) (tick : Nat) (promote : Bool) (counts : Nat) (p : Partner) : Partner :=
  { p with roleNext := some { role := r, tick := tick, promote := promote, counts := counts } }

theorem Hub.planRole_peer (r : Role) (tick : Nat) (promote : Bool) (counts : Nat) (h : Hub) :
    (h.planRole r tick promote counts).peer = h.peer.planned r tick promote counts := rfl

theorem Hub.dualActive_peer (cause : Nat) (h : Hub) : (h.dualActive cause .real).peer =
    ({ h.peer with dualSeen := true } : Partner).planned .standby (h.time.tick + 1) false 0 := by
  have hq := Hub.event_quiet h (n := .dualActive) (o := .real) (.inl (by decide)) [cause] 0
    [(1, cause), (3, 0), (4, h.partner.epoch), (4, h.partner.partnerEpoch)]
  have hp := peer_of_quiet hq
  have ht : (h.event .dualActive [cause] 0 [(1, cause), (3, 0), (4, h.partner.epoch), (4, h.partner.partnerEpoch)] .real).time = h.time :=
    (congrArg Hub.time hq :)
  unfold Hub.dualActive
  extract_lets h1
  rw [if_neg (by decide), Hub.planRole_peer, Hub.modPartner_peer (fun _ => rfl), hp]
  exact congrArg (fun t : Time => ({ h.peer with dualSeen := true } : Partner).planned .standby (t.tick + 1) false 0) ht

/-- The partner link as a role that takes effect leaves it (R381). -/
def Partner.withRole (r : Role) (promote : Bool) (counts tb0 now : Nat) (p : Partner) : Partner :=
  { p with
    role := r, roleNext := none, epoch := if promote then wrapAdd 32 p.epoch 1 else p.epoch, changedTb0 := tb0
    copyHeld := if r = .standby then false else p.copyHeld, missCopies := 0, missAcks := 0, ackRun := 0, awaited := none
    headerAt := now, counted := 0, out := none, in_ := none, kept := if r = .standby then none else p.kept
    takeovers := if counts = 1 then satAdd 16 p.takeovers 1 else p.takeovers
    switchovers := if counts = 2 then satAdd 16 p.switchovers 1 else p.switchovers
    switching := if r = .standby ∧ counts ≠ 2 then false else p.switching }

theorem Hub.setRole_peer (r : Role) (promote : Bool) (counts : Nat) (h : Hub) :
    (h.setRole r promote counts).peer = h.peer.withRole r promote counts h.tb0Now h.time.now := by
  unfold Hub.setRole
  extract_lets h1 answers h2 h3 h4 h5
  have e2 : h2.peer = h1.peer := by
    unfold h2
    split <;> rfl
  clear_value h2
  have e3 : h3.peer = h2.peer := (Hub.pwmHold_peer _).trans h2.canListen_peer
  clear_value h3
  have e4 : h4.peer = if r = .standby ∧ counts ≠ 2 then { h3.peer with switching := false } else h3.peer := by
    unfold h4
    split
    · exact Hub.finish_peer ..
    · rfl
  clear_value h4
  have e5 : h5.peer = h4.peer := by
    unfold h5
    split
    · exact Hub.finish_peer ..
    · rfl
  rw [Hub.emit_peer, e5, e4, e3, e2]
  split <;> rename_i hc
  · simp only [Partner.withRole, if_pos hc]; rfl
  · simp only [Partner.withRole, if_neg hc]; rfl

theorem Hub.setRole_handed (h : Hub) : (h.setRole .standby true 2).partner.role = .standby ∧
    (h.setRole .standby true 2).partner.switching = h.peer.switching ∧
    (h.setRole .standby true 2).partner.epoch = wrapAdd 32 h.peer.epoch 1 := by
  have e := h.setRole_peer .standby true 2
  generalize h.setRole .standby true 2 = k at e ⊢
  exact ⟨(congrArg Partner.role e :), (congrArg Partner.switching e :), (congrArg Partner.epoch e :)⟩

end views

/-! ### Frames taken (R379) -/

/-- The partner link without what the common part of a frame writes: the partner's role, epoch and serial, what the handshake heard, and
a planned transition. -/
def Partner.untold (p : Partner) : Partner :=
  { p with seq := 0, partnerEpoch := 0, partnerRole := 0, partnerSerial := 0, heard := none, dualSeen := false, roleNext := none }

section taken
variable {h : Hub} {lane : Fin 2} {b : Bytes}

/-- The partner's role, epoch and serial of a frame (Table 15.2). -/
def Hub.noted (b : Bytes) (h : Hub) : Hub :=
  h.modPartner (fun x => { x with
    partnerEpoch := be32 b 4
    partnerRole := if (frameRole (u8 b 0) (partnerPayload b)).getD h.partner.partnerRole ≤ 2
      then (frameRole (u8 b 0) (partnerPayload b)).getD h.partner.partnerRole else x.partnerRole
    partnerSerial := (frameSerial (u8 b 0) (partnerPayload b)).getD x.partnerSerial })

variable (hup : h.partner.up[lane] = true)

include hup

theorem Hub.partnerTake_bad (hb : partnerFrameOk b = false) : h.partnerTake lane b =
    ((h.modPartner (fun p => { p with linkErrors := vmodN p.linkErrors lane (satAdd 16 · 1) })).wearHit 6 4 lane (some 1), false) := by
  have hup' : vgetN h.partner.up lane false = true := by rw [vgetN_fin, hup]
  unfold Hub.partnerTake
  rw [if_neg (by rw [hup']; decide), if_pos (by rw [hb]; rfl)]

variable (hb : partnerFrameOk b = true)

include hb

theorem Hub.partnerTake_standby (ha : h.inject.armed = []) (hs : h.partner.handshake = false) (hr : h.partner.role = .standby) :
    h.partnerTake lane b = (h.noted b, true) := by
  have hup' : vgetN h.partner.up lane false = true := by rw [vgetN_fin, hup]
  have ha' : (h.noted b).inject.armed = [] := ha
  have hr' : (h.noted b).partner.role = .standby := hr
  have hs' : (h.noted b).partner.handshake = false := hs
  have hy (role epoch : Nat) : (h.noted b).yields role epoch = false := by
    rw [Hub.yields, hr']
    rfl
  unfold Hub.partnerTake
  extract_lets p epoch role h1 heard note r h2 seen
  have hr0 : r = (none, h.noted b) := Hub.takeArm_of_no_injection ha' ..
  have hh2 : h2 = h.noted b := congrArg Prod.snd hr0
  rw [if_neg (by rw [hup']; decide), if_neg (by rw [hb]; decide), if_neg (by exact ne_true_of_eq_false hs'), hh2,
    if_neg (by rw [hy]; decide), hr0]

/-- A frame that is taken writes the partner's epoch; what else the link holds stays but for the handshake and the epoch rule. -/
theorem Hub.partnerTake_ok (ha : h.inject.armed = []) : ∃ k, h.partnerTake lane b = (k, true) ∧ k.partner.partnerEpoch = be32 b 4 ∧
    k.peer.untold = h.peer.untold := by
  have hup' : vgetN h.partner.up lane false = true := by rw [vgetN_fin, hup]
  have ha' : (h.noted b).inject.armed = [] := ha
  have hdual : ((h.noted b).dualActive 1 .real).partner.partnerEpoch = be32 b 4 ∧
      ((h.noted b).dualActive 1 .real).peer.untold = h.peer.untold := by
    have hp := Hub.dualActive_peer 1 (h.noted b)
    exact ⟨(congrArg Partner.partnerEpoch hp :), (congrArg Partner.untold hp :)⟩
  unfold Hub.partnerTake
  extract_lets p epoch role h1 heard note r h2 seen
  have hr0 : r = (none, h.noted b) := Hub.takeArm_of_no_injection ha' ..
  have hh2 : h2 = h.noted b := congrArg Prod.snd hr0
  rw [if_neg (by rw [hup']; decide), if_neg (by rw [hb]; decide)]
  split
  · refine ⟨_, rfl, ?_⟩
    split <;> exact ⟨rfl, rfl⟩
  · rw [hh2, hr0]
    split
    · refine ⟨_, rfl, ?_⟩
      split
      · exact ⟨rfl, rfl⟩
      · exact hdual
    · exact ⟨_, rfl, rfl, rfl⟩

end taken

/-! ### Copies and ACKs received (R383, R385) -/

section received
variable {h : Hub} {b : Bytes}

/-- The partner link after a late copy has been counted. -/
theorem Hub.copyLate_quiet (side cycle moved : Nat) (h : Hub) : (h.copyLate side cycle moved .real).quiet =
    (h.modPartner (fun p => { p with late := satAdd 32 p.late 1 })).quiet := by
  unfold Hub.copyLate
  rw [if_neg (by decide)]
  exact Hub.event_quiet _ (.inl (by decide)) ..

/-- A header at a STANDBY (R383): the copy that it opens, and the count of misses at an end. -/
theorem Hub.copyHeader_standby (hr : h.partner.role = .standby) (hs : h.partner.handshake = false)
    (hsafe : bit (u8 (partnerPayload b) 12) 1 = false) (hhand : bit (u8 (partnerPayload b) 12) 3 = false) :
    (h.copyHeader b).partner.headerAt = h.time.now ∧ (h.copyHeader b).partner.missCopies = 0 ∧
      (h.copyHeader b).partner.counted = 0 ∧ (h.copyHeader b).partner.in_ =
        if bit (u8 (partnerPayload b) 12) 0 then some { cycle := be48 (partnerPayload b) 2, total := be32 (partnerPayload b) 8 }
        else none := by
  unfold Hub.copyHeader
  extract_lets p flags safe data h1 r taken h2 h3 ack last h4 h5
  have hsafe' : safe = false := hsafe
  have e2 : h2.time = h.time := by
    unfold h2
    split
    · exact (congrArg Hub.time (Hub.copyLate_quiet ..) :)
    · rfl
  clear_value h2
  have e4 : h4.peer = h3.peer := Hub.partnerSend_peer ..
  have e5 : h5 = h4 := by
    unfold h5
    rw [hsafe']
    rfl
  have hmiss : h3.partner.missCopies = 0 := by
    unfold h3
    rw [hsafe']
    rfl
  have hin : h5.peer = h3.peer := by rw [e5, e4]
  have hhead : h3.partner.headerAt = h.time.now := congrArg Time.now e2
  clear_value h5 h4
  rw [if_neg (by simp [hr, hs]), if_neg (by exact ne_true_of_eq_false hhand)]
  exact ⟨(congrArg Partner.headerAt hin).trans hhead, (congrArg Partner.missCopies hin).trans hmiss, (congrArg Partner.counted hin :),
    (congrArg Partner.in_ hin :)⟩

theorem Hub.copyEnd_complete (ha : h.inject.armed = []) (hr : h.partner.role = .standby) {c : CopyIn} {d : Bytes}
    (hin : h.partner.in_ = some c) (hc : be48 (partnerPayload b) 2 = c.cycle)
    (hd : assemble (c.data.length + 1) 0 c.total c.data = some d) (hcrc : crc32 d = be32 (partnerPayload b) 8) :
    h.copyEnd b = h.modPartner (fun x => { x with in_ := none, kept := some (c.cycle, d) }) := by
  unfold Hub.copyEnd
  dsimp only
  rw [hin]
  dsimp only
  rw [if_neg (by simp [hr, hc]), hd]
  dsimp only
  rw [if_neg (by simp [hcrc]), Hub.takeArm_of_no_injection ha]

theorem Hub.takeAck_awaited (hr : h.partner.role ≠ .standby) {sent : Nat × Nat} (hw : h.partner.awaited = some sent)
    (hseq : be32 (partnerPayload b) 0 = sent.1) : (h.takeAck b).partner.awaited = none ∧ (h.takeAck b).partner.missAcks = 0 ∧
      (h.takeAck b).partner.promotable = bit (u8 (partnerPayload b) 12) 0 := by
  obtain ⟨seq, sentAt⟩ := sent
  unfold Hub.takeAck
  dsimp only
  rw [hw]
  dsimp only
  rw [if_neg (by simp [hr, hseq])]
  generalize (if u8 (partnerPayload b) 13 = 2 then h.partner.ackRun + 1 else 0) = run
  split <;> exact ⟨rfl, rfl, rfl⟩

end received

/-! ### Events (R378, R381 to R383, R385, R387) -/

section frames
variable {s : State} {lane : Fin 2} {now : Nat} {frame : Bytes} (hup : s.hub.partner.up[lane] = true)

/-- What the type of a frame that is taken decides (Table 15.1). -/
def State.frameBody (frame : Bytes) (s : State) : State :=
  match u8 frame 0 with
  | 2 => s.modHub (Hub.copyHeader frame)
  | 3 => s.modHub (Hub.copyData frame)
  | 4 => s.modHub (Hub.copyEnd frame)
  | 5 => s.modHub (Hub.takeAck frame)
  | 6 => s.partnerCommand (partnerPayload frame)
  | 7 => s.modHub (fun (h : Hub) => if h.power.mode.parser then h.mbReceive none (partnerPayload frame) else h)
  | _ => s

include hup

theorem execPartnerFrameReceived_bad (hb : partnerFrameOk frame = false) : exec (.partnerFrameReceived lane frame now) s = .next { s with
    hub := ((s.hub.at_ now).modPartner (fun p => { p with linkErrors := vmodN p.linkErrors lane (satAdd 16 · 1) })).wearHit 6 4 lane (some 1) } := by
  change execPartnerFrameReceived lane frame now s = _
  unfold execPartnerFrameReceived
  rw [Hub.partnerTake_bad (h := s.hub.at_ now) hup hb]
  rfl

variable (hb : partnerFrameOk frame = true) (ha : s.hub.inject.armed = [])

include hb ha

theorem execPartnerFrameReceived_ok : ∃ k : Hub, k.partner.partnerEpoch = be32 frame 4 ∧ k.peer.untold = s.hub.peer.untold ∧
    exec (.partnerFrameReceived lane frame now) s = .next (({ s with hub := k } : State).frameBody frame) := by
  obtain ⟨k, hk, he, hu⟩ := Hub.partnerTake_ok (h := s.hub.at_ now) hup hb ha
  refine ⟨k, he, hu, ?_⟩
  change execPartnerFrameReceived lane frame now s = _
  unfold execPartnerFrameReceived
  rw [hk]
  rfl

theorem execAckReceived_ok (ht : u8 frame 0 = 5) : ∃ k : Hub, k.peer.untold = s.hub.peer.untold ∧
    exec (.ackReceived lane frame now) s = .next { s with hub := k.takeAck frame } := by
  obtain ⟨k, hk, -, hu⟩ := Hub.partnerTake_ok (h := s.hub.at_ now) hup hb ha
  refine ⟨k, hu, next_modHub ((if_neg (Classical.not_not.mpr ht)).trans ?_)⟩
  rw [hk]
  rfl

variable (hs : s.hub.partner.handshake = false) (hr : s.hub.partner.role = .standby)

include hs hr

theorem execCopyHeaderReceived_standby (ht : u8 frame 0 = 2) : exec (.copyHeaderReceived lane frame now) s =
    .next { s with hub := ((s.hub.at_ now).noted frame).copyHeader frame } := by
  refine next_modHub ((if_neg (Classical.not_not.mpr ht)).trans ?_)
  rw [Hub.partnerTake_standby (h := s.hub.at_ now) hup hb ha hs hr]
  rfl

theorem execCopyEndReceived_standby (ht : u8 frame 0 = 4) : exec (.copyEndReceived lane frame now) s =
    .next { s with hub := ((s.hub.at_ now).noted frame).copyEnd frame } := by
  refine next_modHub ((if_neg (Classical.not_not.mpr ht)).trans ?_)
  rw [Hub.partnerTake_standby (h := s.hub.at_ now) hup hb ha hs hr]
  rfl

end frames

section told
variable {h t : Hub}

/-- What a frame's type does not decide: the partner's epoch and the counts of bad frames. -/
def Hub.told (h : Hub) : Nat × Vector Nat 2 := (h.partner.partnerEpoch, h.partner.linkErrors)

theorem Hub.told_of_peer (e : t.peer = h.peer) : t.told = h.told :=
  (congrArg (fun p : Partner => (p.partnerEpoch, p.linkErrors)) e :)

theorem Hub.afterCopyMiss_told (h : Hub) : h.afterCopyMiss.told = h.told := by
  unfold Hub.afterCopyMiss
  split
  · rfl
  · split
    · rfl
    · exact told_of_peer (Hub.partnerLost_peer 2 _)

theorem Hub.copyHeader_told (b : Bytes) (h : Hub) : (h.copyHeader b).told = h.told := by
  unfold Hub.copyHeader
  extract_lets p flags safe data h1 r taken h2 h3 ack last h4 h5
  have e2 : h2.told = h.told := by
    unfold h2
    split
    · exact (told_of_peer (peer_of_quiet (Hub.copyLate_quiet ..)) :)
    · rfl
  have e3 : h3.told = h2.told := rfl
  have e4 : h4.told = h3.told := told_of_peer (Hub.partnerSend_peer ..)
  have e5 : h5.told = h4.told := by
    unfold h5
    split
    · exact Hub.afterCopyMiss_told h4
    · rfl
  have hall : h5.told = h.told := by rw [e5, e4, e3, e2]
  clear_value h5
  split
  · rfl
  · split
    · exact hall
    · exact hall

theorem Hub.copyLate_told (side cycle moved : Nat) (o : Origin) (h : Hub) : (h.copyLate side cycle moved o).told = h.told := by
  unfold Hub.copyLate
  extract_lets h1
  have e1 : h1.told = h.told := by
    unfold h1
    split <;> rfl
  exact (told_of_peer (peer_of_quiet (Hub.event_quiet h1 (n := .stateCopyLate) (.inl (by decide)) ..))).trans e1

theorem Hub.copyEnd_told (b : Bytes) (h : Hub) : (h.copyEnd b).told = h.told := by
  unfold Hub.copyEnd
  dsimp only
  split
  · rfl
  · split
    · rfl
    · split
      · rfl
      · split
        · rfl
        · split
          · exact Hub.copyLate_told 1 _ _ .reportOnly _
          · exact Hub.copyLate_told 1 _ _ _ _
          · rfl

theorem Hub.takeAck_told (b : Bytes) (h : Hub) : (h.takeAck b).told = h.told := by
  unfold Hub.takeAck
  dsimp only
  split
  · rfl
  · split
    · rfl
    · generalize (if u8 (partnerPayload b) 13 = 2 then h.partner.ackRun + 1 else 0) = run
      split <;> rfl

theorem State.frameBody_told {s : State} {frame : Bytes} (ht : u8 frame 0 ≤ 5) :
    (s.frameBody frame).lanes = s.lanes ∧ (s.frameBody frame).hub.told = s.hub.told := by
  unfold State.frameBody
  split
  · exact ⟨rfl, Hub.copyHeader_told ..⟩
  · exact ⟨rfl, rfl⟩
  · exact ⟨rfl, Hub.copyEnd_told ..⟩
  · exact ⟨rfl, Hub.takeAck_told ..⟩
  · omega
  · omega
  · exact ⟨rfl, rfl⟩

end told

theorem Hub.partnerSend_eq {h : Hub} (hl : h.linksUp ≠ 0) (type : Nat) (b : Bytes) : ∃ lane, h.partnerSend type b =
    (h.modPartner (fun p => { p with seq := wrapAdd 32 h.partner.seq 1 })).send
      (.partner lane (partnerFrame type h.partner.epoch h.partner.seq b)) :=
  ⟨_, if_neg hl⟩

section copies
variable {s : State} {now : Nat}

/-- R381: the first millisecond of a handshake without a HELLO sends one. -/
theorem execHelloSend_sends (hs : s.hub.partner.handshake = true) (ht : s.hub.partner.helloAt + 1000000 ≤ (s.hub.at_ now).time.now)
    (hl : s.hub.linksUp ≠ 0) : ∃ t n, exec (.helloSend now) s = .next t ∧ t.lanes = s.lanes ∧
      t.hub.partner.helloAt = (s.hub.at_ now).time.now ∧ t.hub.partner.seq = wrapAdd 32 s.hub.partner.seq 1 ∧
      t.hub.outbox = s.hub.outbox ++ [.partner n (partnerFrame 1 s.hub.partner.epoch s.hub.partner.seq
        (beBytes 8 s.hub.otp.serial ++ beBytes 1 3 ++ beBytes 1 s.hub.partner.preference ++ beBytes 1 s.hub.power.mode.code ++ zeros 1))] := by
  have hs' : (s.hub.at_ now).partner.handshake = true := hs
  have hlate : decide ((s.hub.at_ now).time.now < (s.hub.at_ now).partner.helloAt + 1000000) = false :=
    decide_eq_false (Nat.not_lt.mpr ht)
  have hrole : (s.hub.at_ now).helloRole = 3 := if_pos hs
  have hex : exec (.helloSend now) s = .next { s with
      hub := Hub.partnerSend 1 (beBytes 8 (s.hub.at_ now).otp.serial ++ beBytes 1 (s.hub.at_ now).helloRole ++
        beBytes 1 (s.hub.at_ now).partner.preference ++ beBytes 1 (s.hub.at_ now).power.mode.code ++ zeros 1)
          ((s.hub.at_ now).modPartner (fun p => { p with helloAt := (s.hub.at_ now).time.now })) } :=
    next_modHub (if_neg (by rw [hs', hlate]; decide))
  rw [hrole] at hex
  obtain ⟨n, hn⟩ := Hub.partnerSend_eq (h := (s.hub.at_ now).modPartner (fun p => { p with helloAt := (s.hub.at_ now).time.now })) hl 1
    (beBytes 8 (s.hub.at_ now).otp.serial ++ beBytes 1 3 ++ beBytes 1 (s.hub.at_ now).partner.preference ++
      beBytes 1 (s.hub.at_ now).power.mode.code ++ zeros 1)
  rw [hn] at hex
  exact ⟨_, n, hex, rfl, rfl, rfl, rfl⟩

theorem Hub.copyAbandon_eq (h : Hub) : ∃ o, h.copyAbandon = h.modPartner (fun p => { p with out := o }) := by
  unfold Hub.copyAbandon
  split
  next c hc =>
    split
    · exact ⟨some c, by rw [← hc]; rfl⟩
    · exact ⟨none, rfl⟩
  next hn => exact ⟨none, by rw [← hn]; rfl⟩

theorem Hub.copyAbandon_none {h : Hub} (ho : h.partner.out = none) : h.copyAbandon = h := by
  unfold Hub.copyAbandon
  rw [ho]

/-- The hub with a copy's header on its way (R382). -/
def Hub.headerSent (header : Bytes) (out : Option CopyOut) (h : Hub) : Hub :=
  (h.partnerSend 2 header).modPartner (fun p => { p with
    out := out, awaited := some (h.partner.seq, (h.partnerSend 2 header).time.now) })

theorem Hub.headerSent_peer (header : Bytes) (out : Option CopyOut) (h : Hub) : (h.headerSent header out).peer =
    { h.peer with out := out, awaited := some (h.partner.seq, h.time.now) } := by
  have ht : (h.partnerSend 2 header).time = h.time := (congrArg Hub.time (h.partnerSend_unreplied 2 header) :)
  rw [Hub.headerSent, Hub.modPartner_peer (fun _ => rfl), Hub.partnerSend_peer, ht]

/-- An instant at which a header goes out (R382). -/
theorem Hub.header_goes {h : Hub} (hen : h.cfg.partner.enabled = true) (hr : h.partner.role ≠ .standby) (hp : h.p0 ≠ 0)
    (hta : h.power.tA < h.time.tick) (hd : (h.time.tick - h.power.tA) % h.p0 = 0) (hm : h.power.mode.isRunning = true) :
    ¬ (!h.cfg.partner.enabled || h.partner.role == .standby || h.p0 == 0 || decide (h.time.tick ≤ h.power.tA) ||
      (h.time.tick - h.power.tA) % h.p0 != 0 || !(h.power.mode.isRunning || h.power.mode == .safe)) = true := by
  simp [hen, hr, hp, hta, hd, hm]

section header
variable (ha : s.hub.inject.armed = []) (hen : s.hub.cfg.partner.enabled = true) (hr : s.hub.partner.role ≠ .standby) (hp : s.hub.p0 ≠ 0)
  (hta : s.hub.power.tA < s.hub.time.tick) (hd : (s.hub.time.tick - s.hub.power.tA) % s.hub.p0 = 0)
  (hm : s.hub.power.mode.isRunning = true)

include ha hen hr hp hta hd hm

/-- R382: an instant of a running module's task 0 with nothing under way begins a copy from the source lane. -/
theorem execCopyHeaderSend_begins (hsw : s.hub.partner.switching = false) (ho : s.hub.partner.out = none) : ∃ (header : Bytes) (out : _),
    exec (.copyHeaderSend now) s = .next { s with hub := (s.hub.at_ now).headerSent header out } ∧
      ∀ l, s.hub.sourceLane = some l → out = some
        { cycle := (s.hub.time.tick - s.hub.power.tA) / s.hub.p0 - 1, startAt := (s.hub.at_ now).time.now, source := l,
          data := s.partnerImage l } := by
  suffices ∃ (header : Bytes) (out : _), execCopyHeaderSend now s = .next { s with hub := (s.hub.at_ now).headerSent header out } ∧
      ∀ l, s.hub.sourceLane = some l → out = some
        { cycle := (s.hub.time.tick - s.hub.power.tA) / s.hub.p0 - 1, startAt := (s.hub.at_ now).time.now, source := l,
          data := s.partnerImage l } from this
  unfold execCopyHeaderSend
  rw [Hub.copyAbandon_none (h := s.hub.at_ now) ho]
  extract_lets h s1 d app cycle r s2 busy hand follows moved late flags seq header out
  have hr0 : r = (none, h) := (if_neg (by rw [show h.partner.out = none from ho]; decide)).trans (Hub.takeArm_of_no_injection (h := h) ha ..)
  have hbusy : busy = false := by
    unfold busy
    rw [hr0, show h.partner.out = none from ho]
    rfl
  have happ : app = true := hm
  have hhand : hand = false := by
    unfold hand
    rw [show h.partner.switching = false from hsw]
    rfl
  have hlate (k : Hub) : late k = k := by
    unfold late
    rw [hbusy, hr0]
    rfl
  have hout (l : LaneId) (hl : s.hub.sourceLane = some l) : out = some
      { cycle := (s.hub.time.tick - s.hub.power.tA) / s.hub.p0 - 1, startAt := (s.hub.at_ now).time.now, source := l,
        data := s.partnerImage l } := by
    have hfollows : follows = true := by
      unfold follows
      rw [happ, hbusy]
      rfl
    have hs2 : s2.partnerImage l = s.partnerImage l := by
      unfold s2
      rw [hr0]
      rfl
    unfold out
    rw [show h.sourceLane = some l from hl, ← hs2]
    exact if_pos hfollows
  refine ⟨header, out, (next_of_neg (Hub.header_goes (h := s.hub.at_ now) hen hr hp hta hd hm)).trans ?_, hout⟩
  refine (next_modHub (s := s2) (x := (s.hub.at_ now).headerSent header out) ?_).trans rfl
  rw [show s2.hub = h from congrArg Prod.snd hr0]
  dsimp only
  rw [hlate, hhand]
  rfl

theorem execCopyHeaderSend_hands (hsw : s.hub.partner.switching = true) : ∃ (header : Bytes) (out o : Option CopyOut),
    exec (.copyHeaderSend now) s = .next { s with hub := ((((s.hub.at_ now).modPartner (fun p => { p with out := o })).headerSent header
      out).modPartner (fun p => { p with switching := false })).setRole .standby true 2 } := by
  suffices ∃ (header : Bytes) (out o : Option CopyOut), execCopyHeaderSend now s = .next { s with
      hub := ((((s.hub.at_ now).modPartner (fun p => { p with out := o })).headerSent header
      out).modPartner (fun p => { p with switching := false })).setRole .standby true 2 } from this
  obtain ⟨o, ho⟩ := (s.hub.at_ now).copyAbandon_eq
  unfold execCopyHeaderSend
  rw [ho]
  extract_lets h s1 d app cycle r s2 busy hand follows moved late flags seq header out
  have hr0 : r = (none, h) := by
    unfold r
    split
    · rfl
    · exact Hub.takeArm_of_no_injection (h := h) ha ..
  have happ : app = true := hm
  have hhand : hand = true := by
    unfold hand
    rw [show h.partner.switching = true from hsw, happ]
    rfl
  have hlate (k : Hub) : late k = k := by
    unfold late
    rw [hhand, hr0]
    simp
  refine ⟨header, out, o, (next_of_neg (Hub.header_goes (h := s.hub.at_ now) hen hr hp hta hd hm)).trans ?_⟩
  refine (next_modHub (s := s2) (x := ((((s.hub.at_ now).modPartner (fun p => { p with out := o })).headerSent header
    out).modPartner (fun p => { p with switching := false })).setRole .standby true 2) ?_).trans rfl
  rw [show s2.hub = h from congrArg Prod.snd hr0]
  dsimp only
  rw [hlate, hhand]
  refine (if_pos rfl).trans (congrArg (Hub.setRole .standby true 2) ?_)
  rfl

end header

/-- R382: the copy under way goes out whole while its source lane stands. -/
theorem execCopyDataSent_ends {c : CopyOut} (ho : s.hub.partner.out = some c) (hl : s.hub.sourceLane = some c.source) :
    ∃ t, exec (.copyDataSent now) s = .next t ∧ t.lanes = s.lanes ∧ t.hub.partner.out = none ∧
      t.hub.partner.lastSent = c.cycle % 2 ^ 48 := by
  have hab : (s.hub.at_ now).copyAbandon = s.hub.at_ now := by
    unfold Hub.copyAbandon
    rw [show (s.hub.at_ now).partner.out = some c from ho]
    exact if_pos hl
  obtain ⟨x, hex, hout, hlast⟩ : ∃ x : Hub, exec (.copyDataSent now) s = .next { s with hub := x } ∧ x.partner.out = none ∧
      x.partner.lastSent = c.cycle % 2 ^ 48 := by
    refine ⟨_, rfl, ?_⟩
    dsimp only
    rw [hab, show (s.hub.at_ now).partner.out = some c from ho]
    exact ⟨rfl, rfl⟩
  exact ⟨_, hex, rfl, hout, hlast⟩

/-- R383: a kept copy is put into every lane that runs the main schedule, at the start of a task-0 cycle. -/
theorem execCopyApply_puts {cycle : Nat} {data : Bytes} {i : ImageDecl} (hk : s.hub.partner.kept = some (cycle, data))
    (hi : (s.hub.mainSchedule.bind s.hub.schedule).bind (fun sc => sc.images.find? (fun i => i.kind == 2)) = some i)
    (hr : s.hub.partner.role = .standby) (hp : s.hub.p0 ≠ 0) (hta : s.hub.power.tA ≤ s.hub.time.tick)
    (hd : (s.hub.time.tick - s.hub.power.tA) % s.hub.p0 = 0) (hm : s.hub.power.mode.isRunning = true) (hl : data.length = i.total) :
    ∃ t, exec .copyApply s = .next t ∧ t.hub.partner.kept = none ∧ t.hub.partner.copyHeld = true ∧
      t.hub.partner.lastApplied = cycle ∧ ∀ l : LaneId, (t.lane l).mem =
        if s.hub.laneState l = .active ∨ s.hub.laneState l = .spareWarm then putRegions i.regions data (s.lane l).mem
        else (s.lane l).mem := by
  suffices ∃ t, execCopyApply s = .next t ∧ t.hub.partner.kept = none ∧ t.hub.partner.copyHeld = true ∧
      t.hub.partner.lastApplied = cycle ∧ ∀ l : LaneId, (t.lane l).mem =
        if s.hub.laneState l = .active ∨ s.hub.laneState l = .spareWarm then putRegions i.regions data (s.lane l).mem
        else (s.lane l).mem from this
  unfold execCopyApply
  dsimp only
  rw [hk, hi]
  dsimp only
  refine ⟨_, next_of_neg ?_, rfl, rfl, rfl, fun l => ?_⟩
  · simp [hr, hp, hd, hm, hl, Nat.not_lt.mpr hta]
  · refine (congrArg Lane.mem (State.mapLanes_lane ..)).trans ?_
    rw [show fin? 4 l.val = some l from dif_pos l.isLt]
    dsimp only
    by_cases hc : s.hub.laneState l = .active ∨ s.hub.laneState l = .spareWarm
    · rw [if_pos (by simpa using hc), if_pos hc]
    · rw [if_neg (by simpa using hc), if_neg hc]

/-- The hub at an expected instant without a header (R385). -/
def Hub.copyMissed (now : Nat) (h : Hub) : Hub :=
  (h.at_ now).modPartner (fun x => { x with counted := x.counted + 1, missCopies := min 255 (x.missCopies + 1) })

/-- R385: an expected instant without a header counts; at the limit a STANDBY that can takes over. -/
theorem execCopyMiss_counts (hr : s.hub.partner.role = .standby) (hp : s.hub.p0 ≠ 0)
    (ht : s.hub.partner.headerAt + (s.hub.partner.counted + 1) * s.hub.p0Ns + s.hub.nCycles ≤ (s.hub.at_ now).time.now) :
    exec (.copyMiss now) s = .next { s with hub := (s.hub.copyMissed now).afterCopyMiss } := by
  refine next_modHub (if_neg ?_)
  rintro (h | h | h)
  · exact h hr
  · exact hp h
  · exact absurd ht (Nat.not_le.mpr h)

theorem Hub.afterCopyMiss_peer (h : Hub) (hn : ¬ (h.partner.missLimit ≤ h.partner.missCopies ∧ h.canPromote = true)) :
    h.afterCopyMiss.peer = h.peer := by
  unfold Hub.afterCopyMiss
  split
  · rfl
  next hlim =>
    rw [if_neg (fun hc => hn ⟨Nat.not_lt.mp hlim, hc⟩)]
    exact (Hub.partnerLost_peer 2 _).trans (Hub.takeArm_peer ..)

theorem Hub.afterCopyMiss_takes (h : Hub) (hl : h.partner.missLimit ≤ h.partner.missCopies) (hc : h.canPromote = true) :
    h.afterCopyMiss = h.planRole .alone (h.time.tick + 1) true 1 := by
  unfold Hub.afterCopyMiss
  rw [if_neg (Nat.not_lt.mpr hl), if_pos hc]

theorem Hub.afterCopyMiss_keeps (h : Hub) : h.afterCopyMiss.partner.counted = h.partner.counted ∧
    h.afterCopyMiss.partner.missCopies = h.partner.missCopies := by
  by_cases hc : h.partner.missLimit ≤ h.partner.missCopies ∧ h.canPromote = true
  · rw [h.afterCopyMiss_takes hc.1 hc.2]
    exact ⟨rfl, rfl⟩
  · have e := h.afterCopyMiss_peer hc
    exact ⟨(congrArg Partner.counted e :), (congrArg Partner.missCopies e :)⟩

/-- R385: an ACK that does not come in time counts, and a switchover under way ends with it. -/
theorem execAckMiss_counts (ha : s.hub.inject.armed = []) {seq at_ : Nat} (hw : s.hub.partner.awaited = some (seq, at_))
    (hr : s.hub.partner.role ≠ .standby) (ht : at_ + s.hub.nCycles ≤ (s.hub.at_ now).time.now) : ∃ x : Hub,
    exec (.ackMiss now) s = .next { s with hub := x } ∧ x.partner.awaited = none ∧
      x.partner.missAcks = min 255 (s.hub.partner.missAcks + 1) ∧ x.partner.switching = false := by
  have hnot : ¬ ((s.hub.at_ now).partner.role = .standby ∨ (s.hub.at_ now).time.now < at_ + (s.hub.at_ now).nCycles) := by
    rintro (h | h)
    · exact hr h
    · exact absurd ht (Nat.not_le.mpr h)
  refine ⟨_, rfl, ?_⟩
  dsimp only
  rw [show (s.hub.at_ now).partner.awaited = some (seq, at_) from hw]
  dsimp only
  rw [if_neg hnot]
  generalize hk : ((s.hub.at_ now).modPartner (fun p => { p with
    awaited := none, missAcks := min 255 (p.missAcks + 1), ackRun := 0, switching := false })).finish
      (fun e => e.op == .switchover) .resourceFault (fun _ => []) = k
  have hka : k.inject.armed = [] := by
    rw [← hk]
    exact (congrArg (fun x : Hub => x.inject.armed) (Hub.finish_unreplied ..)).trans ha
  have hkp : k.peer.awaited = none ∧ k.peer.missAcks = min 255 (s.hub.partner.missAcks + 1) ∧ k.peer.switching = false := by
    rw [← hk, Hub.finish_peer]
    exact ⟨rfl, rfl, rfl⟩
  rw [Hub.takeArm_of_no_injection hka]
  dsimp only
  split
  · exact hkp
  · have hnone (c : Prop) : ¬ ((none : Option Origin) = some .reportOnly ∧ c) := fun h => nomatch h.1
    rw [if_neg (hnone _)]
    split
    · have hp := k.dualActive_peer 0
      exact ⟨(congrArg Partner.awaited hp :).trans hkp.1, (congrArg Partner.missAcks hp :).trans hkp.2.1,
        (congrArg Partner.switching hp :).trans hkp.2.2⟩
    · rw [show (if (k.linksUp != 0 && (none : Option Origin) == some .injected) = true then Origin.injected else .real) = .real
        from if_neg (by simp)]
      have hp (c : Nat) : ((k.partnerLost c .real).planRole .alone (k.time.tick + 1) false 0).peer =
          k.peer.planned .alone (k.time.tick + 1) false 0 := by
        rw [Hub.planRole_peer, Hub.partnerLost_peer]
      exact ⟨(congrArg Partner.awaited (hp _) :).trans hkp.1, (congrArg Partner.missAcks (hp _) :).trans hkp.2.1,
        (congrArg Partner.switching (hp _) :).trans hkp.2.2⟩

end copies

/-- Settles O52, event by event: reports leave `Hub.peer`, the link but for its frame number, as the event wrote it. -/
theorem partnerEvents : Obligations.PartnerEvents := by
  intro s lane now ha
  refine ⟨fun up => ⟨_, rfl, rfl, rfl⟩, execHelloSend_sends, fun n hn ht => ?_, fun frame hup => ⟨?_, ?_, ?_, ?_⟩,
    fun hen hr hp hta hd hm => ⟨fun hsw ho => ?_, fun hsw => ?_⟩, fun c ho hl => execCopyDataSent_ends ho hl,
    fun cycle data i hk hi hr hp hta hd hm hl => execCopyApply_puts hk hi hr hp hta hd hm hl, fun hr hp ht => ?_,
    fun seq at_ hw hr ht => ?_⟩
  case refine_1 =>
    have hex : exec .roleChange s = .next { s with hub := s.hub.setRole n.role n.promote n.counts } := by
      refine next_modHub ?_
      rw [hn]
      exact if_pos ht
    have e := s.hub.setRole_peer n.role n.promote n.counts
    exact ⟨_, hex, rfl, (congrArg Partner.role e :), (congrArg Partner.roleNext e :), (congrArg Partner.epoch e :),
      fun hs => ⟨(congrArg Partner.copyHeld e).trans (if_pos hs), (congrArg Partner.kept e).trans (if_pos hs)⟩⟩
  case refine_2 =>
    intro hb
    have e := Hub.peer_of_unworn (Hub.wearHit_unworn ((s.hub.at_ now).modPartner
      (fun p => { p with linkErrors := vmodN p.linkErrors lane (satAdd 16 · 1) })) 6 4 lane (some 1))
    refine ⟨_, execPartnerFrameReceived_bad hup hb, rfl, ?_, (congrArg Partner.partnerEpoch e :)⟩
    have hself : (vmodN s.hub.partner.linkErrors lane (satAdd 16 · 1))[lane] = satAdd 16 s.hub.partner.linkErrors[lane] 1 := by
      rw [vmodN_of_lt _ _ lane.isLt]
      exact vmod_getElem_self ..
    exact (congrArg (fun p : Partner => p.linkErrors[lane]) e :).trans hself
  case refine_3 =>
    intro hb ht
    obtain ⟨k, he, hu, hex⟩ := execPartnerFrameReceived_ok (now := now) hup hb ha
    obtain ⟨hlanes, htold⟩ := State.frameBody_told (s := { s with hub := k }) ht
    exact ⟨_, hex, hlanes, (congrArg Prod.fst htold).trans he, (congrArg Prod.snd htold).trans (congrArg Partner.linkErrors hu :)⟩
  case refine_4 =>
    intro hb hs hr
    refine ⟨fun ht hsafe hhand => ?_, fun c d ht hin hc hd hcrc => ?_⟩
    · exact ⟨_, execCopyHeaderReceived_standby hup hb ha hs hr ht, rfl,
        Hub.copyHeader_standby (h := (s.hub.at_ now).noted frame) hr hs hsafe hhand⟩
    · refine ⟨_, execCopyEndReceived_standby hup hb ha hs hr ht, rfl, ?_⟩
      rw [Hub.copyEnd_complete (h := (s.hub.at_ now).noted frame) ha hr hin hc hd hcrc]
      exact ⟨rfl, rfl⟩
  case refine_5 =>
    intro sent hb _ hr ht hw hseq
    obtain ⟨k, hu, hex⟩ := execAckReceived_ok (now := now) hup hb ha ht
    exact ⟨_, hex, rfl, Hub.takeAck_awaited (h := k) (fun hk => hr ((congrArg Partner.role hu :).symm.trans hk))
      ((congrArg Partner.awaited hu :).trans hw) hseq⟩
  case refine_6 =>
    obtain ⟨header, out, hex, hout⟩ := execCopyHeaderSend_begins (now := now) ha hen hr hp hta hd hm hsw ho
    have e := Hub.headerSent_peer header out (s.hub.at_ now)
    exact ⟨_, hex, rfl, (congrArg Partner.awaited e :), fun l hl => (congrArg Partner.out e :).trans (hout l hl)⟩
  case refine_7 =>
    obtain ⟨header, out, o, hex⟩ := execCopyHeaderSend_hands (now := now) ha hen hr hp hta hd hm hsw
    generalize hk : (((s.hub.at_ now).modPartner (fun p => { p with out := o })).headerSent header out).modPartner
      (fun p => { p with switching := false }) = k at hex
    have hpeer : k.peer.switching = false ∧ k.peer.epoch = s.hub.partner.epoch := by
      rw [← hk, Hub.modPartner_peer (fun _ => rfl), Hub.headerSent_peer]
      exact ⟨rfl, rfl⟩
    obtain ⟨hswitch, hepoch⟩ := hpeer
    obtain ⟨hrole, hkept, hnext⟩ := k.setRole_handed
    generalize k.setRole .standby true 2 = x at hex hrole hkept hnext
    exact ⟨_, hex, rfl, hrole, hkept.trans hswitch, hnext.trans (congrArg (wrapAdd 32 · 1) hepoch)⟩
  case refine_8 =>
    have hkeeps := Hub.afterCopyMiss_keeps (s.hub.copyMissed now)
    refine ⟨_, execCopyMiss_counts hr hp ht, rfl, hkeeps.1, hkeeps.2, fun hlim hcan => ?_⟩
    exact congrArg (fun k : Hub => k.partner.roleNext) (Hub.afterCopyMiss_takes (s.hub.copyMissed now) hlim hcan)
  case refine_9 =>
    obtain ⟨x, hex, hx⟩ := execAckMiss_counts (now := now) ha hw hr ht
    exact ⟨_, hex, rfl, hx⟩

end Sys2Proof.Machine
end

section
/-! Settles O50. The Yebor bus (chapter 13): what its operations leave of the engine's state, and its events. -/
namespace Sys2Proof.Machine

/-! ### The trace only adds to what the module sends -/

section outbox
variable (h : Hub)

theorem Hub.streamFlush_outbox : h.outbox <+: h.streamFlush.outbox := by
  unfold Hub.streamFlush
  split
  · exact List.prefix_rfl
  · dsimp only
    split
    · exact List.prefix_rfl
    · exact List.prefix_append ..

theorem Hub.streamPut_outbox (pos : Nat) (r : TraceRec) : h.outbox <+: (h.streamPut pos r).outbox := by
  unfold Hub.streamPut
  split
  · exact List.prefix_rfl
  · extract_lets have_ h1 t
    have e1 : h.outbox <+: h1.outbox := by
      unfold h1
      split
      · exact h.streamFlush_outbox
      · exact List.prefix_rfl
    split <;> exact e1

theorem Hub.ringWrite_outbox (r : TraceRec) : h.outbox <+: (h.ringWrite r).outbox := by
  unfold Hub.ringWrite
  extract_lets arm _ _ h' pos real o
  have e' : h'.outbox = h.outbox := by
    unfold h'
    split <;> rfl
  clear_value h'
  rw [← e']
  split
  · exact Hub.streamPut_outbox { h' with trace := h'.trace.write r } ..
  · exact List.prefix_rfl

theorem Hub.afterDrop_outbox : h.outbox <+: h.afterDrop.outbox := by
  unfold Hub.afterDrop
  split
  · exact List.prefix_rfl
  · dsimp only
    split
    · exact (Hub.ringWrite_outbox { h with trace := { h.trace with lossPending := 0, lossLanes := 0 } } _).trans (Hub.ringWrite_outbox ..)
    · exact List.prefix_rfl

theorem Hub.emit_outbox (r : TraceRec) : h.outbox <+: (h.emit r).outbox := by
  unfold Hub.emit
  split
  · exact h.afterDrop_outbox.trans (Hub.ringWrite_outbox ..)
  · exact List.prefix_rfl

theorem Hub.queueRec_outbox (q kind v : Nat) : h.outbox <+: (h.queueRec q kind v).outbox := by
  unfold Hub.queueRec
  split
  · exact List.prefix_rfl
  · exact h.emit_outbox _

theorem Hub.complete_outbox (q st i : Nat) (rx : Option (Nat × Nat)) : h.outbox <+: (h.complete q st i rx).outbox := by
  unfold Hub.complete
  extract_lets mine last new join _ h' fill write
  have e' : h'.outbox = h.outbox := by
    unfold h'
    split <;> rfl
  rw [← e']
  exact Hub.queueRec_outbox (h'.modQueue q write) ..

end outbox

/-! ### What a report, a count of wear and a queue leave of the engine -/

/-- The Yebor engine's state and its records. -/
def Hub.engine13 (h : Hub) : Yebor × Cfg := (h.yb, h.cfg)

section views
variable {h t : Hub}

theorem Hub.engine13_of_quiet (e : t.quiet = h.quiet) : t.engine13 = h.engine13 := (congrArg Hub.engine13 e :)

theorem Hub.engine13_of_unworn (e : t.unworn = h.unworn) : t.engine13 = h.engine13 := (congrArg Hub.engine13 e :)

theorem Hub.engine13_of_unsent (e : t.unsent = h.unsent) : t.engine13 = h.engine13 := (congrArg Hub.engine13 e :)

theorem Hub.engine13_of_untraced (e : t.untraced = h.untraced) : t.engine13 = h.engine13 := (congrArg Hub.engine13 e :)

theorem Hub.yb_of_engine13 (e : t.engine13 = h.engine13) : t.yb = h.yb := congrArg Prod.fst e

theorem Hub.cfg_of_engine13 (e : t.engine13 = h.engine13) : t.cfg = h.cfg := congrArg Prod.snd e

theorem Hub.guardianBlock_yb (cause channels slot : Nat) (ns : Int) (h : Hub) : (h.guardianBlock cause channels slot ns .real).yb =
    { h.yb with blocks := satAdd 32 h.yb.blocks 1 } := by
  unfold Hub.guardianBlock
  extract_lets h1
  exact yb_of_engine13 (engine13_of_quiet (Hub.raiseEvent_quiet h1 (n := .guardianBlock) (.inl (by decide)) ..))

theorem Hub.ybRec_engine13 (slot valid status : Nat) (x : Option YbCopy) (h : Hub) : (h.ybRec slot valid status x).engine13 = h.engine13 := by
  unfold Hub.ybRec
  extract_lets f g
  split
  · rfl
  · exact engine13_of_untraced (h.emit_untraced _)

theorem Hub.complete_engine13 (q st i : Nat) (rx : Option (Nat × Nat)) (h : Hub) : (h.complete q st i rx).engine13 = h.engine13 :=
  engine13_of_unsent (h.complete_unsent ..)

theorem Hub.queueRec_engine13 (q kind v : Nat) (h : Hub) : (h.queueRec q kind v).engine13 = h.engine13 :=
  engine13_of_unsent (h.queueRec_unsent ..)

theorem Hub.queueDrop_engine13 (q : Nat) (h : Hub) : (h.queueDrop q).1.engine13 = h.engine13 := Hub.queueRec_engine13 ..

theorem Hub.claimConflict_engine13 (i slot winner : Nat) (o : Origin) (h : Hub) :
    (h.claimConflict i slot winner o).engine13 = h.engine13 := by
  unfold Hub.claimConflict
  exact engine13_of_quiet (Hub.event_quiet h (n := .claimConflict) (.inl (by decide)) ..)

end views

/-! ### The cycle start (R331, R345, R346) -/

/-- The engine's state without what the claims of a cycle write. -/
def Yebor.unclaimed (y : Yebor) : Yebor :=
  { y with
    held := [], silent := [], empty := [], won := [], busy := [], named := [], claiming := none, claims := Vector.replicate 4 0 }

section armed
variable {h : Hub} (ha : h.inject.armed = [])
include ha

theorem Hub.raiseEvent_armed (rep : FaultRec → Bool) (n : FaultName) (key : List Nat) (lanes : Nat) (d : Detail) (o : Origin) :
    (h.raiseEvent rep n key lanes d o).inject.armed = [] := by
  unfold Hub.raiseEvent
  extract_lets h'
  refine Hub.react_armed (h := h') ?_ n o
  unfold h'
  split
  · split
    · exact ha
    · exact Hub.newRecord_armed ha ..
  · exact Hub.newRecord_armed ha ..

theorem Hub.wearReached_armed (e : WearEntry) (o : Origin) : (h.wearReached e o).inject.armed = [] := by
  unfold Hub.wearReached
  extract_lets act st _ h1
  exact Hub.raise_armed (h := h1) ha ..

theorem Hub.wearHit_armed (cls unit index : Nat) (n : Option Nat) : (h.wearHit cls unit index n).inject.armed = [] := by
  unfold Hub.wearHit
  extract_lets index0 h1 th
  have e1 : h1.inject.armed = [] := ha
  clear_value h1
  split
  · exact e1
  · extract_lets c e h2
    have e2 : h2.inject.armed = [] := e1
    clear_value h2
    split
    · exact Hub.wearReached_armed e2 ..
    · exact e2

theorem Hub.wearForce_armed (cls unit index : Nat) : (h.wearForce cls unit index .real).inject.armed = [] := by
  unfold Hub.wearForce
  extract_lets h1 e
  have e1 : h1.inject.armed = [] := ha
  rw [if_neg (fun hc : Origin.real = .reportOnly => nomatch hc)]
  split
  · exact Hub.wearReached_armed e1 ..
  · exact e1

theorem Hub.claimWear_armed (won before : List (Nat × Nat)) : (h.claimWear won before).inject.armed = [] := by
  unfold Hub.claimWear
  extract_lets n
  split
  · exact ha
  · split
    · exact Hub.wearForce_armed (Hub.wearHit_armed ha ..) ..
    · exact Hub.wearHit_armed ha ..

theorem Hub.claimConflict_armed (i slot winner : Nat) (o : Origin) : (h.claimConflict i slot winner o).inject.armed = [] := by
  unfold Hub.claimConflict
  exact Hub.raiseEvent_armed ha ..

theorem Hub.ybClaims_armed : h.ybClaims.inject.armed = [] := by
  unfold Hub.ybClaims
  extract_lets won before busy me own h1 h2
  have e2 : h2.inject.armed = [] := Hub.claimWear_armed (h := h1) ha ..
  clear_value h2 own
  split
  · exact e2
  · extract_lets winner
    clear_value winner
    split
    · exact e2
    · split
      · exact Hub.claimConflict_armed e2 ..
      · exact Hub.claimConflict_armed (h := h2.modYb _) e2 ..

end armed

theorem Hub.claimWear_engine13 (won before : List (Nat × Nat)) (h : Hub) : (h.claimWear won before).engine13 = h.engine13 := by
  unfold Hub.claimWear
  extract_lets n
  split
  · rfl
  · have e := engine13_of_unworn (h.wearHit_unworn 8 4 0 (some n))
    split
    · exact (engine13_of_unworn (Hub.wearForce_unworn ..)).trans e
    · exact e

/-- The claims of a cycle write nothing else of the engine (R346, R347). -/
theorem Hub.ybClaims_unclaimed (h : Hub) : h.ybClaims.yb.unclaimed = h.yb.unclaimed ∧ h.ybClaims.cfg = h.cfg := by
  unfold Hub.ybClaims
  extract_lets won before busy me own h1 h2
  have e2 : h2.engine13 = h1.engine13 := Hub.claimWear_engine13 ..
  have hview : h2.yb.unclaimed = h.yb.unclaimed ∧ h2.cfg = h.cfg :=
    ⟨(congrArg Yebor.unclaimed (yb_of_engine13 e2) :), (cfg_of_engine13 e2 :)⟩
  clear_value h2 own
  split
  · exact hview
  · extract_lets winner
    clear_value winner
    split
    · exact hview
    · split
      · have e := h2.claimConflict_engine13
        exact ⟨(congrArg Yebor.unclaimed (yb_of_engine13 (e ..))).trans hview.1, (cfg_of_engine13 (e ..)).trans hview.2⟩
      · have e (i slot : Nat) (t : Hub) := t.claimConflict_engine13 i slot 0xFF .injected
        exact ⟨(congrArg Yebor.unclaimed (yb_of_engine13 (e ..))).trans hview.1, (cfg_of_engine13 (e ..)).trans hview.2⟩

/-- The engine at the end of a cycle, its states left as they are. -/
def Hub.ybAged (h : Hub) : Hub := h.modYb (fun z => { z with inState := z.inState + 1, observed := z.observed + 1 })

theorem Hub.ybCycleEnd_normal {h : Hub} (ha : h.inject.armed = []) (hs : h.yb.state = .normal) (hl : h.yb.lossRun < h.ybc.syncLoss)
    (hd : h.yb.disagreeRun < 8) : h.ybCycleEnd = h.ybAged := by
  have hpassive : ¬ (h.ybAged.yb.state = .passive ∧ 2 ≤ h.yb.cleanRun) := fun hc => absurd (hs.symm.trans hc.1) (by decide)
  unfold Hub.ybCycleEnd
  extract_lets y h1 r h2 h3
  have hr : r = (none, h1) := Hub.takeArm_of_no_injection (h := h1) ha ..
  have e2 : h2 = h.ybAged := congrArg Prod.snd hr
  have e3 : h3 = h.ybAged := by
    unfold h3
    rw [hr, e2]
  rw [show y.state = .normal from hs]
  rw [← e3] at hpassive
  have hl2 : ¬ h2.ybc.syncLoss ≤ y.lossRun := by rw [e2]; exact Nat.not_le.mpr hl
  exact (if_neg hl2).trans ((if_neg (Nat.not_le.mpr hd)).trans ((if_neg hpassive).trans e3))

theorem Hub.ybCycleEnd_coldstart {h : Hub} (hs : h.yb.state = .coldstart) (hi : 7 ≤ h.yb.inState) (hh : h.yb.heard = true) :
    h.ybCycleEnd = h.ybAged.ybNormal := by
  unfold Hub.ybCycleEnd
  extract_lets y h1
  rw [show y.state = .coldstart from hs]
  exact if_pos ⟨hi, hh⟩

/-- The engine at the start of a cycle (R331). -/
def Hub.ybBegun (h : Hub) : Hub :=
  h.modYb (fun y => { y with
    counter := (y.counter + 1) % 64, cycles := satAdd 24 y.cycles 1, startTb0 := h.tb0Now, startAt := h.time.now
    tb4Base := (y.tb4Base + h.ybCycle * 1000) % 2 ^ 64, sent := [], drivenLast := y.driven, driven := false
    roleOk := h.roleCode != 2 })

/-- The hub after the engine's comparison with the guardian (R345). -/
def Hub.ybCompared (diff : Int) (h : Hub) : Hub :=
  if 2000 < diff.natAbs then
    (h.modYb (fun y => { y with agree := false, disagreeRun := y.disagreeRun + 1 })).guardianBlock 1 h.ybc.channels 0 diff .real
  else h.modYb (fun y => { y with agree := true, disagreeRun := 0 })

theorem Hub.ybCompared_yb (diff : Int) (h : Hub) : (h.ybCompared diff).yb = { h.yb with
    agree := decide (diff.natAbs ≤ 2000), disagreeRun := if diff.natAbs ≤ 2000 then 0 else h.yb.disagreeRun + 1
    blocks := if diff.natAbs ≤ 2000 then h.yb.blocks else satAdd 32 h.yb.blocks 1 } := by
  unfold Hub.ybCompared
  by_cases hd : diff.natAbs ≤ 2000
  · rw [if_neg (Nat.not_lt.mpr hd), decide_eq_true hd, if_pos hd, if_pos hd]
    rfl
  · rw [if_pos (Nat.not_le.mp hd), Hub.guardianBlock_yb, decide_eq_false hd, if_neg hd, if_neg hd]
    rfl

section cycle
variable {s : State} {now : Nat} {k : Hub}

/-- A cycle start from NORMAL that the end of the cycle before leaves there compares the guardian's time with the engine's (R345). -/
theorem execYbCycleStart_compares (diff : Int) (hs : s.hub.yb.state = .normal)
    (hk : (s.hub.at_ now).ybCycleEnd.ybClaims = k) (hks : k.yb.state = .normal) (hka : k.inject.armed = []) :
    exec (.ybCycleStart diff now) s = .next { s with hub := k.ybBegun.ybCompared diff } := by
  subst hk
  have htimed : ¬ (!(s.hub.at_ now).yb.state.timed) = true := by rw [show (s.hub.at_ now).yb.state = .normal from hs]; decide
  have htimed' : ¬ (!(s.hub.at_ now).ybCycleEnd.ybClaims.yb.state.timed) = true := by rw [hks]; decide
  have hcompares : ¬ (((s.hub.at_ now).ybCycleEnd.ybClaims.yb.state == .normal && ((s.hub.at_ now).yb.state == .integrating ||
      (s.hub.at_ now).yb.state == .coldstart)) = true ∨ (s.hub.at_ now).ybCycleEnd.ybClaims.yb.state = .integrating) := by
    rw [hks, show (s.hub.at_ now).yb.state = .normal from hs]
    decide
  refine next_modHub ((if_neg htimed).trans ((if_neg htimed').trans ((if_neg hcompares).trans ?_)))
  extract_lets r h1 real bad h2
  have hr : r = (none, (s.hub.at_ now).ybCycleEnd.ybClaims.ybBegun) :=
    Hub.takeArm_of_no_injection (h := (s.hub.at_ now).ybCycleEnd.ybClaims.ybBegun) hka ..
  have e1 : h1 = (s.hub.at_ now).ybCycleEnd.ybClaims.ybBegun := congrArg Prod.snd hr
  have hbad : bad = real := by
    unfold bad
    rw [hr]
    exact Bool.or_false _
  unfold Hub.ybCompared
  unfold h2
  rw [hbad, hr, e1]
  by_cases hd : 2000 < diff.natAbs
  · rw [show real = true from decide_eq_true hd, if_pos hd]
    rfl
  · rw [show real = false from decide_eq_false hd, if_neg hd]
    rfl

/-- A cycle start that takes the engine from COLDSTART to NORMAL takes the guardian's time as it is (R345). -/
theorem execYbCycleStart_takes (diff : Int) (hs : s.hub.yb.state = .coldstart)
    (hk : (s.hub.at_ now).ybCycleEnd.ybClaims = k) (hks : k.yb.state = .normal) :
    exec (.ybCycleStart diff now) s = .next { s with hub := k.ybBegun } := by
  subst hk
  have htimed : ¬ (!(s.hub.at_ now).yb.state.timed) = true := by rw [show (s.hub.at_ now).yb.state = .coldstart from hs]; decide
  have htimed' : ¬ (!(s.hub.at_ now).ybCycleEnd.ybClaims.yb.state.timed) = true := by rw [hks]; decide
  refine next_modHub ((if_neg htimed).trans ((if_neg htimed').trans (if_pos (.inl ?_))))
  rw [show (s.hub.at_ now).yb.state = .coldstart from hs]
  exact (congrArg (fun st : YbState => st == .normal && (YbState.coldstart == .integrating || YbState.coldstart == .coldstart)) hks).trans rfl

end cycle

/-! ### Static slots (R332, R334 to R336) -/

section slots
variable {s : State} {now : Nat}

/-- The hub with the module's own frame of a static slot on its way (R335). -/
def Hub.ybSlotSent (slot : Nat) (x : YbSlot) (data : Bool × Bytes) (h : Hub) : Hub :=
  (h.modYb (fun y => { y with
    driven := true, latches := y.latches.filter (fun l => l.1 != slot)
    silent := insertKey slot 0 y.silent, busy := if x.owner = 0xFE then slot :: y.busy else y.busy
    dev := if (x.sync && x.owner == h.ybc.node) = true then (h.ybc.node, 0) :: y.dev else y.dev })).send
      (.yebor (x.channels &&& h.ybc.channels) (ybFrame (8 * b2n (x.sync && x.owner == h.ybc.node) +
        4 * b2n (x.sync && x.owner == h.ybc.node && h.ybc.coldstart) + 2 * b2n data.1) slot h.yb.counter h.ybc.node data.2))

theorem execYbStaticSlotSend_sends (ha : s.hub.inject.armed = []) {slot : Nat} {x : YbSlot} {data : Bool × Bytes}
    (hx : s.hub.ybSlot slot = some x) (hd : s.hub.ybDrivers = true) (hn : s.hub.slotSender x = some s.hub.ybc.node)
    (hown : s.hub.yb.state = .coldstart → (x.sync && x.owner == s.hub.ybc.node) = true)
    (hl : s.hub.yb.latches.find? (fun l => l.1 == slot) = some (slot, data)) (m : Option (Nat × Nat)) :
    exec (.ybStaticSlotSend slot m now) s = .next { s with hub := (m.elim ((s.hub.at_ now).ybSlotSent slot x data)
      (fun p => ((s.hub.at_ now).ybSlotSent slot x data).ybReadback p.1 p.2 .real)) } := by
  refine next_modHub ?_
  dsimp only
  rw [show (s.hub.at_ now).ybSlot slot = some x from hx]
  have hgo : ¬ (!(s.hub.at_ now).ybDrivers || (s.hub.at_ now).slotSender x != some (s.hub.at_ now).ybc.node ||
      ((s.hub.at_ now).yb.state == .coldstart && !(x.sync && x.owner == (s.hub.at_ now).ybc.node))) = true := by
    rw [show (s.hub.at_ now).ybDrivers = true from hd, show (s.hub.at_ now).slotSender x = some (s.hub.at_ now).ybc.node from hn]
    by_cases hc : s.hub.yb.state = .coldstart
    · rw [show (x.sync && x.owner == (s.hub.at_ now).ybc.node) = true from hown hc]
      simp
    · rw [show ((s.hub.at_ now).yb.state == .coldstart) = false from beq_false_of_ne hc]
      simp
  refine (if_neg hgo).trans ?_
  rw [show (s.hub.at_ now).yb.latches.find? (fun l => l.1 == slot) = some (slot, data) from hl]
  cases hcold : (s.hub.at_ now).yb.state == .coldstart
  · cases m <;> rfl
  · rw [if_pos rfl, Hub.takeArm_of_no_injection]
    · cases m <;> rfl
    · exact ha

theorem Hub.ybReadback_normal {h : Hub} (hs : h.yb.state = .normal) (ch pos : Nat) : h.ybReadback ch pos .real =
    h.modYb (fun y => { y with mismatches := satAdd 16 y.mismatches 1 }) := by
  unfold Hub.ybReadback
  exact if_neg (fun hc => absurd (hs.symm.trans hc) (by decide))

theorem Hub.ybReadback_coldstart {h : Hub} (hs : h.yb.state = .coldstart) (ch pos : Nat) :
    (h.ybReadback ch pos .real).yb.collisions = satAdd 8 h.yb.collisions 1 ∧ (h.ybReadback ch pos .real).yb.state = .listen := by
  unfold Hub.ybReadback
  dsimp only
  rw [if_pos hs, if_neg (by decide)]
  refine ⟨?_, rfl⟩
  have e := engine13_of_quiet (Hub.event_quiet (h.modYb (fun y => { y with
    collisions := satAdd 8 y.collisions 1, collisionsNow := y.collisionsNow + 1 })) (n := .startupCollision) (o := .real) (.inl (by decide))
      [] 0 [(1, ch), (2, pos), (1, min 255 (h.modYb (fun y => { y with
        collisions := satAdd 8 y.collisions 1, collisionsNow := y.collisionsNow + 1 })).yb.collisionsNow)])
  exact (congrArg (fun p : Yebor × Cfg => p.1.collisions) e :)

theorem vmodN_fin_self {α : Type} {n : Nat} (v : Vector α n) (i : Fin n) (f : α → α) : (vmodN v i f)[i] = f v[i] := by
  rw [vmodN_of_lt v f i.isLt]
  exact vmod_getElem_self ..

theorem vmodN_fin_const {α : Type} {n : Nat} (v : Vector α n) (i : Fin n) (a : α) : vmodN v i (fun _ => a) = v.set i a :=
  vmodN_of_lt v _ i.isLt

/-- What a copy on a channel makes of the engine, by the conditions of R334. -/
def Yebor.copied (good : Prop) [Decidable good] (ch : Fin 2) (x : YbCopy) (late : Bool) (y : Yebor) : Yebor :=
  if good then { y with copies := vmodN y.copies ch (fun _ => some x) }
  else { y with
    errors := vmodN y.errors ch (satAdd 16 · 1)
    violations := if late then vmodN y.violations ch (satAdd 16 · 1) else y.violations }

theorem Yebor.copied_good {good : Prop} [Decidable good] (hg : good) {ch : Fin 2} {x : YbCopy} {late : Bool} {y : Yebor} :
    y.copied good ch x late = { y with copies := vmodN y.copies ch (fun _ => some x) } := if_pos hg

theorem Yebor.copied_bad {good : Prop} [Decidable good] (hg : ¬ good) {ch : Fin 2} {x : YbCopy} {late : Bool} {y : Yebor} :
    y.copied good ch x late = { y with
      errors := vmodN y.errors ch (satAdd 16 · 1)
      violations := if late then vmodN y.violations ch (satAdd 16 · 1) else y.violations } := if_neg hg

theorem Yebor.copied_state (good : Prop) [Decidable good] (ch : Fin 2) (x : YbCopy) (late : Bool) (y : Yebor) :
    (y.copied good ch x late).state = y.state := by
  unfold Yebor.copied
  split <;> rfl

theorem execYbFrameReceived_copies (ha : s.hub.inject.armed = []) {ch : Fin 2} {slot : Nat} {frame : Bytes} {coding inSlot : Bool}
    {dev : Int} {stamp : Nat} (ht : s.hub.yb.state.timed = true) (hc : s.hub.yb.state ≠ .coldstart)
    (hb : bit s.hub.ybc.channels ch.val = true) : ∃ k : Hub,
    exec (.ybFrameReceived ch slot frame coding inSlot dev stamp now) s = .next { s with hub := k } ∧ k.yb =
      s.hub.yb.copied (coding = true ∧ (s.hub.at_ now).ybExpected slot frame (ybCopy frame dev (stamp % 2 ^ 64)) = true ∧ inSlot = true ∧
        dev.natAbs ≤ s.hub.ybc.windowNs) ch (ybCopy frame dev (stamp % 2 ^ 64)) (decide (s.hub.ybc.windowNs < dev.natAbs)) := by
  have hoff : s.hub.yb.state ≠ .off := fun h => by rw [h] at ht; cases ht
  have hlisten : s.hub.yb.state ≠ .listen := fun h => by rw [h] at ht; cases ht
  have hon : ¬ ((s.hub.at_ now).yb.state = .off ∨ bit (s.hub.at_ now).ybc.channels ch.val = false) := by
    rintro (h | h)
    · exact hoff h
    · exact absurd (hb.symm.trans h) (by decide)
  refine ⟨_, next_modHub ((if_neg hon).trans ((if_neg hlisten).trans rfl)), ?_⟩
  extract_lets r h1 w out moved outInj act content node report bad h2 h3
  have hr : r = (none, s.hub.at_ now) := Hub.takeArm_of_no_injection (h := s.hub.at_ now) ha ..
  have e1 : h1 = s.hub.at_ now := congrArg Prod.snd hr
  have hw : w = s.hub.ybc.windowNs := by
    unfold w
    rw [e1]
    rfl
  have hact : act = false := by
    unfold act
    rw [hr]
    rfl
  have hbad : bad = out := by
    unfold bad
    rw [hact, Bool.or_false]
  have hout : out = decide (s.hub.ybc.windowNs < dev.natAbs) := by
    unfold out
    rw [hw]
    exact decide_eq_decide.mpr Int.ofNat_lt
  have hcontent : content = (coding && (s.hub.at_ now).ybExpected slot frame (ybCopy frame dev (stamp % 2 ^ 64)) && inSlot) := by
    unfold content
    rw [e1]
  have hreport (o : Origin) (d : Int) : (report o d h1).yb = s.hub.yb := by
    rw [e1]
    exact Hub.yb_of_engine13 (h := s.hub.at_ now) (Hub.engine13_of_quiet (Hub.raiseEvent_quiet (s.hub.at_ now) (n := .slotBoundaryViolation) (.inl (by decide)) ..))
  have e2 : h2.yb = s.hub.yb := by
    unfold h2
    split
    · exact hreport ..
    · split
      · exact hreport ..
      · split
        · exact hreport ..
        · rw [e1]; rfl
  have e3 : h3 = h2 := if_neg (fun h => hc ((congrArg Yebor.state e2).symm.trans h.1))
  clear_value h3 content bad out
  subst e3
  rw [if_neg (fun h => hlisten ((congrArg Yebor.state e2).symm.trans h)), hbad, hout, hcontent]
  unfold Yebor.copied
  split
  next hgood =>
    rw [if_pos (by simpa [and_assoc] using hgood), ← e2]
    rfl
  next hnot =>
    rw [if_neg (by simpa [and_assoc] using hnot), ← e2]
    rfl

theorem Hub.ybRec_yb (slot valid status : Nat) (x : Option YbCopy) (h : Hub) : (h.ybRec slot valid status x).yb = h.yb :=
  yb_of_engine13 (h.ybRec_engine13 ..)

/-- R336: the end of a slot empties the copies and brings the slot's receive buffer up to date. -/
theorem execYbSlotEnd_buffers {slot : Nat} {x : YbSlot} (activity : Bool) (hx : s.hub.ybSlot slot = some x)
    (ht : s.hub.yb.state.timed = true) (hr : x.rxBuffer < 128) : ∃ k : Hub,
    exec (.ybSlotEnd slot activity now) s = .next { s with hub := k } ∧ k.yb.copies = Vector.replicate 2 none ∧
      k.yb.buffers = vmodN s.hub.yb.buffers x.rxBuffer (YbRx.update (ofBits (s.hub.yb.copies.toList.map Option.isSome)) s.hub.ybTaken.2
        s.hub.ybTaken.1) := by
  have htimed : ¬ (!(s.hub.at_ now).yb.state.timed) = true := by
    rw [show (s.hub.at_ now).yb.state.timed = true from ht]
    decide
  suffices ∃ k : Hub, exec (.ybSlotEnd slot activity now) s = .next { s with hub := k } ∧ (k.yb.copies, k.yb.buffers) =
      (Vector.replicate 2 none, vmodN s.hub.yb.buffers x.rxBuffer (YbRx.update (ofBits (s.hub.yb.copies.toList.map Option.isSome))
        s.hub.ybTaken.2 s.hub.ybTaken.1)) by
    obtain ⟨k, hex, hk⟩ := this
    exact ⟨k, hex, congrArg Prod.fst hk, congrArg Prod.snd hk⟩
  refine ⟨_, next_modHub ((if_neg htimed).trans rfl), ?_⟩
  extract_lets t valid h1 h2
  have e2 : (h2.yb.copies, h2.yb.buffers) = (Vector.replicate 2 none, s.hub.yb.buffers) ∧ h2.cfg = s.hub.cfg := by
    unfold h2
    split <;> exact ⟨rfl, rfl⟩
  clear_value h2
  obtain ⟨hbuffers, hcfg⟩ := e2
  have hslot : h2.ybSlot slot = some x := by
    rw [← hx, Hub.ybSlot, Hub.ybSlot, hcfg]
  rw [hslot]
  dsimp only
  rw [if_pos hr, Hub.ybRec_yb]
  have hput : (h2.yb.copies, vmodN h2.yb.buffers x.rxBuffer (YbRx.update valid t.2 t.1)) =
      (Vector.replicate 2 none, vmodN s.hub.yb.buffers x.rxBuffer (YbRx.update valid t.2 t.1)) :=
    congrArg (fun p : Vector (Option YbCopy) 2 × Vector YbRx 128 => (p.1, vmodN p.2 x.rxBuffer (YbRx.update valid t.2 t.1))) hbuffers
  split <;> exact hput

end slots

/-! ### The dynamic segment (R337, R338) -/

section minislots
variable (h : Hub)

theorem Hub.complete_yb (q st i : Nat) (rx : Option (Nat × Nat)) : (h.complete q st i rx).yb = h.yb :=
  yb_of_engine13 (h.complete_engine13 ..)

theorem Hub.queueRec_yb (q kind v : Nat) : (h.queueRec q kind v).yb = h.yb := yb_of_engine13 (h.queueRec_engine13 ..)

theorem Hub.claimHeard_state (slot node : Nat) : (h.claimHeard slot node).yb.state = h.yb.state ∧
    (h.claimHeard slot node).yb.minislot = h.yb.minislot := by
  unfold Hub.claimHeard
  split <;> exact ⟨rfl, rfl⟩

theorem Hub.ybRoute_state (k valid : Nat) (x : YbCopy) : (h.ybRoute k valid x).yb.state = h.yb.state := by
  unfold Hub.ybRoute
  extract_lets entry
  split
  · split
    · exact congrArg Yebor.state (yb_of_engine13 (h.queueDrop_engine13 41))
    · exact (congrArg Yebor.state (Hub.queueRec_yb ..)).trans rfl
  · split
    · exact congrArg Yebor.state (yb_of_engine13 (h.queueDrop_engine13 43))
    · split
      · exact congrArg Yebor.state (yb_of_engine13 (h.queueDrop_engine13 43))
      · exact (congrArg Yebor.state (Hub.complete_yb ..)).trans rfl
  · rfl

theorem Hub.ybCloseMinislot_state : h.ybCloseMinislot.yb.state = h.yb.state := by
  unfold Hub.ybCloseMinislot
  split
  · rfl
  · extract_lets t valid h1
    split
    · rfl
    next x _ =>
      extract_lets h2
      have e2 : h2.yb.state = h.yb.state := (congrArg Yebor.state (Hub.ybRec_yb ..)).trans rfl
      clear_value h2
      split
      · exact (h2.claimHeard_state ..).1.trans e2
      · exact (h2.ybRoute_state ..).trans e2

variable {h} in
theorem Hub.ybCloseMinislot_none (hm : h.yb.minislot = none) : h.ybCloseMinislot = h := by
  unfold Hub.ybCloseMinislot
  rw [hm]

theorem Hub.ybDynSend_minislot (k j : Nat) (mismatch : Bool) : (h.ybDynSend k j mismatch).yb.minislot = h.yb.minislot := by
  unfold Hub.ybDynSend
  extract_lets c out r
  have hout (channels flags : Nat) (data : Bytes) (t : Hub) : (out channels flags data t).yb.minislot = t.yb.minislot := by
    unfold out
    extract_lets
    split <;> rfl
  clear_value out
  split
  · rfl
  · split
    · extract_lets h1 h2
      have e1 : h1.yb.minislot = h.yb.minislot := by
        unfold h1
        split
        · exact congrArg Yebor.minislot (yb_of_engine13 (Hub.claimConflict_engine13 ..))
        · rfl
      have e2 : h2.yb.minislot = h1.yb.minislot := hout ..
      exact (h2.claimHeard_state ..).2.trans (e2.trans e1)
    · split
      · rfl
      · split
        · rfl
        · extract_lets h1
          have e1 : h1.yb.minislot = h.yb.minislot := hout ..
          clear_value h1
          split
          · exact (congrArg Yebor.minislot (Hub.complete_yb ..)).trans e1
          · exact (congrArg Yebor.minislot (Hub.queueRec_yb ..)).trans e1

variable {h} in
/-- R337: an own minislot with no claim to make sends the first entry queued for it, where it still fits. -/
theorem Hub.ybDynSend_entry {k j : Nat} {e : YbEntry} (mismatch : Bool) (hs : h.yb.state = .normal) (hd : h.ybDrivers = true)
    (ho : h.minislotOwner k = some h.ybc.node) (hk : k ∉ h.yb.sent) (hc : h.ybFits j 4 = true → h.ybClaim k = none)
    (he : h.yb.queue.find? (fun e => e.minislot == k) = some e) (hf : h.ybFits j e.data.length = true) :
    (h.ybDynSend k j mismatch).yb.queue = h.yb.queue.erase e ∧ (h.ybDynSend k j mismatch).yb.sent = k :: h.yb.sent ∧
      Sent.yebor (e.channels &&& h.ybc.channels) (ybFrame 0 (513 + k) h.yb.counter h.ybc.node e.data) ∈
        (h.ybDynSend k j mismatch).outbox := by
  have hgo : ¬ (h.yb.state ≠ .normal ∨ h.ybDrivers = false ∨ h.minislotOwner k ≠ some h.ybc.node ∨ h.yb.sent.contains k = true) := by
    simp [hs, hd, ho, hk]
  have hclaim : (if h.ybFits j 4 then h.ybClaim k else none) = none := by
    split
    next hfit => exact hc hfit
    · rfl
  unfold Hub.ybDynSend
  extract_lets c out r
  have hout (data : Bytes) (t : Hub) : (out e.channels 0 data t).yb.queue = t.yb.queue ∧ (out e.channels 0 data t).yb.sent = k :: t.yb.sent ∧
      Sent.yebor (e.channels &&& c.channels) (ybFrame 0 (513 + k) t.yb.counter c.node data) ∈ (out e.channels 0 data t).outbox := by
    have hsent (l : List Sent) (x : Sent) : x ∈ l ++ [x] := List.mem_append_right l (List.mem_singleton_self x)
    unfold out
    extract_lets
    split <;> exact ⟨rfl, rfl, hsent ..⟩
  clear_value out
  rw [if_neg hgo, hclaim]
  dsimp only
  rw [he]
  dsimp only
  rw [if_neg (by rw [hf]; decide)]
  obtain ⟨hqueue, hsent, hmem⟩ := hout e.data (h.modYb (fun y => { y with queue := y.queue.erase e }))
  generalize out e.channels 0 e.data (h.modYb (fun y => { y with queue := y.queue.erase e })) = t at hqueue hsent hmem ⊢
  split
  · exact ⟨(congrArg Yebor.queue (t.complete_yb ..)).trans hqueue, (congrArg Yebor.sent (t.complete_yb ..)).trans hsent,
      (t.complete_outbox ..).subset hmem⟩
  · have e13 := (t.modQueue 40 (fun s => { s with count := wrapAdd 32 s.count 1 })).queueRec_yb 40 1 e.index
    exact ⟨(congrArg Yebor.queue e13).trans hqueue, (congrArg Yebor.sent e13).trans hsent,
      (Hub.queueRec_outbox (t.modQueue 40 _) ..).subset hmem⟩

end minislots

/-! ### The network idle time (R339, R344) -/

/-- What the network idle time makes of the engine (R339). -/
def Yebor.Idled (c : YbCluster) (tableOk : Bool) (y z : Yebor) : Prop :=
  z.dev = [] ∧ z.prevDev = y.dev ∧ z.tableOk = (y.tableOk && tableOk) ∧
    (c.minSync ≤ y.dev.length → z.lossRun = 0 ∧ z.syncUsed = min y.dev.length 15 ∧
      z.offset = clampInt (-(c.offsetLimit : Int)) c.offsetLimit (ftm (y.dev.map Prod.snd)) ∧
      (y.state = .normal → c.offsetLimit < (ftm (y.dev.map Prod.snd)).natAbs → z.state = .passive)) ∧
    (y.dev.length < c.minSync → z.lossRun = y.lossRun + 1 ∧ z.syncUsed = 0 ∧ z.offset = 0)

/-- What neither NODE_PASSIVE nor a guardian's block writes of the engine. -/
def Yebor.clock (y : Yebor) : List (Nat × Int) × List (Nat × Int) × Nat × Nat × Int :=
  (y.dev, y.prevDev, y.lossRun, y.syncUsed, y.offset)

theorem Hub.ybPassive_yb (cause : Nat) (v : Int) (h : Hub) : (h.ybPassive cause v).yb =
    { h.yb with state := .passive, passives := satAdd 8 h.yb.passives 1, cleanRun := 0 } := by
  unfold Hub.ybPassive
  exact (yb_of_engine13 (engine13_of_quiet (Hub.raise_quiet _ (n := .nodePassive) (.inl (by decide)) ..))).trans rfl

theorem clampInt_zero (n : Nat) : clampInt (-(n : Int)) n 0 = 0 := by
  unfold clampInt
  omega

theorem execYbNetworkIdleTime_idles {s : State} {now : Nat} (tableOk : Bool) (ht : s.hub.yb.state.timed = true)
    (hm : s.hub.yb.minislot = none) : ∃ k : Hub, exec (.ybNetworkIdleTime tableOk now) s = .next { s with hub := k } ∧
      s.hub.yb.Idled s.hub.ybc tableOk k.yb := by
  have hclose : (s.hub.at_ now).ybCloseMinislot = s.hub.at_ now := Hub.ybCloseMinislot_none (h := s.hub.at_ now) hm
  have htimed : ¬ (!(s.hub.at_ now).ybCloseMinislot.yb.state.timed) = true := by
    rw [hclose, show (s.hub.at_ now).yb.state.timed = true from ht]
    decide
  refine ⟨_, next_modHub ((if_neg htimed).trans rfl), ?_⟩
  rw [hclose]
  extract_lets c dev k enough o both r rate oLim rLim oBad rBad clean h1 h2
  have e2 : h2.yb.clock = h1.yb.clock ∧ h2.yb.tableOk = h1.yb.tableOk ∧
      (s.hub.yb.state = .normal → oBad = true → h2.yb.state = .passive) := by
    have hstate : h1.yb.state = s.hub.yb.state := rfl
    unfold h2
    clear_value h1 oBad rBad
    split
    · rw [Hub.ybPassive_yb]
      exact ⟨rfl, rfl, fun _ _ => rfl⟩
    next hno =>
      have hpassive (st : YbState) : s.hub.yb.state = .normal → oBad = true → st = .passive :=
        fun hn ho => absurd ⟨hstate.trans hn, ho⟩ hno
      split
      · rw [Hub.ybPassive_yb]
        exact ⟨rfl, rfl, hpassive _⟩
      · exact ⟨rfl, rfl, hpassive _⟩
  have e1 : h1.yb.clock = ([], s.hub.yb.dev, if enough then 0 else s.hub.yb.lossRun + 1, if enough then min k 15 else 0,
      clampInt (-oLim) oLim o) := rfl
  have h1table : h1.yb.tableOk = s.hub.yb.tableOk := rfl
  obtain ⟨hclock, htable, hstate⟩ := e2
  clear_value h2 h1
  have e3 : (if tableOk then h2 else (h2.modYb (fun y => { y with tableOk := false })).guardianBlock 2 c.channels 0 0 .real).yb =
      { h2.yb with
        tableOk := h2.yb.tableOk && tableOk
        blocks := if tableOk then h2.yb.blocks else satAdd 32 h2.yb.blocks 1 } := by
    cases tableOk
    · exact (Hub.guardianBlock_yb ..).trans (by rw [Bool.and_false]; rfl)
    · rw [Bool.and_true]
      rfl
  rw [e3]
  have hdev := congrArg (fun p => p.1) (hclock.trans e1)
  have hprev := congrArg (fun p => p.2.1) (hclock.trans e1)
  have hloss := congrArg (fun p => p.2.2.1) (hclock.trans e1)
  have hused := congrArg (fun p => p.2.2.2.1) (hclock.trans e1)
  have hoff := congrArg (fun p => p.2.2.2.2) (hclock.trans e1)
  refine ⟨hdev, hprev, ?_, fun hk => ?_, fun hk => ?_⟩
  · exact congrArg (· && tableOk) (htable.trans h1table)
  · have henough : enough = true := decide_eq_true hk
    have ho : o = ftm (s.hub.yb.dev.map Prod.snd) := if_pos henough
    refine ⟨hloss.trans (if_pos henough), hused.trans (if_pos henough), hoff.trans (congrArg (clampInt (-oLim) oLim) ho), fun hn hlim => hstate hn ?_⟩
    refine decide_eq_true ?_
    rw [ho]
    exact Int.ofNat_lt.mpr hlim
  · have henough : ¬ enough = true := by
      rw [show enough = false from decide_eq_false (Nat.not_le.mpr hk)]
      decide
    have ho : o = 0 := if_neg henough
    refine ⟨hloss.trans (if_neg henough), hused.trans (if_neg henough), hoff.trans ?_⟩
    rw [ho]
    exact clampInt_zero _

/-- Settles O50, event by event: reports, wear and queues leave the engine (`Hub.engine13`) as the event wrote it. -/
theorem yeborEvents : Obligations.YeborEvents := by
  intro s now ha
  refine ⟨fun diff hs hl hd => ?_, fun diff hs hi hh => ?_, fun slot x hx ht hn => ?_, fun slot x null data hx hd hn hown hl => ?_,
    fun ch slot frame coding inSlot dev stamp ht hc hb => ?_, fun slot x activity hx ht hr => ?_, fun k j mismatch ht => ?_,
    fun tableOk ht hm => ?_, fun x hx hs hc ht => ?_, fun slot hheld hrel => ?_, fun channels slot ns => ?_⟩
  case refine_1 =>
    have hk := congrArg Hub.ybClaims (Hub.ybCycleEnd_normal (h := s.hub.at_ now) ha hs hl hd)
    have hka : (s.hub.at_ now).ybAged.ybClaims.inject.armed = [] := Hub.ybClaims_armed (h := (s.hub.at_ now).ybAged) ha
    obtain ⟨hkeep, -⟩ := (s.hub.at_ now).ybAged.ybClaims_unclaimed
    generalize (s.hub.at_ now).ybAged.ybClaims = k at hk hka hkeep
    have hks : k.yb.state = .normal := (congrArg Yebor.state hkeep :).trans hs
    have hex := execYbCycleStart_compares diff hs hk hks hka
    have e := k.ybBegun.ybCompared_yb diff
    generalize k.ybBegun.ybCompared diff = x at hex e
    have hrun : k.yb.disagreeRun = s.hub.yb.disagreeRun := (congrArg Yebor.disagreeRun hkeep :)
    have hblocks : k.yb.blocks = s.hub.yb.blocks := (congrArg Yebor.blocks hkeep :)
    have hcounter : k.yb.counter = s.hub.yb.counter := (congrArg Yebor.counter hkeep :)
    refine ⟨_, hex, rfl, (congrArg Yebor.state e).trans hks, (congrArg Yebor.counter e).trans (congrArg (fun n => (n + 1) % 64) hcounter),
      (congrArg Yebor.sent e :), (congrArg Yebor.driven e :), (congrArg Yebor.drivenLast e).trans (congrArg Yebor.driven hkeep :),
      (congrArg Yebor.agree e :), (congrArg Yebor.disagreeRun e).trans ?_, (congrArg Yebor.blocks e).trans ?_⟩
    · exact congrArg (fun n => if diff.natAbs ≤ 2000 then 0 else n + 1) hrun
    · exact congrArg (fun n => if diff.natAbs ≤ 2000 then n else satAdd 32 n 1) hblocks
  case refine_2 =>
    have hk := congrArg Hub.ybClaims (Hub.ybCycleEnd_coldstart (h := s.hub.at_ now) hs hi hh)
    obtain ⟨hkeep, -⟩ := (s.hub.at_ now).ybAged.ybNormal.ybClaims_unclaimed
    have hks : ((s.hub.at_ now).ybAged.ybNormal.ybClaims).yb.state = .normal := (congrArg Yebor.state hkeep :)
    exact ⟨_, execYbCycleStart_takes diff hs hk hks, hks⟩
  case refine_3 =>
    refine next_modHub ?_
    rw [hx]
    exact if_pos (by simp [ht, hn])
  case refine_4 =>
    have hex := fun m => execYbStaticSlotSend_sends (now := now) ha hx hd hn hown hl m
    refine ⟨⟨_, hex none, rfl, rfl, rfl⟩, fun ch pos hs => ?_, fun ch pos hs => ?_⟩
    · have e := Hub.ybReadback_normal (h := (s.hub.at_ now).ybSlotSent slot x (null, data)) hs ch pos
      exact ⟨_, hex (some (ch, pos)), (congrArg (fun t : Hub => t.yb.mismatches) e :), (congrArg (fun t : Hub => t.yb.state) e).trans hs⟩
    · exact ⟨_, hex (some (ch, pos)), Hub.ybReadback_coldstart (h := (s.hub.at_ now).ybSlotSent slot x (null, data)) hs ch pos⟩
  case refine_5 =>
    obtain ⟨k, hex, e⟩ := execYbFrameReceived_copies (now := now) (slot := slot) (frame := frame) (coding := coding) (inSlot := inSlot)
      (dev := dev) (stamp := stamp) ha ht hc hb
    refine ⟨_, hex, rfl, (congrArg Yebor.state e).trans (Yebor.copied_state ..), fun hgood => ?_, fun hbad => ?_⟩
    · rw [Yebor.copied_good hgood] at e
      refine ⟨(congrArg Yebor.copies e).trans ?_, (congrArg Yebor.errors e :)⟩
      exact vmodN_fin_const s.hub.yb.copies ch _
    · rw [Yebor.copied_bad hbad] at e
      refine ⟨(congrArg Yebor.copies e :), ?_, ?_⟩
      · refine (congrArg (fun y : Yebor => y.errors[ch]) e).trans ?_
        exact vmodN_fin_self s.hub.yb.errors ch _
      · refine (congrArg (fun y : Yebor => y.violations[ch]) e).trans ?_
        by_cases hw : s.hub.ybc.windowNs < dev.natAbs
        · rw [decide_eq_true hw, if_pos hw]
          exact vmodN_fin_self s.hub.yb.violations ch (satAdd 16 · 1)
        · rw [decide_eq_false hw, if_neg hw]
          rfl
  case refine_6 =>
    obtain ⟨k, hex, hcopies, hbuffers⟩ := execYbSlotEnd_buffers (now := now) activity hx ht hr
    refine ⟨_, hex, rfl, hcopies, ?_⟩
    exact (congrArg (vgetN · x.rxBuffer {}) hbuffers).trans (vgetN_vmodN_self _ hr _ _)
  case refine_7 =>
    have hclosed : (s.hub.at_ now).ybCloseMinislot.yb.state = s.hub.yb.state := (s.hub.at_ now).ybCloseMinislot_state
    have hex : exec (.ybMinislot k j mismatch now) s = .next { s with
        hub := ((s.hub.at_ now).ybCloseMinislot.modYb (fun y => { y with minislot := some k })).ybDynSend k j mismatch } :=
      next_modHub (if_neg (by rw [hclosed, ht]; decide))
    refine ⟨_, hex, rfl, Hub.ybDynSend_minislot .., fun e hs hm hd ho hk hc he hf => ?_⟩
    have hnone : (s.hub.at_ now).ybCloseMinislot = s.hub.at_ now := Hub.ybCloseMinislot_none (h := s.hub.at_ now) hm
    have hsend := Hub.ybDynSend_entry (h := (s.hub.at_ now).modYb (fun y => { y with minislot := some k })) mismatch hs hd ho hk hc he hf
    rw [hnone]
    exact hsend
  case refine_8 =>
    obtain ⟨k, hex, hidled⟩ := execYbNetworkIdleTime_idles (now := now) tableOk ht hm
    exact ⟨_, hex, rfl, hidled⟩
  case refine_9 =>
    have hex : exec (.ybListenTimeout now) s = .next { s with
        hub := ((s.hub.at_ now).ybAdopt .coldstart 0 ((s.hub.at_ now).ybAction x.slot) (s.hub.at_ now).tb0Now).modYb
          (fun y => { y with roleOk := (s.hub.at_ now).roleCode != 2 }) } := by
      refine next_modHub ?_
      dsimp only
      rw [show (s.hub.at_ now).ybSyncSlot = some x from hx]
      exact if_pos ⟨hs, hc, ht⟩
    exact ⟨_, hex, rfl, rfl, rfl, rfl⟩
  case refine_10 =>
    have hex : exec (.claimRelease slot) s = .next { s with hub := s.hub.modYb (fun y => { y with
        held := y.held.filter (fun p => p.1 != slot), silent := y.silent.filter (fun p => p.1 != slot)
        claims := vmap (fun c => if c = slot then 0 else c) y.claims }) } :=
      next_modHub (if_pos (by rw [hheld, decide_eq_true hrel]; rfl))
    exact ⟨_, hex, rfl, rfl, fun i => vmap_getElem ..⟩
  case refine_11 =>
    exact ⟨_, rfl, rfl, congrArg Yebor.blocks ((s.hub.at_ now).guardianBlock_yb ..)⟩

end Sys2Proof.Machine
end

section
/-! Towards O43: what reports leave in the log, and the measurement chain's events (chapter 07). -/
namespace Sys2Proof.Machine

/-! ### A report keeps an active fault in the log while the log has room (R497) -/

/-- A fault is active and the log holds at most `b` records. -/
def Hub.Logged (n : FaultName) (key : List Nat) (b : Nat) (h : Hub) : Prop :=
  h.faultActive n key = true ∧ h.faults.log.length ≤ b

section logged
variable {n m : FaultName} {key k : List Nat} {b : Nat} {h : Hub}

theorem Hub.raise_log_length (hl : h.faults.log.length ≤ b) (lanes : Nat) (d : Detail) (o : Origin) :
    (h.raise n key lanes d o).faults.log.length ≤ b + 1 := by
  rw [Hub.raise_faults, Hub.record]
  split
  · exact Nat.le_succ_of_le (Nat.le_trans (Nat.le_of_eq (updateFirst_length _ _ h.faults.log)) hl)
  · rw [Hub.newRecord_faults]
    simp only [List.length_take, List.length_cons]
    omega

theorem Hub.raise_logged (hl : h.Logged n key b) (hb : b < 8192) (lanes : Nat) (d : Detail) (o : Origin) :
    (h.raise m k lanes d o).Logged n key (b + 1) := by
  obtain ⟨hactive, hlen⟩ := hl
  refine ⟨?_, Hub.raise_log_length hlen ..⟩
  unfold Hub.faultActive at hactive ⊢
  rw [Hub.raise_faults, Hub.record]
  split
  · refine (any_updateFirst _ _ _ ?_ h.faults.log).trans hactive
    exact fun _ => rfl
  · rw [Hub.newRecord_faults]
    dsimp only
    rw [List.take_of_length_le (Nat.succ_le_of_lt (Nat.lt_of_le_of_lt hlen hb)), List.any_cons, hactive, Bool.or_true]

/-- A lane's report leaves its fault active. -/
theorem Hub.laneRaise_logged (hn : n.hasActive = true) (hl : h.faults.log.length ≤ b) (l : LaneId) (off : Nat) (d : Detail) (o : Origin) :
    (h.laneRaise n key l off d o).Logged n key (b + 1) := by
  have hraise : (h.raise n key (setBit 0 l.val) d o).Logged n key (b + 1) :=
    ⟨h.raise_active key _ d o hn, Hub.raise_log_length hl ..⟩
  unfold Hub.laneRaise
  extract_lets mask p join
  split
  next r hr =>
    split
    · unfold Hub.Logged Hub.faultActive
      rw [Hub.react_faults]
      refine ⟨(any_updateFirst p (fun r => r.name == n && r.key == key && r.active) join (fun _ => rfl) h.faults.log).trans ?_,
        Nat.le_succ_of_le (Nat.le_trans (Nat.le_of_eq (updateFirst_length p join h.faults.log)) hl)⟩
      have hp : p r = true := List.find?_some hr
      simp only [p, FaultRec.same, Bool.and_eq_true, beq_iff_eq] at hp
      obtain ⟨⟨⟨hname, hkey⟩, -⟩, hactive⟩ := hp
      exact List.any_eq_true.mpr ⟨r, List.mem_of_find?_eq_some hr, by simp [hname, hkey, hactive]⟩
    · exact hraise
  · exact hraise

end logged

/-! ### Comparing a channel with its thresholds (R205 to R208) -/

section compare
variable {n : FaultName} {key : List Nat} {b : Nat}

theorem Hub.latch_logged {h : Hub} (hl : h.Logged n key b) (hb : b < 8192) (i : Nat) (x : SdIn) (o : Origin) :
    (h.latch i x o).Logged n key (b + 1) := by
  unfold Hub.latch
  extract_lets pairs _ h1
  exact Hub.raise_logged (h := h1) hl hb ..

theorem State.evalSource_lanes (i : Nat) (o : Origin) (s : State) : (s.evalSource i o).lanes = s.lanes := by
  unfold State.evalSource
  extract_lets a s1
  split <;> rfl

theorem State.evalSource_logged {s : State} (hl : s.hub.Logged n key b) (hb : b < 8192) (i : Nat) (o : Origin) :
    (s.evalSource i o).hub.Logged n key (b + 1) := by
  unfold State.evalSource
  extract_lets a s1
  split
  · exact Hub.latch_logged (h := s1.hub) hl hb ..
  · exact ⟨hl.1, Nat.le_succ_of_le hl.2⟩

/-- A comparison writes no lane and at most four records. -/
theorem State.compareChannel_frame (l : LaneId) (k : Nat) (s : State) : (s.compareChannel l k).lanes = s.lanes ∧
    ∀ {n : FaultName} {key : List Nat} {b : Nat}, s.hub.Logged n key b → b + 4 ≤ 8192 →
      (s.compareChannel l k).hub.Logged n key (b + 4) := by
  unfold State.compareChannel
  extract_lets c x side
  have hside (t : State) (hi : Bool) : (side t hi).lanes = t.lanes ∧ ∀ {n : FaultName} {key : List Nat} {b : Nat},
      t.hub.Logged n key b → b + 2 ≤ 8192 → (side t hi).hub.Logged n key (b + 2) := by
    unfold side
    extract_lets i real arm forced t1 t2 t3
    have h2 : t2.lanes = t.lanes ∧ ∀ {n : FaultName} {key : List Nat} {b : Nat},
        t.hub.Logged n key b → b + 2 ≤ 8192 → t2.hub.Logged n key (b + 1) := by
      unfold t2
      clear_value arm
      split
      · split
        · exact ⟨rfl, fun hl hb => Hub.raise_logged (h := t1.hub) hl (by omega) ..⟩
        · exact ⟨rfl, fun hl hb => ⟨hl.1, Nat.le_succ_of_le hl.2⟩⟩
      · exact ⟨rfl, fun hl hb => ⟨hl.1, Nat.le_succ_of_le hl.2⟩⟩
    clear_value t2
    have h3 : t3.lanes = t.lanes ∧ ∀ {n : FaultName} {key : List Nat} {b : Nat},
        t.hub.Logged n key b → b + 2 ≤ 8192 → t3.hub.Logged n key (b + 2) :=
      ⟨(State.evalSource_lanes ..).trans h2.1, fun hl hb => State.evalSource_logged (h2.2 hl hb) (by omega) ..⟩
    clear_value t3 arm
    split
    · exact h3
    · exact h3
  exact ⟨(hside ..).1.trans (hside s false).1, fun hl hb => (hside ..).2 ((hside s false).2 hl (by omega)) (by omega)⟩

theorem State.compareGroup_frame (l : LaneId) (g : Nat) (s : State) : (s.compareGroup l g).lanes = s.lanes ∧
    ∀ {n : FaultName} {key : List Nat} {b : Nat}, s.hub.Logged n key b → b + 64 ≤ 8192 →
      (s.compareGroup l g).hub.Logged n key (b + 64) := by
  have hfold (ks : List Nat) (t : State) : (ks.foldl (fun (s : State) (k : Nat) => s.compareChannel l k) t).lanes = t.lanes ∧
      ∀ {n : FaultName} {key : List Nat} {b : Nat}, t.hub.Logged n key b → b + 4 * ks.length ≤ 8192 →
        (ks.foldl (fun (s : State) (k : Nat) => s.compareChannel l k) t).hub.Logged n key (b + 4 * ks.length) := by
    induction ks generalizing t with
    | nil => exact ⟨rfl, fun hl _ => hl⟩
    | cons k ks ih =>
      have hk := t.compareChannel_frame l k
      refine ⟨(ih _).1.trans hk.1, fun {n key b} hl hb => ?_⟩
      rw [List.length_cons] at hb ⊢
      have := (ih (t.compareChannel l k)).2 (hk.2 hl (by omega)) (by omega)
      rwa [show b + 4 * (ks.length + 1) = b + 4 + 4 * ks.length by omega]
  have hlen : (s.hub.cfg.groupChannels g).length ≤ 16 := Nat.le_trans (List.length_filter_le ..) (by simp)
  unfold State.compareGroup
  refine ⟨(hfold ..).1, fun hl hb => ?_⟩
  obtain ⟨hactive, hlog⟩ := (hfold (s.hub.cfg.groupChannels g) s).2 hl (by omega)
  exact ⟨hactive, by omega⟩

end compare

/-! ### The coarse path and the modulators' clocks (R172, R180, R185) -/

/-- A channel hit in a lane where the list names it. -/
theorem vmapIdx_hit {α : Type} {n : Nat} (hit : List Nat) (f : α → α) (v : Vector α n) {k : Fin n} (hk : k.val ∈ hit) :
    (vmapIdx (fun j x => if hit.contains j then f x else x) v)[k] = f v[k] := by
  refine (vmapIdx_getElem _ v k.val k.isLt).trans (if_pos ?_)
  exact List.contains_iff_mem.mpr hk

/-- A lane's report of a lost clock marks the group's channels and stays in a log with room. -/
theorem State.clockLoss_lost (l : LaneId) (g : Nat) (s : State) :
    (∀ k : Fin 16, k.val ∈ s.hub.cfg.groupChannels g → ((s.clockLoss l g .real).lane l).sd[k].clockLoss = true) ∧
    (s.hub.faults.log.length ≤ 8000 → (s.clockLoss l g .real).hub.faultActive .sdClockLoss [g] = true) := by
  unfold State.clockLoss
  extract_lets det s1 hit s2
  rw [if_neg (by decide)]
  have hcfg : hit = s.hub.cfg.groupChannels g :=
    (congrArg (fun h : Hub => h.cfg.groupChannels g) (Hub.laneRaise_quiet s.hub (n := .sdClockLoss) (o := .real) (.inl (by decide)) [g] l
      1 det) :)
  obtain ⟨hlanes, hlogged⟩ := s2.compareGroup_frame l g
  refine ⟨fun k hk => ?_, fun hlog => (hlogged (Hub.laneRaise_logged (h := s.hub) rfl hlog l 1 det .real) (by decide)).1⟩
  rw [State.lane_of_lanes hlanes, State.modLane_lane]
  exact congrArg SdIn.clockLoss (vmapIdx_hit hit (fun c : SdIn => { c with clockLoss := true }) _ (hcfg ▸ hk))

theorem State.dataStuck_stuck (l : LaneId) (k : Fin 16) (level : Bool) (s : State) :
    ((s.dataStuck l k level .real).lane l).sd[k].stuck = true ∧
    (s.hub.faults.log.length ≤ 8000 → (s.dataStuck l k level .real).hub.faultActive .sdDataStuck [k.val] = true) := by
  unfold State.dataStuck
  extract_lets s1
  rw [if_neg (by decide)]
  obtain ⟨hlanes, hlogged⟩ := (s1.modLane l (fun x => { x with sd := vmodN x.sd k (fun c => { c with stuck := true }) })).compareChannel_frame l k
  refine ⟨?_, fun hlog => (hlogged (Hub.laneRaise_logged (h := s.hub) rfl hlog l 1 [(1, k.val), (1, setBit 0 l.val), (1, b2n level)] .real)
    (by decide)).1⟩
  rw [State.lane_of_lanes hlanes, State.modLane_lane]
  exact congrArg SdIn.stuck (vmodN_fin_self (s1.lane l).sd k (fun c => { c with stuck := true }))

section coarse
variable {s : State} {lane : LaneId} {now : Nat} (hrun : s.hub.time.running = true) (hp : (s.hub.laneState lane).powered = true)
include hrun hp

theorem execCoarseDecimation_takes {k : Fin 16} {sum : Nat} (he : (s.hub.cfg.sdOf k).enabled = true)
    (hloss : (s.lane lane).sd[k].clockLoss = false) (hstuck : (s.lane lane).sd[k].stuck = false) :
    ∃ t, exec (.coarseDecimation lane k sum now) s = .next t ∧
      (t.lane lane).sd[k].path = min 32767 ((((min sum 256 : Nat) : Int) - 128) * 256) ∧
      (t.lane lane).sd[k].age = min 2 ((s.lane lane).sd[k].age + 1) ∧
      (∀ j, j ≠ k → (t.lane lane).sd[j] = (s.lane lane).sd[j]) := by
  have hgo : ¬ (!s.hub.time.running || !(s.powered lane) || !(s.hub.cfg.sdOf k).enabled) = true := by
    rw [hrun, show s.powered lane = true from hp, he]
    decide
  refine ⟨_, next_of_neg hgo, ?_⟩
  dsimp only
  rw [State.lane_of_lanes (State.compareChannel_frame ..).1, State.modLane_lane]
  dsimp only
  rw [vmod_getElem_self]
  have hfree : ¬ (((s.modHub (Hub.at_ now)).lane lane).sd[k].clockLoss || ((s.modHub (Hub.at_ now)).lane lane).sd[k].stuck) = true := by
    rw [show ((s.modHub (Hub.at_ now)).lane lane).sd[k] = (s.lane lane).sd[k] from rfl, hloss, hstuck]
    decide
  rw [if_neg hfree]
  exact ⟨rfl, rfl, fun j hj => vmod_getElem_ne _ _ hj⟩

theorem execSdClockLoss_loses {g : Fin 2} (hg : s.hub.cfg.groupChannels g ≠ []) : ∃ t, exec (.sdClockLoss lane g now) s = .next t ∧
    (∀ k : Fin 16, k.val ∈ s.hub.cfg.groupChannels g → (t.lane lane).sd[k].clockLoss = true) ∧
    (s.hub.faults.log.length < 8000 → t.hub.faultActive .sdClockLoss [g.val] = true) := by
  have hgo : (s.hub.time.running && s.powered lane && !(s.hub.cfg.groupChannels g).isEmpty) = true := by
    rw [hrun, show s.powered lane = true from hp]
    simpa using hg
  obtain ⟨hlost, hactive⟩ := (s.modHub (Hub.at_ now)).clockLoss_lost lane g
  exact ⟨_, next_of_pos hgo, hlost, fun hlog => hactive (Nat.le_of_lt hlog)⟩

theorem execSdDataStuck_sticks {k : Fin 16} (level : Bool) (he : (s.hub.cfg.sdOf k).enabled = true) :
    ∃ t, exec (.sdDataStuck lane k level now) s = .next t ∧ (t.lane lane).sd[k].stuck = true ∧
      (s.hub.faults.log.length < 8000 → t.hub.faultActive .sdDataStuck [k.val] = true) := by
  have hgo : (s.hub.time.running && s.powered lane && (s.hub.cfg.sdOf k).enabled) = true := by
    rw [hrun, show s.powered lane = true from hp, he]
    rfl
  obtain ⟨hstuck, hactive⟩ := (s.modHub (Hub.at_ now)).dataStuck_stuck lane k level
  exact ⟨_, next_of_pos hgo, hstuck, fun hlog => hactive (Nat.le_of_lt hlog)⟩

theorem execModulatorRestart_restarts (g : Fin 2) : ∃ t, exec (.modulatorRestart lane g now) s = .next t ∧
    ∀ k : Fin 16, k.val ∈ s.hub.cfg.groupChannels g → (t.lane lane).sd[k].clockLoss = false ∧ (t.lane lane).sd[k].age = 0 ∧
      (t.lane lane).sd[k].eventAt = some (s.hub.at_ now).time.now := by
  have hgo : ¬ (!s.hub.time.running || !(s.powered lane)) = true := by
    rw [hrun, show s.powered lane = true from hp]
    decide
  refine ⟨_, next_of_neg hgo, fun k hk => ?_⟩
  extract_lets s1 hit at_ s2 still s3
  have h3 : s3.lanes = s2.lanes := by
    unfold s3
    split <;> rfl
  have hk' : (s2.lane lane).sd[k] = { (s1.lane lane).sd[k] with clockLoss := false, age := 0, eventAt := some at_ } := by
    unfold s2
    rw [State.modLane_lane]
    exact vmapIdx_hit hit (fun c : SdIn => { c with clockLoss := false, age := 0, eventAt := some at_ }) _ hk
  rw [State.lane_of_lanes (State.compareGroup_frame ..).1, State.lane_of_lanes h3, hk']
  exact ⟨rfl, rfl, rfl⟩

end coarse

/-! ### Presets, auto-zero and calibration (R182, R191, R194, R196) -/

section presets
variable {s : State} {lane : LaneId}

theorem Hub.setChannel_fin (k : Fin 16) (preset : Nat) (skew : Bool) (h : Hub) :
    (h.setChannel k preset skew).meas.preset = h.meas.preset.set k preset ∧
    (h.setChannel k preset skew).meas.skew = h.meas.skew.set k skew :=
  ⟨vmodN_fin_const h.meas.preset k preset, vmodN_fin_const h.meas.skew k skew⟩

theorem execPresetSwitch_switches (hrun : s.hub.time.running = true) (hp : (s.hub.laneState lane).powered = true) {w : Switch}
    (ht : w.tick = (s.lane lane).tick) (hw : s.hub.meas.switches = [w]) :
    exec (.presetSwitch lane) s = .next (s.modLane lane (Lane.switch s.hub.time.now w)) := by
  refine (next_of_pos ?_).trans ?_
  · rw [hrun, show s.powered lane = true from hp]
    rfl
  · rw [hw, List.filter_cons_of_pos (by simpa using ht)]
    rfl

theorem Lane.switch_channel (now : Nat) {w : Switch} {k : Fin 16} (hk : w.channel = k.val) (l : Lane) : (l.switch now w).sd[k] =
    { l.sd[k] with
      preset := w.preset, skew := w.skew, eventAt := if l.sd[k].preset = w.preset then l.sd[k].eventAt else some now } := by
  unfold Lane.switch
  dsimp only
  rw [hk]
  exact vmodN_fin_self ..

end presets

section autozero
variable {s : State} {lane : LaneId} (hp : (s.hub.laneState lane).powered = true)
include hp

/-- A change of every powered lane is one of each. -/
theorem State.forPowered_modLane (g : Lane → Lane) : (s.forPowered (fun l => State.modLane l g)).lane lane = g (s.lane lane) ∧
    (s.forPowered (fun l => State.modLane l g)).hub = s.hub := by
  unfold State.forPowered
  refine ⟨?_, foldl_view State.hub (f := fun t l => State.modLane l g t) (fun _ _ => rfl) ..⟩
  exact foldl_view_once (fun t : State => t.lane lane) g (P := fun _ => True) (f := fun t l => State.modLane l g t) (a := lane)
    (fun _ _ _ => trivial) (fun t x _ hx => State.modLane_lane_ne t x g hx.symm) (fun t _ => State.modLane_lane t lane g)
    (allLanes_nodup.filter _) (List.mem_filter.mpr ⟨mem_allLanes lane, hp⟩) trivial

theorem execAutozeroRequest_starts (hrun : s.hub.time.running = true) {k : Fin 16} (he : (s.hub.cfg.sdOf k).enabled = true)
    (hpairs : (s.hub.cfg.sdOf k).azPairs ≠ 0) (hmode : (s.hub.cfg.sdOf k).azMode = 1) (hst : ((s.lane lane).mem.chan k).azState = 0) :
    ∃ t, exec (.autozeroRequest k) s = .next t ∧ t.hub = s.hub ∧
      (t.lane lane).mem = (s.lane lane).mem.setAz k 1 ((s.lane lane).mem.chan k).azResult ((s.lane lane).mem.chan k).azOffset := by
  have hgo : ¬ (!(s.hub.cfg.sdOf k).enabled || (s.hub.cfg.sdOf k).azPairs == 0 || !s.hub.time.running) = true := by
    rw [he, beq_false_of_ne hpairs, hrun]
    decide
  obtain ⟨hlane, hhub⟩ := State.forPowered_modLane hp (Lane.azStart k)
  refine ⟨_, (next_of_neg hgo).trans (next_of_pos hmode), hhub, ?_⟩
  rw [hlane]
  exact congrArg Lane.mem (if_pos hst)

theorem execAutozeroEnd_rounds {k : Fin 16} (hst : ((s.lane lane).mem.chan k).azState = 2) (hleft : (s.lane lane).az[k].left = 0) :
    let v := divEven (s.lane lane).az[k].sum (s.hub.cfg.sdOf k).azTicks
    ∃ t, exec (.autozeroEnd lane k) s = .next t ∧ t.hub = s.hub ∧
      (v.natAbs ≤ (s.hub.cfg.sdOf k).azLimit → (t.lane lane).mem = (s.lane lane).mem.setAz k 0 1 v) ∧
      ((s.hub.cfg.sdOf k).azLimit < v.natAbs →
        (t.lane lane).mem = (s.lane lane).mem.setAz k 0 3 ((s.lane lane).mem.chan k).azOffset) := by
  intro v
  refine ⟨_, next_of_pos ⟨hst, hleft, hp⟩, rfl, fun hv => ?_, fun hv => ?_⟩
  all_goals
    refine (congrArg Lane.mem (State.modLane_lane ..)).trans ?_
    dsimp only
  · have hok : decide ((divEven (s.lane lane).az[k].sum (s.hub.cfg.sdOf k).azTicks).natAbs ≤ (s.hub.cfg.sdOf k).azLimit) = true :=
      decide_eq_true hv
    rw [hok]
    rfl
  · have hbad : decide ((divEven (s.lane lane).az[k].sum (s.hub.cfg.sdOf k).azTicks).natAbs ≤ (s.hub.cfg.sdOf k).azLimit) = false :=
      decide_eq_false (Nat.not_le.mpr hv)
    rw [hbad]
    rfl

end autozero

theorem Hub.finish_meas (which : Exec → Bool) (st : Status) (params : Exec → Bytes) (h : Hub) : (h.finish which st params).meas = h.meas :=
  (congrArg Hub.meas (h.finish_unreplied which st params) :)

/-- The point that an average of a channel stores (R196). -/
def Averaging.point (h : Hub) (a : Averaging) : CalPoint :=
  { raw := divEven a.sum a.ticks, physical := a.physical, temperature := h.power.hubTemp, load := a.load,
    spread := (a.high - a.low).toNat }

theorem execCalibrationAveragingEnd_ends {s : State} {a : Averaging} (ha : s.hub.meas.avg = some a) (hleft : a.left = 0) :
    ∃ t, exec .calibrationAveragingEnd s = .next t ∧ t.lanes = s.lanes ∧ t.hub.meas = { s.hub.meas with
      avg := none
      pending := if a.bad then s.hub.meas.pending
        else vmodN s.hub.meas.pending a.channel (fun c => modifyAt (fun _ => some (a.point s.hub)) c a.index) } := by
  suffices ∃ t, execCalibrationAveragingEnd s = .next t ∧ t.lanes = s.lanes ∧ t.hub.meas = { s.hub.meas with
      avg := none
      pending := if a.bad then s.hub.meas.pending
        else vmodN s.hub.meas.pending a.channel (fun c => modifyAt (fun _ => some (a.point s.hub)) c a.index) } from this
  unfold execCalibrationAveragingEnd
  rw [ha]
  refine ⟨_, next_of_neg (Classical.not_not.mpr hleft), rfl, ?_⟩
  cases a.bad with
  | true => exact (Hub.finish_meas ..).trans rfl
  | false => exact (Hub.finish_meas ..).trans rfl

end Sys2Proof.Machine
end

section
/-! Settles O43. The PWM units and the trip path (chapter 08). -/
namespace Sys2Proof.Machine

/-! ### Edges (R202, R203) -/

@[simp] theorem PwmOut.setSide_high (b : Bool) (at_ : Nat) (o : PwmOut) : (o.setSide b at_).high = o.high := by
  unfold PwmOut.setSide
  split <;> rfl

/-- With dead time between them, an output that is low stays low while the other is high. -/
theorem stepOut_low_of_other_high {c : PairCfg} {t p cmp at_ : Nat} {secondary : Bool} {x o : PwmOut} (hx : x.high = true)
    (ho : o.high = false) : (stepOut c t p cmp at_ secondary (some x) o).1.high = false := by
  unfold stepOut
  extract_lets r o1 d otherOk short
  have h1 : o1.high = false := (PwmOut.setSide_high ..).trans ho
  have hother : otherOk = false := by
    unfold otherOk
    dsimp only
    rw [hx]
    rfl
  clear_value o1 otherOk
  rw [if_neg (by rw [h1]; decide), if_neg (by rw [hother, Bool.and_false]; decide)]
  exact h1

/-- The two outputs are not both high. -/
def exclusive (a b : PwmOut) : Prop := ¬ (a.high = true ∧ b.high = true)

section steps
variable {h : Hub} {i at_ : Nat}

theorem Hub.pairStep_idle (hr : bit h.pwm.running i = false) : h.pairStep i at_ = h := by
  unfold Hub.pairStep
  rw [if_pos (by rw [hr]; rfl)]

/-- What a step of a pair leaves of the PWM units: all but the outputs and their counts of adjusted pulses. -/
def Pwm.steady (w : Pwm) : Pwm := { w with outs := Vector.replicate 12 {}, pulseAdjust := Vector.replicate 12 0 }

theorem Hub.pairStep_steady (i at_ : Nat) (h : Hub) : (h.pairStep i at_).pwm.steady = h.pwm.steady := by
  unfold Hub.pairStep
  split
  · rfl
  · rfl

theorem vgetN_put_pair {w : Vector PwmOut 12} (hi : i < 6) (a b : PwmOut) :
    vgetN (vmodN (vmodN w (2 * i) (fun _ => a)) (2 * i + 1) (fun _ => b)) (2 * i) {} = a ∧
    vgetN (vmodN (vmodN w (2 * i) (fun _ => a)) (2 * i + 1) (fun _ => b)) (2 * i + 1) {} = b := by
  refine ⟨?_, vgetN_vmodN_self _ (by omega) ..⟩
  rw [vgetN_vmodN_ne _ (by omega), vgetN_vmodN_self _ (by omega)]

/-- The falling edge of one output of a COMPLEMENTARY pair comes before the rising edge of the other. -/
theorem Hub.pairStep_exclusive (hi : i < 6) (hm : (h.pairCfg i).mode = 0)
    (hx : exclusive (vgetN h.pwm.outs (2 * i) {}) (vgetN h.pwm.outs (2 * i + 1) {})) :
    exclusive (vgetN (h.pairStep i at_).pwm.outs (2 * i) {}) (vgetN (h.pairStep i at_).pwm.outs (2 * i + 1) {}) := by
  unfold Hub.pairStep
  extract_lets c t p a b comp other stepA stepB
  split
  · exact hx
  · have hcomp : comp = true := beq_iff_eq.mpr hm
    have hother (x : PwmOut) : other x = some x := if_pos hcomp
    have hq (q : (PwmOut × Nat) × PwmOut × Nat) (e : (if b.high then (stepA (stepB a).1, stepB a) else (stepA b, stepB (stepA b).1)) = q) :
        exclusive q.1.1 q.2.1 := by
      rw [← e]
      split
      next hb =>
        have ha : a.high = false := eq_false_of_ne_true (fun ha => hx ⟨ha, hb⟩)
        rintro ⟨hra, hrb⟩
        refine absurd hra (ne_true_of_eq_false ?_)
        unfold stepA
        rw [hother]
        exact stepOut_low_of_other_high hrb ha
      next hb =>
        rintro ⟨hra, hrb⟩
        refine absurd hrb (ne_true_of_eq_false ?_)
        unfold stepB
        rw [hother]
        exact stepOut_low_of_other_high hra (eq_false_of_ne_true hb)
    generalize hgen : (if b.high then (stepA (stepB a).1, stepB a) else (stepA b, stepB (stepA b).1)) = q at hq
    obtain ⟨ra, rb⟩ := q
    obtain ⟨hra, hrb⟩ := vgetN_put_pair (w := h.pwm.outs) hi ra.1 rb.1
    dsimp only
    rw [hra, hrb]
    exact hq _ rfl

end steps

/-! ### Update points and control (R201, R204, R212) -/

/-- The hub with a pair's pending values active (R201). -/
def Hub.pairUpdated (i at_ : Nat) (h : Hub) : Hub :=
  let h := h.settlePending at_
  let take := fun (v : Vector Nat 12) k => vmodN v k (fun _ => vgetN h.pwm.pending k 0)
  { h with pwm := { h.pwm with active := take (take h.pwm.active (2 * i)) (2 * i + 1) } }

theorem Hub.pairUpdated_active {h : Hub} {i at_ : Nat} (hi : i < 6) {k : Nat} (hk : k = 2 * i ∨ k = 2 * i + 1) :
    vgetN (h.pairUpdated i at_).pwm.active k 0 = vgetN (if h.pwm.pendAt ≤ at_ then h.pwm.compare else h.pwm.pending) k 0 := by
  have hpend : (h.settlePending at_).pwm.pending = if h.pwm.pendAt ≤ at_ then h.pwm.compare else h.pwm.pending := by
    unfold Hub.settlePending
    split <;> rfl
  rw [← hpend]
  unfold Hub.pairUpdated
  dsimp only
  obtain rfl | rfl := hk
  · rw [vgetN_vmodN_ne _ (by omega), vgetN_vmodN_self _ (by omega)]
  · rw [vgetN_vmodN_self _ (by omega)]

/-- An update changes nothing of what stops pairs. -/
theorem Hub.pairUpdated_stops (i at_ : Nat) (h : Hub) : (h.pairUpdated i at_).blockedPairs ||| (h.pairUpdated i at_).trippedPairs =
    h.blockedPairs ||| h.trippedPairs := by
  unfold Hub.pairUpdated Hub.settlePending
  split <;> rfl

/-- A pair that is neither blocked nor tripped runs from a carrier start on (R204). -/
def Hub.pairResumed (i at_ : Nat) (h : Hub) : Hub :=
  let rest := fun (k : Nat) (o : PwmOut) => if h.tripLevel k = 1 then { o with fellAt := at_ } else o
  if !bit (h.blockedPairs ||| h.trippedPairs) i && !bit h.pwm.running i then
    { h with pwm := { h.pwm with
      running := setBit h.pwm.running i, moved := setBit h.pwm.moved i
      outs := vmodN (vmodN h.pwm.outs (2 * i) (rest (2 * i))) (2 * i + 1) (rest (2 * i + 1)) } }
  else h

theorem Hub.pairResumed_active (i at_ : Nat) (h : Hub) : (h.pairResumed i at_).pwm.active = h.pwm.active := by
  unfold Hub.pairResumed
  extract_lets rest
  split <;> rfl

theorem Hub.pairResumed_running {h : Hub} {i at_ : Nat} (hf : bit (h.blockedPairs ||| h.trippedPairs) i = false) :
    bit (h.pairResumed i at_).pwm.running i = true := by
  unfold Hub.pairResumed
  extract_lets rest
  split
  · rw [bit_setBit, decide_eq_true rfl, Bool.or_true]
  next hno => simpa [hf] using hno

theorem execCarrierUpdatePoint_updates {s : State} {pair : Fin 6} {at_ : Nat} (hrun : s.hub.time.running = true)
    (ht : 4 * s.hub.time.tickAt ≤ at_) (hm : (s.hub.pairCfg pair).mode ≠ 2) (hc : s.hub.carrierAt pair at_ = 0) :
    exec (.carrierUpdatePoint pair false at_) s = .next { s with
      hub := ((((s.hub.at_ (at_ / 4)).pairUpdated pair at_).pairResumed pair at_).pairStep pair at_) } := by
  refine (next_of_neg ?_).trans rfl
  rw [hrun, hc, beq_false_of_ne hm, decide_eq_false (Nat.not_lt.mpr ht)]
  simp

theorem bit_ofBits (l : List Bool) (i : Nat) : bit (ofBits l) i = l.getD i false := by
  induction l generalizing i with
  | nil => exact bit_zero i
  | cons b bs ih =>
    cases i with
    | zero => cases b <;> simp [bit, ofBits, b2n]
    | succ i =>
      have hhalf : (b2n b + 2 * ofBits bs) / 2 = ofBits bs := by
        have : b2n b < 2 := by cases b <;> decide
        omega
      rw [bit, ofBits, Nat.testBit_succ, hhalf, List.getD_cons_succ]
      exact ih i

theorem Hub.pwmHold_stops {h : Hub} {i : Nat} (hi : i < 6) (hs : bit (h.blockedPairs ||| h.trippedPairs) i = true) :
    bit h.pwmHold.pwm.running i = false ∧ (vgetN h.pwmHold.pwm.outs (2 * i) {}).high = false ∧
      (vgetN h.pwmHold.pwm.outs (2 * i + 1) {}).high = false := by
  unfold Hub.pwmHold
  extract_lets stop fall
  have hfall (k : Nat) (hk : k / 2 = i) (h12 : k < 12) : (vgetN (vmapIdx fall h.pwm.outs) k {}).high = false := by
    rw [vgetN_of_lt _ _ h12, vmapIdx_getElem]
    unfold fall
    rw [hk, if_pos hs]
  refine ⟨?_, hfall _ (by omega) (by omega), hfall _ (by omega) (by omega)⟩
  rw [bit_clearBits, show bit stop i = true from hs]
  exact Bool.and_false _

/-- A pair whose ENABLE bit is clear is blocked (R204). -/
theorem Hub.blockedPairs_disabled {h : Hub} {pair : Fin 6} (he : bit h.pwm.enable pair.val = false) :
    bit h.blockedPairs pair.val = true := by
  unfold Hub.blockedPairs
  split
  · have hall : ∀ p : Fin 6, bit 0x3F p.val = true := by decide
    exact hall pair
  · rw [bit_ofBits, List.getD_eq_getElem?_getD, List.getElem?_map, List.getElem?_range pair.isLt]
    exact congrArg (fun b => !b || (h.cfg.pairs.getD pair.val {}).mode == 2) he

theorem bit_or (a b i : Nat) : bit (a ||| b) i = (bit a i || bit b i) := Nat.testBit_or ..

/-- A pair that is not enabled stops at once (R204). -/
theorem Hub.setPairCtrl_stops {h : Hub} {v : Nat} {pair : Fin 6} (hv : bit v pair.val = false) :
    bit (h.setPairCtrl v).pwm.running pair.val = false ∧
    (vgetN (h.setPairCtrl v).pwm.outs (2 * pair.val) {}).high = false ∧
    (vgetN (h.setPairCtrl v).pwm.outs (2 * pair.val + 1) {}).high = false := by
  refine Hub.pwmHold_stops (h := { h with pwm.enable := v % 64 }) pair.isLt ?_
  have hlow : bit (v % 64) pair.val = false := by
    have hmod : (v % 2 ^ 6).testBit pair.val = (decide (pair.val < 6) && v.testBit pair.val) := Nat.testBit_mod_two_pow ..
    exact hmod.trans (by rw [show v.testBit pair.val = false from hv, Bool.and_false])
  rw [bit_or, Hub.blockedPairs_disabled (h := { h with pwm.enable := v % 64 }) hlow]
  rfl

/-! ### Trips (R206 to R209) -/

theorem tripFault_severity (i : Nat) : (tripFault i).severity ≠ .safe := by
  unfold tripFault
  split <;> decide

theorem Hub.raise_pwm {n : FaultName} (hn : n.severity ≠ .safe) (key : List Nat) (lanes : Nat) (d : Detail) (o : Origin) (h : Hub) :
    (h.raise n key lanes d o).pwm = h.pwm := (congrArg Hub.pwm (Hub.raise_quiet h (.inl hn) key lanes d) :)

theorem Hub.latch_latches (i : Nat) (x : SdIn) (o : Origin) (h : Hub) :
    (h.latch i x o).pwm.tripLatch = setBit h.pwm.tripLatch i ∧ (h.latch i x o).pwm.ins = h.pwm.ins := by
  unfold Hub.latch
  extract_lets pairs _ h1
  have e := Hub.raise_pwm (tripFault_severity i) [i] (if i < 32 then h1.reporting i else 0) (h1.tripDetail i x) o h1
  exact ⟨(congrArg Pwm.tripLatch e :), (congrArg Pwm.ins e :)⟩

theorem execTripInEdge_latches (s : State) (input : Fin 4) (high : Bool) (now : Nat) :
    let c := s.hub.cfg.trip.ins.getD input (0, false)
    ∃ t, exec (.tripInEdge input high now) s = .next t ∧ t.lanes = s.lanes ∧ bit t.hub.pwm.ins input.val = (high == c.2) ∧
      (high = c.2 → c.1 ≠ 0 → s.hub.time.running = true → bit t.hub.pwm.tripLatch (32 + input.val) = true) ∧
      (high ≠ c.2 → t.hub.pwm.tripLatch = s.hub.pwm.tripLatch) := by
  intro c
  refine ⟨_, rfl, State.evalSource_lanes .., ?_⟩
  extract_lets s1 a
  generalize hs2 : s1.modHub (fun h => { h with pwm.ins := putBit h.pwm.ins input a }) = s2
  have hins : bit s2.hub.pwm.ins input.val = (high == c.2) := by
    rw [← hs2]
    exact (bit_putBit ..).trans (if_pos rfl)
  have hlatch : s2.hub.pwm.tripLatch = s.hub.pwm.tripLatch := by
    rw [← hs2]
    rfl
  have hrun : s2.hub.time.running = s.hub.time.running := by
    rw [← hs2]
    rfl
  have hact : s2.hub.sourceActive (32 + input.val) = ((high == c.2) && c.1 != 0) := by
    have hcfg : s2.hub.cfg = s.hub.cfg := by
      rw [← hs2]
      rfl
    rw [Hub.sourceActive, if_neg (by omega), Nat.add_sub_cancel_left, Hub.inActive, hins, hcfg]
  unfold State.evalSource
  rw [hact]
  extract_lets act s3
  split
  next hgo =>
    obtain ⟨hl, hi⟩ := s3.hub.latch_latches (32 + input.val) (s3.tripChannel (32 + input.val)) .real
    refine ⟨(congrArg (bit · input.val) hi).trans hins, fun _ _ _ => ?_, fun hne => ?_⟩
    · refine (congrArg (bit · (32 + input.val)) hl).trans ?_
      rw [bit_setBit, decide_eq_true rfl, Bool.or_true]
    · simp only [act, Bool.and_eq_true, beq_iff_eq] at hgo
      exact absurd hgo.1.1.1 hne
  next hno =>
    refine ⟨hins, fun heq hc hr => ?_, fun _ => hlatch⟩
    have hbit : ¬ (bit s3.hub.pwm.tripLatch (32 + input.val)) = false := by
      intro hb
      refine hno ?_
      rw [show act = true by simp [act, heq, hc], show s3.hub.time.running = true from hrun.trans hr, hb]
      rfl
    exact eq_true_of_ne_false hbit

theorem bit_foldl_setBit (l : List Nat) (v i : Nat) : bit (l.foldl setBit v) i = (bit v i || decide (i ∈ l)) := by
  induction l generalizing v with
  | nil => simp
  | cons k ks ih =>
    rw [List.foldl_cons, ih, bit_setBit, Bool.or_assoc]
    simp [eq_comm]

theorem Hub.tripClear_pwm (mask : Nat) (h : Hub) {i : Nat} (hi : i < 36) :
    bit (h.tripClear mask).1.pwm.tripLatch i = (bit h.pwm.tripLatch i && !(bit mask i && !h.sourceActive i)) ∧
    (bit mask i = true → h.sourceActive i = true → bit (h.tripClear mask).1.pwm.clearRefused i = true) := by
  unfold Hub.tripClear
  extract_lets asked refused cleared cm rm _ h1
  have hfold : (cleared.foldl (fun (h : Hub) i => h.clearFault (tripFault i) [i] id) h1).pwm = h1.pwm :=
    foldl_view Hub.pwm (f := fun (h : Hub) i => h.clearFault (tripFault i) [i] id) (fun _ _ => rfl) ..
  have hasked : i ∈ asked ↔ bit mask i = true := by simp [asked, bitsSet, hi]
  refine ⟨?_, fun hm ha => ?_⟩
  · refine (congrArg (fun w : Pwm => bit w.tripLatch i) hfold).trans ((bit_clearBits ..).trans ?_)
    rw [show bit cm i = decide (i ∈ cleared) from (bit_foldl_setBit ..).trans (by rw [bit_zero, Bool.false_or])]
    simp only [cleared, List.mem_filter, hasked]
    cases bit h.pwm.tripLatch i <;> simp
  · refine (congrArg (fun w : Pwm => bit w.clearRefused i) hfold).trans ((bit_or ..).trans ?_)
    have hmem : i ∈ refused := List.mem_filter.mpr ⟨hasked.mpr hm, ha⟩
    rw [show bit rm i = decide (i ∈ refused) from (bit_foldl_setBit ..).trans (by rw [bit_zero, Bool.false_or]), decide_eq_true hmem,
      Bool.or_true]

/-! ### Readback (R210) -/

section readback
variable {h : Hub}

theorem Hub.finish_pwm (which : Exec → Bool) (st : Status) (params : Exec → Bytes) (h : Hub) : (h.finish which st params).pwm = h.pwm :=
  (congrArg Hub.pwm (h.finish_unreplied which st params) :)

theorem Hub.modeEnds_buffersOff (h : Hub) : (h.modeEnds .safe).pwm.buffersOff = h.pwm.buffersOff := by
  unfold Hub.modeEnds
  extract_lets _ h1 _ _ h2 _ _ h3 _ h4
  have e1 : h1.pwm = h.pwm := (Hub.finish_pwm ..).trans rfl
  have e2 : h2.pwm = h1.pwm := (congrArg Hub.pwm (if_neg (by decide))).trans ((Hub.finish_pwm ..).trans rfl)
  have e3 : h3.pwm.buffersOff = h2.pwm.buffersOff := (congrArg (fun t : Hub => t.pwm.buffersOff) (if_pos (.inr rfl))).trans rfl
  have e4 : h4.pwm.buffersOff = h3.pwm.buffersOff := congrArg (fun t : Hub => t.pwm.buffersOff) (if_pos rfl)
  exact e4.trans (e3.trans (congrArg Pwm.buffersOff (e2.trans e1)))

theorem Hub.setMode_buffersOff (cause : Nat) (h : Hub) : (h.setMode .safe cause).pwm.buffersOff = h.pwm.buffersOff := by
  unfold Hub.setMode
  extract_lets keep h1 _ _ h2 h3
  have e1 : h1.pwm = h.pwm := by
    unfold h1
    split <;> rfl
  have e3 : h3.pwm = h1.pwm := (congrArg Hub.pwm (if_pos rfl)).trans rfl
  split
  · rfl
  · refine (congrArg (fun t : Hub => t.pwm.buffersOff) (Hub.emit_untraced _ (h3.stateRec cause)) :).trans ?_
    exact (Hub.modeEnds_buffersOff h3).trans (congrArg Pwm.buffersOff (e3.trans e1))

theorem Hub.safeDecision_buffersOff (cause : Nat) (h : Hub) : (h.safeDecision cause).pwm.buffersOff = h.pwm.buffersOff := by
  unfold Hub.safeDecision
  split
  · exact (Hub.setMode_buffersOff ..).trans (congrArg (fun t : Hub => t.pwm.buffersOff) (Hub.finish_unreplied ..) :)
  · rfl

theorem Hub.record_pwm (n : FaultName) (key : List Nat) (lanes : Nat) (d : Detail) (o : Origin) (h : Hub) :
    (h.record n key lanes d o).pwm = h.pwm := by
  unfold Hub.record
  split
  · rfl
  · unfold Hub.newRecord
    exact (congrArg Hub.pwm (Hub.emit_untraced ..) :)

theorem Hub.pwmReadback_safe (k read cause d : Nat) (h : Hub) : (h.pwmReadback k read cause d .real).pwm.buffersOff = true ∧
    (h.pwmReadback k read cause d .real).faultActive .pwmReadback [k] = true ∧
    (h.power.mode = .service ∨ h.power.mode.isRunning = true → (h.pwmReadback k read cause d .real).power.mode = .safe) := by
  unfold Hub.pwmReadback
  extract_lets det _ h1
  have hpower : h1.power = h.power := rfl
  have hbuffers : h1.pwm.buffersOff = true := rfl
  clear_value h1
  refine ⟨?_, h1.raise_active [k] 0 det .real rfl, fun hm => ?_⟩
  · rw [Hub.raise_eq, Hub.react_of_safe _ rfl (by decide), Hub.safeDecision_buffersOff]
    exact (congrArg Pwm.buffersOff (h1.record_pwm ..)).trans hbuffers
  · rw [Hub.raise_eq, Hub.react_of_safe _ rfl (by decide), Hub.safeDecision_power]
    rw [Hub.record_power, hpower]
    exact hm

end readback

/-- Settles O43: comparisons write no lane and at most four records, and a step of a pair lets one output fall before the other rises. -/
theorem measurementAndPwm : Obligations.MeasurementAndPwm := by
  refine ⟨fun s lane now hrun hp => ⟨fun k sum he hloss hstuck => ?_, fun g hg => ?_, fun k level he => ?_, fun g => ?_, fun k v => ?_,
      fun k on => ?_, fun k w hk ht hw => ?_, fun k he hpairs hmode hst => ?_, fun k hst hleft => ?_, fun a ha hleft => ?_⟩,
    fun s pair => ⟨fun at_ hrun ht => ?_, fun at_ hrun ht hm hc => ?_, fun v hm => ?_, ⟨_, rfl, rfl, rfl⟩, fun input high now => ?_,
      fun mask hm => ?_, fun k read d now hoff hlong hdiff => ?_⟩⟩
  case refine_1 => exact execCoarseDecimation_takes hrun hp he hloss hstuck
  case refine_2 => exact execSdClockLoss_loses hrun hp hg
  case refine_3 => exact execSdDataStuck_sticks hrun hp level he
  case refine_4 => exact execModulatorRestart_restarts hrun hp g
  case refine_5 =>
    exact ⟨_, rfl, (s.hub.setChannel_fin k v.val s.hub.meas.skew[k]).1, rfl, rfl⟩
  case refine_6 =>
    exact ⟨_, rfl, (s.hub.setChannel_fin k s.hub.meas.preset[k] on).2, rfl, rfl⟩
  case refine_7 =>
    have hsw := Lane.switch_channel s.hub.time.now hk (s.lane lane)
    refine ⟨_, execPresetSwitch_switches hrun hp ht hw, ?_, ?_, fun hne => ?_, rfl⟩
    all_goals rw [State.modLane_lane, hsw]
    exact if_neg (Ne.symm hne)
  case refine_8 => exact execAutozeroRequest_starts hp hrun he hpairs hmode hst
  case refine_9 => exact execAutozeroEnd_rounds hp hst hleft
  case refine_10 =>
    obtain ⟨t, hex, hlanes, hmeas⟩ := execCalibrationAveragingEnd_ends ha hleft
    refine ⟨t, hex, (congrArg Measure.avg hmeas :), hlanes, fun hb => ?_, fun hb hc => ⟨a.point s.hub, rfl, rfl, rfl, ?_⟩⟩
    · exact (congrArg Measure.pending hmeas).trans (if_pos hb)
    · refine (congrArg (fun m : Measure => vgetN m.pending a.channel CalSet.empty) hmeas).trans ?_
      rw [hb]
      exact vgetN_vmodN_self s.hub.meas.pending hc (fun c => modifyAt (fun _ => some (a.point s.hub)) c a.index) CalSet.empty
  case refine_11 =>
    have hex : exec (.pwmEdge pair at_) s = .next { s with hub := (s.hub.at_ (at_ / 4)).pairStep pair at_ } := next_of_pos ⟨hrun, ht⟩
    refine ⟨_, hex, rfl, fun hr => (congrArg Hub.pwm (Hub.pairStep_idle (h := s.hub.at_ (at_ / 4)) hr)).trans rfl, fun hm hx => ?_⟩
    exact Hub.pairStep_exclusive (h := s.hub.at_ (at_ / 4)) pair.isLt hm hx
  case refine_12 =>
    have hstep := Hub.pairStep_steady pair at_ (((s.hub.at_ (at_ / 4)).pairUpdated pair at_).pairResumed pair at_)
    refine ⟨_, execCarrierUpdatePoint_updates hrun ht hm hc, rfl, fun k hk => ?_, fun hf => ?_⟩
    · refine (congrArg (fun w : Pwm => vgetN w.active k 0) hstep :).trans ?_
      refine (congrArg (vgetN · k 0) (Hub.pairResumed_active ..)).trans ?_
      exact Hub.pairUpdated_active (h := s.hub.at_ (at_ / 4)) pair.isLt hk
    · refine (congrArg (fun w : Pwm => bit w.running pair.val) hstep :).trans (Hub.pairResumed_running ?_)
      exact (congrArg (bit · pair.val) ((s.hub.at_ (at_ / 4)).pairUpdated_stops pair at_)).trans hf
  case refine_13 =>
    exact ⟨_, next_of_pos hm, rfl, rfl, fun hv => Hub.setPairCtrl_stops (h := s.hub) hv⟩
  case refine_14 => exact execTripInEdge_latches s input high now
  case refine_15 =>
    refine ⟨_, next_of_pos hm, rfl, fun i hi => ?_⟩
    obtain ⟨hlatch, hrefused⟩ := s.hub.tripClear_pwm mask hi
    refine ⟨fun hb => hlatch.trans ?_, fun hb ha => hlatch.trans ?_, fun hb ha => ⟨hlatch.trans ?_, hrefused hb ha⟩⟩
    · rw [hb, Bool.false_and, Bool.not_false, Bool.and_true]
    · rw [hb, ha]
      exact Bool.and_false _
    · rw [hb, ha]
      exact Bool.and_true _
  case refine_16 =>
    have hgo : ¬ ((s.hub.at_ now).pwm.buffersOff || decide (d ≤ 10 * (s.hub.at_ now).cfg.trip.window) ||
        read % 3 == (s.hub.at_ now).pwmPin k) = true := by
      rw [show (s.hub.at_ now).pwm.buffersOff = false from hoff, beq_false_of_ne hdiff,
        show decide (d ≤ 10 * (s.hub.at_ now).cfg.trip.window) = false from decide_eq_false (Nat.not_le.mpr hlong)]
      decide
    obtain ⟨hbuffers, hactive, hmode⟩ := Hub.pwmReadback_safe k (read % 3) (b2n (!bit (s.hub.at_ now).pwm.running (k.val / 2))) d
      (s.hub.at_ now)
    exact ⟨_, next_of_neg hgo, hbuffers, hactive, hmode, rfl⟩

end Sys2Proof.Machine
end
